-- ==== Sys2Proof/Word.lean ====
section
/-! DEFINITION. The word types of the machine and their plainest arithmetic (00_scope.md R3). -/

namespace Sys2Proof

/-- A byte of memory. -/
abbrev Byte := BitVec 8

/-- A scalar register's 64 bits. -/
abbrev Word := BitVec 64

/-- A vector lane word's 32 bits. -/
abbrev Lane := BitVec 32

end Sys2Proof
end

