-- ==== Sys2Proof/Syntax.lean ====
section
/-! DEFINITION. The instructions of the BT9-48: one constructor for each row of spec/opcode_table.json.

The first 214 rows are syllables of the eight slot classes (04_encoding.md R92 to R101): their arguments are the
operand fields of the encoding. The remaining rows are the events that the machine, its engines, the host, the belfries,
the fabric and a debugger bring about between syllables (95_what_each_step_holds.md): their arguments name the core,
the pending entry or command, the launch, the queue or the mailbox, or carry what arrives from outside the package. -/

namespace Sys2Proof

/-- One flit position of a frame: its descriptor of R366 and its 64 bytes. -/
structure Flit where
  /-- FMT of the source granule, descriptor bits [7:4]. -/
  fmt : Nat
  /-- BLK of the source granule, descriptor bits [3:2]. -/
  blk : Nat
  /-- 0 empty, 1 flit of its granted circuit, 2 resent flit, 3 reserved: descriptor bits [1:0]. -/
  kind : Nat
  /-- The 64 payload bytes. -/
  data : List Byte
  deriving DecidableEq, Repr, Inhabited

/-- A frame as a port sends or receives it (R366). `crcOk` is the outcome of the receiver's CRC check. -/
structure Frame where
  port : Nat
  fnum : Nat
  flits : List Flit
  crcOk : Bool
  /-- MSG: the 3 bytes of the frame's fragment of the message channel. -/
  msg : List Byte := [0, 0, 0]
  /-- CRC: header bytes 11 to 13. -/
  crc : BitVec 24 := 0
  deriving DecidableEq, Repr, Inhabited

/-- A packet of a stream as it reaches a bridge port of its destination package (R366, R371, R378). -/
structure StreamPacket where
  port : Nat
  stream : Nat
  asid : Nat
  va : Nat
  seq : Nat
  release : Bool
  flits : List (List Byte)
  /-- The packet's CRC-32. -/
  crc : BitVec 32 := 0
  deriving DecidableEq, Repr, Inhabited

/-- The digests one part of a multi-package launch reports at submission (R374). -/
structure PartDigest where
  package : Nat
  timetable : Nat
  ttdig : Word
  admitted : Bool
  needsRetime : Bool
  converged : Bool
  deriving DecidableEq, Repr, Inhabited

/-- What another part of a multi-package launch forwards in-band (R374, R382). -/
inductive PartMessage where
  /-- A freeze begun on another package: the initiator's slot-clock cycle, the cycle before which other components stop, and the cause code
  of its first initiator (R347). -/
  | freeze (slot stop code : Nat)
  /-- The arrival of a task at a domain barrier: its requester number and the SCHC of its `syncb` (R373). -/
  | arrival (req schc : Nat)
  /-- A task has executed `halt` at an SCHC, and counts as arrived at every later barrier (R26, R373). -/
  | halted (req schc : Nat)
  /-- The announced thaw, at the given GTIME. -/
  | thaw (gtime : Nat)
  /-- Pre-emption of every part. -/
  | preempt
  /-- The end of every part by a kill or a fatal fault. -/
  | kill (reason : Nat)
  /-- Resume of every part, at the given GTIME. -/
  | resume (gtime : Nat)
  /-- What a part reports of itself at submission and admission. -/
  | digest (part : PartDigest)
  deriving DecidableEq, Repr, Inhabited

/-- A timestamped IEEE 1588 event message, reduced to what GTIME discipline uses (R383, R384): the port, the offset
from the master measured with it in 2^-16 ns, and the sender's standing in the best master clock algorithm. -/
structure PtpMessage where
  port : Nat
  domain : Nat
  offset : Int
  prio1 : Nat
  prio2 : Nat
  clockId : Nat
  deriving DecidableEq, Repr, Inhabited

/-- Lane measurements of a link-health record (R386). -/
structure LaneHealth where
  port : Nat
  lane : Nat
  eyeWidth : Nat
  eyeHeight : Nat
  corrected : Nat
  uncorrectable : Nat
  deriving DecidableEq, Repr, Inhabited

/-- One island's sample of the telemetry page (R360). -/
structure RailSample where
  millivolt : Nat
  milliamp : Nat
  temp : Nat
  deriving DecidableEq, Repr, Inhabited

/-- Host AtomicOps accepted by the device (R296); `other` stands for every other host atomic. -/
inductive HostAtomicOp where
  | fetchAdd
  | swap
  | cas
  | other
  deriving DecidableEq, Repr, Inhabited

/-- What the scrubber or a read finds in an HBM line (R286, R287). -/
inductive LineError where
  | clean
  | single
  | uncorrectable
  deriving DecidableEq, Repr, Inhabited

/-- The atomic operations of `amo` and `gamo` (R141, R283). -/
inductive AtomicOp where
  | add
  | and
  | or
  | xor
  | min
  | max
  | swap
  | cas
  deriving DecidableEq, Repr, Inhabited

/-- A command of a belfry queue (R294): an access by the belfry, which reaches every unit (R196). -/
inductive BelfryOp where
  /-- Writes bytes at a window address of physical coordinates. -/
  | writeWindow (addr : Nat) (data : List Byte)
  /-- Writes bytes at a device-frame-space address. -/
  | writeFrame (addr : Nat) (data : List Byte)
  /-- Applies an atomic add to a word of device frame space, as requester 0x4000_0000 + the belfry's index. -/
  | atomicAdd (addr : Nat) (width : Nat) (operand : Word)
  /-- Sets XINJ of a control core (R53, R364). -/
  | setXinj (core : Nat) (mask : BitVec 8)
  /-- Later commands of the belfry's named queues start once every earlier one has landed (R137, R295). -/
  | fence (queues : BitVec 8)
  /-- Enrols a code-signing key in flash slot 0 to 7, for system software (R336). -/
  | enrolKey (slot : Nat) (key : List Byte)
  /-- Places both copies of a strip-fabric image in a flash slot (R256, R260). -/
  | storeImage (slot : Nat) (first second : List Byte)
  deriving DecidableEq, Repr, Inhabited

/-- One constructor per row of spec/opcode_table.json. -/
inductive Instr where
  /-- NOP (R85). The all-zero syllable does nothing in any slot class and never faults. -/
  | nop
  /-- BR_Z (R121). Branches after the delay shadow when the scalar condition is zero. -/
  | brZ (c : BitVec 5) (o : BitVec 21)
  /-- BR_NZ (R121). Branches after the delay shadow when the scalar condition is nonzero. -/
  | brNz (c : BitVec 5) (o : BitVec 21)
  /-- BR_LZ (R121). Branches when the scalar condition is negative. -/
  | brLz (c : BitVec 5) (o : BitVec 21)
  /-- BR_GEZ (R121). Branches when the scalar condition is zero or positive. -/
  | brGez (c : BitVec 5) (o : BitVec 21)
  /-- BR_P (R121). Branches on a uniform all-true predicate and raises NONUNIF on a mixed one. -/
  | brP (c : BitVec 5) (o : BitVec 21)
  /-- BR_ANY (R121). Branches when any predicate bit is 1. -/
  | brAny (c : BitVec 5) (o : BitVec 21)
  /-- BR_ALL (R121). Branches when every predicate bit is 1. -/
  | brAll (c : BitVec 5) (o : BitVec 21)
  /-- BR_NONE (R121). Branches when every predicate bit is 0. -/
  | brNone (c : BitVec 5) (o : BitVec 21)
  /-- JMP (R122). Always branches to the offset target after a two-bundle delay shadow. -/
  | jmp (o : BitVec 21)
  /-- CALL (R124). Branches to the offset target and lands the return index in s31. -/
  | call (o : BitVec 21)
  /-- JMPI (R124). Branches to the bundle index held in a scalar. -/
  | jmpi (a : BitVec 5)
  /-- CALLI (R124). Calls the bundle index held in a scalar and lands the return index in s31. -/
  | calli (a : BitVec 5)
  /-- RET (R124). Branches to the index held in s31. -/
  | ret
  /-- ZLOOP (R125). Opens a counted zero-overhead loop level over the following body. -/
  | zloop (d : BitVec 5) (a : BitVec 5) (l : BitVec 12)
  /-- PLOOP (R127). Opens a software-pipelined loop, checking and latching its stage map. -/
  | ploop (d : BitVec 5) (a : BitVec 5) (s : BitVec 4) (i : BitVec 3)
  /-- LBRK (R129). Ends the innermost loop early when its scalar condition is nonzero. -/
  | lbrk (a : BitVec 5)
  /-- WAITT (R130). Issues idle bundles until a target SCHC value. -/
  | waitt (a : BitVec 5) (i : BitVec 16)
  /-- WAITG (R130). Issues idle bundles until GTIME reaches a target. -/
  | waitg (a : BitVec 5) (i : BitVec 16)
  /-- SYNCB (R131). Arrives at the launch barrier of the named level and idles until release. -/
  | syncb (l : BitVec 3)
  /-- TRAP (R132). Commits slot 0 and raises USER with the immediate as sub-cause. -/
  | trap (i : BitVec 16)
  /-- TRET (R133). Returns from a trap level, re-injecting the frame and thawing from TL1. -/
  | tret
  /-- HALT (R134). Ends the task after its bundle commits, leaving pending work to land. -/
  | halt
  /-- RDSYS (R135). Reads a system register into a scalar at issue + 2. -/
  | rdsys (d : BitVec 5) (n : BitVec 8)
  /-- WRSYS (R135). Writes a system register from a scalar at issue + 1, subject to trap-level rights. -/
  | wrsys (a : BitVec 5) (n : BitVec 8)
  /-- FENCEQ (R137). Orders later commands of the named queues after earlier ones. -/
  | fenceq (m : BitVec 6)
  /-- BRK (R132). Commits slot 0 and raises BRK, or takes a debugger stop when attached. -/
  | brk (i : BitVec 16)
  /-- RNGSEED (R136). Reseeds the core's random generator and refills its queue. -/
  | rngseed (a : BitVec 5)
  /-- ADD (R113). Scalar 64-bit add. -/
  | add (d : BitVec 5) (a : BitVec 5) (b : BitVec 5)
  /-- SUB (R113). Scalar 64-bit subtract. -/
  | sub (d : BitVec 5) (a : BitVec 5) (b : BitVec 5)
  /-- AND (R113). Scalar bitwise and. -/
  | and (d : BitVec 5) (a : BitVec 5) (b : BitVec 5)
  /-- OR (R113). Scalar bitwise or. -/
  | or (d : BitVec 5) (a : BitVec 5) (b : BitVec 5)
  /-- XOR (R113). Scalar bitwise exclusive or. -/
  | xor (d : BitVec 5) (a : BitVec 5) (b : BitVec 5)
  /-- SHL (R113). Scalar shift left by B[5:0]. -/
  | shl (d : BitVec 5) (a : BitVec 5) (b : BitVec 5)
  /-- SHR (R113). Scalar logical shift right. -/
  | shr (d : BitVec 5) (a : BitVec 5) (b : BitVec 5)
  /-- SRA (R113). Scalar arithmetic shift right. -/
  | sra (d : BitVec 5) (a : BitVec 5) (b : BitVec 5)
  /-- SLT (R113). Signed set-less-than. -/
  | slt (d : BitVec 5) (a : BitVec 5) (b : BitVec 5)
  /-- SLTN (R113). Natural set-less-than. -/
  | sltn (d : BitVec 5) (a : BitVec 5) (b : BitVec 5)
  /-- MIN (R113). Signed minimum. -/
  | min (d : BitVec 5) (a : BitVec 5) (b : BitVec 5)
  /-- MAX (R113). Signed maximum. -/
  | max (d : BitVec 5) (a : BitVec 5) (b : BitVec 5)
  /-- MINN (R113). Natural minimum. -/
  | minn (d : BitVec 5) (a : BitVec 5) (b : BitVec 5)
  /-- MAXN (R113). Natural maximum. -/
  | maxn (d : BitVec 5) (a : BitVec 5) (b : BitVec 5)
  /-- ADD_W (R114). 32-bit add, sign-extended. -/
  | addW (d : BitVec 5) (a : BitVec 5) (b : BitVec 5)
  /-- SUB_W (R114). 32-bit subtract, sign-extended. -/
  | subW (d : BitVec 5) (a : BitVec 5) (b : BitVec 5)
  /-- MUL (R113). Low 64 bits of the product. -/
  | mul (d : BitVec 5) (a : BitVec 5) (b : BitVec 5)
  /-- MULH (R113). High 64 bits of the signed product. -/
  | mulh (d : BitVec 5) (a : BitVec 5) (b : BitVec 5)
  /-- MULHN (R113). High 64 bits of the natural product. -/
  | mulhn (d : BitVec 5) (a : BitVec 5) (b : BitVec 5)
  /-- DIV (R113). Signed 64-bit divide, INTDIV0 on a zero divisor. -/
  | div (d : BitVec 5) (a : BitVec 5) (b : BitVec 5)
  /-- DIVN (R113). Natural 64-bit divide. -/
  | divn (d : BitVec 5) (a : BitVec 5) (b : BitVec 5)
  /-- REM (R113). Signed 64-bit remainder. -/
  | rem (d : BitVec 5) (a : BitVec 5) (b : BitVec 5)
  /-- REMN (R113). Natural 64-bit remainder. -/
  | remn (d : BitVec 5) (a : BitVec 5) (b : BitVec 5)
  /-- MUL_W (R114). 32-bit multiply, sign-extended. -/
  | mulW (d : BitVec 5) (a : BitVec 5) (b : BitVec 5)
  /-- DIV_W (R114). 32-bit signed divide. -/
  | divW (d : BitVec 5) (a : BitVec 5) (b : BitVec 5)
  /-- DIVN_W (R114). 32-bit natural divide, zero-extended. -/
  | divnW (d : BitVec 5) (a : BitVec 5) (b : BitVec 5)
  /-- REM_W (R114). 32-bit signed remainder. -/
  | remW (d : BitVec 5) (a : BitVec 5) (b : BitVec 5)
  /-- REMN_W (R114). 32-bit natural remainder, zero-extended. -/
  | remnW (d : BitVec 5) (a : BitVec 5) (b : BitVec 5)
  /-- CLZ (R113). Counts leading zero bits. -/
  | clz (d : BitVec 5) (a : BitVec 5)
  /-- CTZ (R113). Counts trailing zero bits. -/
  | ctz (d : BitVec 5) (a : BitVec 5)
  /-- POPC (R113). Counts one bits. -/
  | popc (d : BitVec 5) (a : BitVec 5)
  /-- SEL (R116). Selects A or B by a scalar condition. -/
  | sel (d : BitVec 5) (a : BitVec 5) (b : BitVec 5) (c : BitVec 5)
  /-- LEA (R116). Computes A + (B << shift). -/
  | lea (d : BitVec 5) (a : BitVec 5) (b : BitVec 5) (h : BitVec 2)
  /-- ADDI (R115). Adds a sign-extended immediate. -/
  | addi (d : BitVec 5) (a : BitVec 5) (i : BitVec 16)
  /-- ANDI (R115). Ands with a sign-extended immediate. -/
  | andi (d : BitVec 5) (a : BitVec 5) (i : BitVec 16)
  /-- ORI (R115). Ors with a zero-extended immediate. -/
  | ori (d : BitVec 5) (a : BitVec 5) (i : BitVec 16)
  /-- XORI (R115). Exclusive-ors with a zero-extended immediate. -/
  | xori (d : BitVec 5) (a : BitVec 5) (i : BitVec 16)
  /-- SLTI (R115). Signed set-less-than against an immediate. -/
  | slti (d : BitVec 5) (a : BitVec 5) (i : BitVec 16)
  /-- SHLI (R115). Shift left by an immediate amount. -/
  | shli (d : BitVec 5) (a : BitVec 5) (h : BitVec 6)
  /-- SHRI (R115). Logical shift right by an immediate amount. -/
  | shri (d : BitVec 5) (a : BitVec 5) (h : BitVec 6)
  /-- SRAI (R115). Arithmetic shift right by an immediate amount. -/
  | srai (d : BitVec 5) (a : BitVec 5) (h : BitVec 6)
  /-- MOVI (R115). Loads a sign-extended immediate. -/
  | movi (d : BitVec 5) (i : BitVec 16)
  /-- MOVHI (R115). Replaces one 16-bit piece of the destination. -/
  | movhi (d : BitVec 5) (k : BitVec 2) (i : BitVec 16)
  /-- EXT (R117). Extracts a zero-extended bit field. -/
  | ext (d : BitVec 5) (a : BitVec 5) (l : BitVec 6) (p : BitVec 6)
  /-- INS (R117). Inserts a bit field into the destination. -/
  | ins (d : BitVec 5) (a : BitVec 5) (l : BitVec 6) (p : BitVec 6)
  /-- WRAG (R118). Writes one field of an address-generator parameter set. -/
  | wrag (d : BitVec 5) (a : BitVec 5) (s : BitVec 5)
  /-- WRMP (R118). Writes a matrix parameter register. -/
  | wrmp (d : BitVec 5) (a : BitVec 5)
  /-- WRENG (R118). Writes an engine register. -/
  | wreng (a : BitVec 5) (n : BitVec 8)
  /-- QGO (R119). Schedules a queue generator on a port from a parameter set. -/
  | qgo (p : BitVec 3) (g : BitVec 3) (l : BitVec 11)
  /-- RDSCHED (R120). Lands the issue cycle's SCHC. -/
  | rdsched (d : BitVec 5)
  /-- RDGTIME (R120). Lands GTIME sampled in the issue's wall cycle. -/
  | rdgtime (d : BitVec 5)
  /-- LD_B (R139). Loads and sign-extends one byte from a window address. -/
  | ldB (d : BitVec 5) (a : BitVec 5) (i : BitVec 16)
  /-- LD_H (R139). Loads two bytes. -/
  | ldH (d : BitVec 5) (a : BitVec 5) (i : BitVec 16)
  /-- LD_W (R139). Loads four bytes. -/
  | ldW (d : BitVec 5) (a : BitVec 5) (i : BitVec 16)
  /-- LD_D (R139). Loads eight bytes. -/
  | ldD (d : BitVec 5) (a : BitVec 5) (i : BitVec 16)
  /-- ST_B (R139). Stores one byte at the class's store offset. -/
  | stB (d : BitVec 5) (a : BitVec 5) (i : BitVec 16)
  /-- ST_H (R139). Stores two bytes. -/
  | stH (d : BitVec 5) (a : BitVec 5) (i : BitVec 16)
  /-- ST_W (R139). Stores four bytes. -/
  | stW (d : BitVec 5) (a : BitVec 5) (i : BitVec 16)
  /-- ST_D (R139). Stores eight bytes. -/
  | stD (d : BitVec 5) (a : BitVec 5) (i : BitVec 16)
  /-- VLD (R152). Loads a 256-byte vector with its tags. -/
  | vld (d : BitVec 5) (a : BitVec 5) (i : BitVec 16)
  /-- VST (R152). Stores a 256-byte vector with its tags as one landing. -/
  | vst (d : BitVec 5) (a : BitVec 5) (i : BitVec 16)
  /-- VLDX (R153). Gathers one word per active lane through the indexed port. -/
  | vldx (d : BitVec 5) (a : BitVec 5) (b : BitVec 5) (p : BitVec 3)
  /-- VSTX (R153). Scatters one word per active lane through the indexed port. -/
  | vstx (d : BitVec 5) (a : BitVec 5) (b : BitVec 5) (p : BitVec 3)
  /-- SPLD_SCALAR (R140). Loads 8 bytes from the spill area or overflow. -/
  | spldScalar (d : BitVec 5) (a : BitVec 5) (k : BitVec 16)
  /-- SPST_SCALAR (R140). Stores 8 bytes to the spill area or overflow. -/
  | spstScalar (d : BitVec 5) (a : BitVec 5) (k : BitVec 16)
  /-- SPLD_VECTOR (R140). Restores a vector and its tags from the spill area. -/
  | spldVector (d : BitVec 5) (a : BitVec 5) (k : BitVec 16)
  /-- SPST_VECTOR (R140). Spills a vector and its tags. -/
  | spstVector (d : BitVec 5) (a : BitVec 5) (k : BitVec 16)
  /-- AMO_ADD (R141). Scratchpad atomic add returning the old value. -/
  | amoAdd (d : BitVec 5) (a : BitVec 5) (b : BitVec 5) (w : BitVec 1)
  /-- AMO_AND (R141). Scratchpad atomic and. -/
  | amoAnd (d : BitVec 5) (a : BitVec 5) (b : BitVec 5) (w : BitVec 1)
  /-- AMO_OR (R141). Scratchpad atomic or. -/
  | amoOr (d : BitVec 5) (a : BitVec 5) (b : BitVec 5) (w : BitVec 1)
  /-- AMO_XOR (R141). Scratchpad atomic exclusive or. -/
  | amoXor (d : BitVec 5) (a : BitVec 5) (b : BitVec 5) (w : BitVec 1)
  /-- AMO_MIN (R141). Scratchpad atomic signed minimum. -/
  | amoMin (d : BitVec 5) (a : BitVec 5) (b : BitVec 5) (w : BitVec 1)
  /-- AMO_MAX (R141). Scratchpad atomic signed maximum. -/
  | amoMax (d : BitVec 5) (a : BitVec 5) (b : BitVec 5) (w : BitVec 1)
  /-- AMO_SWAP (R141). Scratchpad atomic swap. -/
  | amoSwap (d : BitVec 5) (a : BitVec 5) (b : BitVec 5) (w : BitVec 1)
  /-- AMO_CAS (R141). Scratchpad atomic compare-and-swap. -/
  | amoCas (d : BitVec 5) (a : BitVec 5) (b : BitVec 5) (c : BitVec 5) (w : BitVec 1)
  /-- BIND (R142). Binds a region to a sync object in the core's binding table. -/
  | bind (d : BitVec 5) (a : BitVec 5) (b : BitVec 5)
  /-- ACQ (R143). Acquires a sync object at a scope, constraining later commands on bound regions. -/
  | acq (a : BitVec 5) (s : BitVec 3)
  /-- REL (R143). Releases to a sync object, checking bound landings and scheduling an increment. -/
  | rel (a : BitVec 5) (s : BitVec 3)
  /-- VADD (R155). Vector integer add. -/
  | vadd (d : BitVec 5) (a : BitVec 5) (b : BitVec 5) (p : BitVec 3) (t : BitVec 4)
  /-- VSUB (R155). Vector integer subtract. -/
  | vsub (d : BitVec 5) (a : BitVec 5) (b : BitVec 5) (p : BitVec 3) (t : BitVec 4)
  /-- VAND (R155). Vector bitwise and. -/
  | vand (d : BitVec 5) (a : BitVec 5) (b : BitVec 5) (p : BitVec 3) (t : BitVec 4)
  /-- VOR (R155). Vector bitwise or. -/
  | vor (d : BitVec 5) (a : BitVec 5) (b : BitVec 5) (p : BitVec 3) (t : BitVec 4)
  /-- VXOR (R155). Vector bitwise exclusive or. -/
  | vxor (d : BitVec 5) (a : BitVec 5) (b : BitVec 5) (p : BitVec 3) (t : BitVec 4)
  /-- VSHL (R155). Vector shift left. -/
  | vshl (d : BitVec 5) (a : BitVec 5) (b : BitVec 5) (p : BitVec 3) (t : BitVec 4)
  /-- VSHR (R155). Vector logical shift right. -/
  | vshr (d : BitVec 5) (a : BitVec 5) (b : BitVec 5) (p : BitVec 3) (t : BitVec 4)
  /-- VSRA (R155). Vector arithmetic shift right. -/
  | vsra (d : BitVec 5) (a : BitVec 5) (b : BitVec 5) (p : BitVec 3) (t : BitVec 4)
  /-- VMIN (R155). Vector integer minimum. -/
  | vmin (d : BitVec 5) (a : BitVec 5) (b : BitVec 5) (p : BitVec 3) (t : BitVec 4)
  /-- VMAX (R155). Vector integer maximum. -/
  | vmax (d : BitVec 5) (a : BitVec 5) (b : BitVec 5) (p : BitVec 3) (t : BitVec 4)
  /-- VABS (R155). Vector signed absolute value. -/
  | vabs (d : BitVec 5) (a : BitVec 5) (p : BitVec 3) (t : BitVec 4)
  /-- VMUL (R156). Vector integer multiply, low half (VB only). -/
  | vmul (d : BitVec 5) (a : BitVec 5) (b : BitVec 5) (p : BitVec 3) (t : BitVec 4)
  /-- VMULH (R156). Vector integer multiply, high half (VB only). -/
  | vmulh (d : BitVec 5) (a : BitVec 5) (b : BitVec 5) (p : BitVec 3) (t : BitVec 4)
  /-- VMADD (R157). Integer dot multiply-add into INT32 lanes (VB only). -/
  | vmadd (d : BitVec 5) (a : BitVec 5) (b : BitVec 5) (c : BitVec 5) (p : BitVec 3) (t : BitVec 3)
  /-- VFADD (R158). Vector FP add under FRM with the add tag rule. -/
  | vfadd (d : BitVec 5) (a : BitVec 5) (b : BitVec 5) (p : BitVec 3) (t : BitVec 4)
  /-- VFSUB (R158). Vector FP subtract. -/
  | vfsub (d : BitVec 5) (a : BitVec 5) (b : BitVec 5) (p : BitVec 3) (t : BitVec 4)
  /-- VFMUL (R158). Vector FP multiply. -/
  | vfmul (d : BitVec 5) (a : BitVec 5) (b : BitVec 5) (p : BitVec 3) (t : BitVec 4)
  /-- VFMIN (R158). Vector FP IEEE minimum. -/
  | vfmin (d : BitVec 5) (a : BitVec 5) (b : BitVec 5) (p : BitVec 3) (t : BitVec 4)
  /-- VFMAX (R158). Vector FP IEEE maximum. -/
  | vfmax (d : BitVec 5) (a : BitVec 5) (b : BitVec 5) (p : BitVec 3) (t : BitVec 4)
  /-- VFABS (R158). Vector FP absolute value. -/
  | vfabs (d : BitVec 5) (a : BitVec 5) (p : BitVec 3) (t : BitVec 4)
  /-- VFNEG (R158). Vector FP negation. -/
  | vfneg (d : BitVec 5) (a : BitVec 5) (p : BitVec 3) (t : BitVec 4)
  /-- VFMA (R159). Fused a × b + c with one rounding. -/
  | vfma (d : BitVec 5) (a : BitVec 5) (b : BitVec 5) (c : BitVec 5) (p : BitVec 3) (t : BitVec 3)
  /-- VFMS (R159). Fused a × b − c. -/
  | vfms (d : BitVec 5) (a : BitVec 5) (b : BitVec 5) (c : BitVec 5) (p : BitVec 3) (t : BitVec 3)
  /-- VFNMA (R159). Fused −(a × b) + c. -/
  | vfnma (d : BitVec 5) (a : BitVec 5) (b : BitVec 5) (c : BitVec 5) (p : BitVec 3) (t : BitVec 3)
  /-- VFRCP (R160). Reciprocal rounded onto a 22-bit grid. -/
  | vfrcp (d : BitVec 5) (a : BitVec 5) (p : BitVec 3)
  /-- VFRSQ (R160). Reciprocal square root on a 22-bit grid. -/
  | vfrsq (d : BitVec 5) (a : BitVec 5) (p : BitVec 3)
  /-- VFEXP2 (R160). Base-2 exponential on a 22-bit grid. -/
  | vfexp2 (d : BitVec 5) (a : BitVec 5) (p : BitVec 3)
  /-- VFLOG2 (R160). Base-2 logarithm on a 22-bit grid. -/
  | vflog2 (d : BitVec 5) (a : BitVec 5) (p : BitVec 3)
  /-- VCMP (R161). Integer compare into a predicate by condition. -/
  | vcmp (d : BitVec 5) (a : BitVec 5) (b : BitVec 5) (p : BitVec 3) (t : BitVec 4) (f : BitVec 4)
  /-- VFCMP (R161). FP compare into a predicate by condition. -/
  | vfcmp (d : BitVec 5) (a : BitVec 5) (b : BitVec 5) (p : BitVec 3) (f : BitVec 4)
  /-- VFCLASS (R162). Writes an FP class mask per lane. -/
  | vfclass (d : BitVec 5) (a : BitVec 5) (p : BitVec 3)
  /-- VSEL (R163). Selects lanes of A or B by a predicate. -/
  | vsel (d : BitVec 5) (a : BitVec 5) (b : BitVec 5) (c : BitVec 5) (p : BitVec 3)
  /-- VPERM (R164). Permutes lanes by lane indices. -/
  | vperm (d : BitVec 5) (a : BitVec 5) (b : BitVec 5) (p : BitVec 3)
  /-- VSLIDE (R165). Slides lanes across two vectors toward lane 0. -/
  | vslide (d : BitVec 5) (a : BitVec 5) (b : BitVec 5) (c : BitVec 5) (p : BitVec 3)
  /-- VROT (R165). Rotates lanes toward lane 0. -/
  | vrot (d : BitVec 5) (a : BitVec 5) (c : BitVec 5) (p : BitVec 3)
  /-- VBCAST (R166). Broadcasts a scalar word to active lanes. -/
  | vbcast (d : BitVec 5) (a : BitVec 5) (p : BitVec 3)
  /-- VEXT (R166). Extracts one lane into a scalar. -/
  | vext (d : BitVec 5) (a : BitVec 5) (b : BitVec 5)
  /-- VINS (R166). Inserts a scalar word into one lane, landing a whole vector. -/
  | vins (d : BitVec 5) (a : BitVec 5) (b : BitVec 5)
  /-- VREDADD (R167). Integer sum reduction broadcast to active lanes. -/
  | vredadd (d : BitVec 5) (a : BitVec 5) (p : BitVec 3) (t : BitVec 4)
  /-- VREDMIN (R167). Integer minimum reduction. -/
  | vredmin (d : BitVec 5) (a : BitVec 5) (p : BitVec 3) (t : BitVec 4)
  /-- VREDMAX (R167). Integer maximum reduction. -/
  | vredmax (d : BitVec 5) (a : BitVec 5) (p : BitVec 3) (t : BitVec 4)
  /-- VFREDADD (R167). FP32 pairwise-tree sum reduction. -/
  | vfredadd (d : BitVec 5) (a : BitVec 5) (p : BitVec 3)
  /-- PAND (R168). Predicate and. -/
  | pand (d : BitVec 5) (a : BitVec 5) (b : BitVec 5) (p : BitVec 3)
  /-- POR (R168). Predicate or. -/
  | por (d : BitVec 5) (a : BitVec 5) (b : BitVec 5) (p : BitVec 3)
  /-- PXOR (R168). Predicate exclusive or. -/
  | pxor (d : BitVec 5) (a : BitVec 5) (b : BitVec 5) (p : BitVec 3)
  /-- PNOT (R168). Predicate not. -/
  | pnot (d : BitVec 5) (a : BitVec 5) (p : BitVec 3)
  /-- PSET (R168). Sets active predicate bits. -/
  | pset (d : BitVec 5) (p : BitVec 3)
  /-- PCLR (R168). Clears active predicate bits. -/
  | pclr (d : BitVec 5) (p : BitVec 3)
  /-- PCNT (R168). Counts masked predicate ones into a scalar. -/
  | pcnt (d : BitVec 5) (a : BitVec 5) (p : BitVec 3)
  /-- PFIRST (R168). Index of the lowest masked predicate one. -/
  | pfirst (d : BitVec 5) (a : BitVec 5) (p : BitVec 3)
  /-- VSIG (R169). Writes each lane's stored tag as a word (VA/VB). -/
  | vsig (d : BitVec 5) (a : BitVec 5) (p : BitVec 3)
  /-- VSIGSET (R169). Sets lane tags, clamped to a format's p (VA/VB). -/
  | vsigset (d : BitVec 5) (a : BitVec 5) (n : BitVec 5) (p : BitVec 3) (t : BitVec 4)
  /-- VSIGLT (R169). Predicate of lanes whose tag is below a threshold (VA/VB). -/
  | vsiglt (d : BitVec 5) (a : BitVec 5) (n : BitVec 5) (p : BitVec 3)
  /-- SIGMIN (R169). Minimum stored tag over active lanes into a scalar (VA/VB). -/
  | sigmin (d : BitVec 5) (a : BitVec 5) (p : BitVec 3)
  /-- VZMASK (R169). Copies zero flags to a predicate (VA/VB). -/
  | vzmask (d : BitVec 5) (a : BitVec 5) (p : BitVec 3)
  /-- VSIG_CV (R169). vsig in the CV slot. -/
  | vsigCv (d : BitVec 5) (a : BitVec 5) (p : BitVec 3)
  /-- VSIGSET_CV (R169). vsigset in the CV slot. -/
  | vsigsetCv (d : BitVec 5) (a : BitVec 5) (n : BitVec 5) (p : BitVec 3) (t : BitVec 4)
  /-- VSIGLT_CV (R169). vsiglt in the CV slot. -/
  | vsigltCv (d : BitVec 5) (a : BitVec 5) (n : BitVec 5) (p : BitVec 3)
  /-- SIGMIN_CV (R169). sigmin in the CV slot. -/
  | sigminCv (d : BitVec 5) (a : BitVec 5) (p : BitVec 3)
  /-- VZMASK_CV (R169). vzmask in the CV slot. -/
  | vzmaskCv (d : BitVec 5) (a : BitVec 5) (p : BitVec 3)
  /-- VCVT (R171). Converts the elements of each active lane between types under a static mode. -/
  | vcvt (d : BitVec 5) (a : BitVec 5) (s : BitVec 4) (p : BitVec 3) (t : BitVec 4) (r : BitVec 4)
  /-- VPACK (R172). Narrows 128 lanes of two vectors into dense elements. -/
  | vpack (d : BitVec 5) (a : BitVec 5) (b : BitVec 5) (p : BitVec 3) (t : BitVec 4) (r : BitVec 4)
  /-- VUNPACK (R173). Widens 64 dense elements exactly into lanes. -/
  | vunpack (d : BitVec 5) (a : BitVec 5) (p : BitVec 3) (t : BitVec 4) (e : BitVec 4)
  /-- VCBDEC (R174). Decodes LQ2 weights through the codebook store. -/
  | vcbdec (d : BitVec 5) (a : BitVec 5) (p : BitVec 3) (t : BitVec 4) (e : BitVec 4)
  /-- VSCALE (R175). Applies a per-lane E8M0 scale with one rounding. -/
  | vscale (d : BitVec 5) (a : BitVec 5) (b : BitVec 5) (p : BitVec 3) (t : BitVec 4) (r : BitVec 4)
  /-- MMA (R229). Schedules a matrix multiply-accumulate of passes into an accumulator tile. -/
  | mma (m : BitVec 2) (n : BitVec 6) (c : BitVec 3) (a : BitVec 5) (b : BitVec 5) (k : BitVec 1) (z : BitVec 1) (p : BitVec 3)
  /-- MMA_BIN (R229). Schedules a binary popcount matrix accumulate. -/
  | mmaBin (m : BitVec 2) (n : BitVec 6) (c : BitVec 3) (a : BitVec 5) (b : BitVec 5) (k : BitVec 1) (z : BitVec 1) (p : BitVec 3)
  /-- MZERO (R235). Schedules zeroing of accumulator blocks. -/
  | mzero (m : BitVec 2) (n : BitVec 6) (c : BitVec 3)
  /-- MRD (R236). Schedules read-out of accumulator rows through a tensor scale. -/
  | mrd (m : BitVec 2) (n : BitVec 6) (c : BitVec 3) (a : BitVec 5) (b : BitVec 5) (t : BitVec 4)
  /-- MWR (R238). Schedules writes of scratchpad rows into accumulator memory. -/
  | mwr (m : BitVec 2) (n : BitVec 6) (c : BitVec 3) (a : BitVec 5) (t : BitVec 4)
  /-- MLD (R239). Schedules loading of rows into an operand buffer. -/
  | mld (n : BitVec 6) (k : BitVec 2) (a : BitVec 5)
  /-- MCALL (R244). Schedules a microprogram routine. -/
  | mcall (d : BitVec 5) (a : BitVec 5) (i : BitVec 8)
  /-- CPY (R211). Issues a strided copy on a copy-engine channel. -/
  | cpy (h : BitVec 1) (o : BitVec 2) (n : BitVec 2) (a : BitVec 5) (b : BitVec 5) (l : BitVec 11)
  /-- CPYG (R214). Issues an indexed gather on the gather path. -/
  | cpyg (h : BitVec 1) (o : BitVec 2) (a : BitVec 5) (b : BitVec 5) (l : BitVec 11)
  /-- CPYS (R214). Issues an indexed scatter on the gather path. -/
  | cpys (h : BitVec 1) (o : BitVec 2) (a : BitVec 5) (b : BitVec 5) (l : BitVec 11)
  /-- CPYF (R213). Issues a pattern fill of a destination geometry. -/
  | cpyf (h : BitVec 1) (o : BitVec 2) (n : BitVec 2) (a : BitVec 5) (l : BitVec 11)
  /-- OVL (R215). Issues a hash-checked overlay load into the ISP. -/
  | ovl (h : BitVec 1) (a : BitVec 5) (b : BitVec 5) (l : BitVec 11)
  /-- GAMO_ADD (R283). Global memory-side atomic add. -/
  | gamoAdd (w : BitVec 1) (a : BitVec 5) (b : BitVec 5) (l : BitVec 11)
  /-- GAMO_AND (R283). Global atomic and. -/
  | gamoAnd (w : BitVec 1) (a : BitVec 5) (b : BitVec 5) (l : BitVec 11)
  /-- GAMO_OR (R283). Global atomic or. -/
  | gamoOr (w : BitVec 1) (a : BitVec 5) (b : BitVec 5) (l : BitVec 11)
  /-- GAMO_XOR (R283). Global atomic exclusive or. -/
  | gamoXor (w : BitVec 1) (a : BitVec 5) (b : BitVec 5) (l : BitVec 11)
  /-- GAMO_MIN (R283). Global atomic signed minimum. -/
  | gamoMin (w : BitVec 1) (a : BitVec 5) (b : BitVec 5) (l : BitVec 11)
  /-- GAMO_MAX (R283). Global atomic signed maximum. -/
  | gamoMax (w : BitVec 1) (a : BitVec 5) (b : BitVec 5) (l : BitVec 11)
  /-- GAMO_SWAP (R283). Global atomic swap. -/
  | gamoSwap (w : BitVec 1) (a : BitVec 5) (b : BitVec 5) (l : BitVec 11)
  /-- GAMO_CAS (R283). Global atomic compare-and-swap against GCMP. -/
  | gamoCas (w : BitVec 1) (a : BitVec 5) (b : BitVec 5) (l : BitVec 11)
  /-- GAMO_ACQ_ADD (R284). Global atomic add with acquire order. -/
  | gamoAcqAdd (w : BitVec 1) (a : BitVec 5) (b : BitVec 5) (l : BitVec 11)
  /-- GAMO_ACQ_AND (R284). Global atomic and with acquire order. -/
  | gamoAcqAnd (w : BitVec 1) (a : BitVec 5) (b : BitVec 5) (l : BitVec 11)
  /-- GAMO_ACQ_OR (R284). Global atomic or with acquire order. -/
  | gamoAcqOr (w : BitVec 1) (a : BitVec 5) (b : BitVec 5) (l : BitVec 11)
  /-- GAMO_ACQ_XOR (R284). Global atomic xor with acquire order. -/
  | gamoAcqXor (w : BitVec 1) (a : BitVec 5) (b : BitVec 5) (l : BitVec 11)
  /-- GAMO_ACQ_MIN (R284). Global atomic min with acquire order. -/
  | gamoAcqMin (w : BitVec 1) (a : BitVec 5) (b : BitVec 5) (l : BitVec 11)
  /-- GAMO_ACQ_MAX (R284). Global atomic max with acquire order. -/
  | gamoAcqMax (w : BitVec 1) (a : BitVec 5) (b : BitVec 5) (l : BitVec 11)
  /-- GAMO_ACQ_SWAP (R284). Global atomic swap with acquire order. -/
  | gamoAcqSwap (w : BitVec 1) (a : BitVec 5) (b : BitVec 5) (l : BitVec 11)
  /-- GAMO_ACQ_CAS (R284). Global atomic cas with acquire order. -/
  | gamoAcqCas (w : BitVec 1) (a : BitVec 5) (b : BitVec 5) (l : BitVec 11)
  /-- GAMO_REL_ADD (R284). Global atomic add with release order. -/
  | gamoRelAdd (w : BitVec 1) (a : BitVec 5) (b : BitVec 5) (l : BitVec 11)
  /-- GAMO_REL_AND (R284). Global atomic and with release order. -/
  | gamoRelAnd (w : BitVec 1) (a : BitVec 5) (b : BitVec 5) (l : BitVec 11)
  /-- GAMO_REL_OR (R284). Global atomic or with release order. -/
  | gamoRelOr (w : BitVec 1) (a : BitVec 5) (b : BitVec 5) (l : BitVec 11)
  /-- GAMO_REL_XOR (R284). Global atomic xor with release order. -/
  | gamoRelXor (w : BitVec 1) (a : BitVec 5) (b : BitVec 5) (l : BitVec 11)
  /-- GAMO_REL_MIN (R284). Global atomic min with release order. -/
  | gamoRelMin (w : BitVec 1) (a : BitVec 5) (b : BitVec 5) (l : BitVec 11)
  /-- GAMO_REL_MAX (R284). Global atomic max with release order. -/
  | gamoRelMax (w : BitVec 1) (a : BitVec 5) (b : BitVec 5) (l : BitVec 11)
  /-- GAMO_REL_SWAP (R284). Global atomic swap with release order. -/
  | gamoRelSwap (w : BitVec 1) (a : BitVec 5) (b : BitVec 5) (l : BitVec 11)
  /-- GAMO_REL_CAS (R284). Global atomic cas with release order. -/
  | gamoRelCas (w : BitVec 1) (a : BitVec 5) (b : BitVec 5) (l : BitVec 11)
  /-- FSEND (R376). Issues a circuit send or a stream transfer on the fabric. -/
  | fsend (a : BitVec 5) (b : BitVec 5) (l : BitVec 11)
  /-- FRECV (R379). Issues a plain circuit receive. -/
  | frecv (a : BitVec 5) (l : BitVec 11)
  /-- FRECV_ADD_F32 (R380). Issues a receive that adds FP32 into a local operand. -/
  | frecvAddF32 (a : BitVec 5) (b : BitVec 5) (l : BitVec 11)
  /-- FRECV_ADD_BF16 (R380). Issues a receive that adds BF16 into a local operand. -/
  | frecvAddBf16 (a : BitVec 5) (b : BitVec 5) (l : BitVec 11)
  /-- FRECV_MAX_F32 (R380). Issues a receive that takes the FP32 maximum with a local operand. -/
  | frecvMaxF32 (a : BitVec 5) (b : BitVec 5) (l : BitVec 11)
  /-- LNCH (R144). Submits a child launch to the launch sequencer. -/
  | lnch (a : BitVec 5) (b : BitVec 5) (l : BitVec 11)
  /-- CWAIT (R145). Stops the handler until its handler-channel commands have landed. -/
  | cwait
  /-- WAITT_EXPIRY (R29). The SCHC target of a waitt is reached and the next bundle issues. -/
  | waittExpiry (core : Nat)
  /-- WAITG_EXPIRY (R30). GTIME reaches the waitg target and the next bundle issues. -/
  | waitgExpiry (core : Nat)
  /-- BARRIER_RELEASE (R27). A barrier releases a fixed latency after the last arrival, setting every SCHC to V. -/
  | barrierRelease (launch : Nat) (level : Nat) (unit : Nat)
  /-- CYCLE_BOUNDARY (R181). Before each bundle the core applies due landings and evaluates due events by priority. -/
  | cycleBoundary (core : Nat)
  /-- RESULT_LANDING (R13). A pending register result lands at issue + latency, with same-cycle winner selection. -/
  | resultLanding (core : Nat) (uid : Nat)
  /-- STORE_LANDING (R16). A store lands at its path class's fixed offset from issue. -/
  | storeLanding (core : Nat) (uid : Nat)
  /-- LOAD_SAMPLE (R17). A load samples its location at the class's fixed offset, seeing landings at or before that cycle. -/
  | loadSample (core : Nat) (uid : Nat)
  /-- FREEZE_STAGGER_STOP (R24). Other components of the launch stop F wall cycles after the initiator, or earlier under R23. -/
  | freezeStaggerStop (core : Nat)
  /-- THAW (R24). When every initiator's cause ends, components resume at their own offsets. -/
  | thaw (launch : Nat)
  /-- HANDLER_START (R182). The first handler bundle issues F wall cycles after the core stopped. -/
  | handlerStart (core : Nat)
  /-- TRET_COMPLETE (R189). After handler results and channel commands have landed, tret checks the frame and re-injects. -/
  | tretComplete (core : Nat)
  /-- CWAIT_END (R145). The last outstanding handler-channel command lands and cwait ends. -/
  | cwaitEnd (core : Nat)
  /-- KILL_FREEZE (R191). The rest of the launch freezes at the next barrier release or 4,096 slot cycles after the stop. -/
  | killFreeze (launch : Nat)
  /-- DUMP_WRITE (R328). The dump engine writes a queued dump, one at a time package-wide. -/
  | dumpWrite
  /-- TIMER_INTERRUPT (R180). GTIME reaches the task's comparator, making INTR timer pending once. -/
  | timerInterrupt (core : Nat)
  /-- BELFRY_INTERRUPT_REQUEST (R180). A belfry request makes INTR sub-cause 2 pending. -/
  | belfryInterruptRequest (core : Nat)
  /-- DEBUG_INTERRUPT_REQUEST (R180). A debug request makes INTR sub-cause 3 pending. -/
  | debugInterruptRequest (core : Nat)
  /-- QUEUE_GENERATOR_START (R119). A queue generator copies its parameter set at its start cycle. -/
  | queueGeneratorStart (core : Nat) (uid : Nat)
  /-- GENERATOR_SAMPLE (R200). A read-port generator samples vector n at s + 4 + n. -/
  | generatorSample (core : Nat) (uid : Nat)
  /-- GENERATOR_DELIVERY (R40). A read-port generator delivers vector n to its port at s + 8 + n. -/
  | generatorDelivery (core : Nat) (uid : Nat)
  /-- GENERATOR_TAKE (R201). A write-port generator takes vector n from its port. -/
  | generatorTake (core : Nat) (uid : Nat)
  /-- GENERATOR_LANDING (R201). A write-port generator lands vector n in the tile scratchpad. -/
  | generatorLanding (core : Nat) (uid : Nat)
  /-- COPY_START (R209). A copy-engine command makes its start checks and translations at its start cycle. -/
  | copyStart (core : Nat) (uid : Nat)
  /-- PAGE_WALK_COMPLETE (R273). A page walk completes, fills the TLBs or raises its fault. -/
  | pageWalkComplete (core : Nat) (uid : Nat)
  /-- CHUNK_SAMPLE (R207). A copy chunk samples its source bytes. -/
  | chunkSample (core : Nat) (uid : Nat)
  /-- CHUNK_LANDING (R207). A copy chunk lands whole with tags and granule fields. -/
  | chunkLanding (core : Nat) (uid : Nat)
  /-- GATHER_INDEX_SAMPLE (R214). A gather or scatter samples element i's index and translates its page. -/
  | gatherIndexSample (core : Nat) (uid : Nat)
  /-- GATHER_ELEMENT_SAMPLE (R214). A gather or scatter samples the source bytes of an element. -/
  | gatherElementSample (core : Nat) (uid : Nat)
  /-- GATHER_ELEMENT_LANDING (R214). A gather or scatter element lands whole. -/
  | gatherElementLanding (core : Nat) (uid : Nat)
  /-- OVERLAY_LANDING (R215). An overlay's digest is compared and its bundles land, or the launch is killed with CODEINT. -/
  | overlayLanding (core : Nat) (uid : Nat)
  /-- HANDLER_CHANNEL_LANDING (R216). A handler-channel command completes its transfer in handler time. -/
  | handlerChannelLanding (core : Nat) (uid : Nat)
  /-- MATRIX_COMMAND_START (R233). A matrix command makes its parameter, range, alignment and format checks at its start. -/
  | matrixCommandStart (core : Nat) (uid : Nat)
  /-- MCALL_START (R245). An mcall samples and checks its routine and runs its steps. -/
  | mcallStart (core : Nat) (uid : Nat)
  /-- PASS_SAMPLE (R230). A pass samples operand rows, scales and codebook entries in its slot cycles. -/
  | passSample (core : Nat) (uid : Nat)
  /-- PASS_LANDING (R231). A pass accumulates its K blocks into every output word as one landing. -/
  | passLanding (core : Nat) (uid : Nat)
  /-- MZERO_BLOCK_LANDING (R235). An mzero block lands zeros with tag 24. -/
  | mzeroBlockLanding (core : Nat) (uid : Nat)
  /-- MRD_STEP_SAMPLE (R236). An mrd step samples one accumulator row segment. -/
  | mrdStepSample (core : Nat) (uid : Nat)
  /-- MRD_STEP_LANDING (R237). An mrd step lands its scaled, rounded row as one landing. -/
  | mrdStepLanding (core : Nat) (uid : Nat)
  /-- MWR_STEP_SAMPLE (R238). An mwr step samples one source row segment. -/
  | mwrStepSample (core : Nat) (uid : Nat)
  /-- MWR_STEP_LANDING (R238). An mwr step lands its words in accumulator memory. -/
  | mwrStepLanding (core : Nat) (uid : Nat)
  /-- MLD_SAMPLE (R239). An mld samples four source rows per array cycle. -/
  | mldSample (core : Nat) (uid : Nat)
  /-- MLD_LANDING (R239). All mld rows land in the operand buffer together. -/
  | mldLanding (core : Nat) (uid : Nat)
  /-- AMO_APPLY (R141). A scratchpad atomic samples and rewrites its word at issue + 4 in combining order. -/
  | amoApply (core : Nat) (uid : Nat)
  /-- GAMO_START (R283). A gamo makes its alignment, translation and rights checks at its start. -/
  | gamoStart (core : Nat) (uid : Nat)
  /-- GAMO_APPLY (R281). The memory-side unit applies a group of atomics in combining order. -/
  | gamoApply (core : Nat) (uid : Nat)
  /-- GAMO_OLD_VALUE_LANDING (R283). A gamo's old value lands at GDST.ADDR. -/
  | gamoOldValueLanding (core : Nat) (uid : Nat)
  /-- REL_INCREMENT (R143). A rel lands its atomic increment on the sync object at issue + 560. -/
  | relIncrement (core : Nat) (uid : Nat)
  /-- ACQ_SAMPLE (R143). An acq samples its sync object at issue + 560. -/
  | acqSample (core : Nat) (uid : Nat)
  /-- LNCH_START (R144). A lnch reads its launch record at its start cycle. -/
  | lnchStart (core : Nat) (uid : Nat)
  /-- LNCH_ARRIVAL (R311). A lnch lands and its child arrives at a device queue. -/
  | lnchArrival (core : Nat) (uid : Nat)
  /-- FLIT_SAMPLE (R377). A circuit send samples flit f at its granted frame. -/
  | flitSample (core : Nat) (uid : Nat)
  /-- STREAM_FLIT_SAMPLE (R378). A stream transfer samples a flit into the bridge port's stream buffer. -/
  | streamFlitSample (core : Nat) (uid : Nat)
  /-- STREAM_PACKET_RECEIVE (R378). A destination port translates and lands stream flits and release increments. -/
  | streamPacketReceive (pkt : StreamPacket)
  /-- FLIT_RECEIVE (R380). At its expected cycle a receive takes the head flit and lands or reduces it. -/
  | flitReceive (core : Nat) (uid : Nat)
  /-- SKEW_FLIT_ARRIVAL (R382). The awaited flit arrives within budget and the thaw is announced. -/
  | skewFlitArrival (launch : Nat)
  /-- SKEW_BUDGET_EXPIRY (R382). The skew budget expires and the receive raises SLIP/SKEW. -/
  | skewBudgetExpiry (core : Nat)
  /-- SKEW_THAW (R382). The launch thaws on every package at the announced GTIME. -/
  | skewThaw (launch : Nat)
  /-- FRAME_SEND (R367). A port sends one frame every 8 wall cycles with the flits of its launch frame or resends. -/
  | frameSend (port : Nat)
  /-- FRAME_RECEIVE (R368). A port receives a frame, checks its CRC and enqueues its flits. -/
  | frameReceive (fr : Frame)
  /-- RETRY_REQUEST (R368). A retry-request message makes the sender resend a frame's flits. -/
  | retryRequest (port : Nat) (fnum : Nat)
  /-- FLIT_ARRIVAL_TIMEOUT (R368). A flit not delivered within HOPMAX + 128 cycles of its send declares slack exhaustion. -/
  | flitArrivalTimeout (port : Nat)
  /-- PORT_RETRAIN (R368). Waiting flits undelivered after 10 ms make the port retrain and kill its launches. -/
  | portRetrain (port : Nat)
  /-- PORT_TRAINED (R386). Port training completes. -/
  | portTrained (port : Nat)
  /-- BARRIER_ARRIVAL_MESSAGE (R373). A domain barrier arrival carrying an SCHC is received in a frame header. -/
  | barrierArrivalMessage (corr : Nat) (req : Nat) (schc : Nat)
  /-- FREEZE_MESSAGE (R374). An in-band freeze, pre-emption, kill or resume is forwarded to every part. -/
  | freezeMessage (corr : Nat) (kind : PartMessage)
  /-- PTP_EVENT_MESSAGE (R383). A timestamped IEEE 1588 event message is received on a port. -/
  | ptpEventMessage (msg : PtpMessage)
  /-- SYNC_INTERVAL (R384). Each sync interval the package disciplines GTIME and updates CONV. -/
  | syncInterval
  /-- LOSS_OF_MASTER (R384). A package that loses its master clears CONV. -/
  | lossOfMaster
  /-- LINK_HEALTH_TICK (R386). Every second the lantern writes one link-health record per lane. -/
  | linkHealthTick (lanes : List LaneHealth)
  /-- SUBMIT (R312). A SUBMIT packet is read and its launch is checked and queued or refused. -/
  | submit (queue : Nat)
  /-- KILL (R324). A KILL packet ends the queued or running launch with that CORR. -/
  | kill (queue : Nat)
  /-- PREEMPT (R311). A PREEMPT packet starts pre-emption of a running launch with a save area. -/
  | preempt (queue : Nat)
  /-- QUEUE_EVALUATION (R314). The sequencer evaluates its queues and admits candidates by effective priority. -/
  | queueEvaluation
  /-- PRIORITY_AGING (R313). Each 4 ms of waiting raises a queued launch's EP by 1 up to CEIL. -/
  | priorityAging (launch : Nat)
  /-- START_TICK (R312). All tasks start at the admission cycle plus lead or at GTIME STIME. -/
  | startTick (launch : Nat)
  /-- PREEMPTION_FREEZE (R322). When no task is at TL ≥ 1, the belfry freezes the launch and drains started commands. -/
  | preemptionFreeze (launch : Nat)
  /-- CONTEXT_SAVE (R326). After the drain the context-save engines write the save area and COMPLETE. -/
  | contextSave (launch : Nat)
  /-- LAUNCH_COMPLETE (R134). Every task has halted and all work has landed, so the launch completes. -/
  | launchComplete (launch : Nat)
  /-- QUERY (R255). Mailbox command returning a cupola's allocation map. -/
  | query (mailbox : Nat)
  /-- READTT (R255). Mailbox command returning a spire's timing-table image. -/
  | readtt (mailbox : Nat)
  /-- READUNIT (R255). Mailbox command returning a unit's divergence counts or an HBM stack's ECC count. -/
  | readunit (mailbox : Nat)
  /-- CONDEMN (R255). Mailbox command condemning a unit for replacement. -/
  | condemn (mailbox : Nat)
  /-- SELFTEST (R253). Mailbox command running a service window on an idle spire. -/
  | selftest (mailbox : Nat)
  /-- SETTHR (R252). Mailbox command setting condemnation thresholds per type. -/
  | setthr (mailbox : Nat)
  /-- INSTALL (R259). Mailbox command installing an errata patch or fabric format. -/
  | install (mailbox : Nat)
  /-- SETRESV (R257). Mailbox command setting a cupola's quantum reserve. -/
  | setresv (mailbox : Nat)
  /-- UNIT_REPLACEMENT (R256). Between launches the belfry verifies an image, allocates quanta, switches the port and raises the table. -/
  | unitReplacement (tower : Nat)
  /-- MARKTAG (R358). Host command marking extents tagged or untagged. -/
  | marktag
  /-- INVAL (R358). Host command invalidating translations, inside a package freeze when needed. -/
  | inval
  /-- REGOBJ (R358). Host command registering a code object. -/
  | regobj
  /-- UNREG (R358). Host command unregistering a code object. -/
  | unreg
  /-- SETDESC (R358). Host command setting the queue descriptor page. -/
  | setdesc
  /-- SETTIMER (R358). Host command arming a task's timer comparator. -/
  | settimer
  /-- RESUMEHOST (R358). Host command clearing the host port freeze. -/
  | resumehost
  /-- DOMBUBBLE (R362). Host command joining or leaving the domain bubble plan. -/
  | dombubble
  /-- HOST_READ (R277). A host BAR2 read completes, or fails on a device-owned page with a migration record. -/
  | hostRead (offset : Nat) (size : Nat)
  /-- HOST_WRITE (R296). A host BAR2 posted write lands in PCIe order or is dropped. -/
  | hostWrite (offset : Nat) (data : List Byte) (relaxed : Bool)
  /-- HOST_ATOMIC (R296). A host AtomicOp applies on a control-page word in the combining order. -/
  | hostAtomic (op : HostAtomicOp) (offset : Nat) (width : Nat) (operand : Word) (comparand : Word)
  /-- STOP (R351). Debugger command stopping the attached launch. -/
  | stop (tower : Nat)
  /-- RUN (R351). Debugger command thawing the stopped launch. -/
  | run (tower : Nat)
  /-- STEP (R351). Debugger command advancing the launch COUNT cycles. -/
  | step (tower : Nat)
  /-- SNAP (R351). Debugger command writing the stopped launch's state to its save area. -/
  | snap (tower : Nat)
  /-- STEP_END (R351). The step count expires and the launch stops again with records written. -/
  | stepEnd (launch : Nat)
  /-- THERMAL_BUBBLE (R361). At each period start a package-scope freeze of D × 2^16 wall cycles begins. -/
  | thermalBubble
  /-- BUBBLE_END (R361). A thermal bubble's length expires and the package thaws. -/
  | bubbleEnd
  /-- TELEMETRY_UPDATE (R360). Every millisecond the telemetry page receives island records and GTIME. -/
  | telemetryUpdate (rails : List RailSample)
  /-- POWER_CAP_UPDATE (R361). Every millisecond each tower adjusts its bubble duty from power and margin. -/
  | powerCapUpdate (tower : Nat) (watts : Nat) (margin : Int)
  /-- HBM_SCRUB (R287). The scrubber re-reads lines and rewrites corrected ones. -/
  | hbmScrub (line : Nat) (err : LineError)
  /-- PACKAGE_RESET (R365). Reset starts bring-up through its stages to ready. -/
  | packageReset
  /-- POWER_OFF (R365). Power-off loses all state except flash. -/
  | powerOff
  /-- REGISTER_WRITE (R5). A write to a register without behaviour of its own sets its RW fields. -/
  | registerWrite (offset : Nat) (value : Word)
  /-- ILLOP (R84). A syllable whose opcode cell is unassigned in its slot class, or whose fields hold unlisted or nonzero-unused values, issues and raises ILLOP. -/
  | illop (w : BitVec 32)
  /-- BELFRY_ISSUED_ACCESS (R294). A command of a belfry queue accesses memory, an atomic unit or a unit such as XINJ or the codebook store, and lands in wall time. -/
  | belfryIssuedAccess (belfry : Nat) (queue : Nat) (op : BelfryOp)
  /-- MALFORMED_PACKET (R311). The sequencer reads a host packet whose KIND or zero fields are invalid, skips it, advances HEAD and increments BADPKT. -/
  | malformedPacket (queue : Nat)
  /-- SUBMISSION_DIGEST_EXCHANGE (R374). A package receives in-band another part's timetable SHA-384 and recorded TTDIG for a multi-package submission. -/
  | submissionDigestExchange (corr : Nat) (part : PartDigest)
  /-- STACK_ABOVE_MAXIMUM_TEMPERATURE (R271). An HBM stack's temperature crosses its maximum operating temperature, and the package inserts thermal bubbles until the stack cools. -/
  | stackAboveMaximumTemperature (stack : Nat)
  deriving DecidableEq, Repr

end Sys2Proof
end

