-- ==== Sys2Proof/WellFormed.lean ====
section
/-! DEFINITION. The operand codes an instruction accepts, and the slots it may stand in (04_encoding.md R84 to R101).

A syllable whose operand code is outside its kind's range, or whose type, mode or flag is not listed for it, raises ILLOP
at issue (R84): `Instr.wellFormed` is false of it, and `decodeSlot` does not give it. -/

namespace Sys2Proof

/-- VD codes: v0 to v23 and w0 to w3; 28 to 31 raise ILLOP (R88). -/
def vdOk (d : BitVec 5) : Bool := d.toNat < 28

/-- P5, AG and MP codes: 0 to 7 (R88). -/
def p5Ok (c : BitVec 5) : Bool := c.toNat < 8

/-- MS codes: 0 to 3 and 16 to 31 (R88). -/
def msOk (c : BitVec 5) : Bool := c.toNat < 4 || 16 ≤ c.toNat

/-- MS codes that name an operand descriptor: 16 to 31 (R100). -/
def descOk (c : BitVec 5) : Bool := 16 ≤ c.toNat

/-- Integer element types of the vector integer group: .i8 .i16 .i32 .n8 .n16 .n32 (R97). -/
def intType (t : BitVec 4) : Bool := [8, 9, 10, 12, 13, 14].contains t.toNat

/-- Types of the vector FP group: .f32 .bf16 .f16 (R97). -/
def fpType (t : BitVec 4) : Bool := t.toNat < 3

/-- Rounding codes 0 to 4 (R91). -/
def rmOk (r : BitVec 4) : Bool := r.toNat ≤ 4

/-- The accepted source and destination types of `vcvt`, as R170 lists them. -/
def cvtPair (src dst : Nat) : Bool :=
  match src with
  | 0 => [1, 2, 3, 4, 5, 8, 9, 10, 12, 13, 14].contains dst
  | 1 => [2, 3, 4, 5, 8, 9, 12, 13].contains dst
  | 2 => [1, 3, 4, 5, 8, 9, 12, 13].contains dst
  | 3 => [4, 5, 8, 12].contains dst
  | 4 => [3, 5, 8, 12].contains dst
  | 10 => [0, 1, 2, 3, 4, 5].contains dst
  | 14 => [0, 1, 2, 3, 4, 5].contains dst
  | 9 => [1, 2, 3, 4, 5].contains dst
  | 13 => [1, 2, 3, 4, 5].contains dst
  | 8 => [3, 4, 5].contains dst
  | 12 => [3, 4, 5].contains dst
  | _ => false

/-- Rounding codes of `vcvt`: 0 to 4, and 0 to 3 for an integer destination (R69, R170). -/
def cvtRm (dst : BitVec 4) (r : BitVec 4) : Bool :=
  if 8 ≤ dst.toNat then r.toNat ≤ 3 else r.toNat ≤ 4

/-- Types and modes of `vpack` (R172). -/
def packOk (t r : BitVec 4) : Bool :=
  ([1, 2, 3, 4, 5].contains t.toNat && rmOk r) || ([8, 9, 12, 13].contains t.toNat && r.toNat == 0)

/-- Source types and element selectors of `vunpack` (R173). -/
def unpackOk (t e : BitVec 4) : Bool :=
  match t.toNat with
  | 1 | 2 | 9 | 13 => e.toNat ≤ 1
  | 3 | 4 | 8 | 12 => e.toNat ≤ 3
  | 5 => e.toNat ≤ 7
  | _ => false

/-- Destination types and weight selectors of `vcbdec` (R174). -/
def cbdecOk (t e : BitVec 4) : Bool :=
  match t.toNat with
  | 0 => true
  | 1 | 2 => e.toNat ≤ 7
  | _ => false

/-- Matrix shape: M code 0 to 2, N at least 16, and an even accumulator for M = 64 (R87, R88). -/
def shapeOk (m : BitVec 2) (n : BitVec 6) (acc : BitVec 3) : Bool :=
  m.toNat < 3 && n.toNat ≠ 0 && (m.toNat ≠ 2 || acc.toNat % 2 == 0)

/-- Destination types of `mrd` (R236). -/
def mrdType (t : BitVec 4) : Bool := [0, 1, 2, 3, 4, 5, 8, 9, 10].contains t.toNat

/-- Source types of `mwr` (R238). -/
def mwrType (t : BitVec 4) : Bool := [0, 1, 2, 10].contains t.toNat

/-- System register numbers of R50. -/
def sysRegOk (n : BitVec 8) : Bool :=
  n.toNat ≤ 0x09 || (0x0C ≤ n.toNat && n.toNat ≤ 0x15) || (0x18 ≤ n.toNat && n.toNat ≤ 0x1D) ||
    (0x20 ≤ n.toNat && n.toNat ≤ 0x23)

/-- Engine register numbers of R203. -/
def engRegOk (n : BitVec 8) : Bool :=
  n.toNat ≤ 0x07 || n.toNat == 0x10 || n.toNat == 0x11 || (0x18 ≤ n.toNat && n.toNat ≤ 0x1B)

/-- Order codes 0b00 to 0b10 (R101). -/
def orderOk (o : BitVec 2) : Bool := o.toNat < 3

/-- A command on the handler channel has dly = 0 (R101). -/
def handlerDly (h : BitVec 1) (l : BitVec 11) : Bool := h.toNat == 0 || l.toNat == 0

/-- A bit field inside 64 bits: pos + len ≤ 64, where the length field holds len − 1 (R117). -/
def fieldOk (l p : BitVec 6) : Bool := p.toNat + l.toNat + 1 ≤ 64

/-- The operand codes, types, modes and flags that the instruction's entry lists (R84, R87 to R101). The events have no
encoding and are all well formed. -/
def Instr.wellFormed : Instr → Bool
  | .brP c _ | .brAny c _ | .brAll c _ | .brNone c _ => p5Ok c
  | .syncb l => l.toNat < 5
  | .rdsys _ n | .wrsys _ n => sysRegOk n
  | .ext _ _ l p | .ins _ _ l p => fieldOk l p
  | .wrag d _ s => p5Ok d && s.toNat < 8
  | .wrmp d _ => p5Ok d
  | .wreng _ n => engRegOk n
  | .vld d _ _ | .vldx d _ _ _ | .spldVector d _ _ => vdOk d
  | .acq _ s | .rel _ s => s.toNat < 6
  | .vadd d _ _ _ t | .vsub d _ _ _ t | .vand d _ _ _ t | .vor d _ _ _ t | .vxor d _ _ _ t | .vshl d _ _ _ t
  | .vshr d _ _ _ t | .vsra d _ _ _ t | .vmin d _ _ _ t | .vmax d _ _ _ t | .vmul d _ _ _ t | .vmulh d _ _ _ t =>
    vdOk d && intType t
  | .vabs d _ _ t => vdOk d && [8, 9, 10].contains t.toNat
  | .vmadd d _ _ _ _ t => vdOk d && [4, 5, 6].contains t.toNat
  | .vfadd d _ _ _ t | .vfsub d _ _ _ t | .vfmul d _ _ _ t | .vfmin d _ _ _ t | .vfmax d _ _ _ t => vdOk d && fpType t
  | .vfabs d _ _ t | .vfneg d _ _ t => vdOk d && fpType t
  | .vfma d _ _ _ _ t | .vfms d _ _ _ _ t | .vfnma d _ _ _ _ t => vdOk d && t.toNat < 3
  | .vfrcp d _ _ | .vfrsq d _ _ | .vfexp2 d _ _ | .vflog2 d _ _ => vdOk d
  | .vcmp d _ _ _ t f => p5Ok d && (t.toNat == 10 || t.toNat == 14) && f.toNat ≤ 5
  | .vfcmp d _ _ _ f => p5Ok d && f.toNat ≤ 6
  | .vfclass d _ _ => vdOk d
  | .vsel d _ _ c _ => vdOk d && p5Ok c
  | .vperm d _ _ _ | .vslide d _ _ _ _ | .vrot d _ _ _ | .vbcast d _ _ | .vins d _ _ => vdOk d
  | .vredadd d _ _ t | .vredmin d _ _ t | .vredmax d _ _ t => vdOk d && (t.toNat == 10 || t.toNat == 14)
  | .vfredadd d _ _ => vdOk d
  | .pand d a b _ | .por d a b _ | .pxor d a b _ => p5Ok d && p5Ok a && p5Ok b
  | .pnot d a _ => p5Ok d && p5Ok a
  | .pset d _ | .pclr d _ => p5Ok d
  | .pcnt _ a _ | .pfirst _ a _ => p5Ok a
  | .vsig d _ _ | .vsigCv d _ _ => vdOk d
  | .vsigset d _ _ _ t | .vsigsetCv d _ _ _ t => vdOk d && t.toNat ≤ 6
  | .vsiglt d _ _ _ | .vsigltCv d _ _ _ => p5Ok d
  | .vzmask d _ _ | .vzmaskCv d _ _ => p5Ok d
  | .vcvt d _ s _ t r => vdOk d && cvtPair s.toNat t.toNat && cvtRm t r
  | .vpack d _ _ _ t r => vdOk d && packOk t r
  | .vunpack d _ _ t e => vdOk d && unpackOk t e
  | .vcbdec d _ _ t e => vdOk d && cbdecOk t e
  | .vscale d _ _ _ t r => vdOk d && t.toNat < 6 && rmOk r
  | .mma m n c a b _ _ _ | .mmaBin m n c a b _ _ _ => shapeOk m n c && msOk a && msOk b
  | .mzero m n c => shapeOk m n c
  | .mrd m n c a _ t => shapeOk m n c && descOk a && mrdType t
  | .mwr m n c a t => shapeOk m n c && descOk a && mwrType t
  | .mld n _ a => (n.toNat == 1 || n.toNat == 2) && descOk a
  | .cpy h o n _ _ l => orderOk o && n.toNat ≠ 0 && handlerDly h l
  | .cpyg h o _ _ l | .cpys h o _ _ l => orderOk o && handlerDly h l
  | .cpyf h o n _ l => orderOk o && n.toNat ≠ 0 && handlerDly h l
  | .ovl h _ _ l => handlerDly h l
  | _ => true

/-- The slots whose class holds the instruction (R83, R93 to R100). An event stands in no slot; `illop` in every one. -/
def Instr.slots : Instr → List Nat
  | .nop | .illop _ => [0, 1, 2, 3, 4, 5, 6, 7]
  | .brZ .. | .brNz .. | .brLz .. | .brGez .. | .brP .. | .brAny .. | .brAll .. | .brNone .. | .jmp .. | .call ..
  | .jmpi .. | .calli .. | .ret | .zloop .. | .ploop .. | .lbrk .. | .waitt .. | .waitg .. | .syncb .. | .trap ..
  | .tret | .halt | .rdsys .. | .wrsys .. | .fenceq .. | .brk .. | .rngseed .. => [0]
  | .add .. | .sub .. | .and .. | .or .. | .xor .. | .shl .. | .shr .. | .sra .. | .slt .. | .sltn .. | .min .. | .max ..
  | .minn .. | .maxn .. | .addW .. | .subW .. | .mul .. | .mulh .. | .mulhn .. | .div .. | .divn .. | .rem .. | .remn ..
  | .mulW .. | .divW .. | .divnW .. | .remW .. | .remnW .. | .clz .. | .ctz .. | .popc .. | .sel .. | .lea .. | .addi ..
  | .andi .. | .ori .. | .xori .. | .slti .. | .shli .. | .shri .. | .srai .. | .movi .. | .movhi .. | .ext ..
  | .ins .. => [1, 2]
  | .wrag .. | .wrmp .. | .wreng .. | .qgo .. | .rdsched .. | .rdgtime .. => [2]
  | .ldB .. | .ldH .. | .ldW .. | .ldD .. | .stB .. | .stH .. | .stW .. | .stD .. | .vld .. | .vst .. | .vldx ..
  | .vstx .. | .spldScalar .. | .spstScalar .. | .spldVector .. | .spstVector .. | .amoAdd .. | .amoAnd .. | .amoOr ..
  | .amoXor .. | .amoMin .. | .amoMax .. | .amoSwap .. | .amoCas .. | .bind .. | .acq .. | .rel .. => [3]
  | .vmul .. | .vmulh .. | .vmadd .. => [5]
  | .vadd .. | .vsub .. | .vand .. | .vor .. | .vxor .. | .vshl .. | .vshr .. | .vsra .. | .vmin .. | .vmax .. | .vabs ..
  | .vfadd .. | .vfsub .. | .vfmul .. | .vfmin .. | .vfmax .. | .vfabs .. | .vfneg .. | .vfma .. | .vfms .. | .vfnma ..
  | .vfrcp .. | .vfrsq .. | .vfexp2 .. | .vflog2 .. | .vcmp .. | .vfcmp .. | .vfclass .. | .vsel .. | .vperm ..
  | .vslide .. | .vrot .. | .vbcast .. | .vext .. | .vins .. | .vredadd .. | .vredmin .. | .vredmax .. | .vfredadd ..
  | .pand .. | .por .. | .pxor .. | .pnot .. | .pset .. | .pclr .. | .pcnt .. | .pfirst .. | .vsig .. | .vsigset ..
  | .vsiglt .. | .sigmin .. | .vzmask .. => [4, 5]
  | .mma .. | .mmaBin .. | .mzero .. | .mrd .. | .mwr .. | .mld .. | .mcall .. | .cpy .. | .cpyg .. | .cpys .. | .cpyf ..
  | .ovl .. | .gamoAdd .. | .gamoAnd .. | .gamoOr .. | .gamoXor .. | .gamoMin .. | .gamoMax .. | .gamoSwap ..
  | .gamoCas .. | .gamoAcqAdd .. | .gamoAcqAnd .. | .gamoAcqOr .. | .gamoAcqXor .. | .gamoAcqMin .. | .gamoAcqMax ..
  | .gamoAcqSwap .. | .gamoAcqCas .. | .gamoRelAdd .. | .gamoRelAnd .. | .gamoRelOr .. | .gamoRelXor ..
  | .gamoRelMin .. | .gamoRelMax .. | .gamoRelSwap .. | .gamoRelCas .. | .fsend .. | .frecv .. | .frecvAddF32 ..
  | .frecvAddBf16 .. | .frecvMaxF32 .. | .lnch .. | .cwait => [6]
  | .vsigCv .. | .vsigsetCv .. | .vsigltCv .. | .sigminCv .. | .vzmaskCv .. | .vcvt .. | .vpack .. | .vunpack ..
  | .vcbdec .. | .vscale .. => [7]
  | _ => []

end Sys2Proof
end

