-- ==== Sys2Proof/Decode.lean ====
section
/-! DEFINITION. Decoding of syllables by slot class, and the encoder (04_encoding.md R82 to R104).

`decodeSlot k w` reads the syllable `w` of slot `k`. It is total and answers `none` exactly where the syllable raises
ILLOP for its encoding alone (R84). `encode` writes the word of a syllable from the same encoding tables. -/

namespace Sys2Proof

/-- Bits [lo+n-1:lo] of a syllable as a number. -/
def bits (w : BitVec 32) (lo n : Nat) : Nat := w.toNat / 2 ^ lo % 2 ^ n

/-- Bits [lo+n-1:lo] of a syllable as an operand field. -/
def fld (w : BitVec 32) (lo n : Nat) : BitVec n := BitVec.ofNat n (w.toNat / 2 ^ lo)

/-- The CTRL map, slot 0 (R93). -/
def decodeCtrl (w : BitVec 32) : Option Instr :=
  match bits w 26 6 with
  | 1 =>
      some (.brZ (fld w 21 5) (fld w 0 21))
  | 2 =>
      some (.brNz (fld w 21 5) (fld w 0 21))
  | 3 =>
      some (.brLz (fld w 21 5) (fld w 0 21))
  | 4 =>
      some (.brGez (fld w 21 5) (fld w 0 21))
  | 5 =>
      some (.brP (fld w 21 5) (fld w 0 21))
  | 6 =>
      some (.brAny (fld w 21 5) (fld w 0 21))
  | 7 =>
      some (.brAll (fld w 21 5) (fld w 0 21))
  | 8 =>
      some (.brNone (fld w 21 5) (fld w 0 21))
  | 9 =>
      if bits w 21 5 = 0 then some (.jmp (fld w 0 21))
      else none
  | 10 =>
      if bits w 21 5 = 0 then some (.call (fld w 0 21))
      else none
  | 11 =>
      if bits w 21 5 = 0 ∧ bits w 0 16 = 0 then some (.jmpi (fld w 16 5))
      else none
  | 12 =>
      if bits w 21 5 = 0 ∧ bits w 0 16 = 0 then some (.calli (fld w 16 5))
      else none
  | 13 =>
      if bits w 0 26 = 0 then some .ret
      else none
  | 14 =>
      if bits w 12 4 = 0 then some (.zloop (fld w 21 5) (fld w 16 5) (fld w 0 12))
      else none
  | 15 =>
      if bits w 0 9 = 0 then some (.ploop (fld w 21 5) (fld w 16 5) (fld w 12 4) (fld w 9 3))
      else none
  | 16 =>
      if bits w 21 5 = 0 ∧ bits w 0 16 = 0 then some (.lbrk (fld w 16 5))
      else none
  | 17 =>
      if bits w 21 5 = 0 then some (.waitt (fld w 16 5) (fld w 0 16))
      else none
  | 18 =>
      if bits w 21 5 = 0 then some (.waitg (fld w 16 5) (fld w 0 16))
      else none
  | 19 =>
      if bits w 3 23 = 0 then some (.syncb (fld w 0 3))
      else none
  | 20 =>
      if bits w 16 10 = 0 then some (.trap (fld w 0 16))
      else none
  | 21 =>
      if bits w 0 26 = 0 then some .tret
      else none
  | 22 =>
      if bits w 0 26 = 0 then some .halt
      else none
  | 23 =>
      if bits w 8 13 = 0 then some (.rdsys (fld w 21 5) (fld w 0 8))
      else none
  | 24 =>
      if bits w 21 5 = 0 ∧ bits w 8 8 = 0 then some (.wrsys (fld w 16 5) (fld w 0 8))
      else none
  | 25 =>
      if bits w 6 20 = 0 then some (.fenceq (fld w 0 6))
      else none
  | 26 =>
      if bits w 16 10 = 0 then some (.brk (fld w 0 16))
      else none
  | 27 =>
      if bits w 21 5 = 0 ∧ bits w 0 16 = 0 then some (.rngseed (fld w 16 5))
      else none
  | _ => none

/-- The SA map, slot 1, whose cells SB shares (R94, R95). -/
def decodeSa (w : BitVec 32) : Option Instr :=
  match bits w 26 6 with
  | 1 =>
      if bits w 0 11 = 0 then some (.add (fld w 21 5) (fld w 16 5) (fld w 11 5))
      else if bits w 0 11 = 1 then some (.sub (fld w 21 5) (fld w 16 5) (fld w 11 5))
      else if bits w 0 11 = 2 then some (.and (fld w 21 5) (fld w 16 5) (fld w 11 5))
      else if bits w 0 11 = 3 then some (.or (fld w 21 5) (fld w 16 5) (fld w 11 5))
      else if bits w 0 11 = 4 then some (.xor (fld w 21 5) (fld w 16 5) (fld w 11 5))
      else if bits w 0 11 = 5 then some (.shl (fld w 21 5) (fld w 16 5) (fld w 11 5))
      else if bits w 0 11 = 6 then some (.shr (fld w 21 5) (fld w 16 5) (fld w 11 5))
      else if bits w 0 11 = 7 then some (.sra (fld w 21 5) (fld w 16 5) (fld w 11 5))
      else if bits w 0 11 = 8 then some (.slt (fld w 21 5) (fld w 16 5) (fld w 11 5))
      else if bits w 0 11 = 9 then some (.sltn (fld w 21 5) (fld w 16 5) (fld w 11 5))
      else if bits w 0 11 = 10 then some (.min (fld w 21 5) (fld w 16 5) (fld w 11 5))
      else if bits w 0 11 = 11 then some (.max (fld w 21 5) (fld w 16 5) (fld w 11 5))
      else if bits w 0 11 = 12 then some (.minn (fld w 21 5) (fld w 16 5) (fld w 11 5))
      else if bits w 0 11 = 13 then some (.maxn (fld w 21 5) (fld w 16 5) (fld w 11 5))
      else if bits w 0 11 = 16 then some (.addW (fld w 21 5) (fld w 16 5) (fld w 11 5))
      else if bits w 0 11 = 17 then some (.subW (fld w 21 5) (fld w 16 5) (fld w 11 5))
      else none
  | 2 =>
      if bits w 0 11 = 0 then some (.mul (fld w 21 5) (fld w 16 5) (fld w 11 5))
      else if bits w 0 11 = 1 then some (.mulh (fld w 21 5) (fld w 16 5) (fld w 11 5))
      else if bits w 0 11 = 2 then some (.mulhn (fld w 21 5) (fld w 16 5) (fld w 11 5))
      else if bits w 0 11 = 3 then some (.div (fld w 21 5) (fld w 16 5) (fld w 11 5))
      else if bits w 0 11 = 4 then some (.divn (fld w 21 5) (fld w 16 5) (fld w 11 5))
      else if bits w 0 11 = 5 then some (.rem (fld w 21 5) (fld w 16 5) (fld w 11 5))
      else if bits w 0 11 = 6 then some (.remn (fld w 21 5) (fld w 16 5) (fld w 11 5))
      else if bits w 0 11 = 8 then some (.mulW (fld w 21 5) (fld w 16 5) (fld w 11 5))
      else if bits w 0 11 = 11 then some (.divW (fld w 21 5) (fld w 16 5) (fld w 11 5))
      else if bits w 0 11 = 12 then some (.divnW (fld w 21 5) (fld w 16 5) (fld w 11 5))
      else if bits w 0 11 = 13 then some (.remW (fld w 21 5) (fld w 16 5) (fld w 11 5))
      else if bits w 0 11 = 14 then some (.remnW (fld w 21 5) (fld w 16 5) (fld w 11 5))
      else none
  | 3 =>
      if bits w 0 16 = 0 then some (.clz (fld w 21 5) (fld w 16 5))
      else if bits w 0 16 = 1 then some (.ctz (fld w 21 5) (fld w 16 5))
      else if bits w 0 16 = 2 then some (.popc (fld w 21 5) (fld w 16 5))
      else none
  | 4 =>
      if bits w 0 6 = 0 then some (.sel (fld w 21 5) (fld w 16 5) (fld w 11 5) (fld w 6 5))
      else none
  | 5 =>
      if bits w 2 9 = 0 then some (.lea (fld w 21 5) (fld w 16 5) (fld w 11 5) (fld w 0 2))
      else none
  | 8 =>
      some (.addi (fld w 21 5) (fld w 16 5) (fld w 0 16))
  | 9 =>
      some (.andi (fld w 21 5) (fld w 16 5) (fld w 0 16))
  | 10 =>
      some (.ori (fld w 21 5) (fld w 16 5) (fld w 0 16))
  | 11 =>
      some (.xori (fld w 21 5) (fld w 16 5) (fld w 0 16))
  | 12 =>
      some (.slti (fld w 21 5) (fld w 16 5) (fld w 0 16))
  | 13 =>
      if bits w 6 10 = 0 then some (.shli (fld w 21 5) (fld w 16 5) (fld w 0 6))
      else none
  | 14 =>
      if bits w 6 10 = 0 then some (.shri (fld w 21 5) (fld w 16 5) (fld w 0 6))
      else none
  | 15 =>
      if bits w 6 10 = 0 then some (.srai (fld w 21 5) (fld w 16 5) (fld w 0 6))
      else none
  | 16 =>
      if bits w 16 5 = 0 then some (.movi (fld w 21 5) (fld w 0 16))
      else none
  | 17 =>
      if bits w 18 3 = 0 then some (.movhi (fld w 21 5) (fld w 16 2) (fld w 0 16))
      else none
  | 18 =>
      if bits w 12 4 = 0 then some (.ext (fld w 21 5) (fld w 16 5) (fld w 6 6) (fld w 0 6))
      else none
  | 19 =>
      if bits w 12 4 = 0 then some (.ins (fld w 21 5) (fld w 16 5) (fld w 6 6) (fld w 0 6))
      else none
  | _ => none

/-- The SB map, slot 2: the cells of SA and its own (R94). -/
def decodeSb (w : BitVec 32) : Option Instr :=
  match bits w 26 6 with
  | 32 =>
      if bits w 5 11 = 0 then some (.wrag (fld w 21 5) (fld w 16 5) (fld w 0 5))
      else none
  | 33 =>
      if bits w 0 16 = 0 then some (.wrmp (fld w 21 5) (fld w 16 5))
      else none
  | 34 =>
      if bits w 21 5 = 0 ∧ bits w 8 8 = 0 then some (.wreng (fld w 16 5) (fld w 0 8))
      else none
  | 35 =>
      if bits w 24 2 = 0 ∧ bits w 19 2 = 0 ∧ bits w 11 5 = 0 then some (.qgo (fld w 21 3) (fld w 16 3) (fld w 0 11))
      else none
  | 36 =>
      if bits w 0 21 = 0 then some (.rdsched (fld w 21 5))
      else none
  | 37 =>
      if bits w 0 21 = 0 then some (.rdgtime (fld w 21 5))
      else none
  | _ => decodeSa w

/-- The LS map, slot 3 (R96). -/
def decodeLs (w : BitVec 32) : Option Instr :=
  match bits w 26 6 with
  | 1 =>
      some (.ldB (fld w 21 5) (fld w 16 5) (fld w 0 16))
  | 2 =>
      some (.ldH (fld w 21 5) (fld w 16 5) (fld w 0 16))
  | 3 =>
      some (.ldW (fld w 21 5) (fld w 16 5) (fld w 0 16))
  | 4 =>
      some (.ldD (fld w 21 5) (fld w 16 5) (fld w 0 16))
  | 5 =>
      some (.stB (fld w 21 5) (fld w 16 5) (fld w 0 16))
  | 6 =>
      some (.stH (fld w 21 5) (fld w 16 5) (fld w 0 16))
  | 7 =>
      some (.stW (fld w 21 5) (fld w 16 5) (fld w 0 16))
  | 8 =>
      some (.stD (fld w 21 5) (fld w 16 5) (fld w 0 16))
  | 9 =>
      some (.vld (fld w 21 5) (fld w 16 5) (fld w 0 16))
  | 10 =>
      some (.vst (fld w 21 5) (fld w 16 5) (fld w 0 16))
  | 11 =>
      if bits w 0 8 = 0 then some (.vldx (fld w 21 5) (fld w 16 5) (fld w 11 5) (fld w 8 3))
      else none
  | 12 =>
      if bits w 0 8 = 0 then some (.vstx (fld w 21 5) (fld w 16 5) (fld w 11 5) (fld w 8 3))
      else none
  | 13 =>
      some (.spldScalar (fld w 21 5) (fld w 16 5) (fld w 0 16))
  | 14 =>
      some (.spstScalar (fld w 21 5) (fld w 16 5) (fld w 0 16))
  | 15 =>
      some (.spldVector (fld w 21 5) (fld w 16 5) (fld w 0 16))
  | 16 =>
      some (.spstVector (fld w 21 5) (fld w 16 5) (fld w 0 16))
  | 17 =>
      if bits w 4 7 = 0 ∧ bits w 0 3 = 0 then some (.amoAdd (fld w 21 5) (fld w 16 5) (fld w 11 5) (fld w 3 1))
      else if bits w 4 7 = 0 ∧ bits w 0 3 = 1 then some (.amoAnd (fld w 21 5) (fld w 16 5) (fld w 11 5) (fld w 3 1))
      else if bits w 4 7 = 0 ∧ bits w 0 3 = 2 then some (.amoOr (fld w 21 5) (fld w 16 5) (fld w 11 5) (fld w 3 1))
      else if bits w 4 7 = 0 ∧ bits w 0 3 = 3 then some (.amoXor (fld w 21 5) (fld w 16 5) (fld w 11 5) (fld w 3 1))
      else if bits w 4 7 = 0 ∧ bits w 0 3 = 4 then some (.amoMin (fld w 21 5) (fld w 16 5) (fld w 11 5) (fld w 3 1))
      else if bits w 4 7 = 0 ∧ bits w 0 3 = 5 then some (.amoMax (fld w 21 5) (fld w 16 5) (fld w 11 5) (fld w 3 1))
      else if bits w 4 7 = 0 ∧ bits w 0 3 = 6 then some (.amoSwap (fld w 21 5) (fld w 16 5) (fld w 11 5) (fld w 3 1))
      else if bits w 4 2 = 0 ∧ bits w 0 3 = 7 then some (.amoCas (fld w 21 5) (fld w 16 5) (fld w 11 5) (fld w 6 5) (fld w 3 1))
      else none
  | 18 =>
      if bits w 0 11 = 0 then some (.bind (fld w 21 5) (fld w 16 5) (fld w 11 5))
      else none
  | 19 =>
      if bits w 21 5 = 0 ∧ bits w 3 13 = 0 then some (.acq (fld w 16 5) (fld w 0 3))
      else none
  | 20 =>
      if bits w 21 5 = 0 ∧ bits w 3 13 = 0 then some (.rel (fld w 16 5) (fld w 0 3))
      else none
  | _ => none

/-- The VA map, slot 4, whose cells VB shares (R97, R98). -/
def decodeVa (w : BitVec 32) : Option Instr :=
  match bits w 26 6 with
  | 1 =>
      if bits w 0 4 = 0 then some (.vadd (fld w 21 5) (fld w 16 5) (fld w 11 5) (fld w 8 3) (fld w 4 4))
      else if bits w 0 4 = 1 then some (.vsub (fld w 21 5) (fld w 16 5) (fld w 11 5) (fld w 8 3) (fld w 4 4))
      else if bits w 0 4 = 2 then some (.vand (fld w 21 5) (fld w 16 5) (fld w 11 5) (fld w 8 3) (fld w 4 4))
      else if bits w 0 4 = 3 then some (.vor (fld w 21 5) (fld w 16 5) (fld w 11 5) (fld w 8 3) (fld w 4 4))
      else if bits w 0 4 = 4 then some (.vxor (fld w 21 5) (fld w 16 5) (fld w 11 5) (fld w 8 3) (fld w 4 4))
      else if bits w 0 4 = 5 then some (.vshl (fld w 21 5) (fld w 16 5) (fld w 11 5) (fld w 8 3) (fld w 4 4))
      else if bits w 0 4 = 6 then some (.vshr (fld w 21 5) (fld w 16 5) (fld w 11 5) (fld w 8 3) (fld w 4 4))
      else if bits w 0 4 = 7 then some (.vsra (fld w 21 5) (fld w 16 5) (fld w 11 5) (fld w 8 3) (fld w 4 4))
      else if bits w 0 4 = 8 then some (.vmin (fld w 21 5) (fld w 16 5) (fld w 11 5) (fld w 8 3) (fld w 4 4))
      else if bits w 0 4 = 9 then some (.vmax (fld w 21 5) (fld w 16 5) (fld w 11 5) (fld w 8 3) (fld w 4 4))
      else if bits w 11 5 = 0 ∧ bits w 0 4 = 10 then some (.vabs (fld w 21 5) (fld w 16 5) (fld w 8 3) (fld w 4 4))
      else none
  | 4 =>
      if bits w 0 4 = 0 then some (.vfadd (fld w 21 5) (fld w 16 5) (fld w 11 5) (fld w 8 3) (fld w 4 4))
      else if bits w 0 4 = 1 then some (.vfsub (fld w 21 5) (fld w 16 5) (fld w 11 5) (fld w 8 3) (fld w 4 4))
      else if bits w 0 4 = 2 then some (.vfmul (fld w 21 5) (fld w 16 5) (fld w 11 5) (fld w 8 3) (fld w 4 4))
      else if bits w 0 4 = 3 then some (.vfmin (fld w 21 5) (fld w 16 5) (fld w 11 5) (fld w 8 3) (fld w 4 4))
      else if bits w 0 4 = 4 then some (.vfmax (fld w 21 5) (fld w 16 5) (fld w 11 5) (fld w 8 3) (fld w 4 4))
      else if bits w 11 5 = 0 ∧ bits w 0 4 = 5 then some (.vfabs (fld w 21 5) (fld w 16 5) (fld w 8 3) (fld w 4 4))
      else if bits w 11 5 = 0 ∧ bits w 0 4 = 6 then some (.vfneg (fld w 21 5) (fld w 16 5) (fld w 8 3) (fld w 4 4))
      else none
  | 5 =>
      some (.vfma (fld w 21 5) (fld w 16 5) (fld w 11 5) (fld w 6 5) (fld w 3 3) (fld w 0 3))
  | 6 =>
      some (.vfms (fld w 21 5) (fld w 16 5) (fld w 11 5) (fld w 6 5) (fld w 3 3) (fld w 0 3))
  | 7 =>
      some (.vfnma (fld w 21 5) (fld w 16 5) (fld w 11 5) (fld w 6 5) (fld w 3 3) (fld w 0 3))
  | 8 =>
      if bits w 11 5 = 0 ∧ bits w 0 8 = 0 then some (.vfrcp (fld w 21 5) (fld w 16 5) (fld w 8 3))
      else if bits w 11 5 = 0 ∧ bits w 0 8 = 1 then some (.vfrsq (fld w 21 5) (fld w 16 5) (fld w 8 3))
      else if bits w 11 5 = 0 ∧ bits w 0 8 = 2 then some (.vfexp2 (fld w 21 5) (fld w 16 5) (fld w 8 3))
      else if bits w 11 5 = 0 ∧ bits w 0 8 = 3 then some (.vflog2 (fld w 21 5) (fld w 16 5) (fld w 8 3))
      else none
  | 9 =>
      some (.vcmp (fld w 21 5) (fld w 16 5) (fld w 11 5) (fld w 8 3) (fld w 4 4) (fld w 0 4))
  | 10 =>
      if bits w 4 4 = 0 then some (.vfcmp (fld w 21 5) (fld w 16 5) (fld w 11 5) (fld w 8 3) (fld w 0 4))
      else none
  | 11 =>
      if bits w 11 5 = 0 ∧ bits w 0 8 = 0 then some (.vfclass (fld w 21 5) (fld w 16 5) (fld w 8 3))
      else none
  | 12 =>
      if bits w 0 3 = 0 then some (.vsel (fld w 21 5) (fld w 16 5) (fld w 11 5) (fld w 6 5) (fld w 3 3))
      else none
  | 13 =>
      if bits w 0 8 = 0 then some (.vperm (fld w 21 5) (fld w 16 5) (fld w 11 5) (fld w 8 3))
      else none
  | 14 =>
      if bits w 0 3 = 0 then some (.vslide (fld w 21 5) (fld w 16 5) (fld w 11 5) (fld w 6 5) (fld w 3 3))
      else none
  | 15 =>
      if bits w 11 5 = 0 ∧ bits w 0 3 = 0 then some (.vrot (fld w 21 5) (fld w 16 5) (fld w 6 5) (fld w 3 3))
      else none
  | 16 =>
      if bits w 11 5 = 0 ∧ bits w 0 8 = 0 then some (.vbcast (fld w 21 5) (fld w 16 5) (fld w 8 3))
      else none
  | 17 =>
      if bits w 0 11 = 0 then some (.vext (fld w 21 5) (fld w 16 5) (fld w 11 5))
      else none
  | 18 =>
      if bits w 0 11 = 0 then some (.vins (fld w 21 5) (fld w 16 5) (fld w 11 5))
      else none
  | 19 =>
      if bits w 11 5 = 0 ∧ bits w 0 4 = 0 then some (.vredadd (fld w 21 5) (fld w 16 5) (fld w 8 3) (fld w 4 4))
      else if bits w 11 5 = 0 ∧ bits w 0 4 = 1 then some (.vredmin (fld w 21 5) (fld w 16 5) (fld w 8 3) (fld w 4 4))
      else if bits w 11 5 = 0 ∧ bits w 0 4 = 2 then some (.vredmax (fld w 21 5) (fld w 16 5) (fld w 8 3) (fld w 4 4))
      else if bits w 11 5 = 0 ∧ bits w 0 8 = 3 then some (.vfredadd (fld w 21 5) (fld w 16 5) (fld w 8 3))
      else none
  | 20 =>
      if bits w 0 8 = 0 then some (.pand (fld w 21 5) (fld w 16 5) (fld w 11 5) (fld w 8 3))
      else if bits w 0 8 = 1 then some (.por (fld w 21 5) (fld w 16 5) (fld w 11 5) (fld w 8 3))
      else if bits w 0 8 = 2 then some (.pxor (fld w 21 5) (fld w 16 5) (fld w 11 5) (fld w 8 3))
      else if bits w 11 5 = 0 ∧ bits w 0 8 = 3 then some (.pnot (fld w 21 5) (fld w 16 5) (fld w 8 3))
      else if bits w 11 10 = 0 ∧ bits w 0 8 = 4 then some (.pset (fld w 21 5) (fld w 8 3))
      else if bits w 11 10 = 0 ∧ bits w 0 8 = 5 then some (.pclr (fld w 21 5) (fld w 8 3))
      else if bits w 11 5 = 0 ∧ bits w 0 8 = 6 then some (.pcnt (fld w 21 5) (fld w 16 5) (fld w 8 3))
      else if bits w 11 5 = 0 ∧ bits w 0 8 = 7 then some (.pfirst (fld w 21 5) (fld w 16 5) (fld w 8 3))
      else none
  | 21 =>
      if bits w 11 5 = 0 ∧ bits w 0 8 = 0 then some (.vsig (fld w 21 5) (fld w 16 5) (fld w 8 3))
      else if bits w 0 4 = 1 then some (.vsigset (fld w 21 5) (fld w 16 5) (fld w 11 5) (fld w 8 3) (fld w 4 4))
      else if bits w 0 8 = 2 then some (.vsiglt (fld w 21 5) (fld w 16 5) (fld w 11 5) (fld w 8 3))
      else if bits w 11 5 = 0 ∧ bits w 0 8 = 3 then some (.sigmin (fld w 21 5) (fld w 16 5) (fld w 8 3))
      else if bits w 11 5 = 0 ∧ bits w 0 8 = 4 then some (.vzmask (fld w 21 5) (fld w 16 5) (fld w 8 3))
      else none
  | _ => none

/-- The VB map, slot 5: the cells of VA and the integer multiplier (R92, R97). -/
def decodeVb (w : BitVec 32) : Option Instr :=
  match bits w 26 6 with
  | 2 =>
      if bits w 0 4 = 0 then some (.vmul (fld w 21 5) (fld w 16 5) (fld w 11 5) (fld w 8 3) (fld w 4 4))
      else if bits w 0 4 = 1 then some (.vmulh (fld w 21 5) (fld w 16 5) (fld w 11 5) (fld w 8 3) (fld w 4 4))
      else none
  | 3 =>
      some (.vmadd (fld w 21 5) (fld w 16 5) (fld w 11 5) (fld w 6 5) (fld w 3 3) (fld w 0 3))
  | _ => decodeVa w

/-- The CV map, slot 7 (R99). -/
def decodeCv (w : BitVec 32) : Option Instr :=
  match bits w 26 6 with
  | 1 =>
      if bits w 15 1 = 0 then some (.vcvt (fld w 21 5) (fld w 16 5) (fld w 11 4) (fld w 8 3) (fld w 4 4) (fld w 0 4))
      else none
  | 2 =>
      some (.vpack (fld w 21 5) (fld w 16 5) (fld w 11 5) (fld w 8 3) (fld w 4 4) (fld w 0 4))
  | 3 =>
      if bits w 11 5 = 0 then some (.vunpack (fld w 21 5) (fld w 16 5) (fld w 8 3) (fld w 4 4) (fld w 0 4))
      else none
  | 4 =>
      if bits w 11 5 = 0 then some (.vcbdec (fld w 21 5) (fld w 16 5) (fld w 8 3) (fld w 4 4) (fld w 0 4))
      else none
  | 5 =>
      some (.vscale (fld w 21 5) (fld w 16 5) (fld w 11 5) (fld w 8 3) (fld w 4 4) (fld w 0 4))
  | 6 =>
      if bits w 11 5 = 0 ∧ bits w 0 8 = 0 then some (.vsigCv (fld w 21 5) (fld w 16 5) (fld w 8 3))
      else if bits w 0 4 = 1 then some (.vsigsetCv (fld w 21 5) (fld w 16 5) (fld w 11 5) (fld w 8 3) (fld w 4 4))
      else if bits w 0 8 = 2 then some (.vsigltCv (fld w 21 5) (fld w 16 5) (fld w 11 5) (fld w 8 3))
      else if bits w 11 5 = 0 ∧ bits w 0 8 = 3 then some (.sigminCv (fld w 21 5) (fld w 16 5) (fld w 8 3))
      else if bits w 11 5 = 0 ∧ bits w 0 8 = 4 then some (.vzmaskCv (fld w 21 5) (fld w 16 5) (fld w 8 3))
      else none
  | _ => none

/-- The MX map, slot 6 (R100, R101). -/
def decodeMx (w : BitVec 32) : Option Instr :=
  match bits w 26 6 with
  | 1 =>
      some (.mma (fld w 24 2) (fld w 18 6) (fld w 15 3) (fld w 10 5) (fld w 5 5) (fld w 4 1) (fld w 3 1) (fld w 0 3))
  | 2 =>
      some (.mmaBin (fld w 24 2) (fld w 18 6) (fld w 15 3) (fld w 10 5) (fld w 5 5) (fld w 4 1) (fld w 3 1) (fld w 0 3))
  | 3 =>
      if bits w 0 15 = 0 then some (.mzero (fld w 24 2) (fld w 18 6) (fld w 15 3))
      else none
  | 4 =>
      if bits w 4 1 = 0 then some (.mrd (fld w 24 2) (fld w 18 6) (fld w 15 3) (fld w 10 5) (fld w 5 5) (fld w 0 4))
      else none
  | 5 =>
      if bits w 4 6 = 0 then some (.mwr (fld w 24 2) (fld w 18 6) (fld w 15 3) (fld w 10 5) (fld w 0 4))
      else none
  | 6 =>
      if bits w 24 2 = 1 ∧ bits w 17 1 = 0 ∧ bits w 0 10 = 0 then some (.mld (fld w 18 6) (fld w 15 2) (fld w 10 5))
      else none
  | 7 =>
      if bits w 8 8 = 0 then some (.mcall (fld w 21 5) (fld w 16 5) (fld w 0 8))
      else none
  | 8 =>
      some (.cpy (fld w 25 1) (fld w 23 2) (fld w 21 2) (fld w 16 5) (fld w 11 5) (fld w 0 11))
  | 9 =>
      if bits w 21 2 = 0 then some (.cpyg (fld w 25 1) (fld w 23 2) (fld w 16 5) (fld w 11 5) (fld w 0 11))
      else none
  | 10 =>
      if bits w 21 2 = 0 then some (.cpys (fld w 25 1) (fld w 23 2) (fld w 16 5) (fld w 11 5) (fld w 0 11))
      else none
  | 11 =>
      if bits w 11 5 = 0 then some (.cpyf (fld w 25 1) (fld w 23 2) (fld w 21 2) (fld w 16 5) (fld w 0 11))
      else none
  | 12 =>
      if bits w 21 4 = 0 then some (.ovl (fld w 25 1) (fld w 16 5) (fld w 11 5) (fld w 0 11))
      else none
  | 13 =>
      if bits w 25 1 = 0 ∧ bits w 21 3 = 0 then some (.gamoAdd (fld w 24 1) (fld w 16 5) (fld w 11 5) (fld w 0 11))
      else if bits w 25 1 = 0 ∧ bits w 21 3 = 1 then some (.gamoAnd (fld w 24 1) (fld w 16 5) (fld w 11 5) (fld w 0 11))
      else if bits w 25 1 = 0 ∧ bits w 21 3 = 2 then some (.gamoOr (fld w 24 1) (fld w 16 5) (fld w 11 5) (fld w 0 11))
      else if bits w 25 1 = 0 ∧ bits w 21 3 = 3 then some (.gamoXor (fld w 24 1) (fld w 16 5) (fld w 11 5) (fld w 0 11))
      else if bits w 25 1 = 0 ∧ bits w 21 3 = 4 then some (.gamoMin (fld w 24 1) (fld w 16 5) (fld w 11 5) (fld w 0 11))
      else if bits w 25 1 = 0 ∧ bits w 21 3 = 5 then some (.gamoMax (fld w 24 1) (fld w 16 5) (fld w 11 5) (fld w 0 11))
      else if bits w 25 1 = 0 ∧ bits w 21 3 = 6 then some (.gamoSwap (fld w 24 1) (fld w 16 5) (fld w 11 5) (fld w 0 11))
      else if bits w 25 1 = 0 ∧ bits w 21 3 = 7 then some (.gamoCas (fld w 24 1) (fld w 16 5) (fld w 11 5) (fld w 0 11))
      else none
  | 14 =>
      if bits w 25 1 = 0 ∧ bits w 21 3 = 0 then some (.gamoAcqAdd (fld w 24 1) (fld w 16 5) (fld w 11 5) (fld w 0 11))
      else if bits w 25 1 = 0 ∧ bits w 21 3 = 1 then some (.gamoAcqAnd (fld w 24 1) (fld w 16 5) (fld w 11 5) (fld w 0 11))
      else if bits w 25 1 = 0 ∧ bits w 21 3 = 2 then some (.gamoAcqOr (fld w 24 1) (fld w 16 5) (fld w 11 5) (fld w 0 11))
      else if bits w 25 1 = 0 ∧ bits w 21 3 = 3 then some (.gamoAcqXor (fld w 24 1) (fld w 16 5) (fld w 11 5) (fld w 0 11))
      else if bits w 25 1 = 0 ∧ bits w 21 3 = 4 then some (.gamoAcqMin (fld w 24 1) (fld w 16 5) (fld w 11 5) (fld w 0 11))
      else if bits w 25 1 = 0 ∧ bits w 21 3 = 5 then some (.gamoAcqMax (fld w 24 1) (fld w 16 5) (fld w 11 5) (fld w 0 11))
      else if bits w 25 1 = 0 ∧ bits w 21 3 = 6 then some (.gamoAcqSwap (fld w 24 1) (fld w 16 5) (fld w 11 5) (fld w 0 11))
      else if bits w 25 1 = 0 ∧ bits w 21 3 = 7 then some (.gamoAcqCas (fld w 24 1) (fld w 16 5) (fld w 11 5) (fld w 0 11))
      else none
  | 15 =>
      if bits w 25 1 = 0 ∧ bits w 21 3 = 0 then some (.gamoRelAdd (fld w 24 1) (fld w 16 5) (fld w 11 5) (fld w 0 11))
      else if bits w 25 1 = 0 ∧ bits w 21 3 = 1 then some (.gamoRelAnd (fld w 24 1) (fld w 16 5) (fld w 11 5) (fld w 0 11))
      else if bits w 25 1 = 0 ∧ bits w 21 3 = 2 then some (.gamoRelOr (fld w 24 1) (fld w 16 5) (fld w 11 5) (fld w 0 11))
      else if bits w 25 1 = 0 ∧ bits w 21 3 = 3 then some (.gamoRelXor (fld w 24 1) (fld w 16 5) (fld w 11 5) (fld w 0 11))
      else if bits w 25 1 = 0 ∧ bits w 21 3 = 4 then some (.gamoRelMin (fld w 24 1) (fld w 16 5) (fld w 11 5) (fld w 0 11))
      else if bits w 25 1 = 0 ∧ bits w 21 3 = 5 then some (.gamoRelMax (fld w 24 1) (fld w 16 5) (fld w 11 5) (fld w 0 11))
      else if bits w 25 1 = 0 ∧ bits w 21 3 = 6 then some (.gamoRelSwap (fld w 24 1) (fld w 16 5) (fld w 11 5) (fld w 0 11))
      else if bits w 25 1 = 0 ∧ bits w 21 3 = 7 then some (.gamoRelCas (fld w 24 1) (fld w 16 5) (fld w 11 5) (fld w 0 11))
      else none
  | 16 =>
      if bits w 21 5 = 0 then some (.fsend (fld w 16 5) (fld w 11 5) (fld w 0 11))
      else none
  | 17 =>
      if bits w 21 5 = 0 ∧ bits w 11 5 = 0 then some (.frecv (fld w 16 5) (fld w 0 11))
      else if bits w 21 5 = 1 then some (.frecvAddF32 (fld w 16 5) (fld w 11 5) (fld w 0 11))
      else if bits w 21 5 = 2 then some (.frecvAddBf16 (fld w 16 5) (fld w 11 5) (fld w 0 11))
      else if bits w 21 5 = 3 then some (.frecvMaxF32 (fld w 16 5) (fld w 11 5) (fld w 0 11))
      else none
  | 18 =>
      if bits w 21 5 = 0 then some (.lnch (fld w 16 5) (fld w 11 5) (fld w 0 11))
      else none
  | 19 =>
      if bits w 0 26 = 0 then some .cwait
      else none
  | _ => none

/-- The opcode map of slot `k`, before the operand ranges are checked (R83). The all-zero syllable is `nop` in every
class (R85). -/
def decodeMap (k : Nat) (w : BitVec 32) : Option Instr :=
  if w.toNat = 0 then some .nop
  else match k with
    | 0 => decodeCtrl w
    | 1 => decodeSa w
    | 2 => decodeSb w
    | 3 => decodeLs w
    | 4 => decodeVa w
    | 5 => decodeVb w
    | 6 => decodeMx w
    | 7 => decodeCv w
    | _ => none

/-- The syllable `w` of slot `k`, or `none` where it raises ILLOP for its encoding (R84). -/
def decodeSlot (k : Nat) (w : BitVec 32) : Option Instr :=
  match decodeMap k w with
  | some i => if i.wellFormed then some i else none
  | none => none

/-- The value of a syllable: the fixed bits `m` of its row and its fields, each with the place of its lowest bit. -/
def sylValue (m : Nat) : List (Nat × Nat) → Nat
  | [] => m
  | (v, lo) :: fs => v * 2 ^ lo + sylValue m fs

/-- The syllable of the fixed bits `m` and the fields `fs`. -/
def syl (m : Nat) (fs : List (Nat × Nat)) : BitVec 32 := BitVec.ofNat 32 (sylValue m fs)

/-- The word of an instruction: its fields at the places the opcode table gives them, over the fixed bits of its row
(R86 to R101). An event and an undecodable word have none. -/
def encode : Instr → Option (BitVec 32)
  | .nop => some 0#32
  | .brZ c o => some (syl 0x04000000 [(c.toNat, 21), (o.toNat, 0)])
  | .brNz c o => some (syl 0x08000000 [(c.toNat, 21), (o.toNat, 0)])
  | .brLz c o => some (syl 0x0C000000 [(c.toNat, 21), (o.toNat, 0)])
  | .brGez c o => some (syl 0x10000000 [(c.toNat, 21), (o.toNat, 0)])
  | .brP c o => some (syl 0x14000000 [(c.toNat, 21), (o.toNat, 0)])
  | .brAny c o => some (syl 0x18000000 [(c.toNat, 21), (o.toNat, 0)])
  | .brAll c o => some (syl 0x1C000000 [(c.toNat, 21), (o.toNat, 0)])
  | .brNone c o => some (syl 0x20000000 [(c.toNat, 21), (o.toNat, 0)])
  | .jmp o => some (syl 0x24000000 [(o.toNat, 0)])
  | .call o => some (syl 0x28000000 [(o.toNat, 0)])
  | .jmpi a => some (syl 0x2C000000 [(a.toNat, 16)])
  | .calli a => some (syl 0x30000000 [(a.toNat, 16)])
  | .ret => some (syl 0x34000000 [])
  | .zloop d a l => some (syl 0x38000000 [(d.toNat, 21), (a.toNat, 16), (l.toNat, 0)])
  | .ploop d a s i => some (syl 0x3C000000 [(d.toNat, 21), (a.toNat, 16), (s.toNat, 12), (i.toNat, 9)])
  | .lbrk a => some (syl 0x40000000 [(a.toNat, 16)])
  | .waitt a i => some (syl 0x44000000 [(a.toNat, 16), (i.toNat, 0)])
  | .waitg a i => some (syl 0x48000000 [(a.toNat, 16), (i.toNat, 0)])
  | .syncb l => some (syl 0x4C000000 [(l.toNat, 0)])
  | .trap i => some (syl 0x50000000 [(i.toNat, 0)])
  | .tret => some (syl 0x54000000 [])
  | .halt => some (syl 0x58000000 [])
  | .rdsys d n => some (syl 0x5C000000 [(d.toNat, 21), (n.toNat, 0)])
  | .wrsys a n => some (syl 0x60000000 [(a.toNat, 16), (n.toNat, 0)])
  | .fenceq m => some (syl 0x64000000 [(m.toNat, 0)])
  | .brk i => some (syl 0x68000000 [(i.toNat, 0)])
  | .rngseed a => some (syl 0x6C000000 [(a.toNat, 16)])
  | .add d a b => some (syl 0x04000000 [(d.toNat, 21), (a.toNat, 16), (b.toNat, 11)])
  | .sub d a b => some (syl 0x04000001 [(d.toNat, 21), (a.toNat, 16), (b.toNat, 11)])
  | .and d a b => some (syl 0x04000002 [(d.toNat, 21), (a.toNat, 16), (b.toNat, 11)])
  | .or d a b => some (syl 0x04000003 [(d.toNat, 21), (a.toNat, 16), (b.toNat, 11)])
  | .xor d a b => some (syl 0x04000004 [(d.toNat, 21), (a.toNat, 16), (b.toNat, 11)])
  | .shl d a b => some (syl 0x04000005 [(d.toNat, 21), (a.toNat, 16), (b.toNat, 11)])
  | .shr d a b => some (syl 0x04000006 [(d.toNat, 21), (a.toNat, 16), (b.toNat, 11)])
  | .sra d a b => some (syl 0x04000007 [(d.toNat, 21), (a.toNat, 16), (b.toNat, 11)])
  | .slt d a b => some (syl 0x04000008 [(d.toNat, 21), (a.toNat, 16), (b.toNat, 11)])
  | .sltn d a b => some (syl 0x04000009 [(d.toNat, 21), (a.toNat, 16), (b.toNat, 11)])
  | .min d a b => some (syl 0x0400000A [(d.toNat, 21), (a.toNat, 16), (b.toNat, 11)])
  | .max d a b => some (syl 0x0400000B [(d.toNat, 21), (a.toNat, 16), (b.toNat, 11)])
  | .minn d a b => some (syl 0x0400000C [(d.toNat, 21), (a.toNat, 16), (b.toNat, 11)])
  | .maxn d a b => some (syl 0x0400000D [(d.toNat, 21), (a.toNat, 16), (b.toNat, 11)])
  | .addW d a b => some (syl 0x04000010 [(d.toNat, 21), (a.toNat, 16), (b.toNat, 11)])
  | .subW d a b => some (syl 0x04000011 [(d.toNat, 21), (a.toNat, 16), (b.toNat, 11)])
  | .mul d a b => some (syl 0x08000000 [(d.toNat, 21), (a.toNat, 16), (b.toNat, 11)])
  | .mulh d a b => some (syl 0x08000001 [(d.toNat, 21), (a.toNat, 16), (b.toNat, 11)])
  | .mulhn d a b => some (syl 0x08000002 [(d.toNat, 21), (a.toNat, 16), (b.toNat, 11)])
  | .div d a b => some (syl 0x08000003 [(d.toNat, 21), (a.toNat, 16), (b.toNat, 11)])
  | .divn d a b => some (syl 0x08000004 [(d.toNat, 21), (a.toNat, 16), (b.toNat, 11)])
  | .rem d a b => some (syl 0x08000005 [(d.toNat, 21), (a.toNat, 16), (b.toNat, 11)])
  | .remn d a b => some (syl 0x08000006 [(d.toNat, 21), (a.toNat, 16), (b.toNat, 11)])
  | .mulW d a b => some (syl 0x08000008 [(d.toNat, 21), (a.toNat, 16), (b.toNat, 11)])
  | .divW d a b => some (syl 0x0800000B [(d.toNat, 21), (a.toNat, 16), (b.toNat, 11)])
  | .divnW d a b => some (syl 0x0800000C [(d.toNat, 21), (a.toNat, 16), (b.toNat, 11)])
  | .remW d a b => some (syl 0x0800000D [(d.toNat, 21), (a.toNat, 16), (b.toNat, 11)])
  | .remnW d a b => some (syl 0x0800000E [(d.toNat, 21), (a.toNat, 16), (b.toNat, 11)])
  | .clz d a => some (syl 0x0C000000 [(d.toNat, 21), (a.toNat, 16)])
  | .ctz d a => some (syl 0x0C000001 [(d.toNat, 21), (a.toNat, 16)])
  | .popc d a => some (syl 0x0C000002 [(d.toNat, 21), (a.toNat, 16)])
  | .sel d a b c => some (syl 0x10000000 [(d.toNat, 21), (a.toNat, 16), (b.toNat, 11), (c.toNat, 6)])
  | .lea d a b h => some (syl 0x14000000 [(d.toNat, 21), (a.toNat, 16), (b.toNat, 11), (h.toNat, 0)])
  | .addi d a i => some (syl 0x20000000 [(d.toNat, 21), (a.toNat, 16), (i.toNat, 0)])
  | .andi d a i => some (syl 0x24000000 [(d.toNat, 21), (a.toNat, 16), (i.toNat, 0)])
  | .ori d a i => some (syl 0x28000000 [(d.toNat, 21), (a.toNat, 16), (i.toNat, 0)])
  | .xori d a i => some (syl 0x2C000000 [(d.toNat, 21), (a.toNat, 16), (i.toNat, 0)])
  | .slti d a i => some (syl 0x30000000 [(d.toNat, 21), (a.toNat, 16), (i.toNat, 0)])
  | .shli d a h => some (syl 0x34000000 [(d.toNat, 21), (a.toNat, 16), (h.toNat, 0)])
  | .shri d a h => some (syl 0x38000000 [(d.toNat, 21), (a.toNat, 16), (h.toNat, 0)])
  | .srai d a h => some (syl 0x3C000000 [(d.toNat, 21), (a.toNat, 16), (h.toNat, 0)])
  | .movi d i => some (syl 0x40000000 [(d.toNat, 21), (i.toNat, 0)])
  | .movhi d k i => some (syl 0x44000000 [(d.toNat, 21), (k.toNat, 16), (i.toNat, 0)])
  | .ext d a l p => some (syl 0x48000000 [(d.toNat, 21), (a.toNat, 16), (l.toNat, 6), (p.toNat, 0)])
  | .ins d a l p => some (syl 0x4C000000 [(d.toNat, 21), (a.toNat, 16), (l.toNat, 6), (p.toNat, 0)])
  | .wrag d a s => some (syl 0x80000000 [(d.toNat, 21), (a.toNat, 16), (s.toNat, 0)])
  | .wrmp d a => some (syl 0x84000000 [(d.toNat, 21), (a.toNat, 16)])
  | .wreng a n => some (syl 0x88000000 [(a.toNat, 16), (n.toNat, 0)])
  | .qgo p g l => some (syl 0x8C000000 [(p.toNat, 21), (g.toNat, 16), (l.toNat, 0)])
  | .rdsched d => some (syl 0x90000000 [(d.toNat, 21)])
  | .rdgtime d => some (syl 0x94000000 [(d.toNat, 21)])
  | .ldB d a i => some (syl 0x04000000 [(d.toNat, 21), (a.toNat, 16), (i.toNat, 0)])
  | .ldH d a i => some (syl 0x08000000 [(d.toNat, 21), (a.toNat, 16), (i.toNat, 0)])
  | .ldW d a i => some (syl 0x0C000000 [(d.toNat, 21), (a.toNat, 16), (i.toNat, 0)])
  | .ldD d a i => some (syl 0x10000000 [(d.toNat, 21), (a.toNat, 16), (i.toNat, 0)])
  | .stB d a i => some (syl 0x14000000 [(d.toNat, 21), (a.toNat, 16), (i.toNat, 0)])
  | .stH d a i => some (syl 0x18000000 [(d.toNat, 21), (a.toNat, 16), (i.toNat, 0)])
  | .stW d a i => some (syl 0x1C000000 [(d.toNat, 21), (a.toNat, 16), (i.toNat, 0)])
  | .stD d a i => some (syl 0x20000000 [(d.toNat, 21), (a.toNat, 16), (i.toNat, 0)])
  | .vld d a i => some (syl 0x24000000 [(d.toNat, 21), (a.toNat, 16), (i.toNat, 0)])
  | .vst d a i => some (syl 0x28000000 [(d.toNat, 21), (a.toNat, 16), (i.toNat, 0)])
  | .vldx d a b p => some (syl 0x2C000000 [(d.toNat, 21), (a.toNat, 16), (b.toNat, 11), (p.toNat, 8)])
  | .vstx d a b p => some (syl 0x30000000 [(d.toNat, 21), (a.toNat, 16), (b.toNat, 11), (p.toNat, 8)])
  | .spldScalar d a k => some (syl 0x34000000 [(d.toNat, 21), (a.toNat, 16), (k.toNat, 0)])
  | .spstScalar d a k => some (syl 0x38000000 [(d.toNat, 21), (a.toNat, 16), (k.toNat, 0)])
  | .spldVector d a k => some (syl 0x3C000000 [(d.toNat, 21), (a.toNat, 16), (k.toNat, 0)])
  | .spstVector d a k => some (syl 0x40000000 [(d.toNat, 21), (a.toNat, 16), (k.toNat, 0)])
  | .amoAdd d a b w => some (syl 0x44000000 [(d.toNat, 21), (a.toNat, 16), (b.toNat, 11), (w.toNat, 3)])
  | .amoAnd d a b w => some (syl 0x44000001 [(d.toNat, 21), (a.toNat, 16), (b.toNat, 11), (w.toNat, 3)])
  | .amoOr d a b w => some (syl 0x44000002 [(d.toNat, 21), (a.toNat, 16), (b.toNat, 11), (w.toNat, 3)])
  | .amoXor d a b w => some (syl 0x44000003 [(d.toNat, 21), (a.toNat, 16), (b.toNat, 11), (w.toNat, 3)])
  | .amoMin d a b w => some (syl 0x44000004 [(d.toNat, 21), (a.toNat, 16), (b.toNat, 11), (w.toNat, 3)])
  | .amoMax d a b w => some (syl 0x44000005 [(d.toNat, 21), (a.toNat, 16), (b.toNat, 11), (w.toNat, 3)])
  | .amoSwap d a b w => some (syl 0x44000006 [(d.toNat, 21), (a.toNat, 16), (b.toNat, 11), (w.toNat, 3)])
  | .amoCas d a b c w => some (syl 0x44000007 [(d.toNat, 21), (a.toNat, 16), (b.toNat, 11), (c.toNat, 6), (w.toNat, 3)])
  | .bind d a b => some (syl 0x48000000 [(d.toNat, 21), (a.toNat, 16), (b.toNat, 11)])
  | .acq a s => some (syl 0x4C000000 [(a.toNat, 16), (s.toNat, 0)])
  | .rel a s => some (syl 0x50000000 [(a.toNat, 16), (s.toNat, 0)])
  | .vadd d a b p t => some (syl 0x04000000 [(d.toNat, 21), (a.toNat, 16), (b.toNat, 11), (p.toNat, 8), (t.toNat, 4)])
  | .vsub d a b p t => some (syl 0x04000001 [(d.toNat, 21), (a.toNat, 16), (b.toNat, 11), (p.toNat, 8), (t.toNat, 4)])
  | .vand d a b p t => some (syl 0x04000002 [(d.toNat, 21), (a.toNat, 16), (b.toNat, 11), (p.toNat, 8), (t.toNat, 4)])
  | .vor d a b p t => some (syl 0x04000003 [(d.toNat, 21), (a.toNat, 16), (b.toNat, 11), (p.toNat, 8), (t.toNat, 4)])
  | .vxor d a b p t => some (syl 0x04000004 [(d.toNat, 21), (a.toNat, 16), (b.toNat, 11), (p.toNat, 8), (t.toNat, 4)])
  | .vshl d a b p t => some (syl 0x04000005 [(d.toNat, 21), (a.toNat, 16), (b.toNat, 11), (p.toNat, 8), (t.toNat, 4)])
  | .vshr d a b p t => some (syl 0x04000006 [(d.toNat, 21), (a.toNat, 16), (b.toNat, 11), (p.toNat, 8), (t.toNat, 4)])
  | .vsra d a b p t => some (syl 0x04000007 [(d.toNat, 21), (a.toNat, 16), (b.toNat, 11), (p.toNat, 8), (t.toNat, 4)])
  | .vmin d a b p t => some (syl 0x04000008 [(d.toNat, 21), (a.toNat, 16), (b.toNat, 11), (p.toNat, 8), (t.toNat, 4)])
  | .vmax d a b p t => some (syl 0x04000009 [(d.toNat, 21), (a.toNat, 16), (b.toNat, 11), (p.toNat, 8), (t.toNat, 4)])
  | .vabs d a p t => some (syl 0x0400000A [(d.toNat, 21), (a.toNat, 16), (p.toNat, 8), (t.toNat, 4)])
  | .vmul d a b p t => some (syl 0x08000000 [(d.toNat, 21), (a.toNat, 16), (b.toNat, 11), (p.toNat, 8), (t.toNat, 4)])
  | .vmulh d a b p t => some (syl 0x08000001 [(d.toNat, 21), (a.toNat, 16), (b.toNat, 11), (p.toNat, 8), (t.toNat, 4)])
  | .vmadd d a b c p t => some (syl 0x0C000000 [(d.toNat, 21), (a.toNat, 16), (b.toNat, 11), (c.toNat, 6), (p.toNat, 3), (t.toNat, 0)])
  | .vfadd d a b p t => some (syl 0x10000000 [(d.toNat, 21), (a.toNat, 16), (b.toNat, 11), (p.toNat, 8), (t.toNat, 4)])
  | .vfsub d a b p t => some (syl 0x10000001 [(d.toNat, 21), (a.toNat, 16), (b.toNat, 11), (p.toNat, 8), (t.toNat, 4)])
  | .vfmul d a b p t => some (syl 0x10000002 [(d.toNat, 21), (a.toNat, 16), (b.toNat, 11), (p.toNat, 8), (t.toNat, 4)])
  | .vfmin d a b p t => some (syl 0x10000003 [(d.toNat, 21), (a.toNat, 16), (b.toNat, 11), (p.toNat, 8), (t.toNat, 4)])
  | .vfmax d a b p t => some (syl 0x10000004 [(d.toNat, 21), (a.toNat, 16), (b.toNat, 11), (p.toNat, 8), (t.toNat, 4)])
  | .vfabs d a p t => some (syl 0x10000005 [(d.toNat, 21), (a.toNat, 16), (p.toNat, 8), (t.toNat, 4)])
  | .vfneg d a p t => some (syl 0x10000006 [(d.toNat, 21), (a.toNat, 16), (p.toNat, 8), (t.toNat, 4)])
  | .vfma d a b c p t => some (syl 0x14000000 [(d.toNat, 21), (a.toNat, 16), (b.toNat, 11), (c.toNat, 6), (p.toNat, 3), (t.toNat, 0)])
  | .vfms d a b c p t => some (syl 0x18000000 [(d.toNat, 21), (a.toNat, 16), (b.toNat, 11), (c.toNat, 6), (p.toNat, 3), (t.toNat, 0)])
  | .vfnma d a b c p t => some (syl 0x1C000000 [(d.toNat, 21), (a.toNat, 16), (b.toNat, 11), (c.toNat, 6), (p.toNat, 3), (t.toNat, 0)])
  | .vfrcp d a p => some (syl 0x20000000 [(d.toNat, 21), (a.toNat, 16), (p.toNat, 8)])
  | .vfrsq d a p => some (syl 0x20000001 [(d.toNat, 21), (a.toNat, 16), (p.toNat, 8)])
  | .vfexp2 d a p => some (syl 0x20000002 [(d.toNat, 21), (a.toNat, 16), (p.toNat, 8)])
  | .vflog2 d a p => some (syl 0x20000003 [(d.toNat, 21), (a.toNat, 16), (p.toNat, 8)])
  | .vcmp d a b p t f => some (syl 0x24000000 [(d.toNat, 21), (a.toNat, 16), (b.toNat, 11), (p.toNat, 8), (t.toNat, 4), (f.toNat, 0)])
  | .vfcmp d a b p f => some (syl 0x28000000 [(d.toNat, 21), (a.toNat, 16), (b.toNat, 11), (p.toNat, 8), (f.toNat, 0)])
  | .vfclass d a p => some (syl 0x2C000000 [(d.toNat, 21), (a.toNat, 16), (p.toNat, 8)])
  | .vsel d a b c p => some (syl 0x30000000 [(d.toNat, 21), (a.toNat, 16), (b.toNat, 11), (c.toNat, 6), (p.toNat, 3)])
  | .vperm d a b p => some (syl 0x34000000 [(d.toNat, 21), (a.toNat, 16), (b.toNat, 11), (p.toNat, 8)])
  | .vslide d a b c p => some (syl 0x38000000 [(d.toNat, 21), (a.toNat, 16), (b.toNat, 11), (c.toNat, 6), (p.toNat, 3)])
  | .vrot d a c p => some (syl 0x3C000000 [(d.toNat, 21), (a.toNat, 16), (c.toNat, 6), (p.toNat, 3)])
  | .vbcast d a p => some (syl 0x40000000 [(d.toNat, 21), (a.toNat, 16), (p.toNat, 8)])
  | .vext d a b => some (syl 0x44000000 [(d.toNat, 21), (a.toNat, 16), (b.toNat, 11)])
  | .vins d a b => some (syl 0x48000000 [(d.toNat, 21), (a.toNat, 16), (b.toNat, 11)])
  | .vredadd d a p t => some (syl 0x4C000000 [(d.toNat, 21), (a.toNat, 16), (p.toNat, 8), (t.toNat, 4)])
  | .vredmin d a p t => some (syl 0x4C000001 [(d.toNat, 21), (a.toNat, 16), (p.toNat, 8), (t.toNat, 4)])
  | .vredmax d a p t => some (syl 0x4C000002 [(d.toNat, 21), (a.toNat, 16), (p.toNat, 8), (t.toNat, 4)])
  | .vfredadd d a p => some (syl 0x4C000003 [(d.toNat, 21), (a.toNat, 16), (p.toNat, 8)])
  | .pand d a b p => some (syl 0x50000000 [(d.toNat, 21), (a.toNat, 16), (b.toNat, 11), (p.toNat, 8)])
  | .por d a b p => some (syl 0x50000001 [(d.toNat, 21), (a.toNat, 16), (b.toNat, 11), (p.toNat, 8)])
  | .pxor d a b p => some (syl 0x50000002 [(d.toNat, 21), (a.toNat, 16), (b.toNat, 11), (p.toNat, 8)])
  | .pnot d a p => some (syl 0x50000003 [(d.toNat, 21), (a.toNat, 16), (p.toNat, 8)])
  | .pset d p => some (syl 0x50000004 [(d.toNat, 21), (p.toNat, 8)])
  | .pclr d p => some (syl 0x50000005 [(d.toNat, 21), (p.toNat, 8)])
  | .pcnt d a p => some (syl 0x50000006 [(d.toNat, 21), (a.toNat, 16), (p.toNat, 8)])
  | .pfirst d a p => some (syl 0x50000007 [(d.toNat, 21), (a.toNat, 16), (p.toNat, 8)])
  | .vsig d a p => some (syl 0x54000000 [(d.toNat, 21), (a.toNat, 16), (p.toNat, 8)])
  | .vsigset d a n p t => some (syl 0x54000001 [(d.toNat, 21), (a.toNat, 16), (n.toNat, 11), (p.toNat, 8), (t.toNat, 4)])
  | .vsiglt d a n p => some (syl 0x54000002 [(d.toNat, 21), (a.toNat, 16), (n.toNat, 11), (p.toNat, 8)])
  | .sigmin d a p => some (syl 0x54000003 [(d.toNat, 21), (a.toNat, 16), (p.toNat, 8)])
  | .vzmask d a p => some (syl 0x54000004 [(d.toNat, 21), (a.toNat, 16), (p.toNat, 8)])
  | .vsigCv d a p => some (syl 0x18000000 [(d.toNat, 21), (a.toNat, 16), (p.toNat, 8)])
  | .vsigsetCv d a n p t => some (syl 0x18000001 [(d.toNat, 21), (a.toNat, 16), (n.toNat, 11), (p.toNat, 8), (t.toNat, 4)])
  | .vsigltCv d a n p => some (syl 0x18000002 [(d.toNat, 21), (a.toNat, 16), (n.toNat, 11), (p.toNat, 8)])
  | .sigminCv d a p => some (syl 0x18000003 [(d.toNat, 21), (a.toNat, 16), (p.toNat, 8)])
  | .vzmaskCv d a p => some (syl 0x18000004 [(d.toNat, 21), (a.toNat, 16), (p.toNat, 8)])
  | .vcvt d a s p t r => some (syl 0x04000000 [(d.toNat, 21), (a.toNat, 16), (s.toNat, 11), (p.toNat, 8), (t.toNat, 4), (r.toNat, 0)])
  | .vpack d a b p t r => some (syl 0x08000000 [(d.toNat, 21), (a.toNat, 16), (b.toNat, 11), (p.toNat, 8), (t.toNat, 4), (r.toNat, 0)])
  | .vunpack d a p t e => some (syl 0x0C000000 [(d.toNat, 21), (a.toNat, 16), (p.toNat, 8), (t.toNat, 4), (e.toNat, 0)])
  | .vcbdec d a p t e => some (syl 0x10000000 [(d.toNat, 21), (a.toNat, 16), (p.toNat, 8), (t.toNat, 4), (e.toNat, 0)])
  | .vscale d a b p t r => some (syl 0x14000000 [(d.toNat, 21), (a.toNat, 16), (b.toNat, 11), (p.toNat, 8), (t.toNat, 4), (r.toNat, 0)])
  | .mma m n c a b k z p => some (syl 0x04000000 [(m.toNat, 24), (n.toNat, 18), (c.toNat, 15), (a.toNat, 10), (b.toNat, 5), (k.toNat, 4), (z.toNat, 3), (p.toNat, 0)])
  | .mmaBin m n c a b k z p => some (syl 0x08000000 [(m.toNat, 24), (n.toNat, 18), (c.toNat, 15), (a.toNat, 10), (b.toNat, 5), (k.toNat, 4), (z.toNat, 3), (p.toNat, 0)])
  | .mzero m n c => some (syl 0x0C000000 [(m.toNat, 24), (n.toNat, 18), (c.toNat, 15)])
  | .mrd m n c a b t => some (syl 0x10000000 [(m.toNat, 24), (n.toNat, 18), (c.toNat, 15), (a.toNat, 10), (b.toNat, 5), (t.toNat, 0)])
  | .mwr m n c a t => some (syl 0x14000000 [(m.toNat, 24), (n.toNat, 18), (c.toNat, 15), (a.toNat, 10), (t.toNat, 0)])
  | .mld n k a => some (syl 0x19000000 [(n.toNat, 18), (k.toNat, 15), (a.toNat, 10)])
  | .mcall d a i => some (syl 0x1C000000 [(d.toNat, 21), (a.toNat, 16), (i.toNat, 0)])
  | .cpy h o n a b l => some (syl 0x20000000 [(h.toNat, 25), (o.toNat, 23), (n.toNat, 21), (a.toNat, 16), (b.toNat, 11), (l.toNat, 0)])
  | .cpyg h o a b l => some (syl 0x24000000 [(h.toNat, 25), (o.toNat, 23), (a.toNat, 16), (b.toNat, 11), (l.toNat, 0)])
  | .cpys h o a b l => some (syl 0x28000000 [(h.toNat, 25), (o.toNat, 23), (a.toNat, 16), (b.toNat, 11), (l.toNat, 0)])
  | .cpyf h o n a l => some (syl 0x2C000000 [(h.toNat, 25), (o.toNat, 23), (n.toNat, 21), (a.toNat, 16), (l.toNat, 0)])
  | .ovl h a b l => some (syl 0x30000000 [(h.toNat, 25), (a.toNat, 16), (b.toNat, 11), (l.toNat, 0)])
  | .gamoAdd w a b l => some (syl 0x34000000 [(w.toNat, 24), (a.toNat, 16), (b.toNat, 11), (l.toNat, 0)])
  | .gamoAnd w a b l => some (syl 0x34200000 [(w.toNat, 24), (a.toNat, 16), (b.toNat, 11), (l.toNat, 0)])
  | .gamoOr w a b l => some (syl 0x34400000 [(w.toNat, 24), (a.toNat, 16), (b.toNat, 11), (l.toNat, 0)])
  | .gamoXor w a b l => some (syl 0x34600000 [(w.toNat, 24), (a.toNat, 16), (b.toNat, 11), (l.toNat, 0)])
  | .gamoMin w a b l => some (syl 0x34800000 [(w.toNat, 24), (a.toNat, 16), (b.toNat, 11), (l.toNat, 0)])
  | .gamoMax w a b l => some (syl 0x34A00000 [(w.toNat, 24), (a.toNat, 16), (b.toNat, 11), (l.toNat, 0)])
  | .gamoSwap w a b l => some (syl 0x34C00000 [(w.toNat, 24), (a.toNat, 16), (b.toNat, 11), (l.toNat, 0)])
  | .gamoCas w a b l => some (syl 0x34E00000 [(w.toNat, 24), (a.toNat, 16), (b.toNat, 11), (l.toNat, 0)])
  | .gamoAcqAdd w a b l => some (syl 0x38000000 [(w.toNat, 24), (a.toNat, 16), (b.toNat, 11), (l.toNat, 0)])
  | .gamoAcqAnd w a b l => some (syl 0x38200000 [(w.toNat, 24), (a.toNat, 16), (b.toNat, 11), (l.toNat, 0)])
  | .gamoAcqOr w a b l => some (syl 0x38400000 [(w.toNat, 24), (a.toNat, 16), (b.toNat, 11), (l.toNat, 0)])
  | .gamoAcqXor w a b l => some (syl 0x38600000 [(w.toNat, 24), (a.toNat, 16), (b.toNat, 11), (l.toNat, 0)])
  | .gamoAcqMin w a b l => some (syl 0x38800000 [(w.toNat, 24), (a.toNat, 16), (b.toNat, 11), (l.toNat, 0)])
  | .gamoAcqMax w a b l => some (syl 0x38A00000 [(w.toNat, 24), (a.toNat, 16), (b.toNat, 11), (l.toNat, 0)])
  | .gamoAcqSwap w a b l => some (syl 0x38C00000 [(w.toNat, 24), (a.toNat, 16), (b.toNat, 11), (l.toNat, 0)])
  | .gamoAcqCas w a b l => some (syl 0x38E00000 [(w.toNat, 24), (a.toNat, 16), (b.toNat, 11), (l.toNat, 0)])
  | .gamoRelAdd w a b l => some (syl 0x3C000000 [(w.toNat, 24), (a.toNat, 16), (b.toNat, 11), (l.toNat, 0)])
  | .gamoRelAnd w a b l => some (syl 0x3C200000 [(w.toNat, 24), (a.toNat, 16), (b.toNat, 11), (l.toNat, 0)])
  | .gamoRelOr w a b l => some (syl 0x3C400000 [(w.toNat, 24), (a.toNat, 16), (b.toNat, 11), (l.toNat, 0)])
  | .gamoRelXor w a b l => some (syl 0x3C600000 [(w.toNat, 24), (a.toNat, 16), (b.toNat, 11), (l.toNat, 0)])
  | .gamoRelMin w a b l => some (syl 0x3C800000 [(w.toNat, 24), (a.toNat, 16), (b.toNat, 11), (l.toNat, 0)])
  | .gamoRelMax w a b l => some (syl 0x3CA00000 [(w.toNat, 24), (a.toNat, 16), (b.toNat, 11), (l.toNat, 0)])
  | .gamoRelSwap w a b l => some (syl 0x3CC00000 [(w.toNat, 24), (a.toNat, 16), (b.toNat, 11), (l.toNat, 0)])
  | .gamoRelCas w a b l => some (syl 0x3CE00000 [(w.toNat, 24), (a.toNat, 16), (b.toNat, 11), (l.toNat, 0)])
  | .fsend a b l => some (syl 0x40000000 [(a.toNat, 16), (b.toNat, 11), (l.toNat, 0)])
  | .frecv a l => some (syl 0x44000000 [(a.toNat, 16), (l.toNat, 0)])
  | .frecvAddF32 a b l => some (syl 0x44200000 [(a.toNat, 16), (b.toNat, 11), (l.toNat, 0)])
  | .frecvAddBf16 a b l => some (syl 0x44400000 [(a.toNat, 16), (b.toNat, 11), (l.toNat, 0)])
  | .frecvMaxF32 a b l => some (syl 0x44600000 [(a.toNat, 16), (b.toNat, 11), (l.toNat, 0)])
  | .lnch a b l => some (syl 0x48000000 [(a.toNat, 16), (b.toNat, 11), (l.toNat, 0)])
  | .cwait => some (syl 0x4C000000 [])
  | .illop _ => none
  | .waittExpiry _ => none
  | .waitgExpiry _ => none
  | .barrierRelease _ _ _ => none
  | .cycleBoundary _ => none
  | .resultLanding _ _ => none
  | .storeLanding _ _ => none
  | .loadSample _ _ => none
  | .freezeStaggerStop _ => none
  | .thaw _ => none
  | .handlerStart _ => none
  | .tretComplete _ => none
  | .cwaitEnd _ => none
  | .killFreeze _ => none
  | .dumpWrite => none
  | .timerInterrupt _ => none
  | .belfryInterruptRequest _ => none
  | .debugInterruptRequest _ => none
  | .queueGeneratorStart _ _ => none
  | .generatorSample _ _ => none
  | .generatorDelivery _ _ => none
  | .generatorTake _ _ => none
  | .generatorLanding _ _ => none
  | .copyStart _ _ => none
  | .pageWalkComplete _ _ => none
  | .chunkSample _ _ => none
  | .chunkLanding _ _ => none
  | .gatherIndexSample _ _ => none
  | .gatherElementSample _ _ => none
  | .gatherElementLanding _ _ => none
  | .overlayLanding _ _ => none
  | .handlerChannelLanding _ _ => none
  | .matrixCommandStart _ _ => none
  | .mcallStart _ _ => none
  | .passSample _ _ => none
  | .passLanding _ _ => none
  | .mzeroBlockLanding _ _ => none
  | .mrdStepSample _ _ => none
  | .mrdStepLanding _ _ => none
  | .mwrStepSample _ _ => none
  | .mwrStepLanding _ _ => none
  | .mldSample _ _ => none
  | .mldLanding _ _ => none
  | .amoApply _ _ => none
  | .gamoStart _ _ => none
  | .gamoApply _ _ => none
  | .gamoOldValueLanding _ _ => none
  | .relIncrement _ _ => none
  | .acqSample _ _ => none
  | .lnchStart _ _ => none
  | .lnchArrival _ _ => none
  | .flitSample _ _ => none
  | .streamFlitSample _ _ => none
  | .streamPacketReceive _ => none
  | .flitReceive _ _ => none
  | .skewFlitArrival _ => none
  | .skewBudgetExpiry _ => none
  | .skewThaw _ => none
  | .frameSend _ => none
  | .frameReceive _ => none
  | .retryRequest _ _ => none
  | .flitArrivalTimeout _ => none
  | .portRetrain _ => none
  | .portTrained _ => none
  | .barrierArrivalMessage _ _ _ => none
  | .freezeMessage _ _ => none
  | .ptpEventMessage _ => none
  | .syncInterval => none
  | .lossOfMaster => none
  | .linkHealthTick _ => none
  | .submit _ => none
  | .kill _ => none
  | .preempt _ => none
  | .queueEvaluation => none
  | .priorityAging _ => none
  | .startTick _ => none
  | .preemptionFreeze _ => none
  | .contextSave _ => none
  | .launchComplete _ => none
  | .query _ => none
  | .readtt _ => none
  | .readunit _ => none
  | .condemn _ => none
  | .selftest _ => none
  | .setthr _ => none
  | .install _ => none
  | .setresv _ => none
  | .unitReplacement _ => none
  | .marktag => none
  | .inval => none
  | .regobj => none
  | .unreg => none
  | .setdesc => none
  | .settimer => none
  | .resumehost => none
  | .dombubble => none
  | .hostRead _ _ => none
  | .hostWrite _ _ _ => none
  | .hostAtomic _ _ _ _ _ => none
  | .stop _ => none
  | .run _ => none
  | .step _ => none
  | .snap _ => none
  | .stepEnd _ => none
  | .thermalBubble => none
  | .bubbleEnd => none
  | .telemetryUpdate _ => none
  | .powerCapUpdate _ _ _ => none
  | .hbmScrub _ _ => none
  | .packageReset => none
  | .powerOff => none
  | .registerWrite _ _ => none
  | .belfryIssuedAccess _ _ _ => none
  | .malformedPacket _ => none
  | .submissionDigestExchange _ _ => none
  | .stackAboveMaximumTemperature _ => none

/-- The slots in the order in which `decodeTableWord` tries them. -/
def tableOrder : List Nat := [5, 7, 6, 2, 3, 0]

/-- The first slot class of `tableOrder` in which the word decodes, with its instruction. -/
def firstDecode : List Nat → BitVec 32 → Option (Nat × Instr)
  | [], _ => none
  | k :: ks, w =>
    match decodeSlot k w with
    | some i => some (k, i)
    | none => firstDecode ks w

/-- The instruction read from a word of the opcode table. The table's word says no slot, and one word is a different
instruction in another slot class (R83): the classes are tried in the order of `tableOrder` (log 5). -/
def decodeTableWord (nbits w : Nat) : Option Instr :=
  if nbits = 32 then (firstDecode tableOrder (BitVec.ofNat 32 w)).map Prod.snd else none

end Sys2Proof
end

