-- ==== Sys2Proof/Machine/Event.lean ====
section
/-! DEFINITION. The events of the opcode table as data the machine schedules and queues: the rows of 95_what_each_step_holds.md that
are no syllable's encoding. The constructors and their arguments are those of `Instr` (a Lean type with a constructor for each row has too many
for a value of an event's constructor to be built when the model runs, so what is scheduled is kept in this type). -/

namespace Sys2Proof.Machine

/-- An event of the machine, its engines, the host, the belfries, the fabric or a debugger. -/
inductive Event where
  /-- The event WAITT_EXPIRY. -/
  | waittExpiry (core : Nat)
  /-- The event WAITG_EXPIRY. -/
  | waitgExpiry (core : Nat)
  /-- The event BARRIER_RELEASE. -/
  | barrierRelease (launch : Nat) (level : Nat) (unit : Nat)
  /-- The event CYCLE_BOUNDARY. -/
  | cycleBoundary (core : Nat)
  /-- The event RESULT_LANDING. -/
  | resultLanding (core : Nat) (uid : Nat)
  /-- The event STORE_LANDING. -/
  | storeLanding (core : Nat) (uid : Nat)
  /-- The event LOAD_SAMPLE. -/
  | loadSample (core : Nat) (uid : Nat)
  /-- The event FREEZE_STAGGER_STOP. -/
  | freezeStaggerStop (core : Nat)
  /-- The event THAW. -/
  | thaw (launch : Nat)
  /-- The event HANDLER_START. -/
  | handlerStart (core : Nat)
  /-- The event TRET_COMPLETE. -/
  | tretComplete (core : Nat)
  /-- The event CWAIT_END. -/
  | cwaitEnd (core : Nat)
  /-- The event KILL_FREEZE. -/
  | killFreeze (launch : Nat)
  /-- The event DUMP_WRITE. -/
  | dumpWrite
  /-- The event TIMER_INTERRUPT. -/
  | timerInterrupt (core : Nat)
  /-- The event BELFRY_INTERRUPT_REQUEST. -/
  | belfryInterruptRequest (core : Nat)
  /-- The event DEBUG_INTERRUPT_REQUEST. -/
  | debugInterruptRequest (core : Nat)
  /-- The event QUEUE_GENERATOR_START. -/
  | queueGeneratorStart (core : Nat) (uid : Nat)
  /-- The event GENERATOR_SAMPLE. -/
  | generatorSample (core : Nat) (uid : Nat)
  /-- The event GENERATOR_DELIVERY. -/
  | generatorDelivery (core : Nat) (uid : Nat)
  /-- The event GENERATOR_TAKE. -/
  | generatorTake (core : Nat) (uid : Nat)
  /-- The event GENERATOR_LANDING. -/
  | generatorLanding (core : Nat) (uid : Nat)
  /-- The event COPY_START. -/
  | copyStart (core : Nat) (uid : Nat)
  /-- The event PAGE_WALK_COMPLETE. -/
  | pageWalkComplete (core : Nat) (uid : Nat)
  /-- The event CHUNK_SAMPLE. -/
  | chunkSample (core : Nat) (uid : Nat)
  /-- The event CHUNK_LANDING. -/
  | chunkLanding (core : Nat) (uid : Nat)
  /-- The event GATHER_INDEX_SAMPLE. -/
  | gatherIndexSample (core : Nat) (uid : Nat)
  /-- The event GATHER_ELEMENT_SAMPLE. -/
  | gatherElementSample (core : Nat) (uid : Nat)
  /-- The event GATHER_ELEMENT_LANDING. -/
  | gatherElementLanding (core : Nat) (uid : Nat)
  /-- The event OVERLAY_LANDING. -/
  | overlayLanding (core : Nat) (uid : Nat)
  /-- The event HANDLER_CHANNEL_LANDING. -/
  | handlerChannelLanding (core : Nat) (uid : Nat)
  /-- The event MATRIX_COMMAND_START. -/
  | matrixCommandStart (core : Nat) (uid : Nat)
  /-- The event MCALL_START. -/
  | mcallStart (core : Nat) (uid : Nat)
  /-- The event PASS_SAMPLE. -/
  | passSample (core : Nat) (uid : Nat)
  /-- The event PASS_LANDING. -/
  | passLanding (core : Nat) (uid : Nat)
  /-- The event MZERO_BLOCK_LANDING. -/
  | mzeroBlockLanding (core : Nat) (uid : Nat)
  /-- The event MRD_STEP_SAMPLE. -/
  | mrdStepSample (core : Nat) (uid : Nat)
  /-- The event MRD_STEP_LANDING. -/
  | mrdStepLanding (core : Nat) (uid : Nat)
  /-- The event MWR_STEP_SAMPLE. -/
  | mwrStepSample (core : Nat) (uid : Nat)
  /-- The event MWR_STEP_LANDING. -/
  | mwrStepLanding (core : Nat) (uid : Nat)
  /-- The event MLD_SAMPLE. -/
  | mldSample (core : Nat) (uid : Nat)
  /-- The event MLD_LANDING. -/
  | mldLanding (core : Nat) (uid : Nat)
  /-- The event AMO_APPLY. -/
  | amoApply (core : Nat) (uid : Nat)
  /-- The event GAMO_START. -/
  | gamoStart (core : Nat) (uid : Nat)
  /-- The event GAMO_APPLY. -/
  | gamoApply (core : Nat) (uid : Nat)
  /-- The event GAMO_OLD_VALUE_LANDING. -/
  | gamoOldValueLanding (core : Nat) (uid : Nat)
  /-- The event REL_INCREMENT. -/
  | relIncrement (core : Nat) (uid : Nat)
  /-- The event ACQ_SAMPLE. -/
  | acqSample (core : Nat) (uid : Nat)
  /-- The event LNCH_START. -/
  | lnchStart (core : Nat) (uid : Nat)
  /-- The event LNCH_ARRIVAL. -/
  | lnchArrival (core : Nat) (uid : Nat)
  /-- The event FLIT_SAMPLE. -/
  | flitSample (core : Nat) (uid : Nat)
  /-- The event STREAM_FLIT_SAMPLE. -/
  | streamFlitSample (core : Nat) (uid : Nat)
  /-- The event STREAM_PACKET_RECEIVE. -/
  | streamPacketReceive (pkt : StreamPacket)
  /-- The event FLIT_RECEIVE. -/
  | flitReceive (core : Nat) (uid : Nat)
  /-- The event SKEW_FLIT_ARRIVAL. -/
  | skewFlitArrival (launch : Nat)
  /-- The event SKEW_BUDGET_EXPIRY. -/
  | skewBudgetExpiry (core : Nat)
  /-- The event SKEW_THAW. -/
  | skewThaw (launch : Nat)
  /-- The event FRAME_SEND. -/
  | frameSend (port : Nat)
  /-- The event FRAME_RECEIVE. -/
  | frameReceive (fr : Frame)
  /-- The event RETRY_REQUEST. -/
  | retryRequest (port : Nat) (fnum : Nat)
  /-- The event FLIT_ARRIVAL_TIMEOUT. -/
  | flitArrivalTimeout (port : Nat)
  /-- The event PORT_RETRAIN. -/
  | portRetrain (port : Nat)
  /-- The event PORT_TRAINED. -/
  | portTrained (port : Nat)
  /-- The event BARRIER_ARRIVAL_MESSAGE. -/
  | barrierArrivalMessage (corr : Nat) (req : Nat) (schc : Nat)
  /-- The event FREEZE_MESSAGE. -/
  | freezeMessage (corr : Nat) (kind : PartMessage)
  /-- The event PTP_EVENT_MESSAGE. -/
  | ptpEventMessage (msg : PtpMessage)
  /-- The event SYNC_INTERVAL. -/
  | syncInterval
  /-- The event LOSS_OF_MASTER. -/
  | lossOfMaster
  /-- The event LINK_HEALTH_TICK. -/
  | linkHealthTick (lanes : List LaneHealth)
  /-- The event SUBMIT. -/
  | submit (queue : Nat)
  /-- The event KILL. -/
  | kill (queue : Nat)
  /-- The event PREEMPT. -/
  | preempt (queue : Nat)
  /-- The event QUEUE_EVALUATION. -/
  | queueEvaluation
  /-- The event PRIORITY_AGING. -/
  | priorityAging (launch : Nat)
  /-- The event START_TICK. -/
  | startTick (launch : Nat)
  /-- The event PREEMPTION_FREEZE. -/
  | preemptionFreeze (launch : Nat)
  /-- The event CONTEXT_SAVE. -/
  | contextSave (launch : Nat)
  /-- The event LAUNCH_COMPLETE. -/
  | launchComplete (launch : Nat)
  /-- The event QUERY. -/
  | query (mailbox : Nat)
  /-- The event READTT. -/
  | readtt (mailbox : Nat)
  /-- The event READUNIT. -/
  | readunit (mailbox : Nat)
  /-- The event CONDEMN. -/
  | condemn (mailbox : Nat)
  /-- The event SELFTEST. -/
  | selftest (mailbox : Nat)
  /-- The event SETTHR. -/
  | setthr (mailbox : Nat)
  /-- The event INSTALL. -/
  | install (mailbox : Nat)
  /-- The event SETRESV. -/
  | setresv (mailbox : Nat)
  /-- The event UNIT_REPLACEMENT. -/
  | unitReplacement (tower : Nat)
  /-- The event MARKTAG. -/
  | marktag
  /-- The event INVAL. -/
  | inval
  /-- The event REGOBJ. -/
  | regobj
  /-- The event UNREG. -/
  | unreg
  /-- The event SETDESC. -/
  | setdesc
  /-- The event SETTIMER. -/
  | settimer
  /-- The event RESUMEHOST. -/
  | resumehost
  /-- The event DOMBUBBLE. -/
  | dombubble
  /-- The event HOST_READ. -/
  | hostRead (offset : Nat) (size : Nat)
  /-- The event HOST_WRITE. -/
  | hostWrite (offset : Nat) (data : List Byte) (relaxed : Bool)
  /-- The event HOST_ATOMIC. -/
  | hostAtomic (op : HostAtomicOp) (offset : Nat) (width : Nat) (operand : Word) (comparand : Word)
  /-- The event STOP. -/
  | stop (tower : Nat)
  /-- The event RUN. -/
  | run (tower : Nat)
  /-- The event STEP. -/
  | step (tower : Nat)
  /-- The event SNAP. -/
  | snap (tower : Nat)
  /-- The event STEP_END. -/
  | stepEnd (launch : Nat)
  /-- The event THERMAL_BUBBLE. -/
  | thermalBubble
  /-- The event BUBBLE_END. -/
  | bubbleEnd
  /-- The event TELEMETRY_UPDATE. -/
  | telemetryUpdate (rails : List RailSample)
  /-- The event POWER_CAP_UPDATE. -/
  | powerCapUpdate (tower : Nat) (watts : Nat) (margin : Int)
  /-- The event HBM_SCRUB. -/
  | hbmScrub (line : Nat) (err : LineError)
  /-- The event PACKAGE_RESET. -/
  | packageReset
  /-- The event POWER_OFF. -/
  | powerOff
  /-- The event REGISTER_WRITE. -/
  | registerWrite (offset : Nat) (value : Word)
  /-- The event ILLOP. -/
  | illop (w : BitVec 32)
  /-- The event BELFRY_ISSUED_ACCESS. -/
  | belfryIssuedAccess (belfry : Nat) (queue : Nat) (op : BelfryOp)
  /-- The event MALFORMED_PACKET. -/
  | malformedPacket (queue : Nat)
  /-- The event SUBMISSION_DIGEST_EXCHANGE. -/
  | submissionDigestExchange (corr : Nat) (part : PartDigest)
  /-- The event STACK_ABOVE_MAXIMUM_TEMPERATURE. -/
  | stackAboveMaximumTemperature (stack : Nat)
  deriving DecidableEq, Repr, Inhabited

end Sys2Proof.Machine
end

