-- ==== Sys2Proof/Config.lean ====
section
/-! DEFINITION. What the specification fixes for every BT9-48 (the nominal timing table, R218), and the free values: what it
leaves open. A free value is an opaque constant applied to the counter `State.free` or to the operands it depends on, so no
proof can see it. -/

namespace Sys2Proof

/-- One entry of the timing table (R217). -/
structure TimeEntry where
  lat : Nat
  aux : Nat
  rep : Nat
  rate : Nat
  deriving DecidableEq, Repr, Inhabited

/-- Classes 0 to 31 of the nominal table TT0 (R218). -/
def tt0Low : List TimeEntry :=
  [⟨1, 0, 1, 0⟩, ⟨3, 0, 1, 0⟩, ⟨12, 0, 12, 0⟩, ⟨20, 0, 20, 0⟩, ⟨2, 0, 1, 0⟩, ⟨1, 0, 1, 0⟩, ⟨6, 4, 1, 0⟩, ⟨14, 10, 1, 0⟩] ++
  [⟨26, 20, 1, 0⟩, ⟨72, 60, 1, 0⟩, ⟨8, 4, 1, 0⟩, ⟨600, 540, 1, 0⟩, ⟨2, 0, 1, 0⟩, ⟨3, 0, 1, 0⟩, ⟨4, 0, 1, 0⟩, ⟨2, 0, 1, 0⟩] ++
  [⟨3, 0, 1, 0⟩, ⟨6, 0, 1, 0⟩, ⟨8, 0, 1, 0⟩, ⟨3, 0, 1, 0⟩, ⟨4, 0, 1, 0⟩, ⟨22, 4, 16, 0⟩, ⟨8, 4, 1, 0⟩, ⟨560, 0, 0, 0⟩] ++
  [⟨600, 0, 0, 0⟩, ⟨20, 0, 0, 128⟩, ⟨16, 0, 0, 256⟩, ⟨64, 0, 0, 64⟩, ⟨480, 0, 0, 64⟩, ⟨560, 0, 0, 64⟩, ⟨2, 0, 0, 0⟩,
   ⟨24, 0, 0, 0⟩]

/-- Classes 32 to 47 of the nominal table TT0 (R228). -/
def tt0High : List TimeEntry :=
  [⟨8, 10, 0, 0⟩, ⟨8, 10, 0, 0⟩, ⟨8, 10, 0, 0⟩, ⟨4, 10, 0, 0⟩, ⟨4, 10, 0, 0⟩, ⟨1, 2, 0, 0⟩, ⟨1, 6, 0, 0⟩, ⟨1, 4, 0, 0⟩] ++
  [⟨4, 0, 0, 0⟩, ⟨0, 2, 0, 0⟩, ⟨2, 0, 0, 0⟩, ⟨0, 0, 0, 0⟩, ⟨14, 10, 0, 0⟩, ⟨1, 16, 0, 0⟩, ⟨0, 0, 0, 0⟩, ⟨0, 0, 0, 0⟩]

/-- The nominal timing table TT0, classes 0 to 47 (R218, R228). -/
def tt0 : List TimeEntry := tt0Low ++ tt0High

/-- F: wall cycles between the stop of a freeze's initiator and of every other component, within a package (R24). -/
def staggerF : Nat := 96

/-- GTIME units of 2^-16 ns in nine wall cycles of the 2.25 GHz clock (R4). -/
def gtimeNine : Nat := 262144

/-- Wall cycles of a page walk, whose length the specification leaves open (R273; log 8). -/
opaque Config.walkCycles : Nat → Nat

/-- Wall cycles a handler-channel transfer takes, left open by R216 (log 8). -/
opaque Config.handlerCycles : Nat → Nat

/-- Byte `i` of what an installed decoder makes of one unit of source bytes: its configuration data is not the manual's
(R259; log 8). -/
opaque Config.decoded : Nat → List Byte → Nat → Byte

/-- Package id of this package within its PTP domain, given by its cabling and fuses (R369; log 8). -/
opaque Config.packageId : Nat

/-- Wall cycles a mailbox command takes, left open by R254 (log 8). -/
opaque Config.mailCycles : Nat → Nat

/-- Whether a strip-fabric image verifies under ML-DSA-87 with Korpol's key, which the manual does not print (R256; log 8). -/
opaque Config.imageVerified : List Byte → Bool

/-- Whether the self-check of a replacement passes (R256; log 8). -/
opaque Config.selfCheck : Nat → Bool

/-- Whether a unit, by RUID, fails the self-test of a service window (R253; log 8). -/
opaque Config.unitFails : Nat → Nat → Bool

/-- Whether a port of one package is cabled to a port of another: package ids and ports (R372; log 8). -/
opaque Config.cabled : Nat → Nat → Nat → Nat → Bool

/-- The padded latency the belfries report for a link: package id and port of its source, then of its destination (R372; log 8). -/
opaque Config.linkLatency : Nat → Nat → Nat → Nat → Nat

/-- Whether a package of a domain is reachable over a bridge port of this package (R372; log 8). -/
opaque Config.bridged : Nat → Nat → Nat → Bool

/-- The fragments of a message: of one to another part of a launch, by CORR, and of a retry request, by FNUM (R366; log 8). -/
opaque Config.fragments : Nat → PartMessage → List (List Byte)
opaque Config.retryFragments : Nat → List (List Byte)

/-- CRC-24 of a frame and CRC-32 of a stream packet, whose polynomials R366 does not give (log 8). -/
opaque Config.crc24 : List Byte → BitVec 24
opaque Config.crc32 : List Byte → BitVec 32

/-- The slew of GTIME an implementation picks for a measured offset, clamped to 200 ppm where it is used (R383; log 8). -/
opaque Config.slew : Nat → Int → Int

/-- Whether an ML-DSA-87 signature of bytes verifies under a public key: message, signature, key (R336, FIPS 204; log 8). -/
opaque Config.signatureOk : List Byte → List Byte → List Byte → Bool

/-- What the retimer makes of one overlay: its bundles, and where each syllable of the recorded one stands: its bundle in the overlay, its
slot, and its new bundle (R338). -/
structure Retimed where
  code : List Byte
  moves : List (Nat × Nat × Nat)
  deriving DecidableEq, Repr, Inhabited

/-- The retimer's output for an image and a table, overlay by overlay in the order of the overlay table, or none where no schedule meets every
relation. The image is that of R336, so one (code, table) pair has one output (R338, R339; log 8, log 86). -/
opaque Config.retimed : List Byte → List Byte → Option (List Retimed)

/-- Wall cycles of the sequencer's work at an admission, left open by R312 (log 8). -/
opaque Config.admitCycles : Nat → Nat

/-- The placer's choice of physical spires for logical ones, where R317 leaves it open: pairs of logical and physical spires; log 8. -/
opaque Config.placed : Nat → List Nat → List (Nat × Nat)

/-- The largest bubble duty of the other joined packages of the domain (R362; log 8). -/
opaque Config.domainDuty : Nat → Nat

/-- The root-table frame of an address space that no launch has named yet: the manual gives REGOBJ an ASID and no root (R358; log 8). -/
opaque Config.asidRoot : Nat → Nat

/-- D_k of another package of a multi-package launch, by CORR and logical package (R354, R374; log 8). -/
opaque Config.remoteDigest : Nat → Nat → BitVec 64

/-- Frames of the tag-shadow pool, sized at bring-up (R266; log 8). -/
opaque Config.shadowExtents : Nat

/-- Wall cycles a host command takes, left open by R254 and R357 (log 8). -/
opaque Config.hostCycles : Nat → Nat

/-- Wall cycles of a package freeze for an invalidation, left open by R276 (log 8). -/
opaque Config.invalCycles : Nat → Nat

/-- The object number a registration picks (R332; log 8). -/
opaque Config.objectNumber : Nat → Nat

/-- Wall cycles until a stack above its maximum temperature has cooled (R271; log 8). -/
opaque Config.coolCycles : Nat → Nat

/-- The HBM stack that holds a frame: the placer picks the pool of its extent (R266; log 8). -/
opaque Config.stackOf : Nat → Nat

/-- What the sensors of a millisecond give: the samples of the 32 rails, and each tower's power and superheat margin (R360, R361; log 8). -/
opaque Config.rails : Nat → List RailSample
opaque Config.watts : Nat → Nat → Nat
opaque Config.margin : Nat → Nat → Int

/-- What a second's measurement of a lane of a port gives (R386; log 8). -/
opaque Config.laneHealth : Nat → Nat → Nat → LaneHealth

/-- Whether the samples of a millisecond raise the telemetry alarm, whose condition R358 does not give (log 8). -/
opaque Config.alarm : List RailSample → Bool

/-- Wall cycles of a bring-up stage, and whether it fails (R365; log 8). -/
opaque Config.bringUpCycles : Nat → Nat
opaque Config.bringUpFails : Nat → Nat → Bool

end Sys2Proof
end

