-- ==== Sys2Proof/Machine/Mem.lean ====
section
/-! DEFINITION. Memory: one list of (address, byte) cells in canonical form over every byte of the package, and sorted
key-value lists for the sidebands (08_spire.md R194 to R198, 11_tower_memory.md R266).

The flat address of a byte is its place in one of the regions below: device frame space (HBM) from 0, and one region for each
kind of on-chip store. -/

namespace Sys2Proof.Machine

/-! Flat regions. -/

/-- Device frame space: 12 stacks of 64 GiB (R2). -/
def hbmSize : Nat := 768 * 2 ^ 30
/-- Tile scratchpad of a physical spire, 4 MiB apart (R194 unit 0). -/
def tileBase (spire : Nat) : Nat := 2 ^ 40 + spire * 2 ^ 22
/-- Accumulator memory of a physical spire (unit 1). -/
def accBase (spire : Nat) : Nat := 2 ^ 41 + spire * 2 ^ 20
/-- ISP of a control core, by physical spire × 2 + core (units 4 and 5). -/
def ispBase (core : Nat) : Nat := 2 ^ 42 + core * 2 ^ 17
/-- Codebook store of a physical spire (unit 6). -/
def codebookBase (spire : Nat) : Nat := 2 ^ 43 + spire * 2 ^ 10
/-- Microprogram store of a physical spire (unit 7). -/
def microBase (spire : Nat) : Nat := 2 ^ 44 + spire * 2 ^ 15
/-- Cupola scratchpad of a physical cupola, tower × 8 + cupola (unit 8). -/
def cupolaBase (cup : Nat) : Nat := 2 ^ 45 + cup * 2 ^ 25
/-- Belfry mailbox pages (unit 10). -/
def mailboxBase (k : Nat) : Nat := 2 ^ 46 + k * 2 ^ 12
/-- Vector registers of a control core seen through units 2 and 3. -/
def vregBase (core : Nat) : Nat := 2 ^ 47 + core * 2 ^ 13

/-- Magnitude code m_i of codebook entry e at package reset (R241). -/
def codebookCode (e i : Nat) : Nat := (e / 16 + i * (2 * (e % 16) + 1)) % 16

/-- What an unlisted address reads as: the codebook's reset contents of R241, and 0 everywhere else (log 2). -/
def blank (a : Nat) : Byte :=
  if a / 2 ^ 19 = 2 ^ 43 / 2 ^ 19 then
    let e := a % 2 ^ 10 / 4
    let i := a % 4 * 2
    BitVec.ofNat 8 (codebookCode e i + 16 * codebookCode e (i + 1))
  else 0

/-- A memory. -/
abbrev Memory := List Host.Cell

/-- The byte at an address. -/
def Memory.get (m : Memory) (a : Nat) : Byte :=
  match m.find? (fun c => c.1 == a) with
  | some c => c.2
  | none => blank a

/-- The cells of a run of bytes from `a`, without those equal to what an unlisted address reads as. -/
def cellsFrom (a : Nat) : List Byte → List Host.Cell
  | [] => []
  | b :: bs => if b = blank a then cellsFrom (a + 1) bs else (a, b) :: cellsFrom (a + 1) bs

/-- Writes a run of bytes from `a`. Every write of the machine is this one. -/
def Memory.write (m : Memory) (a : Nat) (bs : List Byte) : Memory :=
  m.filter (fun c => c.1 < a) ++ cellsFrom a bs ++ m.filter (fun c => a + bs.length ≤ c.1)

/-- Canonical form: addresses strictly rising, and no cell equal to what an unlisted address reads as. -/
def Memory.wf (m : Memory) : Bool :=
  decide (List.Pairwise (fun c d => c.1 < d.1) m) && m.all (fun c => c.2 ≠ blank c.1)

/-- `n` bytes from `a`. -/
def Memory.read (m : Memory) (a : Nat) : Nat → List Byte
  | 0 => []
  | n + 1 => m.get a :: m.read (a + 1) n

/-- Little-endian value of bytes (R3). -/
def leValue : List Byte → Nat
  | [] => 0
  | b :: bs => b.toNat + 256 * leValue bs

/-- The `n` little-endian bytes of a value (R3). -/
def leBytes (v : Nat) : Nat → List Byte
  | 0 => []
  | n + 1 => BitVec.ofNat 8 v :: leBytes (v / 256) n

/-- The little-endian value of `n` bytes from `a`. -/
def Memory.value (m : Memory) (a n : Nat) : Nat := leValue (m.read a n)

/-! Sorted key-value lists. -/

/-- The value at a key, or the default. -/
def alGet {α : Type} (dflt : α) (l : List (Nat × α)) (k : Nat) : α :=
  match l.find? (fun x => x.1 == k) with
  | some x => x.2
  | none => dflt

/-- Sets the value at a key, keeping keys rising. -/
def alSet {α : Type} (l : List (Nat × α)) (k : Nat) (v : α) : List (Nat × α) :=
  match l with
  | [] => [(k, v)]
  | x :: r => if k < x.1 then (k, v) :: x :: r else if k = x.1 then (k, v) :: r else x :: alSet r k v

/-- Sets a range of keys to the values of a list, dropping those equal to the default. -/
def alWrite {α : Type} [BEq α] (dflt : α) (l : List (Nat × α)) (k : Nat) (vs : List α) : List (Nat × α) :=
  let rec cells (k : Nat) : List α → List (Nat × α)
    | [] => []
    | v :: r => if v == dflt then cells (k + 1) r else (k, v) :: cells (k + 1) r
  l.filter (fun x => x.1 < k) ++ cells k vs ++ l.filter (fun x => k + vs.length ≤ x.1)

/-- The values of a range of keys. -/
def alRead {α : Type} (dflt : α) (l : List (Nat × α)) (k : Nat) : Nat → List α
  | 0 => []
  | n + 1 => alGet dflt l k :: alRead dflt l (k + 1) n

/-- ceil(a / b), 0 for b = 0. -/
def cdiv (a b : Nat) : Nat := (a + b - 1) / b

end Sys2Proof.Machine
end

