-- ==== Sys2Proof/Machine/Num.lean ====
section
/-! DEFINITION. Number formats and rounding (03_numbers.md R57 to R70): exact dyadic values, `round_to`, conversions, the
exactly rounded approximations of R160, and the random generator of R66 and R67. -/

namespace Sys2Proof.Machine

/-- A floating-point format of R57: width, exponent bits, mantissa bits, bias and the exponent of its least subnormal. -/
structure Fmt where
  width : Nat
  eb : Nat
  mb : Nat
  bias : Nat
  qmin : Int
  deriving DecidableEq, Repr

/-- The precision p of a format, its hidden bit included (R57). -/
def Fmt.p (f : Fmt) : Nat := f.mb + 1

def fp32 : Fmt := ⟨32, 8, 23, 127, -149⟩
def fp16 : Fmt := ⟨16, 5, 10, 15, -24⟩
def bf16 : Fmt := ⟨16, 8, 7, 127, -133⟩
def e4m3 : Fmt := ⟨8, 4, 3, 7, -9⟩
def e5m2 : Fmt := ⟨8, 5, 2, 15, -16⟩
def e2m1 : Fmt := ⟨4, 2, 1, 1, -1⟩

/-- The format of a floating-point type code 0 to 5 (R89). -/
def fmtOfType : Nat → Fmt
  | 0 => fp32
  | 1 => bf16
  | 2 => fp16
  | 3 => e4m3
  | 4 => e5m2
  | _ => e2m1

/-- Formats with infinities: all but E4M3 and E2M1 (R58). -/
def Fmt.hasInf (f : Fmt) : Bool := f.eb == 8 || f.eb == 5

/-- An exact value: NaN, an infinity, a signed zero, or (−1)^neg × m × 2^e with m > 0. -/
inductive Val where
  | nan
  | inf (neg : Bool)
  | zero (neg : Bool)
  | fin (neg : Bool) (m : Nat) (e : Int)
  deriving DecidableEq, Repr

/-- The exact value of an encoding (R57, R58). -/
def Fmt.read (f : Fmt) (x : Nat) : Val :=
  let neg := x / 2 ^ (f.width - 1) % 2 == 1
  let e := x / 2 ^ f.mb % 2 ^ f.eb
  let m := x % 2 ^ f.mb
  if f.hasInf && e == 2 ^ f.eb - 1 then if m == 0 then .inf neg else .nan
  else if f.eb == 4 && e == 15 && m == 7 then .nan
  else if e == 0 then if m == 0 then .zero neg else .fin neg m f.qmin
  else .fin neg (2 ^ f.mb + m) ((e : Int) - f.bias - f.mb)

/-- The canonical NaN of a format; E2M1 has none and writes +0 (R58, R64). -/
def Fmt.nanBits (f : Fmt) : Nat :=
  match f.width, f.eb with
  | 32, _ => 0x7FC00000
  | 16, 5 => 0x7E00
  | 16, _ => 0x7FC0
  | 8, 4 => 0x7F
  | 8, _ => 0x7E
  | _, _ => 0

/-- The sign bit of an encoding. -/
def Fmt.sign (f : Fmt) (neg : Bool) : Nat := if neg then 2 ^ (f.width - 1) else 0

/-- The encoding of an infinity, in a format that has one (R58). -/
def Fmt.infBits (f : Fmt) (neg : Bool) : Nat := f.sign neg + (2 ^ f.eb - 1) * 2 ^ f.mb

/-- The magnitude bits of max finite (R57, R58). -/
def Fmt.maxBits (f : Fmt) : Nat :=
  match f.eb with
  | 4 => 0x7E
  | 2 => 0x7
  | _ => (2 ^ f.eb - 1) * 2 ^ f.mb - 1

/-- Position of the leading one of a nonzero number. -/
def topBit (m : Nat) : Nat := m.log2

/-- E(x) of m × 2^e: the exponent of its leading one (R71). -/
def expOf (m : Nat) (e : Int) : Int := e + topBit m

/-- A rounding mode; RSR carries the element's 16 random bits (R64, R65). -/
inductive Rm where
  | rne
  | rtz
  | rdn
  | rup
  | rsr (rb : Nat)
  deriving DecidableEq, Repr

/-- The mode of a code 0 to 3 (R52, R91). -/
def Rm.ofCode : Nat → Rm
  | 1 => .rtz
  | 2 => .rdn
  | 3 => .rup
  | _ => .rne

/-- The multiple n of 2^q nearest m × 2^e under the mode, for the magnitude of a value of the given sign (R64, R65). -/
def roundAt (rm : Rm) (neg : Bool) (m : Nat) (e q : Int) : Nat :=
  if q ≤ e then m * 2 ^ (e - q).toNat
  else
    let s := 2 ^ (q - e).toNat
    let n := m / s
    let r := m % s
    if r == 0 then n
    else match rm with
      | .rne => if r * 2 > s || (r * 2 == s && n % 2 == 1) then n + 1 else n
      | .rtz => n
      | .rdn => if neg then n + 1 else n
      | .rup => if neg then n else n + 1
      | .rsr rb => if r * 65536 / s + rb ≥ 65536 then n + 1 else n

/-- The outcome of rounding: the encoding, and whether it is max finite by saturation or by the overflow rule (R72). -/
structure Rounded where
  bits : Nat
  ovf : Bool
  deriving DecidableEq, Repr

/-- Magnitude bits of n × 2^q, a value of the format (R57). -/
def Fmt.magBits (f : Fmt) (n : Nat) (q : Int) : Nat :=
  if n == 0 then 0
  else
    let ex := expOf n q
    let eminE : Int := 1 - f.bias
    if ex < eminE then n * 2 ^ (q - f.qmin).toNat
    else
      let t := topBit n
      let frac := if t ≤ f.mb then n * 2 ^ (f.mb - t) else n / 2 ^ (t - f.mb)
      (ex + f.bias).toNat * 2 ^ f.mb + (frac - 2 ^ f.mb)

/-- True where m × 2^e is above the value of the magnitude bits `mx` of the format. -/
def Fmt.above (f : Fmt) (mx m : Nat) (e : Int) : Bool :=
  match f.read mx with
  | .fin _ mm me =>
    if me ≤ e then m * 2 ^ (e - me).toNat > mm else m > mm * 2 ^ (me - e).toNat
  | _ => false

/-- A finite result beyond max finite, by mode and format (R64). `mx` is the magnitude of max finite. -/
def Fmt.overflow (f : Fmt) (rm : Rm) (neg : Bool) (mx : Nat) : Rounded :=
  if !f.hasInf then ⟨f.sign neg + mx, true⟩
  else match rm with
    | .rne => ⟨f.infBits neg, false⟩
    | .rtz => ⟨f.sign neg + mx, true⟩
    | .rdn => if neg then ⟨f.infBits neg, false⟩ else ⟨f.sign neg + mx, true⟩
    | .rup => if neg then ⟨f.sign neg + mx, true⟩ else ⟨f.infBits neg, false⟩
    | .rsr _ => ⟨f.sign neg + mx, true⟩

/-- `round_to` of m × 2^e on the values of the format with at most `prec` significant bits and the largest magnitude
`mx`: the overflow test first, with an unbounded exponent range, then one rounding on the grid (R64, R160). Under RSR the
overflow test is that of the exact value (R65). -/
def Fmt.roundFin (f : Fmt) (prec mx : Nat) (rm : Rm) (neg : Bool) (m : Nat) (e : Int) : Rounded :=
  let q0 : Int := expOf m e - prec + 1
  let tooBig := match rm with
    | .rsr _ => f.above mx m e
    | _ => f.above mx (roundAt rm neg m e q0) q0
  if tooBig then f.overflow rm neg mx
  else
    let q := if q0 < f.qmin then f.qmin else q0
    ⟨f.sign neg + f.magBits (roundAt rm neg m e q) q, false⟩

/-- `round_to(fmt, rm, x)` of R8 and R64. -/
def Fmt.round (f : Fmt) (rm : Rm) : Val → Rounded
  | .nan => ⟨f.nanBits, false⟩
  | .inf neg => if f.hasInf then ⟨f.infBits neg, false⟩ else ⟨f.sign neg + f.maxBits, true⟩
  | .zero neg => ⟨f.sign neg, false⟩
  | .fin neg m e => f.roundFin f.p f.maxBits rm neg m e

/-! Exact arithmetic on values (R68). -/

def Val.neg : Val → Val
  | .nan => .nan
  | .inf n => .inf (!n)
  | .zero n => .zero (!n)
  | .fin n m e => .fin (!n) m e

/-- The exact sum; an exact zero sum is +0 in every mode except RDN, as IEEE 754-2019 has it (R64, R68). -/
def Val.add (rm : Rm) (a b : Val) : Val :=
  match a, b with
  | .nan, _ => .nan
  | _, .nan => .nan
  | .inf x, .inf y => if x == y then .inf x else .nan
  | .inf x, _ => .inf x
  | _, .inf y => .inf y
  | .zero x, .zero y => if x == y then .zero x else .zero (rm == .rdn)
  | .zero _, v => v
  | v, .zero _ => v
  | .fin x m e, .fin y n k =>
    let q := if e ≤ k then e else k
    let mm : Int := (m * 2 ^ (e - q).toNat : Nat)
    let nn : Int := (n * 2 ^ (k - q).toNat : Nat)
    let s := (if x then -mm else mm) + (if y then -nn else nn)
    if s == 0 then .zero (rm == .rdn) else .fin (s < 0) s.natAbs q

/-- The exact product (R68). -/
def Val.mul (a b : Val) : Val :=
  match a, b with
  | .nan, _ => .nan
  | _, .nan => .nan
  | .inf _, .zero _ => .nan
  | .zero _, .inf _ => .nan
  | .inf x, .inf y => .inf (x != y)
  | .inf x, .fin y _ _ => .inf (x != y)
  | .fin x _ _, .inf y => .inf (x != y)
  | .zero x, .zero y => .zero (x != y)
  | .zero x, .fin y _ _ => .zero (x != y)
  | .fin x _ _, .zero y => .zero (x != y)
  | .fin x m e, .fin y n k => .fin (x != y) (m * n) (e + k)

/-- The value times 2^k. -/
def Val.scale (v : Val) (k : Int) : Val :=
  match v with
  | .fin n m e => .fin n m (e + k)
  | v => v

def Val.isZero : Val → Bool
  | .zero _ => true
  | _ => false

def Val.isNan : Val → Bool
  | .nan => true
  | _ => false

/-- Order of two values that are not NaN, −0 equal to +0: −1, 0 or 1. -/
def Val.cmp (a b : Val) : Int :=
  match a, b with
  | .inf x, .inf y => if x == y then 0 else if x then -1 else 1
  | .inf x, _ => if x then -1 else 1
  | _, .inf y => if y then 1 else -1
  | _, _ =>
    match Val.add .rne a b.neg with
    | .fin neg _ _ => if neg then -1 else 1
    | _ => 0

/-- A value as an exact E8M0 scale 2^(e − 127), or NaN for 0xFF (R59). -/
def e8m0 (e : Nat) : Val := if e == 0xFF then .nan else .fin false 1 ((e : Int) - 127)

/-! Conversions between integers and values (R69). -/

/-- The exact value of an integer; 0 is +0. -/
def valOfInt (i : Int) : Val := if i == 0 then .zero false else .fin (i < 0) i.natAbs 0

/-- The smallest and largest value of an integer type of the width, signed or natural (R60). -/
def intRange (signed : Bool) (w : Nat) : Int × Int :=
  if signed then (-(2 ^ (w - 1) : Nat), (2 ^ (w - 1) : Nat) - 1) else (0, (2 ^ w : Nat) - 1)

/-- FP → integer: one rounding, then saturation; NaN gives 0 (R69). -/
def Val.toInt (rm : Rm) (signed : Bool) (w : Nat) (v : Val) : Int :=
  let (lo, hi) := intRange signed w
  match v with
  | .nan => 0
  | .zero _ => 0
  | .inf neg => if neg then lo else hi
  | .fin neg m e =>
    let n : Int := roundAt rm neg m e 0
    let x := if neg then -n else n
    if x < lo then lo else if hi < x then hi else x

/-! The approximation group: results rounded once on the 22-bit grid of FP32 (R160). -/

/-- The largest FP32 magnitude with 22 significant bits. -/
def approxMax : Nat := 0x7F7FFFFC

/-- One rounding on the 22-bit grid. -/
def approxRound (rm : Rm) : Val → Rounded
  | .fin neg m e => fp32.roundFin 22 approxMax rm neg m e
  | v => fp32.round rm v

/-- floor(√n), bit by bit from bit k − 1 down. -/
def isqrtFrom (n : Nat) : Nat → Nat → Nat
  | 0, r => r
  | k + 1, r =>
    let c := r + 2 ^ k
    if c * c ≤ n then isqrtFrom n k c else isqrtFrom n k r

/-- floor(√n). -/
def isqrt (n : Nat) : Nat := isqrtFrom n (topBit n / 2 + 1) 0

/-- A number known to lie at m × 2^e, or strictly between m × 2^e and (m + 1) × 2^e when `inexact`, as a value that
rounds alike on every grid coarser than 2^e. -/
def sticky (neg : Bool) (m : Nat) (e : Int) (inexact : Bool) : Val :=
  if inexact then .fin neg (2 * m + 1) (e - 1) else .fin neg m e

/-- 1/a (R160). -/
def rcpVal : Val → Val
  | .nan => .nan
  | .inf n => .zero n
  | .zero n => .inf n
  | .fin n m e =>
    let k := topBit m + 96
    sticky n (2 ^ k / m) (-(k : Int) - e) (2 ^ k % m != 0)

/-- 1/√a (R160). -/
def rsqVal : Val → Val
  | .nan => .nan
  | .inf n => if n then .nan else .zero false
  | .zero n => .inf n
  | .fin n m e =>
    if n then .nan
    else
      let m' := if e % 2 == 0 then m else 2 * m
      let e' := if e % 2 == 0 then e else e - 1
      let k := topBit m' + 96
      let r := isqrt (2 ^ (2 * k) / m')
      sticky false r (-(k : Int) - e' / 2) (r * r * m' != 2 ^ (2 * k))

/-- Fraction bits of the fixed-point computations below. -/
def fixBits : Nat := 400

/-- The product of the roots 2^(2^-i) for the set bits of the fraction, most significant first, in fixed point: `c` is
2^(2^-i) for the next bit. -/
def exp2Frac (frac : Nat) : Nat → Nat → Nat → Nat
  | 0, _, acc => acc
  | k + 1, c, acc =>
    let acc' := if frac / 2 ^ k % 2 == 1 then acc * c / 2 ^ fixBits else acc
    exp2Frac frac k (isqrt (c * 2 ^ fixBits)) acc'

/-- 2^a (R160). An operand beyond ±1,000 overflows or underflows whatever its value. -/
def exp2Val : Val → Val
  | .nan => .nan
  | .inf n => if n then .zero false else .inf false
  | .zero _ => .fin false 1 0
  | .fin n m e =>
    if expOf m e ≥ 10 then .fin false 3 (if n then -1001 else 1000)
    else if 0 ≤ e then .fin false 1 (if n then -(m * 2 ^ e.toNat : Nat) else (m * 2 ^ e.toNat : Nat))
    else
      let d := (-e).toNat
      let x : Int := if n then -(m : Int) else m
      let i := Int.fdiv x (2 ^ d : Nat)
      let frac := (Int.fmod x (2 ^ d : Nat)).toNat
      if frac == 0 then .fin false 1 i
      else
        sticky false (exp2Frac frac d (isqrt (2 * 2 ^ (2 * fixBits))) (2 ^ fixBits)) (i - (fixBits : Int)) true

/-- The next bits of log2(y), y in [1, 2) as fixed point, by repeated squaring. -/
def log2Frac : Nat → Nat → Nat → Nat
  | 0, _, acc => acc
  | k + 1, y, acc =>
    let z := y * y / 2 ^ fixBits
    if 2 ^ (fixBits + 1) ≤ z then log2Frac k (z / 2) (2 * acc + 1) else log2Frac k z (2 * acc)

/-- log2(a) (R160). -/
def log2Val : Val → Val
  | .nan => .nan
  | .inf n => if n then .nan else .inf false
  | .zero _ => .inf true
  | .fin n m e =>
    if n then .nan
    else
      let t := topBit m
      let k := expOf m e
      if m == 2 ^ t then valOfInt k
      else
        let x : Int := k * (2 ^ 128 : Nat) + (log2Frac 128 (m * 2 ^ (fixBits - t)) 0 : Nat)
        if x < 0 then sticky true (x.natAbs - 1) (-128) true else sticky false x.natAbs (-128) true

/-! The random generator (R66, R67). -/

/-- The four words of a generator. -/
structure Rng where
  s0 : BitVec 32
  s1 : BitVec 32
  s2 : BitVec 32
  s3 : BitVec 32
  deriving DecidableEq, Repr, Inhabited

/-- One step: the output word and the next state (R66). -/
def Rng.next (g : Rng) : BitVec 32 × Rng :=
  let out := (g.s1 * 5#32).rotateLeft 7 * 9#32
  let tmp := g.s1 <<< 9
  let s2 := g.s2 ^^^ g.s0
  let s3 := g.s3 ^^^ g.s1
  let s1 := g.s1 ^^^ s2
  let s0 := g.s0 ^^^ s3
  (out, ⟨s0, s1, s2 ^^^ tmp, s3.rotateLeft 11⟩)

/-- The output of the seeding function for the running value `k` (R66). -/
def seedWord (k : Word) : BitVec 32 :=
  let z := (k ^^^ (k >>> 30)) * 0xBF58476D1CE4E5B9#64
  let z := (z ^^^ (z >>> 27)) * 0x94D049BB133111EB#64
  (z ^^^ (z >>> 31)).setWidth 32

/-- `rng_seed(seed, n)` (R66). -/
def rngSeed (seed : Word) (n : Nat) : Rng :=
  let c := 0x9E3779B97F4A7C15#64
  let k := seed ^^^ (BitVec.ofNat 64 n * c)
  let g : Rng := ⟨seedWord (k + c), seedWord (k + c * 2#64), seedWord (k + c * 3#64), seedWord (k + c * 4#64)⟩
  if g = ⟨0, 0, 0, 0⟩ then { g with s0 := 1 } else g

/-- The next `n` output words and the state after them. -/
def rngFill : Nat → Rng → List (BitVec 32) × Rng
  | 0, g => ([], g)
  | n + 1, g =>
    let (w, g') := g.next
    let (ws, g'') := rngFill n g'
    (w :: ws, g'')

/-- `mix(word, j)` (R67). -/
def rngMix (word : BitVec 32) (j : Nat) : BitVec 32 :=
  let m := word ^^^ (BitVec.ofNat 32 j * 0x9E3779B9#32)
  let m := (m ^^^ (m >>> 16)) * 0x85EBCA6B#32
  let m := (m ^^^ (m >>> 13)) * 0xC2B2AE35#32
  m ^^^ (m >>> 16)

/-- The 16 random bits of element `e` of lane `l` (R67). -/
def rngBits (word : BitVec 32) (l e : Nat) : Nat := (rngMix word (l + 64 * e)).toNat % 65536

end Sys2Proof.Machine
end

