-- ==== Sys2Proof/Machine/CoreState.lean ====
section
/-! DEFINITION. The state of one control core, its pending results and its engine commands (02_task_state.md R34 to R56,
07_task_traps.md R176 to R191, 08_spire.md R202 to R215). Plain data. -/

namespace Sys2Proof.Machine

/-- A lane word and its stored tag, 0 to 24. The zero flag equals `w = 0` and is computed (R36). -/
structure LaneW where
  w : Lane
  tag : Nat
  deriving DecidableEq, Repr, Inhabited

/-- A vector: 64 lane words (R36). -/
abbrev Vec := List LaneW

/-- The zero word with tag 24. -/
def LaneW.zero : LaneW := ⟨0, 24⟩

/-- The vector of 64 zero words with tag 24 (R49). -/
def Vec.zero : Vec := List.replicate 64 LaneW.zero

/-- An address-generator parameter set (R43). -/
structure AgSet where
  base : BitVec 40
  str0 : BitVec 24
  str1 : BitVec 24
  str2 : BitVec 24
  cnt0 : BitVec 16
  cnt1 : BitVec 16
  cnt2 : BitVec 16
  fmt : BitVec 4
  deriving DecidableEq, Repr, Inhabited

/-- One hardware loop level: the fields of LPS, LPC and the loop id (R47, R125). -/
structure LoopLevel where
  kind : BitVec 2
  stg : BitVec 4
  iim : BitVec 3
  start : BitVec 12
  last : BitVec 12
  lpc : Word
  id : BitVec 5
  /-- Iteration index, from 0 at the loop's entry (R344). -/
  iter : Nat
  /-- A `ploop` that ended with the last bundle issued (R349). -/
  ended : Bool
  deriving DecidableEq, Repr, Inhabited

/-- One entry of the sync-object binding table (R142). -/
structure Binding where
  obj : Word
  base : Word
  len : Word
  deriving DecidableEq, Repr, Inhabited

/-- The registers of R34 that belong to the core, its engine registers (R203), binding table (R142) and generators (R48,
R66). Scalars and vectors are indexed by physical register. -/
structure Regs where
  s : List Word
  v : List Vec
  q : List (List Vec)
  wq : List (List Vec)
  p : List (BitVec 64)
  ag : List AgSet
  mp : List Word
  eng : List Word
  bind : List Binding
  rng : Rng
  rngQ : List (BitVec 32)
  /-- Words popped since seeding (R48, R66). -/
  rngPops : Nat
  hrng : Rng
  deriving DecidableEq, Repr, Inhabited

/-- One bank of trap registers (R53, R176). -/
structure Bank where
  cause : Word
  epc : Word
  slot : Word
  lane : Word
  addr : Word
  schc : Word
  deriving DecidableEq, Repr, Inhabited

/-- The system registers of R50 that are not loop state; GTIME and TTDIG belong to the package and the spire. -/
structure SysRegs where
  sstat : Word
  schc : Word
  xvec : Word
  ovp : Word
  splb : Word
  xinj : Word
  bank1 : Bank
  bank2 : Bank
  deriving DecidableEq, Repr, Inhabited

/-- Loop, stage and rotation state with the latched stage map (R47, R104). -/
structure Loops where
  levels : List LoopLevel
  sen : BitVec 16
  rrb : BitVec 3
  smap : List (BitVec 32)
  deriving DecidableEq, Repr, Inhabited

/-- What a control core is doing. -/
inductive Mode where
  /-- No task. -/
  | idle
  /-- A task at TL0. -/
  | task
  /-- A task that has executed `halt`; its pending work goes on (R12, R402). -/
  | halted
  /-- Entering a handler: its first bundle issues in the given wall cycle (R182). -/
  | entry (wall : Nat)
  /-- Handler bundles issue (R184). -/
  | handler
  /-- Stopped in `cwait` (R145). -/
  | cwait
  /-- A `tret` waits for the handler's own work (R189). -/
  | tret
  /-- The offending master of a context kill, frozen where it stopped (R191). -/
  | killed
  deriving DecidableEq, Repr, Inhabited

/-- A wait of the task (R130, R131, R186). -/
inductive Wait where
  | none
  | waitt (target : Word)
  | waitg (target : Word)
  | syncb (level : Nat)
  /-- A `syncb` whose release is fixed: at the task's cycle `at_` it takes SCHC `v` and goes on (R26, R27). -/
  | leave (level at_ : Nat) (v : Word)
  deriving DecidableEq, Repr, Inhabited

/-- An unfinished delay shadow: bundles not yet issued, whether taken, and the target (R122, R186). -/
structure Shadow where
  remain : Nat
  taken : Bool
  target : BitVec 12
  deriving DecidableEq, Repr, Inhabited

/-- The operand latches of one slot, in the order of R187. A lane of a vector record is `none` where it holds tag 31. -/
structure SlotLatch where
  vs : List (List (Option LaneW))
  ss : List Word
  ps : List (BitVec 64)
  deriving DecidableEq, Repr, Inhabited

/-- The task a core runs (R1, R20). -/
structure Task where
  launch : Nat
  /-- Logical spire index in the package. -/
  lsp : Nat
  half : Nat
  /-- Requester number. -/
  req : Nat
  /-- Launch record seed. -/
  seed : Word
  deriving DecidableEq, Repr, Inhabited

/-- The stop of a core by a freeze, for its deviation record (R25, R347). -/
structure Dev where
  wall : Nat
  gtime : Word
  schc : Word
  bundle : Nat
  deriving DecidableEq, Repr, Inhabited

/-- Effects of slot 0 that follow the bundle's commit, kept while a trap of a later slot is handled. -/
structure Kept where
  bundle : BitVec 12
  next : Option (BitVec 12)
  lbrk : Option Nat
  halting : Bool
  deriving DecidableEq, Repr, Inhabited

/-- Control flow of a core: where it is in its bundles, waits, freezes and interrupts. -/
structure Flow where
  mode : Mode
  /-- What TL1 was doing when a trap entered TL2: its handler, a `cwait` or a `tret` (R189; log 25). -/
  tl1 : Mode := .handler
  task : Task
  pc : BitVec 12
  /-- First slot of the next bundle to issue (R189). -/
  slot0 : Nat
  latch : List SlotLatch
  shadow : Option Shadow
  /-- Next bundle fixed by a loop instruction of the bundle that issues. -/
  next : Option (BitVec 12)
  wait : Wait
  /-- The wait that the task resumes in behind a trap at TL0 (R186, R189). -/
  tw : Wait := .none
  /-- Cycles by which the task runs ahead of the slot clock since a resume (R323). -/
  lead : Nat := 0
  /-- Slot-clock cycle and SCHC of the `syncb` or `halt` bundle, for barriers (R26, R27). -/
  arr : Nat × Word
  /-- The core's stop in the freeze in force. -/
  dev : Option Dev
  /-- A loop level whose LPC an `lbrk` cuts after the issuing bundle (R129). -/
  lbrk : Option Nat
  /-- A `halt` of the issuing bundle ends the task when the bundle has committed (R134). -/
  halting : Bool := false
  /-- What slot 0 of a bundle that trapped in a later slot does when that bundle commits (R181, R187; log 44). -/
  kept : Option Kept := none
  /-- Read ports popped for the issuing bundle (R187). -/
  pops : BitVec 4
  /-- Read ports named with the popping code by slots that committed in the issuing bundle. -/
  popNow : BitVec 4
  /-- The bundle of this wall cycle has issued, or the core has nothing to issue. -/
  done : Bool
  /-- The boundary before this wall cycle's bundle has been evaluated (R181). -/
  bnd : Bool
  /-- Stopped by a launch-scope freeze that another component started (R24). -/
  stopped : Bool
  irqTimer : Bool
  irqBelfry : Bool
  irqDebug : Bool
  timer : Option Word
  /-- Requests of the debugger that this core's next boundary answers: a matched breakpoint already reported. -/
  bpSeen : Bool
  /-- Cycle of the core before which a STEP ends for it (R351). -/
  stepTo : Option Nat
  deriving DecidableEq, Repr, Inhabited

/-- What a pending-result entry holds (R15, R188). -/
inductive EKind where
  | scalar (phys : Nat) (v : Word)
  | vector (phys : Nat) (lanes : List (Option LaneW))
  | pred (n : Nat) (val mask : BitVec 64)
  | port (n : Nat) (lanes : List (Option LaneW))
  | ag (n sel : Nat) (v : Word)
  | mp (n : Nat) (v : Word)
  | eng (n : Nat) (v : Word)
  | sys (n : Nat) (v : Word)
  | binding (b : Binding)
  | reseed (seed : Word)
  /-- A scalar load not yet sampled: LDK 1 to 4, or 6 and 8 for spills; window address, or virtual address for 8. -/
  | load (ldk : Nat) (phys : Nat) (addr : Nat)
  /-- A vector load not yet sampled: LDK 5, 7 or 9; `port` when its destination is a write port. -/
  | vload (ldk : Nat) (port : Bool) (n : Nat) (addr : Nat)
  | store (size : Nat) (addr : Nat) (data : Word)
  | vstore (addr : Nat) (data : Vec)
  | spillStore (va : Nat) (data : Word)
  | spillVStore (va : Nat) (data : Vec)
  /-- `vldx`: destination, base, lane offsets, active lanes, words gathered so far, groups served. -/
  | vldx (port : Bool) (n : Nat) (base : Nat) (offs : List Nat) (mask : BitVec 64) (got : List (Option LaneW)) (groups : Nat)
  /-- `vstx`: base, lane offsets, active lanes, data, groups served. -/
  | vstx (base : Nat) (offs : List Nat) (mask : BitVec 64) (data : Vec) (groups : Nat)
  /-- A scratchpad atomic that has not landed; its result entry is the second landing of R141. -/
  | amo (op : AtomicOp) (w64 : Bool) (phys : Nat) (addr : Nat) (operand cmp : Word)
  deriving DecidableEq, Repr, Inhabited

/-- One entry of the pending-result buffer. `due` is its landing cycle and `samp` its sample cycle, in the core's clock of
the level that issued it. -/
structure Entry where
  uid : Nat
  kind : EKind
  due : Nat
  samp : Nat
  bundle : Nat
  slot : Nat
  issue : Nat
  held : Bool
  suspect : Bool
  /-- Sub-cause of the poison of its data, 0 for none (R178, R286). -/
  poison : Nat
  /-- Address of the poisoned data (R178). -/
  paddr : Nat
  /-- STHR at issue, where the result is checked with STE = 1 (R77). -/
  sthr : Option Nat
  /-- Compared against the slot's shadow unit at landing (R151). -/
  fpu : Bool
  /-- Its POISON flag stays 0: ECC was forced through XINJ (R364). -/
  forced : Bool
  /-- Where a load's data was sampled: 0 elsewhere, 1 scratchpad, 2 accumulator memory, 3 ISP, 4 HBM (R364). -/
  src : Nat := 0
  /-- Local id of the replaceable unit that executed it, plus 1 (R251, R364). -/
  unit : Nat := 0
  /-- Type code of the elements that the shadow unit compares (R151, R363). -/
  typ : Nat := 0
  deriving DecidableEq, Repr, Inhabited

/-- What an entry keeps beside its frame descriptor while it stands in a trap frame: its issue and its checks. -/
structure Side where
  bundle : Nat
  slot : Nat
  issue : Nat
  sthr : Option Nat
  fpu : Bool
  forced : Bool
  poison : Nat
  paddr : Nat
  src : Nat := 0
  unit : Nat := 0
  /-- Groups an indexed operation has served. -/
  groups : Nat := 0
  typ : Nat := 0
  deriving DecidableEq, Repr, Inhabited

/-- One piece of data between an engine's sample and its landing, with tags and granule fields (R207). -/
structure Flight where
  /-- Destination: window address or virtual address of the first byte. -/
  dst : Nat
  data : List Byte
  /-- Tag of each 4-byte word. -/
  tags : List Nat
  fmt : Nat
  blk : Nat
  /-- Sub-cause of its poison, 0 for none (R207). -/
  poison : Nat
  /-- Landing cycle in the core's clock. -/
  due : Nat
  /-- Sub-cause of the poison of each word, where words are poisoned one by one (R286). -/
  psn : List Nat := []
  deriving DecidableEq, Repr, Inhabited

/-- The operands and engine registers of a `cpy` or `cpyf`, captured at issue (R202, R207). -/
structure CopyArgs where
  dst : Nat
  src : Nat
  len0 : Nat
  cnt1 : Nat
  cnt2 : Nat
  ss1 : Int
  ss2 : Int
  ds1 : Int
  ds2 : Int
  fill : Option Word
  ffmt : Nat
  fblk : Nat
  /-- Source and destination bytes per unit of the decoder that serves the source; 1 and 1 without one (R210, R259). -/
  decSrc : Nat := 1
  decDst : Nat := 1
  deriving DecidableEq, Repr, Inhabited

/-- The operands of a `cpyg` or `cpys` (R214). -/
structure GatherArgs where
  scatter : Bool
  idxBase : Nat
  base : Nat
  esz : Nat
  n : Nat
  list : Nat
  g : Nat
  /-- Indices sampled and not yet used. -/
  idx : List Nat
  deriving DecidableEq, Repr, Inhabited

/-- The operands of an `ovl` (R215). -/
structure OvlArgs where
  first : Word
  n : Nat
  src : Nat
  man : Nat
  /-- The 48 bytes sampled at OMAN.VA. -/
  digest : List Byte
  deriving DecidableEq, Repr, Inhabited

/-- The endpoints and path of a copy-engine command (R204, R206). -/
structure PathArgs where
  sg : Bool
  dg : Bool
  sloc : Bool
  dloc : Bool
  cls : Nat
  lpath : Nat
  rate : Nat
  /-- Channel, and order form: 0 plain, 1 acq, 2 rel. -/
  ch : Nat
  order : Nat
  deriving DecidableEq, Repr, Inhabited

/-- A matrix command's operands (R229 to R239, R244). `a` and `b` are the MS codes; a code of 16 or more carries its
descriptor pair. -/
structure MxArgs where
  /-- 1 mma, 2 mma.bin, 3 mzero, 4 mrd, 5 mwr, 6 mld, 7 mcall. -/
  op : Nat
  m : Nat
  n : Nat
  acc : Nat
  a : Nat
  ad : Word × Word
  b : Nat
  bd : Word × Word
  chk : Bool
  za : Bool
  par : Nat
  typ : Nat
  scale : Word
  deriving DecidableEq, Repr, Inhabited

/-- A global atomic's operands (R283). -/
structure GamoArgs where
  op : AtomicOp
  w64 : Bool
  order : Nat
  addr : Nat
  operand : Word
  cmp : Word
  gdst : Word
  old : Word
  deriving DecidableEq, Repr, Inhabited

/-- A fabric command's operands (R375 to R380). -/
structure FabArgs where
  recv : Bool
  /-- 0 plain, 1 add.f32, 2 add.bf16, 3 max.f32. -/
  op : Nat
  sa : Word
  sb : Word
  desc : Word
  slt : Word
  skw : Word
  deriving DecidableEq, Repr, Inhabited

/-- What an engine command does. -/
inductive CmdKind where
  | copy (p : PathArgs) (c : CopyArgs)
  | gather (p : PathArgs) (g : GatherArgs)
  | ovl (p : PathArgs) (o : OvlArgs)
  | gen (port ag : Nat) (set : AgSet)
  | mx (m : MxArgs)
  | gamo (g : GamoArgs)
  | fab (f : FabArgs)
  | lnch (rcd parent : Word)
  | rel (obj : Word) (scope : Nat)
  | acq (obj : Word) (scope : Nat)
  deriving DecidableEq, Repr, Inhabited

/-- An operand of a matrix run: none, an operand buffer, or a descriptor pair (R224, R225). -/
inductive MxSrc where
  | none
  | ob (k : Nat)
  | desc (w0 w1 : Word)
  deriving DecidableEq, Repr, Inhabited

/-- One native run of a started matrix command: its shape and operands as checked at the start, the array cycle `k` at which
it begins, its occupancy `u`, and the array cycles `per` of one pass, block or step (R227, R229, R244). -/
structure MxRun where
  op : Nat
  m : Nat
  n : Nat
  acc : Nat
  a : MxSrc
  b : MxSrc
  col : Nat
  row16 : Nat
  bop : Nat
  chk : Bool
  za : Bool
  typ : Nat
  scale : Word
  k : Nat
  u : Nat
  per : Nat
  fa : Nat
  ba : Nat
  fb : Nat
  bb : Nat
  /-- Destination or source of an `mrd`, `mwr` or `mld` is the cupola scratchpad. -/
  cup : Bool
  /-- Sampling cycles or steps done, and landings done. -/
  s : Nat := 0
  l : Nat := 0
  /-- First landing that a fault has withdrawn (R233). -/
  lim : Nat := 2 ^ 40
  deriving DecidableEq, Repr, Inhabited

/-- What a matrix run has sampled: an operand row or column of a pass, the words of a step, or a row of an `mld`, with its
scale bytes, its codebook entries and the sub-cause and address of poison met (R230, R233). -/
structure Got where
  run : Nat
  /-- Pass or step. -/
  q : Nat
  side : Nat
  idx : Nat
  data : List Byte
  scales : List Byte
  cb : List Nat
  tags : List Nat
  poison : Nat × Nat
  deriving DecidableEq, Repr, Inhabited

/-- An engine command from issue to landing, with its captured operands, progress and data in flight (R202, R294). -/
structure Cmd where
  uid : Nat
  kind : CmdKind
  /-- 0 copy, 1 handler channel, 2 matrix, 3 atomics, 4 fabric, 5 launch, 6 queue generator, 7 sync object (R137, R186). -/
  queue : Nat
  bundle : Nat
  slot : Nat
  syll : BitVec 32
  issue : Nat
  start : Nat
  land : Nat
  started : Bool
  /-- Progress of its samples and of its landings: a byte, element, vector, pass or step number. -/
  sPos : Nat
  lPos : Nat
  flights : List Flight
  /-- Leaf of each 4 KiB virtual page the command has translated, with the frame of that page (R272). -/
  pages : List (Nat × Word)
  /-- Scalar data the command carries between its events (an atomic's old value, descriptors read at the start). -/
  regs : List Word
  runs : List MxRun := []
  got : List Got := []
  /-- Set when a fault withdraws the rest of the command: what has been sampled and lands earlier still lands (R209, R233). -/
  cut : Bool := false
  deriving DecidableEq, Repr, Inhabited

/-- A mark left by `fenceq`: the timed queues it names and the earliest start it allows on them (R137). -/
structure Fence where
  mask : BitVec 6
  at_ : Nat
  deriving DecidableEq, Repr, Inhabited

/-- A guard left by `acq`: copies and atomics that read a region bound to the object start no earlier (R143). -/
structure AcqGuard where
  obj : Word
  at_ : Nat
  deriving DecidableEq, Repr, Inhabited

/-- One entry of the overlay map (R215). -/
structure OvlEntry where
  first : Nat
  n : Nat
  src : Nat
  man : Nat
  deriving DecidableEq, Repr, Inhabited

/-- A translation held in a TLB (R272). -/
structure TlbEntry where
  asid : Nat
  /-- Base virtual address, page size in bytes, and page-table entry. -/
  va : Nat
  size : Nat
  pte : Word
  deriving DecidableEq, Repr, Inhabited

/-- A queue generator as the check of a later `qgo` of its port knows it, running, waiting or finished (R119). -/
structure GenMark where
  port : Nat
  uid : Nat
  start : Nat
  ag : Nat
  deriving DecidableEq, Repr, Inhabited

/-- Occupancy of engine queues by landed and outstanding commands (R208, R227, R283, R377, R379). -/
structure Engines where
  cmds : List Cmd
  /-- Landing of the last command of each copy channel. -/
  chan : List (Nat × Nat)
  /-- First free cycle of the HBM port and of the window port. -/
  hbmPort : Nat
  winPort : Nat
  /-- First free cycle of the gather path by this core's commands. -/
  gather : Nat
  /-- Last landing of the commands issued on each timed queue 0 to 5. -/
  lastLand : List Nat
  /-- Landing of the last command of each atomic channel. -/
  atomCh : List (Nat × Nat)
  /-- Release of the last matrix command. -/
  mxRelease : Nat
  /-- First cycle each circuit, stream and the launch queue allow for a start (R294, R377 to R379). -/
  fabLast : List (Nat × Nat)
  fences : List Fence
  /-- Landing of the last `.acq` command: later copies and atomics start no earlier (R212, R284). -/
  acqCopy : Nat
  acqAtom : Nat
  guards : List AcqGuard
  ovl : List OvlEntry
  tlb : List TlbEntry
  /-- Commands and redirected spills whose page walks have completed (R273). -/
  walked : List Nat
  /-- Handler fences: for each, handler-channel commands with a smaller uid land before those with a uid not smaller start (R137). -/
  hFences : List Nat
  /-- The queue generators issued: port, uid, start cycle and parameter set (R119). -/
  gens : List GenMark
  deriving DecidableEq, Repr, Inhabited

/-- An event that a cycle boundary of the core must take (R181). -/
structure Due where
  /-- Trap level at whose boundary it is taken. -/
  lvl : Nat
  /-- Priority 1 to 5 of R181. -/
  prio : Nat
  cause : Nat
  sub : Nat
  eng : Bool
  hch : Bool
  bundle : Nat
  slot : Nat
  issue : Nat
  lane : Nat
  addr : Word
  /-- The command withdrawn when the event is taken: its uid, queue and syllable. -/
  cmd : Option (Nat × Nat × BitVec 32)
  deriving DecidableEq, Repr, Inhabited

/-- What an `mld` lands: the buffer, its new format fields, and rows with their scales by index (R239). -/
structure ObLoad where
  buf : Nat
  fmt : Nat
  blk : Nat
  rows : List (Nat × (List Byte × List Byte))
  deriving DecidableEq, Repr, Inhabited

/-- A landing held in the array until the resume cycle (R234, R237): the slot of its syllable, byte runs at window addresses
with the tags of their words, the sub-cause of their poison, and what an `mld` lands. -/
structure Held where
  slot : Nat
  runs : List (Nat × (List Byte × List Nat))
  poison : Nat
  ob : Option ObLoad := none
  deriving DecidableEq, Repr, Inhabited

/-- Pending work of a core: the pending-result buffer, unit occupancy, due events, and what frames set aside. -/
structure Pend where
  prb : List Entry
  /-- First free cycle of each unit, by slot × 64 + class (R112, R150). -/
  busy : List (Nat × Nat)
  dues : List Due
  uid : Nat
  /-- Issue information of the entries in the frames of TL1 and TL2. -/
  side1 : List Side
  side2 : List Side
  /-- Cycles to free of the units as TL0 and TL1 left them at the entry to the next level, where its frame does not hold them (R150). -/
  busy1 : List (Nat × Nat)
  busy2 : List (Nat × Nat)
  held : List Held
  deriving DecidableEq, Repr, Inhabited

/-- A control core. `clk` counts the cycles of its task (R12), `hclk` its handler bundles (R184). -/
structure Core where
  r : Regs
  x : SysRegs
  l : Loops
  f : Flow
  e : Engines
  p : Pend
  clk : Nat
  hclk : Nat
  deriving DecidableEq, Repr, Inhabited

def AgSet.zero : AgSet := ⟨0, 0, 0, 0, 0, 0, 0, 0⟩
def LoopLevel.zero : LoopLevel := ⟨0, 0, 0, 0, 0, 0, 0, 0, false⟩
def Bank.zero : Bank := ⟨0, 0, 0, 0, 0, 0⟩

/-- Registers as package reset leaves them; R49 gives a started task the same values but for s1 to s3 and the random
generator (log 3, log 4). -/
def Regs.zero : Regs :=
  { s := List.replicate 32 0, v := List.replicate 24 Vec.zero, q := List.replicate 4 [], wq := List.replicate 4 [],
    p := (BitVec.allOnes 64) :: List.replicate 7 0, ag := List.replicate 8 AgSet.zero, mp := List.replicate 8 0,
    eng := List.replicate 28 0, bind := [], rng := ⟨0, 0, 0, 0⟩, rngQ := List.replicate 16 0, rngPops := 0, hrng := ⟨0, 0, 0, 0⟩ }

def SysRegs.zero : SysRegs := ⟨0, 0, 0, 0, 0, 0, Bank.zero, Bank.zero⟩
def Loops.zero : Loops := ⟨List.replicate 4 LoopLevel.zero, 0, 0, []⟩

def Flow.zero : Flow :=
  { mode := .idle, task := ⟨0, 0, 0, 0, 0⟩, pc := 0, slot0 := 0, latch := [], shadow := none, next := none,
    wait := .none, arr := (0, 0), dev := none, lbrk := none, pops := 0, popNow := 0, done := false, bnd := false, stopped := false, irqTimer := false, irqBelfry := false,
    irqDebug := false, timer := none, bpSeen := false, stepTo := none }

def Engines.zero : Engines :=
  { cmds := [], chan := [], hbmPort := 0, winPort := 0, gather := 0, lastLand := List.replicate 6 0, atomCh := [],
    mxRelease := 0, fabLast := [], fences := [], acqCopy := 0, acqAtom := 0, guards := [], ovl := [], tlb := [], walked := [],
    hFences := [], gens := [] }

def Pend.zero : Pend := ⟨[], [], [], 0, [], [], [], [], []⟩

/-- A control core after package reset. -/
def Core.zero : Core := ⟨Regs.zero, SysRegs.zero, Loops.zero, Flow.zero, Engines.zero, Pend.zero, 0, 0⟩

/-- Pending work of a task that has executed `halt` (R347). -/
def Core.work (c : Core) : Bool := !c.p.prb.isEmpty || !c.e.cmds.isEmpty || !c.p.held.isEmpty || !c.p.dues.isEmpty

end Sys2Proof.Machine
end

