-- ==== Sys2Proof/Machine/PackageState.lean ====
section
/-! DEFINITION. The state of spires, launches and saved contexts, of the lanterns, belfries, sequencer, host interface and
fabric ports (08_spire.md to 17_fabric.md). Plain data. -/

namespace Sys2Proof.Machine

/-! Spires and repair. -/

/-- An operand buffer: 32 rows of 128 bytes, format, BLK and the scale sideband of 16 bytes a row (R46, R224). -/
structure OpBuf where
  rows : List (List Byte)
  scales : List (List Byte)
  fmt : Nat
  blk : Nat
  deriving DecidableEq, Repr, Inhabited

def OpBuf.zero : OpBuf := ⟨List.replicate 32 (List.replicate 128 0), List.replicate 32 (List.replicate 16 0), 0, 0⟩

/-- A spire's own state beside its memories. -/
structure Spire where
  tt : List TimeEntry
  ob : List OpBuf
  /-- Local ids of the units whose bypass port is switched to a strip-fabric replacement (R220). -/
  switched : List Nat
  /-- Permanently dropped (R258). -/
  dropped : Bool
  /-- Overwritten bundle indices marked poisoned by a failed overlay, as core × 4096 + bundle (R199, R215). -/
  badBundles : List Nat
  deriving DecidableEq, Repr, Inhabited

/-- A spire after package reset: the nominal timing table and zero operand buffers. -/
def Spire.zero : Spire := ⟨tt0, List.replicate 4 OpBuf.zero, [], false, []⟩

/-- What the belfry keeps of a replaceable unit (R252, R256). -/
structure UnitRec where
  divc : Nat
  injc : Nat
  /-- GTIME of the last unforced reports, oldest first; 255 are kept, so that every THR can be met (R252; log 28). -/
  times : List Word
  condemned : Bool
  /-- Condemned and not yet replaced: its spire stays out of the pool (R253). -/
  awaiting : Bool
  deriving DecidableEq, Repr, Inhabited

def UnitRec.zero : UnitRec := ⟨0, 0, [], false, false⟩

/-- One quantum of an allocation map (R257). -/
structure Quantum where
  state : Nat
  role : Nat
  seq : Nat
  owner : Nat
  deriving DecidableEq, Repr, Inhabited

def Quantum.free : Quantum := ⟨0, 0, 0, 0⟩

/-- A cupola's allocation map: its 384 quanta and reserve (R257). -/
structure AllocMap where
  quanta : List Quantum
  resv : Nat
  deriving DecidableEq, Repr, Inhabited

def AllocMap.zero : AllocMap := ⟨List.replicate 384 Quantum.free, 96⟩

/-- An installed fabric format: its output format and its bytes per unit (R259, R260). -/
structure Decoder where
  out : Nat
  srcBytes : Nat
  dstBytes : Nat
  deriving DecidableEq, Repr, Inhabited

/-- A mailbox command under way: accepted, ending at a wall cycle (R254). -/
structure MailCmd where
  cmd : Nat
  args : List Word
  due : Nat
  /-- A task rang the doorbell (R255). -/
  task : Bool
  deriving DecidableEq, Repr, Inhabited

/-- A condemned unit's replacement waiting for its spire (R253, R256), and the mailbox to be told. -/
structure Repair where
  ruid : Nat
  box : Option Nat
  deriving DecidableEq, Repr, Inhabited

/-- A failure of the hardware itself (log 71): of a replaceable unit, whose next check fails at a lane or word, for an FP pipe with the bits of
the shadow unit's word that are wrong (R363); of a logic block of a spire that no bypass port covers (R251); an error of a 4-byte word, by
flat address, that ECC cannot correct (R286); a corrected error, by the count it raises (R363). -/
inductive Upset where
  | unit (ruid place wrong : Nat)
  | block (spire : Nat)
  | word (flat : Nat)
  | corrected (count : Nat)
  deriving DecidableEq, Repr, Inhabited

/-- The belfries: units, thresholds by tower × 16 + type, maps, formats, mailbox commands, repairs and flash (R252 to R260). -/
structure Belfries where
  units : List (Nat × UnitRec)
  thr : List (Nat × (Nat × Nat))
  maps : List (Nat × AllocMap)
  decoders : List (Nat × Decoder)
  mail : List (Nat × MailCmd)
  repairs : List Repair
  /-- Strip-fabric images in flash by slot: first and second copy. -/
  flash : List (Nat × (List Byte × List Byte))
  /-- Code-signing keys in flash slots 0 to 7 (R336). -/
  keys : List (Nat × List Byte)
  /-- Condemnation records kept in flash: unit, quanta and class values as entry words (R256). -/
  condemnLog : List (Nat × (List Nat × List Nat))
  /-- Corrected ECC counts: by stack, and by spire × 4 + memory (R363). -/
  ecc : List (Nat × Nat)
  /-- Failures of the hardware, each with the wall cycle from which it waits to be met; the model's own list (log 71). -/
  upsets : List (Nat × Upset)
  deriving DecidableEq, Repr, Inhabited

def Belfries.zero : Belfries := ⟨[], [], [], [], [], [], [], [], [], [], []⟩

/-! Launches. -/

/-- What holds a launch-scope freeze (R22). -/
inductive Cause where
  /-- A trap taken at TL0 by the core, until its `tret` (R182). -/
  | trap (core : Nat)
  /-- Page walks for a command of the core, ending at a wall cycle (R273). -/
  | walk (core uid until_ : Nat)
  /-- A skew wait of a receive of the core (R382). -/
  | skew (core uid : Nat)
  /-- Pre-emption (R322). -/
  | preempt
  /-- A debugger stop, or a single step that has ended (R350, R351). -/
  | debug
  /-- A debugger's STOP: a debugger stop whose tasks take no trap before they stop (R322, R351). -/
  | stop
  /-- A context kill, with the belfry as initiator (R191). -/
  | kill
  /-- A freeze of another part of the launch: its components stop before a slot-clock cycle; `code` is the cause code of its first initiator
  (R24, R347, R374, R382). -/
  | remote (stop code : Nat)
  /-- Slack exhaustion on a port (R368). -/
  | slack (port : Nat)
  deriving DecidableEq, Repr, Inhabited

/-- Where a launch stands (R329). -/
inductive LPhase where
  | queued
  | admitted
  | running
  | saved
  | ended
  deriving DecidableEq, Repr, Inhabited

/-- A further fatal fault of a killed context: an entry of its dump (R328). -/
structure FaultEntry where
  core : Nat
  cause : Word
  bundle : Nat
  slot : Nat
  lane : Nat
  addr : Word
  schc : Word
  gtime : Word
  deriving DecidableEq, Repr, Inhabited

/-- What a context kill reports in the primary dump entry (R191, R328, R402). -/
structure KillInfo where
  core : Nat
  cause : Word
  bundle : Nat
  slot : Nat
  lane : Nat
  addr : Word
  schc : Word
  gtime : Word
  /-- Slot-clock cycle at which the offending master stopped (R191). -/
  stop : Nat
  /-- REASON of the launch's end (R329). -/
  reason : Nat
  /-- Further fatal faults of the context. -/
  more : List FaultEntry
  deriving DecidableEq, Repr, Inhabited

/-- A grant of the HBM slot table (R268). -/
structure Grant where
  spire : Nat
  half : Nat
  kind : Nat
  first : Nat
  count : Nat
  deriving DecidableEq, Repr, Inhabited

/-- An entry of the residency set (R310). -/
structure Resid where
  va : Nat
  pages : Nat
  tower : Nat
  isLocal : Bool
  deriving DecidableEq, Repr, Inhabited

/-- A circuit of the fabric timetable (R370). -/
structure Circuit where
  spkg : Nat
  dpkg : Nat
  sport : Nat
  dport : Nat
  stask : Nat
  dtask : Nat
  first : Nat
  cnt : Nat
  k : Nat
  fpos : Nat
  rqd : Nat
  deriving DecidableEq, Repr, Inhabited

/-- A stream of the fabric timetable (R371). -/
structure StreamDef where
  domain : Nat
  package : Nat
  port : Nat
  asid : Nat
  deriving DecidableEq, Repr, Inhabited

/-- A fabric timetable (R369): its header fields, tables and this package's logical index. -/
structure Ftt where
  npkg : Nat
  hopmax : Nat
  perf : Nat
  self : Nat
  pkgs : List Word
  circuits : List Circuit
  streams : List StreamDef
  deriving DecidableEq, Repr, Inhabited

/-- A flit in a circuit's receive queue with its launch frame and position (R380). -/
structure QFlit where
  frame : Nat
  pos : Nat
  flit : Flit
  deriving DecidableEq, Repr, Inhabited

/-- A landing that counts in the result digest: slot-clock cycle, whether the handler channel landed it, requester, slot, address in the
region's form, bytes (R353, R354). -/
structure Contrib where
  cycle : Nat
  chan : Bool
  req : Nat
  slot : Nat
  addr : Word
  bytes : List Byte
  deriving DecidableEq, Repr, Inhabited

/-- One memory access of a wall cycle: who makes it, whether it lands, its flat bytes, and its atomic group. The accesses of one
handler-channel transfer have `whole` set: the model lands them at one instant, and they do not meet each other (R216; log 21). -/
structure Access where
  core : Nat
  cmd : Bool
  uid : Nat
  whole : Bool
  land : Bool
  flat : Nat
  n : Nat
  atom : Option (Nat × Nat)
  port : Bool
  kind : Nat
  addr : Nat
  lane : Nat
  deriving DecidableEq, Repr, Inhabited

/-- An access that takes effect in the present cycle, with what a later meeting in the cycle needs to withdraw it: the entry's trap level,
bundle, slot and issue, or the command, and for a landing what stood there (R18; log 51). -/
structure Seen where
  acc : Access
  lvl : Nat
  bundle : Nat
  slot : Nat
  issue : Nat
  cmd : Option Cmd
  old : List Byte
  tags : List Nat
  poison : List Nat
  gran : List (Nat × Nat)
  deriving DecidableEq, Repr, Inhabited

/-- What a saved launch keeps beside its save area: the cores by requester order key 2 × logical spire + half, whose registers, ports and
pending values a resume takes from the area's records, the digest of the placement and the slot clock (R323, R325; log 36). -/
structure Saved where
  cores : List (Nat × Core)
  ttdig : Word
  lclk : Nat
  deriving DecidableEq, Repr, Inhabited

/-- Progress of a pre-emption (R322). -/
inductive PrePhase where
  | none
  /-- It waits until no task is at a trap level. -/
  | wait
  /-- Frozen; started commands drain, at the drain clock's cycle. -/
  | drain (clock : Nat)
  deriving DecidableEq, Repr, Inhabited

/-- A launch. `lclk` is its slot clock (R270): it counts the wall cycles in which the launch is not frozen. -/
structure Launch where
  phase : LPhase
  corr : Nat
  asid : Nat
  asroot : Nat
  /-- Logical package index in the launch. -/
  pkg : Nat
  /-- Physical spire of each logical spire (R195). -/
  place : List (Nat × Nat)
  /-- 1 binds half 0 only, 2 both (R308). -/
  halves : Nat
  lclk : Nat
  causes : List Cause
  /-- Wall cycle in which the freeze's initiator stopped, and the stagger F or F_dom (R24). -/
  fstart : Nat
  stagger : Nat
  /-- Deviation cause code of the freeze's first initiator and the number of initiators that joined (R344, R347). -/
  fcause : Nat
  fjoined : Nat
  /-- A context kill under way: the belfry's freeze has not begun (R191). -/
  kill : Option KillInfo
  /-- The 512 bytes of the launch record (R305). -/
  record : List Byte
  queue : Nat
  parent : Nat
  /-- Address space and root frame in which the parent object translates (R144, R311). -/
  parentSp : Nat × Nat
  /-- Effective priority and the steps of aging it has had (R313). -/
  ep : Nat
  aged : Nat
  /-- Order of arrival and of admission. -/
  arrival : Nat
  /-- Wall cycle of the arrival (R311, R314). -/
  warr : Nat
  admission : Nat
  garr : Word
  gadm : Word
  gstart : Word
  gend : Word
  /-- STATE and REASON of R329. -/
  status : Nat
  reason : Nat
  xcause : Word
  dumpSeq : Nat
  /-- Wall cycle of the start tick with GSTART = 0. -/
  startAt : Nat
  /-- Launch bound to each dependence, 0 for none (R316). -/
  deps : List Nat
  /-- Period and grants of the HBM slot table (R268). -/
  per : Nat
  grants : List Grant
  resid : List Resid
  ftt : Option Ftt
  /-- Receive queues by circuit (R381). -/
  rq : List (Nat × List QFlit)
  /-- Barrier arrivals of tasks of other packages: requester and SCHC (R373). -/
  arrs : List (Nat × Nat)
  /-- Tasks of other packages that have executed `halt`: requester and SCHC (R26). -/
  halts : List (Nat × Nat)
  /-- Digests reported by other parts (R374). -/
  parts : List PartDigest
  /-- Landings in the digest regions, in the order of R354. -/
  contrib : List Contrib
  saved : Option Saved
  pre : PrePhase
  /-- Cycles a STEP has still to run (R351). -/
  steps : Option Nat
  /-- The launch has stopped for the debugger, and the records of the stop are written (R351). -/
  dbg : Bool
  /-- The announced GTIME of a thaw on every package (R374, R382). -/
  thawAt : Option Word
  /-- GTIMEs at which other packages end a freeze of theirs, one for each (R24, R368, R382). -/
  thaws : List Word
  /-- Retime slot of the timed image in force, 0 for the recorded image (R320, R339). -/
  slot : Nat
  /-- The overlay map's entry of the initial overlay (R215, R312). -/
  ovl0 : OvlEntry
  /-- GTIME at the freeze of the last pre-emption (R325). -/
  gsave : Word
  deriving DecidableEq, Repr, Inhabited

/-- An absent launch. -/
def Launch.zero : Launch :=
  { phase := .ended, corr := 0, asid := 0, asroot := 0, pkg := 0, place := [], halves := 2, lclk := 0, causes := [],
    fstart := 0, stagger := staggerF, fcause := 0, fjoined := 0, kill := none, record := [], queue := 0, parent := 0, parentSp := (0, 0), ep := 0, aged := 0,
    arrival := 0, warr := 0, admission := 0, garr := 0, gadm := 0, gstart := 0, gend := 0, status := 0, reason := 0, xcause := 0,
    dumpSeq := 0, startAt := 0, deps := [], per := 1, grants := [], resid := [], ftt := none, rq := [], arrs := [], halts := [], parts := [],
    contrib := [], saved := none, pre := .none, steps := none, dbg := false, thawAt := none, thaws := [], slot := 0,
    ovl0 := ⟨0, 0, 0, 0⟩, gsave := 0 }

/-! Sequencer. -/

/-- A registered code object (R332, R335). -/
structure CodeObj where
  va : Nat
  asid : Nat
  asroot : Nat
  failed : Bool
  /-- Retime slots, most recently used first (R339). -/
  lru : List Nat
  /-- The key slots have changed since the image was last verified (R336). -/
  rekeyed : Bool
  deriving DecidableEq, Repr, Inhabited

/-- A queued dump (R328): its launch, sequence number and primary fault. -/
structure DumpReq where
  launch : Nat
  seq : Nat
  info : KillInfo
  deriving DecidableEq, Repr, Inhabited

/-- The launch sequencer (13_launch.md, R332). -/
structure Seq where
  /-- Frame of the queue descriptor page, set by SETDESC. -/
  desc : Option Nat
  nextLaunch : Nat
  nextArrival : Nat
  nextAdmission : Nat
  objects : List (Nat × CodeObj)
  /-- Root-table frames by ASID, as launches named them. -/
  roots : List (Nat × Nat)
  /-- Spires reserved for the launch that triggered the pre-emption (R319). -/
  reserved : Option (Nat × List Nat)
  dumps : List DumpReq
  dumpSeq : Nat
  /-- An evaluation is due: an arrival, an end or a save since the last (R314). -/
  evalDue : Bool
  /-- Wall cycle from which that evaluation takes place: the sequencer works in wall time. -/
  evalWall : Nat
  /-- GTIME of the last evaluation. -/
  evalAt : Word
  /-- Tagged extents (R266). -/
  tagged : List Nat
  /-- Digests of other parts that arrived before this package's submission, by CORR (R374). -/
  early : List (Nat × PartDigest)
  deriving DecidableEq, Repr, Inhabited

def Seq.zero : Seq :=
  { desc := none, nextLaunch := 1, nextArrival := 0, nextAdmission := 0, objects := [], roots := [],
    reserved := none, dumps := [], dumpSeq := 0, evalDue := false, evalWall := 0, evalAt := 0, tagged := [], early := [] }

/-! Lanterns. -/

/-- A lantern's control block (R343). -/
structure Lantern where
  lctl : Word
  tbase : Word
  tsize : Word
  tprod : Word
  tcons : Word
  lost : Word
  datt : Word
  dcmd : Word
  dstat : Nat
  bp : List Word
  /-- Records dropped since the last SUB 8 event (R346). -/
  dropped : Nat
  /-- The command in DCMD is still to be carried out (R351). -/
  todo : Bool
  deriving DecidableEq, Repr, Inhabited

def Lantern.zero : Lantern := ⟨0, 0, 7, 0, 0, 0, 0, 0, 0, List.replicate 8 0, 0, false⟩

/-! Host interface and power. -/

/-- A tower's capping word fields (R361). -/
structure Cap where
  margin : Int
  duty : Nat
  minm : Nat
  capw : Nat
  pwr : Nat
  /-- Milliseconds of GTIME served (R361). -/
  ms : Nat
  deriving DecidableEq, Repr, Inhabited

def Cap.zero : Cap := ⟨0, 0, 320, 1000, 0, 0⟩

/-- The package block, telemetry page, host port and power state (16_package.md, R385). -/
structure HostIf where
  stage : Nat
  fail : Nat
  /-- Wall cycle at which the present bring-up stage ends. -/
  stageAt : Nat
  hcmd : Word
  harg : List Word
  hseq : Nat
  hcode : Nat
  hval : Word
  /-- Arguments of the command accepted last, and the wall cycle at which it ends (R254, R357). -/
  cargs : List Word
  due : Nat
  mring : Word
  mprod : Word
  mcons : Word
  hviol : Word
  caps : List Cap
  telemetry : List Word
  joined : Bool
  /-- Signals sent on each MSI-X vector. -/
  msix : List Nat
  /-- Start and end of a bubble in force, in wall cycles, and the last bubble period begun (R361, R362). -/
  bubble : Option (Nat × Nat)
  period : Nat
  /-- Start and end of the package freeze of an invalidation in force (R276). -/
  inval : Option (Nat × Nat)
  conv : Bool
  gm : Bool
  ofs : Int
  ptpcfg : Word
  /-- Sync intervals in a row within 8 ns, the slew in ninths of 2^-16 ns per wall cycle, and the best master heard. -/
  within : Nat
  slew : Int
  master : Option PtpMessage
  powered : Bool
  /-- Completion of the last host read or atomic: PCIe status (0 success, 1 UR, 2 CA, 3 poisoned) and data. -/
  reply : Nat × List Byte
  /-- CONV has been reported since bring-up: GTIME no longer steps (R383). -/
  settled : Bool
  /-- Sync intervals of 1/128 s of GTIME handled (R384). -/
  sync : Nat
  /-- Milliseconds of GTIME whose telemetry is written (R360). -/
  ms : Nat
  /-- Seconds of GTIME whose link health is recorded (R386). -/
  sec : Nat
  deriving DecidableEq, Repr, Inhabited

def HostIf.zero : HostIf :=
  { stage := 0, fail := 0, stageAt := 0, hcmd := 0, harg := List.replicate 6 0, hseq := 0, hcode := 0, hval := 0,
    cargs := [], due := 0, mring := 0, mprod := 0, mcons := 0, hviol := 0, caps := List.replicate 4 Cap.zero, telemetry := List.replicate 65 0,
    joined := false, msix := List.replicate 8 0, bubble := none, period := 0, inval := none, conv := false, gm := false,
    ofs := 0, ptpcfg := 0x8080000000000000#64, within := 0, slew := 0, master := none, powered := true, reply := (0, []),
    settled := false, sync := 0, ms := 0, sec := 0 }

/-! Fabric ports. -/

/-- A flit waiting to be sent, or sent, at a port: its launch, frame and position (R366, R367). -/
structure TxFlit where
  launch : Nat
  frame : Nat
  pos : Nat
  flit : Flit
  deriving DecidableEq, Repr, Inhabited

/-- A stream item in a bridge port's buffer: a data flit, or a release (R378). -/
structure StreamItem where
  launch : Nat
  stream : Nat
  va : Nat
  release : Bool
  data : List Byte
  deriving DecidableEq, Repr, Inhabited

/-- A fabric port (R366 to R368). -/
structure Port where
  trained : Bool
  /-- Flits sampled and not yet sent; flits sent, kept for a resend; flits to resend. -/
  tx : List TxFlit
  sent : List TxFlit
  resend : List TxFlit
  /-- Flits resent, with the frame number each went under (R368). -/
  resent : List (Nat × TxFlit)
  /-- The last frame sent. -/
  out : Option Frame
  /-- Flits received wrong and not yet resent: launch frame and position (R368). -/
  waiting : List (Nat × Nat)
  /-- Slack exhaustion declared at this GTIME. -/
  exhausted : Option Word
  stream : List StreamItem
  /-- The last stream packet sent, and the next sequence number of each stream (R366, R378). -/
  packet : Option StreamPacket
  seqs : List (Nat × Nat)
  /-- In-band messages to send. -/
  msgs : List PartMessage
  /-- Retry requests to send, by FNUM. -/
  retries : List Nat
  /-- Fragments left of the message being sent (R366). -/
  frags : List (List Byte)
  crcRetries : Nat
  /-- A forced CRC failure armed by a core's XINJ (R364). -/
  forced : Bool
  /-- Streams broken at this destination: stream and ASID (R378). -/
  broken : List (Nat × Nat)
  /-- The hour of GTIME of each lane's last degradation record, counted from 1 (R386). -/
  breach : List (Nat × Nat)
  /-- Wall cycle in which the last frame was sent (R366). -/
  sentAt : Nat
  deriving DecidableEq, Repr, Inhabited

def Port.zero : Port :=
  { trained := false, tx := [], sent := [], resend := [], resent := [], out := none, waiting := [], exhausted := none, stream := [],
    packet := none, seqs := [], msgs := [], retries := [], frags := [], crcRetries := 0, forced := false, broken := [], breach := [], sentAt := 0 }

end Sys2Proof.Machine
end

