-- ==== Sys2Proof/Machine/State.lean ====
section
/-! DEFINITION. The state of the package, its faults and refusals, and the state after reset. -/

namespace Sys2Proof.Machine

/-- Why the machine stops. No instruction of the specification stops it: what goes wrong on the BT9-48 is a trap, a refusal of
a launch or a completion code, and each of these is a next state. -/
inductive Fault where
  /-- A syllable is named that is not one of the eight slots' (never raised by `step`; safe). -/
  | noSlot
  deriving DecidableEq, Repr

/-- Why an instruction has no meaning. -/
inductive Refusal where
  /-- The instruction's meaning is not written yet (raised only by an arm of `exec`; safe). -/
  | notModelled (mnemonic : String)
  deriving DecidableEq, Repr

/-- The parts of one wall cycle, in order: what arrives and ends, collisions, landings, engine starts, boundaries, samples,
bundles, and what follows a bundle in its own cycle (R17, R40, R181). -/
inductive Stage where
  | inputs
  | collide
  | lands
  | starts
  | boundary
  | samples
  | issue
  | late
  deriving DecidableEq, Repr, Inhabited

/-- The syllable that issues next: a core and a slot. -/
structure Cursor where
  core : Nat
  slot : Nat
  deriving DecidableEq, Repr, Inhabited

/-- The package. Cores are keyed by 2 × physical spire + core; absent keys stand for the reset value. -/
structure State where
  wall : Nat
  stage : Stage
  cur : Option Cursor
  cores : List (Nat × Core)
  spires : List (Nat × Spire)
  mem : Memory
  /-- Tags of 4-byte words other than 24, by flat address / 4 (R79, R198, R266). -/
  tags : List (Nat × Nat)
  /-- Poisoned 4-byte words, by flat address / 4, with the ECC sub-cause of where they were poisoned (R178, R286). -/
  poison : List (Nat × Nat)
  /-- FMT and BLK of 4 KiB scratchpad granules other than (0, 0), by flat address / 4096 (R198). -/
  gran : List (Nat × (Nat × Nat))
  launches : List (Nat × Launch)
  /-- L2 TLB sets by physical cupola × 256 + set, most recent entry first (R272). -/
  l2 : List (Nat × List TlbEntry)
  bel : Belfries
  seq : Seq
  lanterns : List Lantern
  host : HostIf
  ports : List (Nat × Port)
  /-- GTIME in ninths of 2^-16 ns (R4, R53). -/
  gtime9 : Nat
  /-- Causes of a package-scope freeze in force (R22). -/
  pkgFreeze : List Nat
  /-- Events that arrive from outside the package, with the wall cycle of each. -/
  inputs : List (Nat × Event)
  /-- The landings of outside agents that take place in the present wall cycle, numbered (R18, R289). -/
  arrivals : List (Nat × Event)
  /-- The accesses of the present cycle that no collision has withdrawn (R18). -/
  seen : List Seen
  /-- The model's own counter, to which a free value is applied (log 8). -/
  free : Nat
  deriving DecidableEq, Repr, Inhabited

/-- The package right after reset. -/
def State.reset : State :=
  { wall := 0, stage := .inputs, cur := none, cores := [], spires := [], mem := [], tags := [], poison := [], gran := [],
    launches := [], l2 := [], bel := Belfries.zero, seq := Seq.zero,
    lanterns := List.replicate 4 Lantern.zero, host := HostIf.zero, ports := [], gtime9 := 0, pkgFreeze := [], inputs := [], arrivals := [],
    seen := [], free := 0 }

end Sys2Proof.Machine
end

