-- ==== Sys2Proof/Machine/Flags.lean ====
section
/-! DEFINITION. Significance tags and zero flags (03_numbers.md R71 to R76), and floating-point element operations that
compute a value with its tag (06_vector.md R158 to R160). -/

namespace Sys2Proof.Machine

/-- The zero flag of a lane word (R36). -/
def LaneW.zflag (x : LaneW) : Bool := x.w == 0

/-- A tag that reaches a register from memory: 25 to 31 are stored as 24 (R36). -/
def clampTag (t : Nat) : Nat := min t 24

/-- A value with its tag as an operation reads it. -/
structure TV where
  v : Val
  t : Nat
  deriving DecidableEq, Repr

/-- An element of format `f` with the tag of its word, read as min(t, p) (R36, R75). -/
def Fmt.tv (f : Fmt) (bits tag : Nat) : TV := ⟨f.read bits, min tag f.p⟩

/-- A zero with t < p (R71). -/
def TV.untrusted (f : Fmt) (x : TV) : Bool := x.v.isZero && x.t < f.p

/-- The trust floor, `none` for −∞ (R71). -/
def TV.floor (x : TV) : Option Int :=
  match x.v with
  | .fin _ m e => some (expOf m e - x.t + 1)
  | _ => none

/-- The greater of two floors. -/
def maxFloor (a b : Option Int) : Option Int :=
  match a, b with
  | none, b => b
  | a, none => a
  | some x, some y => some (if x < y then y else x)

/-- avail(r) of R72. -/
def Fmt.avail (f : Fmt) (m : Nat) (e : Int) : Nat :=
  min f.p (expOf m e - f.qmin + 1).toNat

/-- The limits of R72 on the tag `t` of the rounded result `r` of the exact result `x`. -/
def Fmt.limit (f : Fmt) (x : Val) (r : Rounded) (t : Nat) : Nat :=
  if r.ovf then 0
  else match f.read r.bits with
    | .nan => 0
    | .inf _ => 0
    | .zero _ => if x.isZero then t else 0
    | .fin _ m e => min t (f.avail m e)

/-- clamp(i, 0, p). -/
def clampInt (i : Int) (p : Nat) : Nat := min i.toNat p

/-- The add rule of R73 for the exact sum `x` of `a` and `b` and the rounded result `r`. -/
def Fmt.addTag (f : Fmt) (a b : TV) (x : Val) (r : Rounded) : Nat :=
  if a.untrusted f || b.untrusted f then 0
  else
    let fl := maxFloor a.floor b.floor
    if x.isZero then (if fl = none then f.p else 0)
    else match f.read r.bits, fl with
      | .fin _ m e, some q => clampInt (expOf m e - q + 1) f.p
      | .fin _ _ _, none => f.p
      | _, _ => 0

/-- The mul rule of R73 for the exact product `x`. -/
def Fmt.mulTag (f : Fmt) (a b : TV) (x : Val) : Nat :=
  if a.untrusted f || b.untrusted f then 0
  else if (a.v.isZero || b.v.isZero) && x.isZero then f.p
  else min a.t b.t

/-- An element and its tag. -/
abbrev El := Nat × Nat

/-- The canonical NaN with tag 0 (R68, R72). -/
def Fmt.nanEl (f : Fmt) : El := (f.nanBits, 0)

/-- Rounded a + b with the add rule (R158). -/
def Fmt.addEl (f : Fmt) (rm : Rm) (a b : TV) : El :=
  let x := Val.add rm a.v b.v
  let r := f.round rm x
  (r.bits, f.limit x r (f.addTag a b x r))

def TV.neg (a : TV) : TV := ⟨a.v.neg, a.t⟩

/-- Rounded a × b with the mul rule (R158). -/
def Fmt.mulEl (f : Fmt) (rm : Rm) (a b : TV) : El :=
  let x := Val.mul a.v b.v
  let r := f.round rm x
  (r.bits, f.limit x r (f.mulTag a b x))

/-- Rounded a × b + c under R74: one rounding, one application of R72. -/
def Fmt.fmaEl (f : Fmt) (rm : Rm) (a b c : TV) (negProd : Bool) : El :=
  let x0 := Val.mul a.v b.v
  let prod : TV := ⟨if negProd then x0.neg else x0, f.mulTag a b x0⟩
  f.addEl rm prod c

/-- True where `a` orders below `b` for minimum and maximum: −0 below +0 (R68). -/
def Val.lt (a b : Val) : Bool :=
  match a, b with
  | .zero x, .zero y => x && !y
  | _, _ => Val.cmp a b < 0

/-- IEEE 754-2019 minimum or maximum; the tag is that of the chosen operand, the first where they are equal (R68, R73,
R158). -/
def Fmt.minMaxEl (f : Fmt) (isMax : Bool) (a b : El) : El :=
  let x := f.read a.1
  let y := f.read b.1
  if x.isNan || y.isNan then f.nanEl
  else
    let second := if isMax then Val.lt x y else Val.lt y x
    let c := if second then b else a
    (c.1, f.limit (f.read c.1) ⟨c.1, false⟩ (min c.2 f.p))

/-- |a| or −a; a NaN gives the canonical NaN (R158). -/
def Fmt.signEl (f : Fmt) (flip : Bool) (a : El) : El :=
  let x := f.read a.1
  if x.isNan then f.nanEl
  else
    let s := 2 ^ (f.width - 1)
    let bits := if flip then (if a.1 / s % 2 == 1 then a.1 - s else a.1 + s) else a.1 % s
    (bits, f.limit (f.read bits) ⟨bits, false⟩ (min a.2 f.p))

/-- An approximation result: one rounding on the 22-bit grid, tag min(ta, 22) under R72 (R160). -/
def approxEl (fn : Val → Val) (rm : Rm) (a : El) : El :=
  let x := fn (fp32.read a.1)
  let r := approxRound rm x
  (r.bits, fp32.limit x r (min (min a.2 24) 22))

/-- FP → FP conversion of an element, with the conversion tag rule: min(t, p_src, p_dst) (R73, R171). -/
def convEl (src dst : Fmt) (rm : Rm) (a : El) : El :=
  let x := src.read a.1
  let r := dst.round rm x
  (r.bits, dst.limit x r (min (min a.2 src.p) dst.p))

/-- Integer → FP conversion: tag p_dst under R72 (R69, R73). -/
def intToFpEl (dst : Fmt) (rm : Rm) (i : Int) : El :=
  let x := valOfInt i
  let r := dst.round rm x
  (r.bits, dst.limit x r dst.p)

/-! Packed elements (R75, R146). -/

/-- Element `e` of width `w` of a lane word. -/
def elemOf (x : Lane) (w e : Nat) : Nat := x.toNat / 2 ^ (w * e) % 2 ^ w

/-- A signed element. -/
def sElem (v w : Nat) : Int := if v < 2 ^ (w - 1) then (v : Int) else (v : Int) - (2 ^ w : Nat)

/-- The lane word of elements of width `w`, element 0 first. -/
def packElems (w : Nat) : List Nat → Nat
  | [] => 0
  | e :: es => e % 2 ^ w + 2 ^ w * packElems w es

/-- The least tag of a list of elements, 24 for none. -/
def minTag (es : List El) : Nat := es.foldl (fun t e => min t e.2) 24

/-- A lane word of packed elements: its tag is the minimum over them (R75). -/
def laneOfEls (w : Nat) (es : List El) : LaneW := ⟨BitVec.ofNat 32 (packElems w (es.map Prod.fst)), minTag es⟩

/-- Applies an element operation of width `w` to a lane word. -/
def mapEls1 (w : Nat) (g : El → El) (a : LaneW) : LaneW :=
  laneOfEls w ((List.range (32 / w)).map fun e => g (elemOf a.w w e, a.tag))

/-- Applies an element operation of width `w` to two lane words. -/
def mapEls2 (w : Nat) (g : El → El → El) (a b : LaneW) : LaneW :=
  laneOfEls w ((List.range (32 / w)).map fun e => g (elemOf a.w w e, a.tag) (elemOf b.w w e, b.tag))

/-- Applies an element operation of width `w` to three lane words. -/
def mapEls3 (w : Nat) (g : El → El → El → El) (a b c : LaneW) : LaneW :=
  laneOfEls w ((List.range (32 / w)).map fun e =>
    g (elemOf a.w w e, a.tag) (elemOf b.w w e, b.tag) (elemOf c.w w e, c.tag))

/-- An integer operation on elements of width `w`, wrapping, tag 24 (R148, R155). -/
def intEls2 (w : Nat) (g : Nat → Nat → Int) (a b : LaneW) : LaneW :=
  mapEls2 w (fun x y => ((g x.1 y.1 % (2 ^ w : Nat)).toNat, 24)) a b

/-- The precision p of a type code as a tag clamp: 4 for .lq2 (R61, R71, R169). -/
def tagOfType (t : Nat) : Nat := if t = 6 then 4 else (fmtOfType t).p

/-- Tag of a word of an untagged granule of the given PFMT in a vector load (R79). -/
def tagOfPfmt : Nat → Nat
  | 1 => 24
  | 2 => 8
  | 3 => 11
  | 4 => 4
  | 5 => 3
  | 6 => 2
  | 7 => 4
  | _ => 24

/-- A node of the FP reduction tree (R70). -/
def redNode (rm : Rm) (a b : El) : El := fp32.addEl rm (fp32.tv a.1 a.2) (fp32.tv b.1 b.2)

/-- One level of the pairwise tree (R70). -/
def redLevel (rm : Rm) : List El → List El
  | a :: b :: r => redNode rm a b :: redLevel rm r
  | l => l

/-- The root of the six-level tree over 64 lanes (R70). -/
def redTree (rm : Rm) (l : List El) : El :=
  (redLevel rm (redLevel rm (redLevel rm (redLevel rm (redLevel rm (redLevel rm l)))))).headD (0, 24)

end Sys2Proof.Machine
end

