-- ==== Sys2Proof/Machine/Operands.lean ====
section
/-! DEFINITION. Register operands: rotation, reads of every register file, and the operands each syllable reads, in the field
order in which a trap frame latches them (02_task_state.md R35 to R42, 04_encoding.md R88, 07_task_traps.md R187). -/

namespace Sys2Proof.Machine

/-! Named bits of SSTAT (R52). -/

/-- A field of a 64-bit register as a number. -/
def field (w : Word) (lo n : Nat) : Nat := w.toNat / 2 ^ lo % 2 ^ n

/-- The register with a field replaced. -/
def setField (w : Word) (lo n v : Nat) : Word :=
  BitVec.ofNat 64 (w.toNat - field w lo n * 2 ^ lo + v % 2 ^ n * 2 ^ lo)

def Core.tl (c : Core) : Nat := field c.x.sstat 24 2
def Core.frm (c : Core) : Rm := Rm.ofCode (field c.x.sstat 21 3)
def Core.ste (c : Core) : Bool := field c.x.sstat 26 1 == 1
def Core.sthr (c : Core) : Nat := field c.x.sstat 27 5
def Core.amode (c : Core) : Nat := field c.x.sstat 38 2
def Core.awin (c : Core) : Nat := field c.x.sstat 36 2
def Core.spm (c : Core) : Bool := field c.x.sstat 19 1 == 1
def Core.half (c : Core) : Nat := field c.x.sstat 20 1

/-- The core's clock at its trap level (R12, R184). -/
def Core.now (c : Core) : Nat := if c.tl = 0 then c.clk else c.hclk

/-! Rotation (R38). -/

/-- Physical scalar register of s(n). -/
def Core.physS (c : Core) (n : BitVec 5) : Nat :=
  if n.toNat < 24 then n.toNat else 24 + (n.toNat - 24 + 8 - c.l.rrb.toNat) % 8

/-- Physical vector register of v(n), n at most 23. -/
def Core.physV (c : Core) (n : BitVec 5) : Nat :=
  if n.toNat < 16 then n.toNat else 16 + (n.toNat - 16 + 8 - c.l.rrb.toNat) % 8

/-- s(n): s0 reads zero (R35). -/
def Core.readS (c : Core) (n : BitVec 5) : Word := if n.toNat = 0 then 0 else c.r.s.getD (c.physS n) 0

/-- v(n). -/
def Core.readV (c : Core) (n : BitVec 5) : Vec := c.r.v.getD (c.physV n) Vec.zero

/-- p(n): p0 reads all ones (R42). -/
def Core.readP (c : Core) (n : Nat) : BitVec 64 := if n = 0 then BitVec.allOnes 64 else c.r.p.getD n 0

/-- True for a VS code that names a read port (R88). -/
def isPort (c : BitVec 5) : Bool := 24 ≤ c.toNat

/-- Read port of a VS code 24 to 31; write port of a VD code 24 to 27. -/
def portOf (c : BitVec 5) : Nat := (c.toNat - 24) % 4

/-- True for the popping code of a read port (R39). -/
def isPop (c : BitVec 5) : Bool := 24 ≤ c.toNat && c.toNat < 28

/-- An operand that a syllable reads. -/
inductive Opnd where
  | s (r : BitVec 5)
  | v (c : BitVec 5)
  | p (n : Nat)
  deriving DecidableEq, Repr

/-- The two scalars of a descriptor pair; an operand buffer reads none (R88). -/
def pairOpnds (c : BitVec 5) : List Opnd :=
  if 16 ≤ c.toNat then [.s (BitVec.ofNat 5 (2 * (c.toNat - 16))), .s (BitVec.ofNat 5 (2 * (c.toNat - 16) + 1))] else []

/-- The operands of a syllable in the order d, a, b, c and then the writing predicate (R187). -/
def operandsOf : Instr → List Opnd
  | .brZ c _ | .brNz c _ | .brLz c _ | .brGez c _ => [.s c]
  | .brP c _ | .brAny c _ | .brAll c _ | .brNone c _ => [.p c.toNat]
  | .jmpi a | .calli a | .lbrk a | .rngseed a => [.s a]
  | .ret => [.s 31]
  | .zloop d _ _ => [.s d]
  | .ploop d _ _ _ => [.s d]
  | .waitt a _ | .waitg a _ | .wrsys a _ => [.s a]
  | .add _ a b | .sub _ a b | .and _ a b | .or _ a b | .xor _ a b | .shl _ a b | .shr _ a b | .sra _ a b
  | .slt _ a b | .sltn _ a b | .min _ a b | .max _ a b | .minn _ a b | .maxn _ a b | .addW _ a b | .subW _ a b
  | .mul _ a b | .mulh _ a b | .mulhn _ a b | .div _ a b | .divn _ a b | .rem _ a b | .remn _ a b
  | .mulW _ a b | .divW _ a b | .divnW _ a b | .remW _ a b | .remnW _ a b => [.s a, .s b]
  | .clz _ a | .ctz _ a | .popc _ a => [.s a]
  | .sel _ a b c => [.s a, .s b, .s c]
  | .lea _ a b _ => [.s a, .s b]
  | .addi _ a _ | .andi _ a _ | .ori _ a _ | .xori _ a _ | .slti _ a _ | .shli _ a _ | .shri _ a _ | .srai _ a _ => [.s a]
  | .movhi d _ _ => [.s d]
  | .ext _ a _ _ => [.s a]
  | .ins d a _ _ => [.s d, .s a]
  | .wrag _ a _ | .wrmp _ a | .wreng a _ => [.s a]
  | .ldB _ a _ | .ldH _ a _ | .ldW _ a _ | .ldD _ a _ | .vld _ a _ | .spldScalar _ a _ | .spldVector _ a _ => [.s a]
  | .stB d a _ | .stH d a _ | .stW d a _ | .stD d a _ | .spstScalar d a _ => [.s d, .s a]
  | .vst d a _ | .spstVector d a _ => [.v d, .s a]
  | .vldx _ a b p => [.s a, .v b, .p p.toNat]
  | .vstx d a b p => [.v d, .s a, .v b, .p p.toNat]
  | .amoAdd _ a b _ | .amoAnd _ a b _ | .amoOr _ a b _ | .amoXor _ a b _ | .amoMin _ a b _ | .amoMax _ a b _
  | .amoSwap _ a b _ => [.s a, .s b]
  | .amoCas _ a b c _ => [.s a, .s b, .s c]
  | .bind d a b => [.s d, .s a, .s b]
  | .acq a _ | .rel a _ => [.s a]
  | .vadd _ a b p _ | .vsub _ a b p _ | .vand _ a b p _ | .vor _ a b p _ | .vxor _ a b p _ | .vshl _ a b p _
  | .vshr _ a b p _ | .vsra _ a b p _ | .vmin _ a b p _ | .vmax _ a b p _ | .vmul _ a b p _ | .vmulh _ a b p _
  | .vfadd _ a b p _ | .vfsub _ a b p _ | .vfmul _ a b p _ | .vfmin _ a b p _ | .vfmax _ a b p _ =>
    [.v a, .v b, .p p.toNat]
  | .vabs _ a p _ | .vfabs _ a p _ | .vfneg _ a p _ => [.v a, .p p.toNat]
  | .vmadd _ a b c p _ | .vfma _ a b c p _ | .vfms _ a b c p _ | .vfnma _ a b c p _ =>
    [.v a, .v b, .v c, .p p.toNat]
  | .vfrcp _ a p | .vfrsq _ a p | .vfexp2 _ a p | .vflog2 _ a p | .vfclass _ a p => [.v a, .p p.toNat]
  | .vcmp _ a b p _ _ | .vfcmp _ a b p _ => [.v a, .v b, .p p.toNat]
  | .vsel _ a b c p => [.v a, .v b, .p c.toNat, .p p.toNat]
  | .vperm _ a b p => [.v a, .v b, .p p.toNat]
  | .vslide _ a b c p => [.v a, .v b, .s c, .p p.toNat]
  | .vrot _ a c p => [.v a, .s c, .p p.toNat]
  | .vbcast _ a p => [.s a, .p p.toNat]
  | .vext _ a b => [.v a, .s b]
  | .vins d a b => (if isPort d then [] else [.v d]) ++ [.s a, .s b]
  | .vredadd _ a p _ | .vredmin _ a p _ | .vredmax _ a p _ => [.v a, .p p.toNat]
  | .vfredadd _ a p => [.v a, .p p.toNat]
  | .pand _ a b p | .por _ a b p | .pxor _ a b p => [.p a.toNat, .p b.toNat, .p p.toNat]
  | .pnot _ a p | .pcnt _ a p | .pfirst _ a p => [.p a.toNat, .p p.toNat]
  | .pset _ p | .pclr _ p => [.p p.toNat]
  | .vsig _ a p | .sigmin _ a p | .vzmask _ a p | .vsigCv _ a p | .sigminCv _ a p | .vzmaskCv _ a p => [.v a, .p p.toNat]
  | .vsigset _ a _ p _ | .vsigsetCv _ a _ p _ => [.v a, .p p.toNat]
  | .vsiglt _ a _ p | .vsigltCv _ a _ p => [.v a, .p p.toNat]
  | .vcvt _ a _ p _ _ | .vunpack _ a p _ _ | .vcbdec _ a p _ _ => [.v a, .p p.toNat]
  | .vpack _ a b p _ _ | .vscale _ a b p _ _ => [.v a, .v b, .p p.toNat]
  | .mma _ _ _ a b _ _ _ | .mmaBin _ _ _ a b _ _ _ => pairOpnds a ++ pairOpnds b
  | .mrd _ _ _ a b _ => pairOpnds a ++ [.s b]
  | .mwr _ _ _ a _ | .mld _ _ a => pairOpnds a
  | .mcall d a _ => [.s d, .s a]
  | .cpy _ _ _ a b _ => [.s a, .s b]
  | .cpyg _ _ a b _ | .cpys _ _ a b _ => [.s a, .s b]
  | .ovl _ a b _ => [.s a, .s b]
  | .cpyf _ _ _ a _ => [.s a]
  | .gamoAdd _ a b _ | .gamoAnd _ a b _ | .gamoOr _ a b _ | .gamoXor _ a b _ | .gamoMin _ a b _ | .gamoMax _ a b _
  | .gamoSwap _ a b _ | .gamoCas _ a b _ | .gamoAcqAdd _ a b _ | .gamoAcqAnd _ a b _ | .gamoAcqOr _ a b _
  | .gamoAcqXor _ a b _ | .gamoAcqMin _ a b _ | .gamoAcqMax _ a b _ | .gamoAcqSwap _ a b _ | .gamoAcqCas _ a b _
  | .gamoRelAdd _ a b _ | .gamoRelAnd _ a b _ | .gamoRelOr _ a b _ | .gamoRelXor _ a b _ | .gamoRelMin _ a b _
  | .gamoRelMax _ a b _ | .gamoRelSwap _ a b _ | .gamoRelCas _ a b _ => [.s a, .s b]
  | .fsend a b _ => [.s a, .s b]
  | .frecv a _ => [.s a]
  | .frecvAddF32 a b _ | .frecvAddBf16 a b _ | .frecvMaxF32 a b _ => [.s a, .s b]
  | .lnch a b _ => [.s a, .s b]
  | _ => []

/-- The vector operands among the operands of a syllable. -/
def vOpnds (i : Instr) : List (BitVec 5) :=
  (operandsOf i).filterMap fun | .v c => some c | _ => none

/-- The write port a syllable's vector result goes to, if any (R41, R88). -/
def vdPort : Instr → Option (BitVec 5)
  | .vld d _ _ | .vldx d _ _ _ | .spldVector d _ _ | .vabs d _ _ _ | .vfabs d _ _ _ | .vfneg d _ _ _ | .vfrcp d _ _
  | .vfrsq d _ _ | .vfexp2 d _ _ | .vflog2 d _ _ | .vfclass d _ _ | .vrot d _ _ _ | .vbcast d _ _ | .vins d _ _
  | .vredadd d _ _ _ | .vredmin d _ _ _ | .vredmax d _ _ _ | .vfredadd d _ _ | .vsig d _ _ | .vsigCv d _ _
  | .vsigset d _ _ _ _ | .vsigsetCv d _ _ _ _ | .vcvt d _ _ _ _ _ | .vpack d _ _ _ _ _ | .vunpack d _ _ _ _
  | .vcbdec d _ _ _ _ | .vscale d _ _ _ _ _ | .vadd d _ _ _ _ | .vsub d _ _ _ _ | .vand d _ _ _ _ | .vor d _ _ _ _
  | .vxor d _ _ _ _ | .vshl d _ _ _ _ | .vshr d _ _ _ _ | .vsra d _ _ _ _ | .vmin d _ _ _ _ | .vmax d _ _ _ _
  | .vmul d _ _ _ _ | .vmulh d _ _ _ _ | .vmadd d _ _ _ _ _ | .vfadd d _ _ _ _ | .vfsub d _ _ _ _ | .vfmul d _ _ _ _
  | .vfmin d _ _ _ _ | .vfmax d _ _ _ _ | .vfma d _ _ _ _ _ | .vfms d _ _ _ _ _ | .vfnma d _ _ _ _ _
  | .vsel d _ _ _ _ | .vperm d _ _ _ | .vslide d _ _ _ _ => if isPort d then some d else none
  | _ => none

end Sys2Proof.Machine
end

