-- ==== Sys2Proof/Machine/Ops.lean ====
section
/-! DEFINITION. The named operations on registers, memory and pending results that every meaning uses: component access,
timing-table entries, window addresses and their checks, landings and samples with tags, poison and granule fields, and the
issue of a syllable (01_tile_task.md, 05_scalar_control.md R111, R112, R138, 08_spire.md R194 to R198). -/

namespace Sys2Proof.Machine

/-! Components. -/

def State.core (s : State) (k : Nat) : Core := alGet Core.zero s.cores k
def State.setCore (s : State) (k : Nat) (c : Core) : State := { s with cores := alSet s.cores k c }
def State.modCore (s : State) (k : Nat) (g : Core → Core) : State := s.setCore k (g (s.core k))
def State.spire (s : State) (k : Nat) : Spire := alGet Spire.zero s.spires k
def State.setSpire (s : State) (k : Nat) (x : Spire) : State := { s with spires := alSet s.spires k x }
def State.launch (s : State) (k : Nat) : Launch := alGet Launch.zero s.launches k
def State.setLaunch (s : State) (k : Nat) (l : Launch) : State := { s with launches := alSet s.launches k l }
def State.modLaunch (s : State) (k : Nat) (g : Launch → Launch) : State := s.setLaunch k (g (s.launch k))

/-- GTIME: 48 bits of nanoseconds and 16 of fraction (R53). -/
def State.gtime (s : State) : Word := BitVec.ofNat 64 (s.gtime9 / 9)

/-- The launch of the core's task. -/
def State.launchOf (s : State) (k : Nat) : Launch := s.launch (s.core k).f.task.launch

/-- The timing-table entry of a class in the core's spire (R217). -/
def State.tt (s : State) (k cls : Nat) : TimeEntry := (s.spire (k / 2)).tt.getD cls ⟨0, 0, 0, 0⟩

/-! Core updates. -/

def Core.modR (c : Core) (g : Regs → Regs) : Core := { c with r := g c.r }
def Core.modX (c : Core) (g : SysRegs → SysRegs) : Core := { c with x := g c.x }
def Core.modL (c : Core) (g : Loops → Loops) : Core := { c with l := g c.l }
def Core.modF (c : Core) (g : Flow → Flow) : Core := { c with f := g c.f }
def Core.modE (c : Core) (g : Engines → Engines) : Core := { c with e := g c.e }
def Core.modP (c : Core) (g : Pend → Pend) : Core := { c with p := g c.p }

/-- Writes a physical scalar register; a result aimed at s0 is discarded (R35). -/
def Core.setS (c : Core) (phys : Nat) (v : Word) : Core :=
  if phys = 0 then c else c.modR fun r => { r with s := r.s.set phys v }

/-- The words of a vector where a result writes, and the old words elsewhere (R37). -/
def mergeLanes : List (Option LaneW) → Vec → Vec
  | some x :: ls, _ :: vs => x :: mergeLanes ls vs
  | none :: ls, v :: vs => v :: mergeLanes ls vs
  | _, vs => vs

/-- Lands a vector result in a physical vector register, lane by lane (R37). -/
def Core.landV (c : Core) (phys : Nat) (lanes : List (Option LaneW)) : Core :=
  c.modR fun r => { r with v := r.v.set phys (mergeLanes lanes (r.v.getD phys Vec.zero)) }

/-- Lands predicate bits; a result aimed at p0 is discarded (R42). -/
def Core.landP (c : Core) (n : Nat) (val mask : BitVec 64) : Core :=
  if n = 0 then c
  else c.modR fun r => { r with p := r.p.set n ((r.p.getD n 0 &&& ~~~mask) ||| (val &&& mask)) }

/-- A vector that enters a write port: its inactive lanes are zero words with tag 24 (R41). -/
def portVec (lanes : List (Option LaneW)) : Vec := lanes.map fun | some x => x | none => LaneW.zero

/-! Window addresses (R194 to R196). -/

/-- A resolved window address. -/
structure Win where
  flat : Nat
  unit : Nat
  /-- Physical spire, or physical cupola for unit 8. -/
  phys : Nat
  tower : Nat
  cupola : Nat
  lspire : Nat
  off : Nat
  deriving DecidableEq, Repr, Inhabited

/-- Valid bytes of a unit (R194). -/
def unitSize : Nat → Nat
  | 0 => 3 * 2 ^ 20
  | 1 => 2 ^ 20
  | 2 => 6144
  | 3 => 6144
  | 4 => 2 ^ 17
  | 5 => 2 ^ 17
  | 6 => 1024
  | 7 => 32768
  | 8 => 2 ^ 25
  | 10 => 4096
  | _ => 0

/-- Flat base of a unit of a physical spire. -/
def unitBase (unit phys : Nat) : Nat :=
  match unit with
  | 0 => tileBase phys
  | 1 => accBase phys
  | 2 => vregBase (2 * phys)
  | 3 => vregBase (2 * phys + 1)
  | 4 => ispBase (2 * phys)
  | 5 => ispBase (2 * phys + 1)
  | 6 => codebookBase phys
  | 7 => microBase phys
  | 8 => cupolaBase phys
  | _ => mailboxBase phys

/-- The flat address of a window address of physical coordinates that is memory (R294). -/
def physFlat (a n : Nat) : Option Nat :=
  let tower := a / 2 ^ 37
  let spire := tower * 128 + a / 2 ^ 34 % 8 * 16 + a / 2 ^ 30 % 16
  let unit := a / 2 ^ 26 % 16
  if 4 ≤ tower ∨ unit = 10 ∨ unitSize unit < a % 2 ^ 26 + n then none
  else some (unitBase unit (if unit = 8 then spire / 16 else spire) + a % 2 ^ 26)

/-- The physical spire of a logical spire of the launch, if the placement map binds it (R195). -/
def Launch.physOf (l : Launch) (lsp : Nat) : Option Nat := (l.place.find? (fun x => x.1 == lsp)).map Prod.snd

/-- The launch's size Z of the cupola scratchpad in bytes (R246, R305). -/
def Launch.zcup (l : Launch) : Nat := leValue ((l.record.drop 0x84).take 2) * 32768

/-- Resolves the window address `a` for an access of `n` bytes, or `none` where R195 raises PROT. -/
def Launch.window (l : Launch) (a n : Nat) : Option Win :=
  let tower := a / 2 ^ 37
  let cup := a / 2 ^ 34 % 8
  let sp := a / 2 ^ 30 % 16
  let unit := a / 2 ^ 26 % 16
  let off := a % 2 ^ 26
  if 6 ≤ tower || unitSize unit < off + n then none
  else if 4 ≤ tower then
    if unit == 10 && cup == 0 && sp == 0 then some ⟨mailboxBase (512 + (tower - 4)) + off, 10, 512 + (tower - 4), tower, 0, 0, off⟩
    else none
  else if unit == 8 then
    match l.place.find? (fun x => x.1 / 16 == tower * 8 + cup) with
    | some x => if sp == 0 && off + n ≤ l.zcup then some ⟨cupolaBase (x.2 / 16) + off, 8, x.2 / 16, tower, cup, sp, off⟩ else none
    | none => none
  else
    match l.physOf (tower * 128 + cup * 16 + sp) with
    | none => none
    | some ps =>
      if 2 ≤ unit && unit ≤ 5 && l.halves ≤ unit % 2 then none
      else some ⟨unitBase unit ps + off, unit, ps, tower, cup, sp, off⟩

/-- The window address of a unit-0 byte of a logical spire (R49). -/
def windowOf (lsp off : Nat) : Nat := lsp / 128 * 2 ^ 37 + lsp / 16 % 8 * 2 ^ 34 + lsp % 16 * 2 ^ 30 + off

/-- The LS path class of a target for a task at a logical spire (R138). -/
def pathClass (lsp : Nat) (w : Win) : Nat :=
  if w.tower ≠ lsp / 128 then 9
  else if w.unit = 8 then (if w.cupola = lsp / 16 % 8 then 7 else 8)
  else if w.cupola = lsp / 16 % 8 ∧ w.lspire = lsp % 16 then 6 else 8

/-- True where the target lies in the task's own spire. -/
def Win.own (w : Win) (lsp : Nat) : Bool :=
  w.unit ≠ 8 && w.tower == lsp / 128 && w.cupola == lsp / 16 % 8 && w.lspire == lsp % 16

/-! Traps. -/

/-- Access kinds of R178. -/
def akLoad : Nat := 1
def akStore : Nat := 2
def akSrc : Nat := 3
def akDst : Nat := 4
def akAtomic : Nat := 5
def akSync : Nat := 6
def akRecord : Nat := 7
def akOverlay : Nat := 8
def akSys : Nat := 9
def akOther : Nat := 10

/-- A trap raised at issue: cause class, sub-cause, XADDR and XLANE; `after` for USER and BRK, which commit first (R132). -/
structure Trap where
  cause : Nat
  sub : Nat
  addr : Word
  lane : Nat
  after : Bool
  deriving DecidableEq, Repr

def Trap.mk' (cause sub : Nat) (addr : Word := 0) (lane : Nat := 0) : Trap := ⟨cause, sub, addr, lane, false⟩
def trapIllop (syll : BitVec 32) : Trap := Trap.mk' 1 0 (syll.setWidth 64)
def trapSlip (sub : Nat) : Trap := Trap.mk' 8 sub
def trapProt (kind : Nat) (addr : Word := 0) : Trap := Trap.mk' 12 kind addr
def trapAlign (kind : Nat) (addr : Word) : Trap := Trap.mk' 14 kind addr
def slipEmpty : Trap := trapSlip 1
def slipLate : Trap := trapSlip 3
def slipWindow : Trap := trapSlip 4
def slipPrb : Trap := trapSlip 5
def slipFabric : Trap := trapSlip 7

/-- The first byte of the trap-frame slots: SPLB.LIMIT × 4 KiB − 65,536 (R54). -/
def Core.frameBase (c : Core) : Nat := field c.x.splb 32 10 * 4096 - 65536

/-- True where an access of `n` bytes at a tile-scratchpad offset touches a trap-frame slot (R54). -/
def Core.inFrames (c : Core) (off n : Nat) : Bool :=
  c.frameBase < off + n && off < field c.x.splb 32 10 * 4096

/-- Whether R196 permits a plain load of `n` bytes of a unit at a trap level. -/
def loadPermitted (unit tl n : Nat) : Bool :=
  match unit with
  | 9 => false
  | 10 => 1 ≤ tl && n == 8
  | _ => true

/-- Whether R196 and R138 permit a plain store of `n` bytes to a unit at a trap level. -/
def storePermitted (unit tl n : Nat) : Bool :=
  match unit with
  | 0 | 8 => true
  | 1 | 2 | 3 | 6 => 4 ≤ n
  | 7 => 8 ≤ n
  | 10 => 1 ≤ tl && n == 8
  | _ => false

/-- The checks of R138 and R152 on a plain access of `n` bytes at the 64-bit address `a`, in their order. -/
def State.plainCheck (s : State) (k : Nat) (kind : Nat) (a : Word) (n : Nat) : Except Trap Win :=
  let c := s.core k
  if 2 ^ 40 ≤ a.toNat then .error (trapProt kind a)
  else if a.toNat % n ≠ 0 then .error (trapAlign kind a)
  else match (s.launchOf k).window a.toNat n with
    | none => .error (trapProt kind a)
    | some w =>
      let ok := if kind = akLoad then loadPermitted w.unit c.tl n
        else storePermitted w.unit c.tl n && !(w.unit == 0 && c.tl == 0 && c.inFrames w.off n)
      if !ok || (1 ≤ c.tl && !w.own c.f.task.lsp) then .error (trapProt kind a) else .ok w

/-! Reading and writing memory with its sidebands. -/

/-- FMT and BLK of a scratchpad granule (R198). -/
def State.granule (s : State) (flat : Nat) : Nat × Nat := alGet (0, 0) s.gran (flat / 4096)

/-- True for tile and cupola scratchpad, whose granules carry formats (R198). -/
def isPad (flat : Nat) : Bool := (2 ^ 40 ≤ flat && flat < 2 ^ 41) || (2 ^ 45 ≤ flat && flat < 2 ^ 46)

/-- True where a word on chip carries a meaningful tag: accumulator memory and FP32+TAG granules (R79, R196). -/
def State.tagged (s : State) (flat : Nat) : Bool :=
  (2 ^ 41 ≤ flat && flat < 2 ^ 42) || (isPad flat && (s.granule flat).1 == 12)

/-- Word `i` of a control core's vector registers as units 2 and 3 show them (R37; log 14). -/
def Core.vregWord (c : Core) (i : Nat) : LaneW := (c.r.v.getD (i / 64) Vec.zero).getD (i % 64) LaneW.zero

/-- `n` bytes at a flat address (R17). -/
def State.bytes (s : State) (flat n : Nat) : List Byte :=
  if flat < 2 ^ 47 then s.mem.read flat n
  else
    let c := s.core ((flat - 2 ^ 47) / 2 ^ 13)
    let off := flat % 2 ^ 13
    let ws := (List.range (n / 4 + 2)).flatMap fun i => leBytes (c.vregWord (off / 4 + i)).w.toNat 4
    (ws.drop (off % 4)).take n

/-- The stored tag of the 4-byte word of a flat address. -/
def State.tagAt (s : State) (flat : Nat) : Nat := alGet 24 s.tags (flat / 4)

/-- The ISP bundle at a flat address is marked poisoned (R199). -/
def State.badBundle (s : State) (flat : Nat) : Bool :=
  2 ^ 42 ≤ flat && flat < 2 ^ 43 && (s.spire ((flat - 2 ^ 42) / 2 ^ 18)).badBundles.contains ((flat - 2 ^ 42) / 32 % 8192)

/-- Sub-cause of the poison of the word at a flat address, 0 for none: its own, or 3 in a poisoned bundle (R199, R286). -/
def State.poisonAt (s : State) (flat : Nat) : Nat :=
  let p := alGet 0 s.poison (flat / 4)
  if p ≠ 0 then p else if s.badBundle flat then 3 else 0

/-- The poison of a run of bytes: its sub-cause and the flat address of the first poisoned word, (0, 0) for none. -/
def State.poisonIn (s : State) (flat n : Nat) : Nat × Nat :=
  if 2 ^ 42 ≤ flat ∧ flat < 2 ^ 43 then
    ((List.range ((flat + n - 1) / 4 - flat / 4 + 1)).findSome? fun i =>
      let w := (flat / 4 + i) * 4
      if s.poisonAt w = 0 then none else some (s.poisonAt w, w)).getD (0, 0)
  else match s.poison.find? (fun x => flat / 4 ≤ x.1 && x.1 * 4 < flat + n && x.2 != 0) with
  | some x => (x.2, x.1 * 4)
  | none => (0, 0)

/-- Poisons words from a flat address on, one by one: 0 leaves a word as it is (R286). -/
def State.poisonWords (s : State) (flat : Nat) (subs : List Nat) : State :=
  let put := fun (l : List (Nat × Nat)) (x : Nat × Nat) => if x.2 = 0 then l else alSet l (flat / 4 + x.1) x.2
  { s with poison := ((List.range subs.length).zip subs).foldl put s.poison }

/-- The tag with which a vector load reads a word (R79). -/
def State.loadTag (s : State) (flat : Nat) : Nat :=
  if s.tagged flat then clampTag (s.tagAt flat)
  else if isPad flat then tagOfPfmt (s.granule flat).1 else 24

/-- A 256-byte vector sample with its tags (R79, R152). -/
def State.sampleVec (s : State) (flat : Nat) : Vec :=
  (List.range 64).map fun l => ⟨BitVec.ofNat 32 (leValue (s.bytes (flat + 4 * l) 4)), s.loadTag (flat + 4 * l)⟩

/-- Clears or keeps the poison of the words a landing of `n` bytes touches, and poisons them where its data is poisoned
(R286, R287). -/
def State.landPoison (s : State) (flat n sub : Nat) : State :=
  let first := flat / 4
  let last := (flat + n - 1) / 4
  if n = 0 then s
  else if sub = 0 ∧ s.poison = [] then s
  else
    let ks := (List.range (last - first + 1)).map fun i =>
      let w := first + i
      let whole := flat ≤ 4 * w && 4 * w + 4 ≤ flat + n
      if sub ≠ 0 then sub else if whole then 0 else alGet 0 s.poison w
    { s with poison := alWrite 0 s.poison first ks }

/-- Lands bytes at a flat address below the register windows. `tags` gives the tag of each 4-byte word touched, 24 where the
list ends; they are kept where `keep` says the target holds tags, and dropped elsewhere (R79; log 15). -/
def State.landBytes (s : State) (flat : Nat) (bs : List Byte) (tags : List Nat) (keep : Bool) (poison : Nat) : State :=
  let first := flat / 4
  let cnt := (flat + bs.length - 1) / 4 - first + 1
  let ts := (List.range cnt).map fun i => if keep then tags.getD i 24 else 24
  let s := s.landPoison flat bs.length poison
  { s with mem := s.mem.write flat bs, tags := if bs.isEmpty then s.tags else alWrite 24 s.tags first ts }

/-- Sets the words of vector registers through units 2 and 3, with tag 24 (R37). -/
def Core.landVreg (c : Core) (i : Nat) : List Byte → Core
  | b0 :: b1 :: b2 :: b3 :: r =>
    let w := BitVec.ofNat 32 (leValue [b0, b1, b2, b3])
    Core.landVreg (c.modR fun x =>
      { x with v := x.v.set (i / 64) ((x.v.getD (i / 64) Vec.zero).set (i % 64) ⟨w, 24⟩) }) (i + 1) r
  | _ => c

/-- Lands bytes anywhere on chip: register windows take whole words with tag 24, other places bytes with tags (R37, R79). -/
def State.land (s : State) (flat : Nat) (bs : List Byte) (tags : List Nat) (poison : Nat) : State :=
  if flat < 2 ^ 47 then s.landBytes flat bs tags (s.tagged flat) poison
  else s.modCore ((flat - 2 ^ 47) / 2 ^ 13) fun c => c.landVreg (flat % 2 ^ 13 / 4) bs

/-- Sets FMT and BLK of the granules a run of scratchpad bytes lies in (R198). -/
def State.setGran (s : State) (flat n fmt blk : Nat) : State :=
  if isPad flat && n ≠ 0 then
    { s with gran := alWrite (0, 0) s.gran (flat / 4096) (List.replicate ((flat + n - 1) / 4096 - flat / 4096 + 1) (fmt, blk)) }
  else s

/-- The bytes of a vector and its tags (R152). -/
def vecBytes (v : Vec) : List Byte := v.flatMap fun x => leBytes x.w.toNat 4

/-! Issue of a syllable. -/

/-- The syllable that issues: its core, slot and clock. -/
structure Ctx where
  s : State
  k : Nat
  slot : Nat
  c : Core
  syll : BitVec 32

/-- Operand `i` among the scalars of the syllable: its latch on a resumed slot, else the register (R187, R189). -/
def Ctx.sc (x : Ctx) (i : Nat) (r : BitVec 5) : Word :=
  if x.c.f.latch = [] then x.c.readS r else ((x.c.f.latch.getD x.slot ⟨[], [], []⟩).ss.getD i 0)

/-- Operand `i` among the predicates of the syllable. -/
def Ctx.pr (x : Ctx) (i n : Nat) : BitVec 64 :=
  if x.c.f.latch = [] then x.c.readP n else ((x.c.f.latch.getD x.slot ⟨[], [], []⟩).ps.getD i 0)

/-- Operand `i` among the vectors of the syllable: a register, the head of a read port, or a latch. An empty port raises
QEMPTY (R39); a port at TL ≥ 1 raises PROT (R184). A latch without lanes stands for a port that was empty (log 13). QEMPTY is raised
before the checks of addresses, formats and timetable of the same syllable, where R84 does not place it (log 76). -/
def Ctx.ve (x : Ctx) (i : Nat) (code : BitVec 5) : Except Trap Vec :=
  if isPort code && 1 ≤ x.c.tl then .error (trapProt akOther)
  else if x.c.f.latch = [] then
    if isPort code then
      match x.c.r.q.getD (portOf code) [] with
      | [] => .error slipEmpty
      | v :: _ => .ok v
    else .ok (x.c.readV code)
  else
    let l := (x.c.f.latch.getD x.slot ⟨[], [], []⟩).vs.getD i []
    if l.all (·.isNone) then .error slipEmpty else .ok (portVec l)

/-- A write-port destination at TL ≥ 1 raises PROT (R184). -/
def Ctx.vd (x : Ctx) (d : BitVec 5) : Except Trap Unit :=
  if isPort d && 1 ≤ x.c.tl then .error (trapProt akOther) else .ok ()

/-- The unit of a class in the syllable's slot: both divide classes share one divider (R112). -/
def unitKey (slot cls : Nat) : Nat := if cls = 2 ∨ cls = 3 then slot * 64 + 2 else slot * 64 + cls

/-- Local id, plus 1, of the replaceable unit that serves a class in a slot of a core; 0 for none (R251). -/
def unitOf (cls slot core : Nat) : Nat :=
  let id := fun (type index : Nat) => type * 2 ^ 11 + core * 2 ^ 10 + index + 1
  if (cls = 0 ∨ cls = 1 ∨ cls = 5) ∧ (slot = 1 ∨ slot = 2) then id 0 (slot - 1)
  else if cls = 2 ∨ cls = 3 then id 6 1
  else if cls = 4 then id 6 2
  else if cls = 13 then id 1 0
  else if (cls = 14 ∨ cls = 17 ∨ cls = 18) ∧ (slot = 4 ∨ slot = 5) then id 2 (slot - 4)
  else if cls = 19 ∨ cls = 20 then id 3 0
  else if cls = 21 then id 6 3
  else if 6 ≤ cls ∧ cls ≤ 11 then 7 * 2 ^ 11 + 1
  else 0

/-- The timing-table entry of a class for the syllable's core. -/
def Ctx.tt (x : Ctx) (cls : Nat) : TimeEntry := x.s.tt x.k cls

/-- The repeat-interval check of R112 and R150. -/
def Ctx.unitFree (x : Ctx) (cls : Nat) : Except Trap Unit :=
  if x.c.now < alGet 0 x.c.p.busy (unitKey x.slot cls) then .error slipLate else .ok ()

/-- A new pending entry of the syllable, landing `lat` and sampling `samp` cycles after issue. -/
def Ctx.entry (x : Ctx) (kind : EKind) (lat samp : Nat) : Entry :=
  { uid := x.c.p.uid, kind := kind, due := x.c.now + lat, samp := x.c.now + samp, bundle := x.c.f.pc.toNat,
    slot := x.slot, issue := x.c.now, held := false, suspect := false, poison := 0, paddr := 0, sthr := none,
    fpu := false, forced := false }

/-- Marks the read ports that the given codes pop in this bundle; a latched operand pops nothing (R39, R187). -/
def Ctx.popped (x : Ctx) (codes : List (BitVec 5)) : BitVec 4 :=
  if x.c.f.latch = [] then
    codes.foldl (fun m c => if isPop c then m ||| (1#4 <<< portOf c) else m) x.c.f.popNow
  else x.c.f.popNow

/-- Issues a pending entry of the class: the repeat interval, then the room in the pending-result buffer (R15, R84 items 3
and 4), then the entry, the unit and the pops. -/
def Ctx.issue (x : Ctx) (cls : Nat) (e : Entry) (pops : List (BitVec 5)) : Except Trap Core :=
  if x.c.now < alGet 0 x.c.p.busy (unitKey x.slot cls) then .error slipLate
  else if 96 ≤ x.c.p.prb.length then .error slipPrb
  else .ok ((x.c.modP fun p =>
    { p with prb := p.prb ++ [{ e with unit := unitOf cls x.slot (x.k % 2) }], uid := p.uid + 1,
             busy := alSet p.busy (unitKey x.slot cls) (x.c.now + (x.tt cls).rep) }).modF fun f =>
    { f with popNow := x.popped pops })

/-- Issues a scalar result (R111). -/
def Ctx.scalar (x : Ctx) (cls : Nat) (d : BitVec 5) (v : Word) (pops : List (BitVec 5) := []) : Except Trap Core :=
  x.issue cls (x.entry (.scalar (x.c.physS d) v) (x.tt cls).lat (x.tt cls).lat) pops

/-- Lane `l` of a mask. -/
def laneOn (m : BitVec 64) (l : Nat) : Bool := m.getLsbD l

/-- The destination of a vector result: a register, rotated at issue, or a write port (R38, R41). -/
def Ctx.vdest (x : Ctx) (d : BitVec 5) (lanes : List (Option LaneW)) : EKind :=
  if isPort d then .port (portOf d) lanes else .vector (x.c.physV d) lanes

/-- The lanes of a result under a writing predicate (R37, R147). -/
def maskLanes (m : BitVec 64) (v : Nat → LaneW) : List (Option LaneW) :=
  (List.range 64).map fun l => if laneOn m l then some (v l) else none

/-- Issues a vector result. `chk` results are checked against STHR, results with an element type `sh` against the shadow unit (R77, R151). -/
def Ctx.vector (x : Ctx) (cls : Nat) (d : BitVec 5) (lanes : List (Option LaneW)) (chk : Bool) (sh : Option Nat)
    (pops : List (BitVec 5)) : Except Trap Core :=
  let e := x.entry (x.vdest d lanes) (x.tt cls).lat (x.tt cls).lat
  x.issue cls { e with sthr := if chk && x.c.ste then some x.c.sthr else none, fpu := sh.isSome, typ := sh.getD 0 } pops

/-- Issues a predicate result (R42). -/
def Ctx.predicate (x : Ctx) (cls : Nat) (d : BitVec 5) (val mask : BitVec 64) (pops : List (BitVec 5)) : Except Trap Core :=
  x.issue cls (x.entry (.pred d.toNat val mask) (x.tt cls).lat (x.tt cls).lat) pops

/-- The bits of a 64-lane mask from a test of each lane. -/
def laneBits (g : Nat → Bool) : BitVec 64 :=
  BitVec.ofNat 64 ((List.range 64).foldl (fun n l => if g l then n + 2 ^ l else n) 0)

/-- Lane `l` of a vector. -/
def Vec.at (v : Vec) (l : Nat) : LaneW := v.getD l LaneW.zero

end Sys2Proof.Machine
end

