-- ==== Sys2Proof/Machine/Ring.lean ====
section
/-! DEFINITION. The lantern's ring and the records of launches, faults and engines (15_lantern.md R343 to R346), and the
fabric ports' in-band messages (17_fabric.md R366, R374). -/

namespace Sys2Proof.Machine

/-! The ring (R344, R346). -/

/-- Requester number of a record that has none. -/
def noReq : Nat := 2 ^ 32 - 1

def State.lantern (s : State) (t : Nat) : Lantern := s.lanterns.getD t Lantern.zero
def State.modLantern (s : State) (t : Nat) (g : Lantern → Lantern) : State :=
  { s with lanterns := s.lanterns.set t (g (s.lantern t)) }

/-- Signals an MSI-X vector (R358). -/
def State.signal (s : State) (v : Nat) : State :=
  { s with host := { s.host with msix := s.host.msix.set v (s.host.msix.getD v 0 + 1) } }

/-- Ring slots: 2^LOG, LOG 7 to 24, else 7 (R343). -/
def Lantern.slots (l : Lantern) : Nat :=
  let log := field l.tsize 0 5
  2 ^ (if 7 ≤ log ∧ log ≤ 24 then log else 7)

/-- The 32 bytes of a record (R344). -/
def recordBytes (gtime : Word) (corr req info value : Nat) : List Byte :=
  leBytes gtime.toNat 8 ++ leBytes corr 4 ++ leBytes req 4 ++ leBytes info 8 ++ leBytes value 8

/-- Records that do not fit are dropped and counted (R346). -/
def Lantern.drop (l : Lantern) : Lantern := { l with lost := l.lost + 1, dropped := l.dropped + 1 }

/-- True where one more record fits. -/
def Lantern.fits (l : Lantern) : Bool := (l.tprod - l.tcons).toNat < l.slots

/-- Places one record and then increments TPROD (R346); vector 2 signals a ring above half full (R358). -/
def State.place (s : State) (t : Nat) (bs : List Byte) : State :=
  let l := s.lantern t
  let flat := field l.tbase 12 45 * 4096 + 32 * (l.tprod.toNat % l.slots)
  let s := (s.landBytes flat bs [] false 0).modLantern t fun x => { x with tprod := x.tprod + 1 }
  if (l.tprod - l.tcons).toNat = l.slots / 2 then s.signal 2 else s

/-- Writes a record of an event at a GTIME to a tower's ring; the first that fits after a drop is the SUB 8 event (R345, R346). -/
def State.recordAt (s : State) (g : Word) (t corr req info value : Nat) : State :=
  let l := s.lantern t
  if field l.lctl 0 1 = 0 then s
  else if !l.fits then s.modLantern t Lantern.drop
  else
    let s := if l.dropped = 0 then s
      else (s.place t (recordBytes s.gtime 0 noReq (3 * 2 ^ 60 + 8 * 2 ^ 56 + l.dropped % 2 ^ 44) 0)).modLantern t
        fun x => { x with dropped := 0 }
    if !(s.lantern t).fits then s.modLantern t Lantern.drop
    else s.place t (recordBytes g corr req info value)

/-- Writes a record of an event of the present wall cycle. -/
def State.record (s : State) (t corr req info value : Nat) : State := s.recordAt s.gtime t corr req info value

/-- KEN: records of a kind are enabled (R343). -/
def State.kindOn (s : State) (t kind : Nat) : Bool := field (s.lantern t).lctl (8 + kind) 1 == 1

/-- INFO of a record. -/
def infoWord (kind sub bundle low : Nat) : Nat := kind * 2 ^ 60 + sub * 2 ^ 56 + bundle % 4096 * 2 ^ 44 + low % 2 ^ 44

/-- The physical tower of a core. -/
def towerOf (k : Nat) : Nat := k / 256

/-- Writes a record of a task's core, where its kind is enabled. -/
def State.taskRecord (s : State) (k kind sub bundle low value : Nat) : State :=
  if s.kindOn (towerOf k) kind then
    s.record (towerOf k) (s.launchOf k).corr (s.core k).f.task.req (infoWord kind sub bundle low) value
  else s

/-- A launch event: SUB 1 to 5 of KIND 3, from the lantern of physical tower 0 (R344, R345). -/
def State.launchEvent (s : State) (l sub state reason : Nat) : State :=
  if s.kindOn 0 3 then s.record 0 (s.launch l).corr noReq (infoWord 3 sub 0 (state + 256 * reason)) 0 else s

/-- The fault record of a trap taken to a level, 3 for a kill (R344). -/
def State.faultRecord (s : State) (k level bundle slot lane : Nat) (cause addr : Word) : State :=
  s.taskRecord k 4 level bundle
    (slot * 2 ^ 41 + lane * 2 ^ 35 + field cause 37 3 * 2 ^ 32 + field cause 32 5 * 2 ^ 27 + field cause 0 16 * 2 ^ 11) addr.toNat

/-- An engine start or land event (SUB 6 or 7), with LCTL.ENG (R343, R345). -/
def State.engineRecord (s : State) (k sub slot queue ch bundle : Nat) (syll : BitVec 32) : State :=
  if field (s.lantern (towerOf k)).lctl 1 1 = 1 then
    s.taskRecord k 3 sub bundle (slot * 2 ^ 41 + queue * 2 ^ 38 + ch * 2 ^ 32 + syll.toNat) (s.core k).x.schc.toNat
  else s

/-! Fabric ports and their in-band messages (R366, R374). -/

def State.port (s : State) (p : Nat) : Port := alGet Port.zero s.ports p
def State.setPort (s : State) (p : Nat) (x : Port) : State := { s with ports := alSet s.ports p x }
def State.modPort (s : State) (p : Nat) (g : Port → Port) : State := s.setPort p (g (s.port p))

/-- This package's port of a link to each other package: that of the first circuit between the two, in either direction (R366, R374; log 42). -/
def Ftt.peerPorts (t : Ftt) : List (Nat × Nat) :=
  t.circuits.foldl (fun ps c =>
    let link := if c.dpkg = t.self ∧ c.spkg ≠ t.self then some (c.spkg, c.dport)
      else if c.spkg = t.self ∧ c.dpkg ≠ t.self then some (c.dpkg, c.sport) else none
    match link with
    | some x => if ps.any fun y => y.1 == x.1 then ps else ps ++ [x]
    | none => ps) []

/-- A message to every other package of the launch, on the port of a link to it (R374). -/
def State.toPeers (s : State) (l : Nat) (m : PartMessage) : State :=
  match (s.launch l).ftt with
  | none => s
  | some t => t.peerPorts.foldl (fun (s : State) (x : Nat × Nat) =>
      s.modPort x.2 fun p => { p with msgs := if p.msgs.contains m then p.msgs else p.msgs ++ [m] }) s

end Sys2Proof.Machine
end

