-- ==== Sys2Proof/Machine/Frame.lean ====
section
/-! DEFINITION. Taking a trap, the trap frame in the tile scratchpad, and its return (07_task_traps.md R176 to R191, R402). -/

namespace Sys2Proof.Machine

/-! Vector records (R185). -/

/-- Packs 5-bit codes, lane 0 lowest. -/
def packTags : List Nat → Nat
  | [] => 0
  | t :: ts => t % 32 + 32 * packTags ts

/-- The 296 bytes of a vector record; tag code 31 marks a lane that is not written. -/
def vecRecord (l : List (Option LaneW)) : List Byte :=
  (l.flatMap fun | some x => leBytes x.w.toNat 4 | none => [0, 0, 0, 0]) ++
    leBytes (packTags (l.map fun | some x => x.tag | none => 31)) 40

/-- Reads a vector record back: tag 31 gives no lane, tags 25 to 30 are read as 24 (R36, R185). -/
def readVecRecord (bs : List Byte) : List (Option LaneW) :=
  let tags := leValue ((bs.drop 256).take 40)
  (List.range 64).map fun l =>
    let t := tags / 32 ^ l % 32
    if t = 31 then none else some ⟨BitVec.ofNat 32 (leValue ((bs.drop (4 * l)).take 4)), clampTag t⟩

/-- A record that holds a 64-bit value in bytes 0 to 7 and another in bytes 8 to 15. -/
def wordRecord (a b : Nat) : List Byte := leBytes a 8 ++ leBytes b 8 ++ List.replicate 280 0

/-! Pending-result entries (R188). -/

/-- Number of an atomic operation (R141). -/
def opCode : AtomicOp → Nat
  | .add => 0
  | .and => 1
  | .or => 2
  | .xor => 3
  | .min => 4
  | .max => 5
  | .swap => 6
  | .cas => 7

/-- The atomic operation of a code (R141). -/
def opOfCode : Nat → AtomicOp
  | 0 => .add
  | 1 => .and
  | 2 => .or
  | 3 => .xor
  | 4 => .min
  | 5 => .max
  | 6 => .swap
  | _ => .cas

/-- A register-result descriptor (R188). -/
def regDesc (delay : Nat) (e : Entry) (file num sub ldk : Nat) : Nat :=
  delay * 2 ^ 51 + (if e.held then 2 ^ 50 else 0) + (if e.suspect then 2 ^ 49 else 0) +
    (if e.poison ≠ 0 then 2 ^ 48 else 0) + file * 2 ^ 37 + num * 2 ^ 32 + sub * 2 ^ 24 + ldk * 2 ^ 20

/-- Descriptor and value record of an entry with `delay` cycles to its landing (R188; log 12). The destination of a `vldx` stands in bits
45:40, which the rule leaves open (log 73). -/
def entryImage (e : Entry) (delay : Nat) : Nat × List Byte :=
  match e.kind with
  | .scalar n v => (regDesc delay e 0 n 0 0, wordRecord v.toNat 0)
  | .vector n l => (regDesc delay e 1 n 0 0, vecRecord l)
  | .pred n v m => (regDesc delay e 2 n 0 0, wordRecord v.toNat m.toNat)
  | .port n l => (regDesc delay e 3 n 0 0, vecRecord l)
  | .ag n sel v => (regDesc delay e 4 n sel 0, wordRecord v.toNat 0)
  | .mp n v => (regDesc delay e 5 n 0 0, wordRecord v.toNat 0)
  | .eng n v => (regDesc delay e 6 0 n 0, wordRecord v.toNat 0)
  | .sys n v => (regDesc delay e 7 0 n 0, wordRecord v.toNat 0)
  | .binding b => (regDesc delay e 7 0 0x40 0, leBytes b.obj.toNat 8 ++ leBytes b.base.toNat 8 ++ leBytes b.len.toNat 8 ++
      List.replicate 272 0)
  | .reseed v => (regDesc delay e 7 0 0x41 0, wordRecord v.toNat 0)
  | .load k n a => (regDesc delay e 0 n 0 k, wordRecord a 0)
  | .vload k p n a => (regDesc delay e (if p then 3 else 1) n 0 k, wordRecord a 0)
  | .store sz a v => (1 * 2 ^ 61 + delay * 2 ^ 51 + sz * 2 ^ 48 + a, wordRecord v.toNat 0)
  | .vstore a v => (2 * 2 ^ 61 + delay * 2 ^ 51 + a, vecRecord (v.map some))
  | .spillStore va v => (3 * 2 ^ 61 + delay * 2 ^ 51, wordRecord v.toNat va)
  | .spillVStore va v => (3 * 2 ^ 61 + delay * 2 ^ 51 + 2 ^ 50 + va / 256, vecRecord (v.map some))
  | .vldx p n _ _ m got _ =>
    (4 * 2 ^ 61 + delay * 2 ^ 51 + (if p then 2 ^ 45 else 0) + n * 2 ^ 40,
      vecRecord ((List.range 64).map fun l => if laneOn m l then some ((got.getD l none).getD LaneW.zero) else none))
  | .vstx _ _ m v _ =>
    (4 * 2 ^ 61 + delay * 2 ^ 51 + 2 ^ 50,
      vecRecord ((List.range 64).map fun l => if laneOn m l then some (v.at l) else none))
  | .amo op w n a o c =>
    (5 * 2 ^ 61 + delay * 2 ^ 51 + (if w then 2 ^ 50 else 0) + opCode op * 2 ^ 45 + n * 2 ^ 40 + a, wordRecord o.toNat c.toNat)

/-- The cycle an entry's DELAY counts to: the landing of the word for an atomic (R189), the landing otherwise. -/
def Entry.delayTo (e : Entry) : Nat :=
  match e.kind with
  | .amo .. => e.samp
  | _ => e.due

/-- Inserts an entry in landing order, behind those that land no later (R188). -/
def insertEntry (e : Entry) : List Entry → List Entry
  | [] => [e]
  | x :: r => if e.delayTo < x.delayTo then e :: x :: r else x :: insertEntry e r

/-- Entries in landing order; entries are kept in issue and slot order, so ties stay in it (R188). -/
def sortEntries (l : List Entry) : List Entry := l.foldl (fun acc e => insertEntry e acc) []

/-- The 304 bytes of an entry. -/
def entryBytes (now : Nat) (e : Entry) : List Byte :=
  let (d, v) := entryImage e (e.delayTo - now)
  leBytes d 8 ++ v

/-- True for an indexed operation. -/
def Entry.indexed (e : Entry) : Bool :=
  match e.kind with
  | .vldx .. => true
  | .vstx .. => true
  | _ => false

/-- Base and offsets of an indexed operation. -/
def Entry.idxOffs (e : Entry) : Nat × List Nat :=
  match e.kind with
  | .vldx _ _ b o _ _ _ => (b, o)
  | .vstx b o _ _ _ => (b, o)
  | _ => (0, [])

/-- Groups that an indexed operation has served. -/
def Entry.groups (e : Entry) : Nat :=
  match e.kind with
  | .vldx _ _ _ _ _ _ g => g
  | .vstx _ _ _ _ g => g
  | _ => 0

/-- The indexed entries with their places in the frame. -/
def idxEntries : Nat → List Entry → List (Nat × Entry)
  | _, [] => []
  | i, e :: r => if e.indexed then (i, e) :: idxEntries (i + 1) r else idxEntries (i + 1) r

/-! Operand latches (R187). -/

/-- Frame offsets of a slot's vector records, scalar words and predicate words. -/
def latchVecAt : Nat → List Nat
  | 3 => [0x00C0]
  | 4 => [0x01E8, 0x0310, 0x0438]
  | 5 => [0x0560, 0x0688, 0x07B0]
  | 7 => [0x08D8, 0x0A00]
  | _ => []

/-- Frame offset and number of a slot's scalar words. -/
def latchScAt : Nat → Nat × Nat
  | 0 => (0x0B28, 1)
  | 1 => (0x0B30, 3)
  | 2 => (0x0B48, 3)
  | 3 => (0x0B60, 3)
  | 4 => (0x0B78, 2)
  | 5 => (0x0B88, 2)
  | 6 => (0x0B98, 4)
  | _ => (0, 0)

/-- Frame offset and number of a slot's predicate words. -/
def latchPrAt : Nat → Nat × Nat
  | 0 => (0x0BB8, 1)
  | 3 => (0x0BC0, 1)
  | 4 => (0x0BC8, 3)
  | 5 => (0x0BE0, 3)
  | 7 => (0x0BF8, 1)
  | _ => (0, 0)

/-- The syllable of a slot as the core's ISP holds it (R82, R199). -/
def State.fetch (s : State) (k bundle slot : Nat) : BitVec 32 :=
  BitVec.ofNat 32 (s.mem.value (ispBase k + bundle % 4096 * 32 + 4 * slot) 4)

/-- True where the stage of a slot is disabled in the kernel bundle at the core's pc (R84, R103). -/
def Core.masked (c : Core) (slot : Nat) : Bool :=
  if c.tl ≠ 0 then false
  else match (c.l.levels.filter (fun l => l.kind ≠ 0)).getLast? with
    | some l =>
      if l.kind = 2 ∧ l.start ≤ c.f.pc ∧ c.f.pc ≤ l.last then
        let stage := (c.l.smap.getD (c.f.pc.toNat - l.start.toNat) 0).toNat / 2 ^ (4 * slot) % 16
        !c.l.sen.getLsbD stage
      else false
    | none => false

/-- The instruction of a slot of the bundle at the core's pc; a masked or undecodable syllable reads no operand. -/
def State.slotInstr (s : State) (k slot : Nat) : Instr :=
  let c := s.core k
  if c.masked slot then .nop
  else (decodeSlot slot (s.fetch k c.f.pc.toNat slot)).getD .nop

/-- The operands of one slot as they stand: latched ones from their latch, registers otherwise. An empty port's latch has
no lanes (log 13). -/
def State.slotLatch (s : State) (k slot : Nat) : SlotLatch :=
  let c := s.core k
  if c.f.latch ≠ [] then c.f.latch.getD slot ⟨[], [], []⟩
  else
    let ops := operandsOf (s.slotInstr k slot)
    { vs := ops.filterMap fun
        | .v code =>
          if isPort code then some (match c.r.q.getD (portOf code) [] with
            | [] => List.replicate 64 none
            | v :: _ => v.map some)
          else some ((c.readV code).map some)
        | _ => none
      ss := ops.filterMap fun | .s r => some (c.readS r) | _ => none
      ps := ops.filterMap fun | .p n => some (c.readP n) | _ => none }

/-- Latches of slots `k0` to 7; lower slots hold none. -/
def State.latches (s : State) (k k0 : Nat) : List SlotLatch :=
  (List.range 8).map fun slot => if slot < k0 then ⟨[], [], []⟩ else s.slotLatch k slot

/-- The vector latches of a slot that go to frame records, and the lane offsets that go to an indexed record (R187). -/
def splitIdx (i : Instr) (vs : List (List (Option LaneW))) : List (List (Option LaneW)) × Option (List (Option LaneW)) :=
  match i with
  | .vldx .. => ([], vs.head?)
  | .vstx .. => (vs.take 1, vs[1]?)
  | _ => (vs, none)

/-- Writes a list of byte runs at offsets from a base. -/
def writeRuns (m : Memory) (base : Nat) : List (Nat × List Byte) → Memory
  | [] => m
  | (o, bs) :: r => writeRuns (m.write (base + o) bs) base r

/-- The lane offsets of a latched vector as 256 bytes. -/
def offsBytes (l : List (Option LaneW)) : List Byte := vecBytes (portVec l)

/-- Header words of R186 in order, from offset 0. -/
structure Header where
  hdr : Nat
  bank : Bank
  resume : Nat
  senrrb : Nat
  lps : List Nat
  lpc : List Nat
  shadow : Nat
  wait : Nat
  waitv : Nat
  occ : Nat
  idx0 : Nat
  idx1 : Nat
  ecmd : Nat
  ipend : Nat
  deriving DecidableEq, Repr

/-- The 24 words of the header. -/
def Header.words (h : Header) : List Nat :=
  [h.hdr, h.bank.cause.toNat, h.bank.epc.toNat, h.bank.schc.toNat, h.bank.addr.toNat, h.bank.lane.toNat, h.resume, h.senrrb] ++
    h.lps ++ h.lpc ++ [h.shadow, h.wait, h.waitv, h.occ, h.idx0, h.idx1, h.ecmd, h.ipend]

/-- LPS of a level as software reads it (R47). -/
def LoopLevel.word (l : LoopLevel) : Nat :=
  l.kind.toNat * 2 ^ 62 + l.stg.toNat * 2 ^ 58 + l.iim.toNat * 2 ^ 55 + l.start.toNat * 2 ^ 43 + l.last.toNat * 2 ^ 31

/-- The level with the fields of an LPS word (R47). -/
def LoopLevel.ofWord (l : LoopLevel) (w : Word) : LoopLevel :=
  { l with kind := BitVec.ofNat 2 (field w 62 2), stg := BitVec.ofNat 4 (field w 58 4), iim := BitVec.ofNat 3 (field w 55 3),
           start := BitVec.ofNat 12 (field w 43 12), last := BitVec.ofNat 12 (field w 31 12) }

/-- What a trap entry needs to know (R179, R181). -/
structure Entering where
  cause : Nat
  sub : Nat
  async : Bool
  hch : Bool
  eng : Bool
  bundle : Nat
  slot : Nat
  lane : Nat
  addr : Word
  /-- Causes that failed and were not taken (PEND of R186). -/
  pend : Nat
  /-- The withdrawn command: its uid, its queue and its syllable (ECMD of R186). -/
  ecmd : Option (Nat × Nat × BitVec 32)
  deriving DecidableEq, Repr

/-- XCAUSE of R177. -/
def causeWord (e : Entering) : Word :=
  BitVec.ofNat 64 ((if e.async then 2 ^ 39 else 0) + (if e.hch then 2 ^ 38 else 0) + (if e.eng then 2 ^ 37 else 0) +
    e.cause * 2 ^ 32 + e.sub % 65536)

/-- Cycles until a unit is free. -/
def Core.occ (c : Core) (key : Nat) : Nat := alGet 0 c.p.busy key - c.now

/-- A command withdrawn: it samples and lands nothing more, but for what was sampled before its fault and lands earlier (R182,
R209). -/
def Core.dropCmd (c : Core) (uid : Nat) : Core :=
  c.modE fun e => { e with cmds := e.cmds.filter fun m => m.uid ≠ uid || (m.cut && !(m.flights.isEmpty && m.runs.isEmpty)) }

/-- The initiating core of a freeze, if it is one (R24). -/
def Cause.core : Cause → Option Nat
  | .trap k => some k
  | .walk k _ _ => some k
  | .skew k _ => some k
  | _ => none

/-- A skew wait. -/
def Cause.skewed : Cause → Bool
  | .skew _ _ => true
  | _ => false

/-- A cause whose initiator tells the launch's other packages of the freeze and the thaw itself (R22, R24). Pre-emptions, kills and slack
exhaustion have messages of their own. -/
def Cause.told : Cause → Bool
  | .trap _ => true
  | .walk .. => true
  | .skew _ _ => true
  | .debug => true
  | .stop => true
  | _ => false

/-- A debugger stop of this package. -/
def Cause.debugs : Cause → Bool
  | .debug => true
  | .stop => true
  | _ => false

/-- A debugger stop of the launch, on whichever package it began (R351). -/
def Cause.stops : Cause → Bool
  | .remote _ code => code == 8
  | c => c.debugs

/-- A pre-emption or a debugger's STOP has begun: a task that would trap stops instead, and meets the cause again when it resumes
(R322, R351; log 31). -/
def Launch.holdsTraps (l : Launch) : Bool := l.causes.any fun z => z == .preempt || z == .stop

/-- The cause code of a deviation record (R344, R347, R382). -/
def Cause.code : Cause → Nat
  | .trap _ => 6
  | .walk .. => 1
  | .skew .. => 4
  | .preempt => 7
  | .debug => 8
  | .stop => 8
  | .kill => 6
  | .remote _ code => code
  | .slack _ => 4

/-- Marks the stop of a core in the freeze in force, once (R25, R344). -/
def Core.stopAt (c : Core) (wall : Nat) (gtime : Word) : Core :=
  c.modF fun f => { f with dev := match f.dev with
    | some d => some d
    | none => some ⟨wall, gtime, c.x.schc, f.pc.toNat⟩ }

/-- Some core of the launch, other than the initiator of a new freeze, has not resumed from its last one (R24). -/
def State.thawing (s : State) (l : Nat) (cause : Cause) : Bool :=
  s.cores.any fun x => x.2.f.task.launch == l && x.2.f.dev.isSome && cause.core != some x.1

/-- Freezes the launch with a cause of its own, at the present wall cycle; an initiating core stops at once, and one that
initiates while another freeze stops or thaws joins it (R24). -/
def State.freeze (s : State) (l : Nat) (cause : Cause) : State :=
  let x := s.launch l
  let fresh := x.causes == [] && !s.thawing l cause
  let s := match cause.core with
    | some k => s.modCore k (·.stopAt s.wall s.gtime)
    | none => s
  let s := s.modLaunch l fun x =>
    { x with causes := x.causes ++ [cause], fstart := if x.causes = [] then s.wall else x.fstart,
             gsave := if cause.debugs || cause == .preempt then s.gtime else x.gsave,
             fcause := if fresh then cause.code else x.fcause,
             fjoined := if fresh then 1 else x.fjoined + 1 }
  if cause.told && (!(x.causes.any Cause.told) || x.thawAt.isSome) then
    s.toPeers l (.freeze x.lclk (if cause.skewed then x.lclk else x.lclk + x.stagger) cause.code)
  else s

/-- Ends some causes of a launch's freeze. With the last one that other packages were told of, the thaw is announced to them; skew waits
announce theirs when their flits arrive (R24, R374, R382). -/
def State.endCauses (s : State) (l : Nat) (p : Cause → Bool) : State :=
  let before := (s.launch l).causes
  let s := s.modLaunch l fun x => { x with causes := x.causes.filter fun c => !p c }
  let x := s.launch l
  let left := x.causes.filter Cause.told
  if !(before.any Cause.told) || x.causes.length == before.length then s
  else if left = [] then s.toPeers l (.thaw s.gtime.toNat)
  else match x.thawAt with
    | some g => if left.all Cause.skewed then s.toPeers l (.thaw g.toNat) else s
    | none => s

/-- A launch's DUMP address (R305). -/
def Launch.dumpVa (l : Launch) : Nat := leValue ((l.record.drop 0xB8).take 8)

/-- Queues the dump of a launch's first fatal fault: one is written at a time and four more wait; with DUMP = 0 none is (R328). -/
def State.queueDump (s : State) (l : Nat) (i : KillInfo) : State :=
  if (s.launch l).dumpVa = 0 ∨ 5 ≤ s.seq.dumps.length then s
  else
    let n := s.seq.dumpSeq + 1
    ({ s with seq := { s.seq with dumps := s.seq.dumps ++ [(⟨l, n, i⟩ : DumpReq)], dumpSeq := n } }).modLaunch l fun x => { x with dumpSeq := n }

/-- A fatal fault of a launch: the first one is the primary dump entry, later ones are secondary entries. It may come while a kill that no fault
began stops the launch, whose reason then stays (R324, R328). -/
def State.fatal (s : State) (l : Nat) (i : KillInfo) : State :=
  match (s.launch l).kill with
  | none => (s.modLaunch l fun x => { x with kill := some i, xcause := i.cause }).queueDump l i
  | some p =>
    if p.cause = 0 then
      (s.modLaunch l fun x => { x with kill := some { i with stop := p.stop, reason := p.reason }, xcause := i.cause }).queueDump l i
    else s.modLaunch l fun x =>
    { x with kill := some { p with more := p.more ++ [(⟨i.core, i.cause, i.bundle, i.slot, i.lane, i.addr, i.schc, i.gtime⟩ : FaultEntry)] } }

/-- Kills the context: the offending master stops where it is, and the belfry is notified (R191). -/
def State.killContext (s : State) (k : Nat) (e : Entering) : State :=
  let c := s.core k
  let l := c.f.task.launch
  let s := s.faultRecord k 3 e.bundle e.slot e.lane (causeWord e) e.addr
  let info : KillInfo :=
    ⟨k, causeWord e, e.bundle, e.slot, e.lane, e.addr, c.x.schc, s.gtime, c.clk, if e.cause = 15 then 11 else 9, []⟩
  let s := (s.setCore k (c.modF fun f => { f with mode := .killed, done := true })).endCauses l fun z => z.core == some k
  s.fatal l info

/-- The frame header of a trap entry to level `lev` (R186). -/
def frameHeader (c : Core) (e : Entering) (lev nprb : Nat) (bank : Bank) (resume : Nat) (pop : Nat) (idx : List (Nat × Entry)) :
    Header :=
  let idxWord : Nat × Entry → Nat := fun (i, x) =>
    2 ^ 63 + (match x.kind with | .vstx .. => 2 ^ 62 | _ => 0) + i * 2 ^ 55 + x.idxOffs.1 % 2 ^ 40
  { hdr := 2 ^ 56 + lev * 2 ^ 54 + (if e.async then 2 ^ 53 else 0) + e.slot * 2 ^ 50 + nprb * 2 ^ 43 + e.pend * 2 ^ 38 +
      (if e.async then 0 else pop) * 2 ^ 34
    bank := bank
    resume := resume
    senrrb := c.l.rrb.toNat * 2 ^ 16 + c.l.sen.toNat
    lps := c.l.levels.map LoopLevel.word
    lpc := c.l.levels.map fun l => l.lpc.toNat
    shadow := match c.f.shadow with
      | some sh => 2 ^ 63 + (if sh.taken then 2 ^ 62 else 0) + sh.remain * 2 ^ 60 + sh.target.toNat
      | none => 0
    wait := match c.f.wait with
      | .none => 0
      | .waitt _ => 1 * 2 ^ 62
      | .waitg _ => 2 * 2 ^ 62
      | .syncb l => 3 * 2 ^ 62 + l * 2 ^ 59
      | .leave l _ _ => 3 * 2 ^ 62 + l * 2 ^ 59
    waitv := match c.f.wait with
      | .waitt t => t.toNat
      | .waitg t => t.toNat
      | _ => 0
    occ := c.occ (unitKey 1 2) + c.occ (unitKey 2 2) * 2 ^ 16 + c.occ (unitKey 3 21) * 2 ^ 32
    idx0 := (idx[0]?.map idxWord).getD 0
    idx1 := (idx[1]?.map idxWord).getD 0
    ecmd := match e.ecmd with
      | some (_, q, w) => if q = 7 then 0 else 2 ^ 63 + q * 2 ^ 32 + w.toNat
      | none => 0
    ipend := (if c.f.irqTimer then 1 else 0) + (if c.f.irqBelfry then 2 else 0) + (if c.f.irqDebug then 4 else 0) }

/-- The frame's byte runs: header, latches, indexed records and entries (R185). -/
def frameRuns (h : Header) (now : Nat) (instrs : List Instr) (ls : List SlotLatch) (idx : List (Nat × Entry))
    (es : List Entry) : List (Nat × List Byte) :=
  let offs := idx.map fun (_, x) => x.idxOffs.2.flatMap fun o => leBytes o 4
  let uncommitted := splitIdx (instrs.getD 3 .nop) (ls.getD 3 ⟨[], [], []⟩).vs
  let recs := offs ++ (match uncommitted.2 with | some l => [offsBytes l] | none => [])
  let zero := (0x00C0, List.replicate (0x0C00 - 0x00C0) (0 : Byte))
  let slotRuns := (List.range 8).flatMap fun slot =>
    let l := ls.getD slot ⟨[], [], []⟩
    let vs := (splitIdx (instrs.getD slot .nop) l.vs).1
    ((latchVecAt slot).zip vs).map (fun (o, v) => (o, vecRecord v)) ++
      ((List.range (latchScAt slot).2).zip l.ss).map (fun (i, w) => ((latchScAt slot).1 + 8 * i, leBytes w.toNat 8)) ++
      ((List.range (latchPrAt slot).2).zip l.ps).map (fun (i, w) => ((latchPrAt slot).1 + 8 * i, leBytes w.toNat 8))
  (0, h.words.flatMap fun w => leBytes w 8) :: zero :: slotRuns ++
    ((List.range 2).zip recs).map (fun (i, bs) => (0x0C00 + 256 * i, bs)) ++
    ((List.range es.length).zip es).map fun (i, x) => (0x0E00 + 304 * i, entryBytes now x)

/-- Ports named with the popping code in slots `k0` to 7 that still hold a vector (R187). -/
def State.uncommittedPops (s : State) (k k0 : Nat) : BitVec 4 :=
  let c := s.core k
  if c.f.latch ≠ [] then 0
  else (List.range 8).foldl (fun m slot =>
    if slot < k0 then m
    else (vOpnds (s.slotInstr k slot)).foldl (fun m code =>
      if isPop code && !(c.r.q.getD (portOf code) []).isEmpty then m ||| (1#4 <<< portOf code) else m) m) 0

/-- Pops the named read ports once each (R39). -/
def Core.popPorts (c : Core) (m : BitVec 4) : Core :=
  c.modR fun r => { r with q := (List.range 4).map fun i => if m.getLsbD i then (r.q.getD i []).drop 1 else r.q.getD i [] }

/-- Wall cycles between a stop and the first handler bundle: F of the launch (R182). -/
def State.stagger (s : State) (k : Nat) : Nat := (s.launchOf k).stagger

/-- The first handler bundle of a class, taken from a level (R183). -/
def handlerBundle (xvec : Word) (tl cause : Nat) : BitVec 12 := BitVec.ofNat 12 (field xvec 6 6 * 64 + 32 * tl + cause)

/-- The command of an engine fault is withdrawn (R182). -/
def State.withdrawn (s : State) (k : Nat) (e : Entering) : State :=
  match e.ecmd with
  | some (uid, _, _) => s.setCore k ((s.core k).dropCmd uid)
  | none => s

/-- The bank that an entry writes (R177). -/
def State.bankOf (s : State) (k : Nat) (e : Entering) : Bank :=
  ⟨causeWord e, BitVec.ofNat 64 e.bundle, BitVec.ofNat 64 e.slot, BitVec.ofNat 64 e.lane, e.addr, (s.core k).x.schc⟩

/-- Ports that the committed slots of the bundle and the trapping one pop (R39, R179, R187). -/
def State.trapPops (s : State) (k : Nat) (e : Entering) : BitVec 4 :=
  if e.async then 0 else (s.core k).f.popNow ||| s.uncommittedPops k e.slot

/-- Memory with the frame of an entry written (R184 to R188). -/
def State.withFrame (s : State) (k : Nat) (e : Entering) : Memory :=
  let c := s.core k
  let lev := c.tl + 1
  let es := sortEntries c.p.prb
  let idx := idxEntries 0 es
  let pop := c.f.pops ||| s.trapPops k e
  let resume := if e.async then c.f.pc.toNat else e.bundle
  let h := frameHeader c e lev es.length (s.bankOf k e) resume pop.toNat idx
  let instrs := (List.range 8).map fun slot => if e.async || slot < e.slot then .nop else s.slotInstr k slot
  let ls := if e.async then [] else s.latches k e.slot
  let base := tileBase (k / 2) + (c.frameBase + 32768 * (lev - 1))
  writeRuns s.mem base (frameRuns h c.now instrs ls idx es)

/-- The registers behind an entry: the popped ports and, at level 1, the handler's random generator (R48, R187). -/
def State.trapRegs (s : State) (k : Nat) (e : Entering) : Regs :=
  let c := s.core k
  let r := (c.popPorts (s.trapPops k e &&& ~~~c.f.pops)).r
  if c.tl = 0 then { r with hrng := rngSeed (c.f.task.seed ^^^ c.x.schc) c.f.task.req } else r

/-- The system registers behind an entry: TL and the level's bank (R182). -/
def State.trapSys (s : State) (k : Nat) (e : Entering) : SysRegs :=
  let c := s.core k
  { c.x with sstat := setField c.x.sstat 24 2 (c.tl + 1), bank1 := if c.tl = 0 then s.bankOf k e else c.x.bank1,
             bank2 := if c.tl = 0 then c.x.bank2 else s.bankOf k e }

/-- The pending work behind an entry: an emptied buffer, whose entries' further state the level keeps (R182). -/
def State.trapPend (s : State) (k : Nat) : Pend :=
  let c := s.core k
  let sides := (sortEntries c.p.prb).map fun x =>
    (⟨x.bundle, x.slot, x.issue, x.sthr, x.fpu, x.forced, x.poison, x.paddr, x.src, x.unit, x.groups, x.typ⟩ : Side)
  let left := c.p.busy.filterMap fun b => if c.now < b.2 then some (b.1, b.2 - c.now) else none
  { c.p with prb := [], busy := [], dues := c.p.dues.filter (·.prio == 5), side1 := if c.tl = 0 then sides else c.p.side1,
             side2 := if c.tl = 0 then c.p.side2 else sides, busy1 := if c.tl = 0 then left else c.p.busy1,
             busy2 := if c.tl = 0 then c.p.busy2 else left }

/-- The control flow behind an entry: the handler's first bundle, F cycles after the stop (R182, R183). -/
def State.trapFlow (s : State) (k : Nat) (e : Entering) : Flow :=
  let c := s.core k
  let f := c.f
  { f with tl1 := if f.mode = .cwait ∧ e.async then .handler else f.mode, mode := .entry (s.wall + s.stagger k), latch := [], shadow := none,
           kept := if c.tl = 0 then (if e.async then none else some ⟨f.pc, f.next, f.lbrk, f.halting⟩) else f.kept,
           next := none, lbrk := none, halting := false, wait := .none, tw := if c.tl = 0 then f.wait else f.tw, pops := 0, popNow := 0, slot0 := 0, done := true,
           pc := handlerBundle c.x.xvec c.tl e.cause }

/-- The core behind an entry. -/
def State.trapCore (s : State) (k : Nat) (e : Entering) : Core :=
  { s.core k with r := s.trapRegs k e, x := s.trapSys k e, p := s.trapPend k, f := s.trapFlow k e }

/-- A trap from TL0 stops its core at the trapped bundle (R182, R344). -/
def State.stopTrapped (s : State) (k : Nat) : State :=
  if (s.core k).tl = 0 then s.modCore k (·.stopAt s.wall s.gtime) else s

/-- The entry itself: the frame, the core, the fault record and, from TL0, the freeze (R182). -/
def State.pushLevel (s : State) (k : Nat) (e : Entering) : State :=
  let c := s.core k
  let t := ({ s with mem := s.withFrame k e } : State).setCore k (s.trapCore k e)
  let t := t.faultRecord k (c.tl + 1) e.bundle e.slot e.lane (causeWord e) e.addr
  if c.tl = 0 then t.freeze c.f.task.launch (.trap k) else t

/-- The entry to the next level: the stop, and what the trapped bundle leaves (R182). -/
def State.enterLevel (s : State) (k : Nat) (e : Entering) : State := (s.stopTrapped k).pushLevel k e

/-- Entry to the next trap level (R182). From TL2, and for a halted task, the context is killed instead (R191, R402). -/
def State.enterTrap (s : State) (k : Nat) (e : Entering) : State :=
  let s := s.withdrawn k e
  if (s.core k).tl = 2 ∨ (s.core k).f.mode = .halted then s.killContext k e else s.enterLevel k e

/-- The core's launch has a debugger attached (R343). -/
def State.attached (s : State) (k : Nat) : Bool :=
  let l := s.lantern (towerOf k)
  field l.datt 63 1 == 1 && field l.datt 0 32 == (s.launchOf k).corr

/-- The core stops inside its bundle before slot `slot`: lower slots have committed, the others keep the operands they read, as in
a trap frame (R187, R322, R350). -/
def State.latchStop (s : State) (k slot : Nat) : State :=
  let c := s.core k
  let pops := (c.f.popNow ||| s.uncommittedPops k slot) &&& ~~~c.f.pops
  let latch := s.latches k slot
  let c := (c.popPorts pops).modF fun f =>
    { f with latch := latch, slot0 := slot, pops := f.pops ||| f.popNow ||| pops, popNow := 0, done := false, stopped := true }
  { s.setCore k (c.stopAt s.wall s.gtime) with cur := none }

/-- A STEP of a launch is over, ended early by another stop (R351). -/
def State.endSteps (s : State) (l : Nat) : State :=
  let cores := s.cores.map fun (x : Nat × Core) =>
    if x.2.f.task.launch = l then (x.1, x.2.modF fun f => { f with stepTo := none }) else x
  ({ s with cores := cores } : State).modLaunch l fun x => { x with steps := none }

/-- A `brk` that the debugger takes: slot 0 has committed, and the core stops with a KIND 3 SUB 9 event (R350). -/
def State.debugBrk (s : State) (k : Nat) : State :=
  let c := s.core k
  (((s.freeze c.f.task.launch .debug).latchStop k 1).taskRecord k 3 9 c.f.pc.toNat 7 c.x.schc.toNat).endSteps c.f.task.launch

/-- A trap taken at issue in the cursor's slot (R9, R179). USER and BRK commit slot 0 first and report slot 1 (R132), and an
attached debugger takes a BRK at TL0 (R350). Once a pre-emption or a STOP has frozen the launch no trap is taken: the core stops before
the slot, which meets the same cause when the launch resumes (R322; log 31). -/
def State.trapAtIssue (s : State) (k slot : Nat) (t : Trap) : State :=
  let c := s.core k
  if c.tl = 0 ∧ (s.launchOf k).holdsTraps = true then s.latchStop k slot
  else if t.cause = 19 ∧ c.tl = 0 ∧ s.attached k = true then s.debugBrk k
  else
    { (s.enterTrap k ⟨t.cause, t.sub, false, false, false, c.f.pc.toNat, if t.after then slot + 1 else slot, t.lane, t.addr, 0, none⟩)
      with cur := none }

/-- Runs the meaning of a syllable at the cursor: its trap, or the issuing core as it leaves it. Without a cursor nothing
issues. -/
def State.syllable (s : State) (g : Ctx → Except Trap Core) : Host.Outcome State Fault Refusal :=
  match s.cur with
  | none => .next s
  | some q =>
    let c := s.core q.core
    match g ⟨s, q.core, q.slot, c, s.fetch q.core c.f.pc.toNat q.slot⟩ with
    | .error t => .next (s.trapAtIssue q.core q.slot t)
    | .ok c' => .next (s.setCore q.core c')

/-! Return (R189). -/

/-- The kind and flags an entry's descriptor and record name (R188). `base` and `offs` are those of its indexed record. -/
def entryKind (d : Nat) (bs : List Byte) (base : Nat) (offs : List Nat) (groups : Nat) : EKind :=
  let w0 := BitVec.ofNat 64 (leValue (bs.take 8))
  let w1 := BitVec.ofNat 64 (leValue ((bs.drop 8).take 8))
  let num := d / 2 ^ 32 % 32
  let sub := d / 2 ^ 24 % 256
  let ldk := d / 2 ^ 20 % 16
  let addr := d % 2 ^ 40
  let bit50 := d / 2 ^ 50 % 2 == 1
  match d / 2 ^ 61 with
  | 0 =>
    if ldk = 5 ∨ ldk = 7 ∨ ldk = 9 then .vload ldk (d / 2 ^ 37 % 8 == 3) num w0.toNat
    else if ldk ≠ 0 then .load ldk num w0.toNat
    else match d / 2 ^ 37 % 8 with
      | 0 => .scalar num w0
      | 1 => .vector num (readVecRecord bs)
      | 2 => .pred num w0 w1
      | 3 => .port num (readVecRecord bs)
      | 4 => .ag num sub w0
      | 5 => .mp num w0
      | 6 => .eng sub w0
      | _ =>
        if sub = 0x40 then .binding ⟨w0, w1, BitVec.ofNat 64 (leValue ((bs.drop 16).take 8))⟩
        else if sub = 0x41 then .reseed w0 else .sys sub w0
  | 1 => .store (d / 2 ^ 48 % 4) addr w0
  | 2 => .vstore addr (portVec (readVecRecord bs))
  | 3 => if bit50 then .spillVStore (d % 2 ^ 49 * 256) (portVec (readVecRecord bs)) else .spillStore w1.toNat w0
  | 4 =>
    let l := readVecRecord bs
    let m := laneBits fun i => (l.getD i none).isSome
    if bit50 then .vstx base offs m (portVec l) groups
    else .vldx (d / 2 ^ 45 % 2 == 1) (d / 2 ^ 40 % 32) base offs m (l.map fun x => x) groups
  | _ => .amo (opOfCode (d / 2 ^ 45 % 8)) bit50 (d / 2 ^ 40 % 32) addr w0 w1

/-- The class of an unsampled load or a store of the window address it now names (R189). -/
def State.entryClass (s : State) (k : Nat) (kind : EKind) : Nat :=
  let win (a : Nat) : Nat := match (s.launchOf k).window a 1 with
    | some w => pathClass (s.core k).f.task.lsp w
    | none => 6
  match kind with
  | .load ldk _ a => if ldk = 8 then 11 else if ldk = 6 then (if (s.core k).spm then 11 else 6) else win a
  | .vload ldk _ _ a => if ldk = 9 then 11 else if ldk = 7 then (if (s.core k).spm then 11 else 6) else win a
  | .store _ a _ => win a
  | .vstore a _ => win a
  | .amo .. => 10
  | .vldx .. => 21
  | .vstx .. => 21
  | .spillStore .. => 11
  | .spillVStore .. => 11
  | _ => 0

/-- The check an edited address fails, as at issue (R189): of a window access (R138), an atomic (R141), or a redirected spill, which a
handler may not make (R55, R184). -/
def State.entryCheck (s : State) (k : Nat) (kind : EKind) : Option Trap :=
  let chk (r : Except Trap Win) : Option Trap := match r with | .error t => some t | .ok _ => none
  let amoChk (a n : Nat) : Option Trap :=
    match chk (s.plainCheck k akAtomic (BitVec.ofNat 64 a) n) with
    | some t => some t
    | none => match (s.launchOf k).window a n with
      | some w => if w.unit = 0 ∧ w.own (s.core k).f.task.lsp then none else some (trapProt akAtomic (BitVec.ofNat 64 a))
      | none => some (trapProt akAtomic (BitVec.ofNat 64 a))
  let beyond (kind va n : Nat) : Option Trap :=
    if va % n ≠ 0 then some (trapAlign kind (BitVec.ofNat 64 va))
    else if 1 ≤ (s.core k).tl then some (trapProt kind (BitVec.ofNat 64 va)) else none
  match kind with
  | .load ldk _ a =>
    if ldk = 8 then beyond akLoad a 8
    else chk (s.plainCheck k akLoad (BitVec.ofNat 64 a) (if ldk = 6 then 8 else 2 ^ (ldk - 1)))
  | .vload ldk _ _ a => if ldk = 9 then beyond akLoad a 256 else chk (s.plainCheck k akLoad (BitVec.ofNat 64 a) 256)
  | .store sz a _ => chk (s.plainCheck k akStore (BitVec.ofNat 64 a) (2 ^ sz))
  | .vstore a _ => chk (s.plainCheck k akStore (BitVec.ofNat 64 a) 256)
  | .amo _ w _ a _ _ => amoChk a (if w then 8 else 4)
  | .spillStore va _ => beyond akStore va 8
  | .spillVStore va _ => beyond akStore va 256
  | _ => none

/-- The frame of a level, read back as it stands. -/
structure TrapFrame where
  hdr : Nat
  resume : Nat
  shadow : Nat
  wait : Nat
  waitv : Nat
  occ : Nat
  idx : List Nat
  descs : List (Nat × List Byte)
  base : Nat

/-- Reads the frame of level `lev` of a core. -/
def State.readFrame (s : State) (k lev : Nat) : TrapFrame :=
  let c := s.core k
  let base := tileBase (k / 2) + (c.frameBase + 32768 * (lev - 1))
  let word := fun o => s.mem.value (base + o) 8
  let n := word 0 / 2 ^ 43 % 128
  { hdr := word 0, resume := word 0x30 % 4096, shadow := word 0x80, wait := word 0x88, waitv := word 0x90, occ := word 0x98,
    idx := [word 0xA0, word 0xA8],
    descs := (List.range (min n 96)).map fun i =>
      (s.mem.value (base + 0x0E00 + 304 * i) 8, s.mem.read (base + 0x0E08 + 304 * i) 296)
    base := base }

/-- The header checks of a `tret` (R189 item 2). -/
def TrapFrame.ok (f : TrapFrame) (lev : Nat) : Bool :=
  f.hdr / 2 ^ 56 == 1 && f.hdr / 2 ^ 54 % 4 == lev && f.hdr / 2 ^ 43 % 128 ≤ 96 && f.descs.all fun d => d.1 / 2 ^ 61 < 6

/-- Re-injects entry `i` of a frame at the resume cycle `now` (R188, R189). -/
def State.reinject (s : State) (k : Nat) (f : TrapFrame) (sides : List Side) (now i : Nat) (d : Nat × List Byte) : Entry :=
  let delay := d.1 / 2 ^ 51 % 1024
  let side := sides.getD i ⟨0, 3, now, none, false, false, 0, 0, 0, 0, 0, 0⟩
  let rec? := (List.range 2).find? fun j => (f.idx.getD j 0) / 2 ^ 63 == 1 && (f.idx.getD j 0) / 2 ^ 55 % 128 == i
  let j := rec?.getD 0
  let offs := (List.range 64).map fun l => s.mem.value (f.base + 0x0C00 + 256 * j + 4 * l) 4
  let idxT := s.tt k 21
  let before := if d.1 / 2 ^ 50 % 2 == 1 then 15 - delay else (idxT.lat - idxT.aux) - delay
  -- the group of the trap's own cycle, where it was served before the trap
  let groups := if side.groups = before + 1 then side.groups else before
  let kind := entryKind d.1 d.2 ((f.idx.getD j 0) % 2 ^ 40) offs (min groups 16)
  let t := s.tt k (s.entryClass k kind)
  let samp := match kind with
    | .amo .. => now + delay
    | .load .. => now + (delay - (t.lat - t.aux))
    | .vload .. => now + (delay - (t.lat - t.aux))
    | .vldx .. => now + delay - (idxT.lat - idxT.aux)
    | .vstx .. => now + delay - 15
    | _ => now + delay
  let due := match kind with
    | .amo .. => now + delay + (t.lat - t.aux)
    | _ => now + delay
  let flag := fun b => d.1 / 2 ^ 61 == 0 && d.1 / 2 ^ b % 2 == 1
  { uid := 0, kind := kind, due := due, samp := samp, bundle := side.bundle, slot := side.slot, issue := side.issue,
    held := flag 50, suspect := flag 49, poison := if flag 48 then (if side.poison = 0 then 1 else side.poison) else 0,
    paddr := side.paddr, sthr := if flag 50 then none else side.sthr, fpu := if flag 50 then false else side.fpu,
    forced := side.forced, src := side.src, unit := side.unit, typ := side.typ }

/-- The latches of slots XSLOT to 7 as the frame holds them (R187). -/
def State.frameLatches (s : State) (k : Nat) (f : TrapFrame) (slot0 : Nat) : List SlotLatch :=
  (List.range 8).map fun slot =>
    if slot < slot0 then ⟨[], [], []⟩
    else
      let i := (decodeSlot slot (s.fetch k f.resume slot)).getD .nop
      let ops := operandsOf i
      let nv := (vOpnds i).length
      let vrec := fun o => readVecRecord (s.mem.read (f.base + o) 296)
      let free := ((List.range 2).find? fun j => (f.idx.getD j 0) / 2 ^ 63 == 0).getD 0
      let offs : List (Option LaneW) := (List.range 64).map fun l =>
        some ⟨BitVec.ofNat 32 (s.mem.value (f.base + 0x0C00 + 256 * free + 4 * l) 4), 24⟩
      let vs := match i with
        | .vldx .. => [offs]
        | .vstx .. => [vrec 0x00C0, offs]
        | _ => ((latchVecAt slot).take nv).map vrec
      { vs := vs
        ss := (List.range (ops.filterMap fun | .s r => some r | _ => none).length).map fun j =>
          BitVec.ofNat 64 (s.mem.value (f.base + (latchScAt slot).1 + 8 * j) 8)
        ps := (List.range (ops.filterMap fun | .p n => some n | _ => none).length).map fun j =>
          BitVec.ofNat 64 (s.mem.value (f.base + (latchPrAt slot).1 + 8 * j) 8) }

/-- Numbers re-injected entries from a first uid. -/
def renumber : Nat → List Entry → List Entry
  | _, [] => []
  | n, e :: r => { e with uid := n } :: renumber (n + 1) r

/-- The wait of a WAIT word and its target (R186). -/
def waitOf (w v : Nat) : Wait :=
  match w / 2 ^ 62 with
  | 1 => .waitt (BitVec.ofNat 64 v)
  | 2 => .waitg (BitVec.ofNat 64 v)
  | 3 => .syncb (w / 2 ^ 59 % 8)
  | _ => .none

/-- The delay shadow of a SHADOW word (R186). -/
def shadowOf (w : Nat) : Option Shadow :=
  if w / 2 ^ 63 = 1 then some ⟨w / 2 ^ 60 % 4, w / 2 ^ 62 % 2 == 1, BitVec.ofNat 12 w⟩ else none

/-- The stage map of a core's innermost level, where it is a `ploop`, as the bundle before its START holds it now (R104). -/
def State.stageMap (s : State) (k : Nat) (l : Loops) : List (BitVec 32) :=
  match (l.levels.filter (fun x => x.kind ≠ 0)).getLast? with
  | some x => if x.kind = 2 then (List.range (x.iim.toNat + 1)).map (fun j => s.fetch k (x.start.toNat + 4095) j) else []
  | none => []

/-- The wait a `tret` to TL0 resumes: that of the frame; a barrier released meanwhile lets the task go at the cycle of its release (R26, R189). -/
def Wait.resumed (framed kept : Wait) : Wait :=
  match framed, kept with
  | .syncb l, .leave l' a v => if l = l' then .leave l a v else framed
  | _, _ => framed

/-- The return from level `lev` (R189 items 2 to 6). A failing header check is a PROT of the `tret`, reported at slot 0 with ASYNC 0 (log
74); a failing edited address is a trap before the resume cycle's bundle, with every entry back in the buffer. The units that the
frame's OCC does not hold are as busy as the entry left them (R150). -/
def State.leaveTrap (s : State) (k : Nat) : State :=
  let c := s.core k
  let lev := c.tl
  let f := s.readFrame k lev
  if !f.ok lev then
    (s.setCore k (c.modF fun x => { x with mode := .handler })).enterTrap k
      ⟨12, akOther, false, false, false, c.f.pc.toNat, 0, 0, 0, 0, none⟩
  else
    let async := f.hdr / 2 ^ 53 % 2 == 1
    let slot0 := if async then 0 else f.hdr / 2 ^ 50 % 8
    let c0 := c.modX fun x => { x with sstat := setField x.sstat 24 2 (lev - 1) }
    let now := c0.now
    let s0 := s.setCore k c0
    let es := ((List.range f.descs.length).zip f.descs).map fun (i, d) =>
      s0.reinject k f (if lev = 1 then c.p.side1 else c.p.side2) now i d
    let es := renumber c.p.uid es
    let held := ((if lev = 1 then c.p.busy1 else c.p.busy2).map fun (b : Nat × Nat) => (b.1, now + b.2))
    let busy := alSet (alSet (alSet held (unitKey 1 2) (now + f.occ % 2048)) (unitKey 2 2) (now + f.occ / 2 ^ 16 % 2048))
      (unitKey 3 21) (now + f.occ / 2 ^ 32 % 32)
    let wait := waitOf f.wait f.waitv
    let kept := if lev = 1 ∧ !async ∧ 0 < slot0 then c0.f.kept.filter fun h => h.bundle == BitVec.ofNat 12 f.resume else none
    let c1 := (c0.modP fun p => { p with prb := es, busy := busy, uid := p.uid + es.length }).modF fun x =>
      { x with mode := if lev = 1 then .task else x.tl1, pc := BitVec.ofNat 12 f.resume, slot0 := slot0,
               latch := if async then [] else s.frameLatches k f slot0, shadow := shadowOf f.shadow,
               wait := if lev = 1 then wait.resumed x.tw else wait, tw := if lev = 1 then .none else x.tw,
               pops := if async then 0 else BitVec.ofNat 4 (f.hdr / 2 ^ 34), popNow := 0, done := false,
               next := kept.bind Kept.next, lbrk := kept.bind Kept.lbrk, halting := (kept.map Kept.halting).getD false,
               kept := if lev = 1 then none else x.kept }
    let c1 := if lev = 1 then c1.modL fun l => { l with smap := s.stageMap k c.l } else c1
    let s1 := s.setCore k c1
    let s1 := if lev = 1 then s1.endCauses c.f.task.launch (· == .trap k) else s1
    match es.findSome? fun e => s1.entryCheck k e.kind with
    | none => s1
    | some t =>
      s1.enterTrap k ⟨t.cause, t.sub, true, false, false, f.resume, 3, 0, t.addr, 0, none⟩

end Sys2Proof.Machine
end

