-- ==== Sys2Proof/Machine/Report.lean ====
section
/-! DEFINITION. Replaceable units and their divergence reports (10_cupola.md R250 to R252, 16_package.md R364). -/

namespace Sys2Proof.Machine

/-- RUID of a unit of a physical spire (R250). -/
def ruidOf (spire type core index : Nat) : Nat :=
  spire / 128 * 2 ^ 29 + spire / 16 % 8 * 2 ^ 26 + spire % 16 * 2 ^ 22 + type * 2 ^ 11 + core * 2 ^ 10 + index

/-- The physical spire of an RUID. -/
def ruidSpire (r : Nat) : Nat := r / 2 ^ 29 * 128 + r / 2 ^ 26 % 8 * 16 + r / 2 ^ 22 % 16

/-- The type of an RUID. -/
def ruidType (r : Nat) : Nat := r / 2 ^ 11 % 16

/-- LUID of an RUID. -/
def ruidLocal (r : Nat) : Nat := r % 2 ^ 16

/-- Highest INDEX of each type plus 1, and whether it is per core (R251). -/
def unitKinds : Nat → Nat × Bool
  | 0 => (2, true)
  | 1 => (1, true)
  | 2 => (2, true)
  | 3 => (1, true)
  | 4 => (8, false)
  | 5 => (8, true)
  | 6 => (4, true)
  | 7 => (1, false)
  | _ => (0, false)

/-- Quanta that a replacement of each type takes (R251). -/
def unitQuanta : Nat → Nat
  | 0 => 4
  | 1 => 6
  | 2 => 14
  | 3 => 8
  | 4 => 24
  | 5 => 3
  | 6 => 10
  | 7 => 20
  | _ => 0

/-- An RUID argument: its reserved bits are ignored (R5, R250). -/
def ruidArg (w : Nat) : Nat := w / 2 ^ 22 * 2 ^ 22 + w % 2 ^ 15

/-- True for the RUID of an existing unit (R250, R251). -/
def ruidOk (r : Nat) : Bool :=
  let k := unitKinds (ruidType r)
  r < 2 ^ 31 && r % 2 ^ 10 < k.1 && (k.2 || r / 2 ^ 10 % 2 == 0)

def State.unit (s : State) (r : Nat) : UnitRec := alGet UnitRec.zero s.bel.units r
def State.setUnit (s : State) (r : Nat) (u : UnitRec) : State := { s with bel := { s.bel with units := alSet s.bel.units r u } }

/-- THR and WIN of a unit's type in its tower (R252). -/
def State.threshold (s : State) (r : Nat) : Nat × Nat := alGet (3, 86400 * 10 ^ 9) s.bel.thr (r / 2 ^ 29 * 16 + ruidType r)

/-- THR unforced reports fall within WIN nanoseconds of GTIME (R252). -/
def tooMany (times : List Word) (thr win : Nat) : Bool :=
  if times.length < thr then false
  else (times.getLastD 0).toNat - (times.getD (times.length - thr) 0).toNat ≤ win * 65536

/-- A SHADOW, MIRROR or FABUNIT report of a unit; forced ones never condemn (R190, R252). -/
def State.reportUnit (s : State) (r : Nat) (forced : Bool) : State :=
  let u := s.unit r
  let u := { u with divc := u.divc + 1 }
  if forced then s.setUnit r { u with injc := u.injc + 1 }
  else
    let ts := (u.times ++ [s.gtime]).drop (u.times.length - 254)
    let t := s.threshold r
    let bad := tooMany ts t.1 t.2
    let fresh := bad && !u.condemned
    let s := s.setUnit r { u with times := ts, condemned := u.condemned || bad, awaiting := u.awaiting || fresh }
    if fresh then { s with bel := { s.bel with repairs := s.bel.repairs ++ [⟨r, none⟩] } } else s

/-- Where the next check of a unit fails, by the failures that have come (R151, R234, R253; log 71). -/
def State.upsetsOf (s : State) (r : Nat) : List Nat :=
  s.bel.upsets.filterMap fun x => match x.2 with
    | .unit u p _ => if x.1 ≤ s.wall ∧ u = r then some p else none
    | _ => none

/-- The failures of a unit that a report has named are over; the report itself is counted (R190, R252; log 71). -/
def State.reportUpset (s : State) (r : Nat) : State :=
  ({ s with bel := { s.bel with upsets := s.bel.upsets.filter fun x => match x.2 with
      | .unit u _ _ => !(decide (x.1 ≤ s.wall) && u == r)
      | _ => true } }).reportUnit r false

/-- An armed detector of a core (R364). -/
def Core.inj (c : Core) (bit : Nat) : Bool := field c.x.xinj bit 1 == 1

/-- A detector that has reported clears its bit (R364). -/
def Core.clearInj (c : Core) (bit : Nat) : Core := c.modX fun x => { x with xinj := setField x.xinj bit 1 0 }

/-! Self-checks of replacements (R190, R220, R253, R364). -/

/-- SUB of the FABUNIT report of an operation of core `k` that a unit of its spire carries, where the unit's port is switched: forced through
XINJ, or of a replacement whose self-check fails. -/
def State.fabReport (s : State) (k luid : Nat) : Option Nat :=
  if !(s.spire (k / 2)).switched.contains luid then none
  else if (s.core k).inj 7 then some (0x8000 + luid)
  else if s.upsetsOf (ruidOf (k / 2) 0 0 0 + luid) ≠ [] then some luid
  else none

/-- A FABUNIT report is counted, and the armed bit of a forced one clears. -/
def State.countFab (s : State) (k sub : Nat) : State :=
  let r := ruidOf (k / 2) 0 0 0 + sub % 0x8000
  if 0x8000 ≤ sub then (s.modCore k (·.clearInj 7)).reportUnit r true else s.reportUpset r

def Core.cmd (c : Core) (uid : Nat) : Option Cmd := c.e.cmds.find? (·.uid == uid)

/-- The local id of a spire's router (R251). -/
def routerId : Nat := 7 * 2 ^ 11

/-- The local id of a core's queue generator of a port, and of its loop and stage sequencer. -/
def genId (k port : Nat) : Nat := 5 * 2 ^ 11 + k % 2 * 2 ^ 10 + port
def loopId (k : Nat) : Nat := 6 * 2 ^ 11 + k % 2 * 2 ^ 10

/-- The replaceable unit that carries a command's landings: a generator, or the router for what has a path class; the array reports for its
own commands (R251). -/
def Cmd.carrier (m : Cmd) (k : Nat) : Option Nat :=
  match m.kind with
  | .gen port _ _ => some (genId k port)
  | .mx _ => none
  | .fab _ => none
  | _ => some routerId

/-- The event of a FABUNIT report of a command: it withdraws nothing. -/
def Cmd.fabDue (m : Cmd) (lvl sub : Nat) : Due :=
  ⟨lvl, 1, 21, sub, false, m.queue == 1, m.bundle, m.slot, m.issue, 0, 0, none⟩

/-- A command whose landing waits for the trap of its FABUNIT report, and lands in the resume cycle (R181, R190; log 56). -/
def Core.fabHeld (c : Core) (m : Cmd) : Bool :=
  c.p.dues.any fun d => d.cause == 21 && d.bundle == m.bundle && d.slot == m.slot && d.issue == m.issue && d.cmd.isNone

/-- A landing of a command through a replacement that fails its self-check: the report falls due and nothing lands yet; otherwise `go`. -/
def viaUnit (k uid : Nat) (s : State) (go : Host.Outcome State Fault Refusal) : Host.Outcome State Fault Refusal :=
  match (s.core k).cmd uid with
  | none => go
  | some m => match (m.carrier k).bind (s.fabReport k) with
    | none => go
    | some sub => .next ((s.modCore k fun c => c.modP fun p => { p with dues := p.dues ++ [m.fabDue (if m.queue = 1 then c.tl else 0) sub] }).countFab k sub)

/-- A syllable of the loop and stage sequencer that has issued: where a replacement carries the sequencer and fails its self-check, the report
falls due (R251, R364). -/
def viaLoop (s : State) (o : Host.Outcome State Fault Refusal) : Host.Outcome State Fault Refusal :=
  match o, s.cur with
  | .next t, some q =>
    if t.cur.isNone then o
    else match s.fabReport q.core (loopId q.core) with
      | none => o
      | some sub =>
        let d := fun (c : Core) => (⟨c.tl, 1, 21, sub, false, false, (s.core q.core).f.pc.toNat, q.slot, c.clk, 0, 0, none⟩ : Due)
        .next ((t.modCore q.core fun c => c.modP fun p => { p with dues := p.dues ++ [d c] }).countFab q.core sub)
  | _, _ => o

/-! Shadow units (R151, R363). -/

/-- The top 8 significand bits of a value. -/
def Val.top8 : Val → Val
  | .fin n m e => if topBit m < 8 then .fin n m e else .fin n (m / 2 ^ (topBit m - 7) * 2 ^ (topBit m - 7)) e
  | v => v

/-- The class of an element: zero 0, subnormal 1, normal 2, infinity 3, NaN 4. -/
def Fmt.kindOf (f : Fmt) (x : Nat) : Nat :=
  match f.read x with
  | .zero _ => 0
  | .fin _ _ _ => if x / 2 ^ f.mb % 2 ^ f.eb = 0 then 1 else 2
  | .inf _ => 3
  | .nan => 4

/-- |v| > 2^k. -/
def Val.exceeds (v : Val) (k : Int) : Bool :=
  match v with
  | .fin _ m e => k < expOf m e || (k == expOf m e && m != 2 ^ topBit m)
  | _ => false

/-- An element `m` of the main result mismatches the shadow unit's value, the sign, the exponent and the top 8 significand bits of `h`: signs or
classes differ, or |m − h| > 2^(E(m) − 6); two NaNs match (R363). -/
def Fmt.mismatch (f : Fmt) (m h : Nat) : Bool :=
  let a := f.read m
  let b := (f.read h).top8
  if a.isNan && b.isNan then false
  else
    m / 2 ^ (f.width - 1) % 2 != h / 2 ^ (f.width - 1) % 2 || f.kindOf m != f.kindOf h ||
      (match a with | .fin _ x e => (a.add .rne b.neg).exceeds (expOf x e - 6) | _ => false)

/-- A lane's word mismatches the shadow unit's, in which the bits of `wrong` are wrong, in some element of type `t`. -/
def laneMismatch (t : Nat) (w : Lane) (wrong : Nat) : Bool :=
  let f := fmtOfType t
  (List.range (32 / f.width)).any fun e =>
    let el := fun (v : Nat) => v / 2 ^ (f.width * e) % 2 ^ f.width
    f.mismatch (el w.toNat) (el (w.toNat ^^^ wrong))

/-- The failures of an FP pipe that have come: lane and wrong bits (R363; log 71). -/
def State.wrongLanes (s : State) (r : Nat) : List (Nat × Nat) :=
  s.bel.upsets.filterMap fun x => match x.2 with
    | .unit u p w => if x.1 ≤ s.wall ∧ u = r then some (p, w) else none
    | _ => none

end Sys2Proof.Machine
end

