-- ==== Sys2Proof/Machine/Scalar.lean ====
section
/-! DEFINITION. Scalar and address instructions of slots SA and SB (05_scalar_control.md R111 to R120). -/

namespace Sys2Proof.Machine

/-- A scalar result of two operands, in its class (R111, R113). -/
def alu2 (cls : Nat) (d a b : BitVec 5) (g : Word → Word → Word) (s : State) : Host.Outcome State Fault Refusal :=
  s.syllable fun x => x.scalar cls d (g (x.sc 0 a) (x.sc 1 b))

/-- A scalar result of one operand, in class 0 (R111). -/
def alu1 (d a : BitVec 5) (g : Word → Word) (s : State) : Host.Outcome State Fault Refusal :=
  s.syllable fun x => x.scalar 0 d (g (x.sc 0 a))

/-- A divide or remainder: a zero divisor raises INTDIV0 at issue (R114). `low` gives the bits of an operand that count. -/
def divide (cls : Nat) (d a b : BitVec 5) (low : Word → Word) (g : Word → Word → Word) (s : State) :
    Host.Outcome State Fault Refusal :=
  s.syllable fun x =>
    if low (x.sc 1 b) = 0 then .error (Trap.mk' 4 0) else x.scalar cls d (g (x.sc 0 a) (x.sc 1 b))

/-- The low 32 bits of a word. -/
def lo32 (w : Word) : BitVec 32 := w.setWidth 32

/-- The low half with zeros above. -/
def zlo (w : Word) : Word := (lo32 w).setWidth 64

/-- A 32-bit result sign-extended (R114). -/
def sx32 (w : BitVec 32) : Word := w.signExtend 64

/-- 1 or 0. -/
def boolWord (b : Bool) : Word := if b then 1 else 0

/-- Number of leading zeros of the low `n` bits of a word. -/
def clzFrom (w : Word) : Nat → Nat
  | 0 => 0
  | n + 1 => if w.getLsbD n then 0 else clzFrom w n + 1

/-- Number of trailing zeros among the `n` bits from bit `i`. -/
def ctzFrom (w : Word) : Nat → Nat → Nat
  | 0, _ => 0
  | n + 1, i => if w.getLsbD i then 0 else ctzFrom w n (i + 1) + 1

/-- Number of ones in the low `n` bits. -/
def popFrom (w : BitVec 64) : Nat → Nat
  | 0 => 0
  | n + 1 => (if w.getLsbD n then 1 else 0) + popFrom w n

/-- Sign-extended immediate (R87). -/
def sImm (i : BitVec 16) : Word := i.signExtend 64

/-- Zero-extended immediate (R87). -/
def zImm (i : BitVec 16) : Word := i.setWidth 64

def execAdd (d a b : BitVec 5) (s : State) := alu2 0 d a b (· + ·) s
def execSub (d a b : BitVec 5) (s : State) := alu2 0 d a b (· - ·) s
def execAnd (d a b : BitVec 5) (s : State) := alu2 0 d a b (· &&& ·) s
def execOr (d a b : BitVec 5) (s : State) := alu2 0 d a b (· ||| ·) s
def execXor (d a b : BitVec 5) (s : State) := alu2 0 d a b (· ^^^ ·) s
/-- Shifts take their amount from bits [5:0] of the second operand (R113). -/
def execShl (d a b : BitVec 5) (s : State) := alu2 0 d a b (fun x y => x <<< (y.toNat % 64)) s
def execShr (d a b : BitVec 5) (s : State) := alu2 0 d a b (fun x y => x >>> (y.toNat % 64)) s
def execSra (d a b : BitVec 5) (s : State) := alu2 0 d a b (fun x y => x.sshiftRight (y.toNat % 64)) s
def execSlt (d a b : BitVec 5) (s : State) := alu2 0 d a b (fun x y => boolWord (x.slt y)) s
def execSltn (d a b : BitVec 5) (s : State) := alu2 0 d a b (fun x y => boolWord (x.ult y)) s
def execMin (d a b : BitVec 5) (s : State) := alu2 0 d a b (fun x y => if x.slt y then x else y) s
def execMax (d a b : BitVec 5) (s : State) := alu2 0 d a b (fun x y => if x.slt y then y else x) s
def execMinn (d a b : BitVec 5) (s : State) := alu2 0 d a b (fun x y => if x.ult y then x else y) s
def execMaxn (d a b : BitVec 5) (s : State) := alu2 0 d a b (fun x y => if x.ult y then y else x) s
def execAddW (d a b : BitVec 5) (s : State) := alu2 0 d a b (fun x y => sx32 (lo32 x + lo32 y)) s
def execSubW (d a b : BitVec 5) (s : State) := alu2 0 d a b (fun x y => sx32 (lo32 x - lo32 y)) s
def execMul (d a b : BitVec 5) (s : State) := alu2 1 d a b (· * ·) s
/-- Bits [127:64] of the signed product (R113). -/
def execMulh (d a b : BitVec 5) (s : State) :=
  alu2 1 d a b (fun x y => BitVec.ofInt 64 ((x.toInt * y.toInt) / (2 ^ 64 : Nat))) s
/-- Bits [127:64] of the natural product (R113). -/
def execMulhn (d a b : BitVec 5) (s : State) :=
  alu2 1 d a b (fun x y => BitVec.ofNat 64 (x.toNat * y.toNat / 2 ^ 64)) s
def execMulW (d a b : BitVec 5) (s : State) := alu2 1 d a b (fun x y => sx32 (lo32 x * lo32 y)) s
/-- Quotient rounded toward zero; the most negative value by −1 gives itself (R113, R114). -/
def execDiv (d a b : BitVec 5) (s : State) := divide 3 d a b id (fun x y => x.sdiv y) s
def execDivn (d a b : BitVec 5) (s : State) := divide 3 d a b id (fun x y => x / y) s
/-- The remainder's sign follows the dividend (R113). -/
def execRem (d a b : BitVec 5) (s : State) := divide 3 d a b id (fun x y => x.srem y) s
def execRemn (d a b : BitVec 5) (s : State) := divide 3 d a b id (fun x y => x % y) s
def execDivW (d a b : BitVec 5) (s : State) := divide 2 d a b zlo (fun x y => sx32 ((lo32 x).sdiv (lo32 y))) s
/-- The natural 32-bit forms zero-extend (R114). -/
def execDivnW (d a b : BitVec 5) (s : State) := divide 2 d a b zlo (fun x y => (lo32 x / lo32 y).setWidth 64) s
def execRemW (d a b : BitVec 5) (s : State) := divide 2 d a b zlo (fun x y => sx32 ((lo32 x).srem (lo32 y))) s
def execRemnW (d a b : BitVec 5) (s : State) := divide 2 d a b zlo (fun x y => (lo32 x % lo32 y).setWidth 64) s
def execClz (d a : BitVec 5) (s : State) := alu1 d a (fun x => BitVec.ofNat 64 (clzFrom x 64)) s
def execCtz (d a : BitVec 5) (s : State) := alu1 d a (fun x => BitVec.ofNat 64 (ctzFrom x 64 0)) s
def execPopc (d a : BitVec 5) (s : State) := alu1 d a (fun x => BitVec.ofNat 64 (popFrom x 64)) s
/-- A if s(c) ≠ 0, else B (R116). -/
def execSel (d a b c : BitVec 5) (s : State) : Host.Outcome State Fault Refusal :=
  s.syllable fun x => x.scalar 0 d (if x.sc 2 c ≠ 0 then x.sc 0 a else x.sc 1 b)
/-- A + (B << h) (R116). -/
def execLea (d a b : BitVec 5) (h : BitVec 2) (s : State) := alu2 0 d a b (fun x y => x + y <<< h.toNat) s
def execAddi (d a : BitVec 5) (i : BitVec 16) (s : State) := alu1 d a (fun x => x + sImm i) s
def execAndi (d a : BitVec 5) (i : BitVec 16) (s : State) := alu1 d a (fun x => x &&& sImm i) s
def execOri (d a : BitVec 5) (i : BitVec 16) (s : State) := alu1 d a (fun x => x ||| zImm i) s
def execXori (d a : BitVec 5) (i : BitVec 16) (s : State) := alu1 d a (fun x => x ^^^ zImm i) s
def execSlti (d a : BitVec 5) (i : BitVec 16) (s : State) := alu1 d a (fun x => boolWord (x.slt (sImm i))) s
def execShli (d a : BitVec 5) (h : BitVec 6) (s : State) := alu1 d a (fun x => x <<< h.toNat) s
def execShri (d a : BitVec 5) (h : BitVec 6) (s : State) := alu1 d a (fun x => x >>> h.toNat) s
def execSrai (d a : BitVec 5) (h : BitVec 6) (s : State) := alu1 d a (fun x => x.sshiftRight h.toNat) s
def execMovi (d : BitVec 5) (i : BitVec 16) (s : State) : Host.Outcome State Fault Refusal :=
  s.syllable fun x => x.scalar 0 d (sImm i)
/-- sD with bits [16k+15:16k] replaced by the immediate (R115). -/
def execMovhi (d : BitVec 5) (k : BitVec 2) (i : BitVec 16) (s : State) :=
  alu1 d d (fun x => setField x (16 * k.toNat) 16 i.toNat) s
/-- The bit field zero-extended; `l` holds length − 1 and `p` the position (R117). -/
def execExt (d a : BitVec 5) (l p : BitVec 6) (s : State) :=
  alu1 d a (fun x => BitVec.ofNat 64 (field x p.toNat (l.toNat + 1))) s
/-- sD with a bit field replaced by the low bits of sA (R117). -/
def execIns (d a : BitVec 5) (l p : BitVec 6) (s : State) :=
  alu2 0 d d a (fun x y => setField x p.toNat (l.toNat + 1) y.toNat) s

/-! Parameter, engine and counter access (R118 to R120). -/

/-- A parameter write, landing with class 5 (R111). -/
def paramWrite (a : BitVec 5) (kind : Word → EKind) (s : State) : Host.Outcome State Fault Refusal :=
  s.syllable fun x => x.issue 5 (x.entry (kind (x.sc 0 a)) (x.tt 5).lat (x.tt 5).lat) []

def execWrag (d a sel : BitVec 5) (s : State) := paramWrite a (fun v => .ag d.toNat sel.toNat v) s
def execWrmp (d a : BitVec 5) (s : State) := paramWrite a (fun v => .mp d.toNat v) s
def execWreng (a : BitVec 5) (n : BitVec 8) (s : State) := paramWrite a (fun v => .eng n.toNat v) s
/-- SCHC of the issue cycle (R120). -/
def execRdsched (d : BitVec 5) (s : State) : Host.Outcome State Fault Refusal :=
  s.syllable fun x => x.scalar 0 d x.c.x.schc
/-- GTIME of the issue's wall cycle (R120). -/
def execRdgtime (d : BitVec 5) (s : State) : Host.Outcome State Fault Refusal :=
  s.syllable fun x => x.scalar 0 d x.s.gtime

/-- A count of an address-generator set; 0 means 65,536 (R43). -/
def genCount (n : BitVec 16) : Nat := if n = 0 then 65536 else n.toNat

/-- Vectors a generator runs for (R119). -/
def AgSet.total (a : AgSet) : Nat := genCount a.cnt0 * genCount a.cnt1 * genCount a.cnt2

/-- The last delivery or take of a generator that starts at `start` with the set (R119, R200). -/
def genLast (start lat : Nat) (a : AgSet) : Nat := start + lat + a.total - 1

/-- The previous generator of a port, finished or not (R119). -/
def Core.lastGen (c : Core) (port : Nat) : Option GenMark := (c.e.gens.filter (·.port == port)).getLast?

/-- Remembers a generator for the check of the next `qgo` of its port; earlier ones of the port are kept while they have not ended. -/
def Engines.markGen (e : Engines) (g : GenMark) : Engines :=
  { e with gens := (e.gens.filter fun x => x.port != g.port || e.cmds.any (·.uid == x.uid)) ++ [g] }

/-- `qgo` (R119): PROT at TL ≥ 1 (R184); LATESTART where its start falls before the last delivery or take of the port's
previous generator, with the counts of that generator's set as they stand. -/
def execQgo (p g : BitVec 3) (l : BitVec 11) (s : State) : Host.Outcome State Fault Refusal :=
  s.syllable fun x =>
    if 1 ≤ x.c.tl then .error (trapProt akOther)
    else
      let start := x.c.clk + l.toNat
      let late : Bool := match x.c.lastGen p.toNat with
        | some m => decide (start < genLast m.start (x.tt 22).lat (x.c.r.ag.getD m.ag AgSet.zero))
        | none => false
      if late then .error slipLate
      else
        let m : Cmd :=
          { uid := x.c.p.uid, kind := .gen p.toNat g.toNat AgSet.zero, queue := 6, bundle := x.c.f.pc.toNat, slot := x.slot,
            syll := x.syll, issue := x.c.clk, start := start, land := 0, started := false, sPos := 0, lPos := 0,
            flights := [], pages := [], regs := [] }
        .ok ((x.c.modE fun e => { e.markGen ⟨p.toNat, m.uid, start, g.toNat⟩ with cmds := e.cmds ++ [m] }).modP fun q =>
          { q with uid := q.uid + 1 })

end Sys2Proof.Machine
end

