-- ==== Sys2Proof/Machine/Control.lean ====
section
/-! DEFINITION. Control instructions of slot CTRL (05_scalar_control.md R121 to R137): branches, calls, loops, waits, barriers,
traps, system access and queue fences. -/

namespace Sys2Proof.Machine

/-- The target of an F-B syllable in bundle `pc` (R102). -/
def branchTarget (pc : BitVec 12) (o : BitVec 21) : BitVec 12 := pc + (o.signExtend 32).setWidth 12

/-- True inside a delay shadow (R123). -/
def Core.inShadow (c : Core) : Bool := c.f.shadow.isSome

/-- Index of the innermost active loop level (R47). -/
def Core.depth (c : Core) : Nat := (c.l.levels.filter (fun l => l.kind ≠ 0)).length

/-- The innermost active loop level. -/
def Core.inner (c : Core) : Option LoopLevel := (c.l.levels.filter (fun l => l.kind ≠ 0)).getLast?

/-- Replaces level `i`. -/
def Core.setLevel (c : Core) (i : Nat) (l : LoopLevel) : Core := c.modL fun x => { x with levels := x.levels.set i l }

/-- Levels left by a taken branch from `pc` to `t`: the innermost level that holds `pc` ends if the target lies outside it,
and then the enclosing ones in turn (R126). `n` is the number of active levels. -/
def leaveLoops (pc t : BitVec 12) (levels : List LoopLevel) : Nat → List LoopLevel
  | 0 => levels
  | n + 1 =>
    let l := levels.getD n LoopLevel.zero
    if l.start ≤ pc ∧ pc ≤ l.last ∧ ¬(l.start ≤ t ∧ t ≤ l.last) then
      leaveLoops pc t (levels.set n { l with kind := 0 }) n
    else levels

/-- The effect of a branch-family syllable: a shadow of two bundles, and loop levels left if it is a taken branch (R122,
R126). -/
def Core.branch (c : Core) (taken leaves : Bool) (t : BitVec 12) : Core :=
  let c := c.modF fun f => { f with shadow := some ⟨2, taken, t⟩ }
  if taken && leaves && c.tl == 0 then c.modL fun l => { l with levels := leaveLoops c.f.pc t l.levels c.depth } else c

/-- A branch whose condition the test gives; in a delay shadow it raises ILLDELAY (R121 to R123). -/
def condBranch (o : BitVec 21) (test : Ctx → Except Trap Bool) (s : State) : Host.Outcome State Fault Refusal :=
  s.syllable fun x =>
    if x.c.inShadow then .error (Trap.mk' 2 0)
    else match test x with
      | .error t => .error t
      | .ok b => .ok (x.c.branch b true (branchTarget x.c.f.pc o))

def execBrZ (c : BitVec 5) (o : BitVec 21) (s : State) := condBranch o (fun x => .ok (x.sc 0 c == 0)) s
def execBrNz (c : BitVec 5) (o : BitVec 21) (s : State) := condBranch o (fun x => .ok (x.sc 0 c != 0)) s
def execBrLz (c : BitVec 5) (o : BitVec 21) (s : State) := condBranch o (fun x => .ok ((x.sc 0 c).slt 0)) s
def execBrGez (c : BitVec 5) (o : BitVec 21) (s : State) := condBranch o (fun x => .ok (!(x.sc 0 c).slt 0)) s
/-- A mixed predicate raises NONUNIF with XADDR the predicate (R121, R178). -/
def execBrP (c : BitVec 5) (o : BitVec 21) (s : State) :=
  condBranch o (fun x =>
    let p := x.pr 0 c.toNat
    if p = BitVec.allOnes 64 then .ok true else if p = 0 then .ok false else .error (Trap.mk' 3 0 p)) s
def execBrAny (c : BitVec 5) (o : BitVec 21) (s : State) := condBranch o (fun x => .ok (x.pr 0 c.toNat != 0)) s
def execBrAll (c : BitVec 5) (o : BitVec 21) (s : State) :=
  condBranch o (fun x => .ok (x.pr 0 c.toNat == BitVec.allOnes 64)) s
def execBrNone (c : BitVec 5) (o : BitVec 21) (s : State) := condBranch o (fun x => .ok (x.pr 0 c.toNat == 0)) s
def execJmp (o : BitVec 21) (s : State) := condBranch o (fun _ => .ok true) s

/-- `jmpi`: the target from s(a)[11:0] (R124). -/
def execJmpi (a : BitVec 5) (s : State) : Host.Outcome State Fault Refusal :=
  s.syllable fun x =>
    if x.c.inShadow then .error (Trap.mk' 2 0) else .ok (x.c.branch true true ((x.sc 0 a).setWidth 12))

/-- A call lands (P + 3) mod 4,096 in s31 at issue + 1 and ends no loop level (R124, R126). It is in no class of R111, so its entry is
issued under class 62, which no timing table holds and no repeat interval binds. -/
def callTo (t : Ctx → BitVec 12) (s : State) : Host.Outcome State Fault Refusal :=
  s.syllable fun x =>
    if x.c.inShadow then .error (Trap.mk' 2 0)
    else
      let e := x.entry (.scalar (x.c.physS 31) ((x.c.f.pc + 3).setWidth 64)) 1 1
      match x.issue 62 e [] with
      | .error t => .error t
      | .ok c => .ok (c.branch true false (t x))

def execCall (o : BitVec 21) (s : State) := callTo (fun x => branchTarget x.c.f.pc o) s
def execCalli (a : BitVec 5) (s : State) := callTo (fun x => (x.sc 0 a).setWidth 12) s

/-- `ret`: the target from s31[11:0] at issue (R124). -/
def execRet (s : State) : Host.Outcome State Fault Refusal :=
  s.syllable fun x =>
    if x.c.inShadow then .error (Trap.mk' 2 0) else .ok (x.c.branch true false ((x.sc 0 31).setWidth 12))

/-! Loops (R125 to R129). -/

/-- The nesting rule of R126: inside the innermost active level's range, the new END lies at or before that level's. -/
def Core.nestOk (c : Core) (last : Nat) : Bool :=
  match c.inner with
  | some l => if l.start ≤ c.f.pc ∧ c.f.pc ≤ l.last then last ≤ l.last.toNat else true
  | none => true

/-- The opcode of slot 0 of a bundle. -/
def Ctx.ctrlOp (x : Ctx) (bundle : Nat) : Nat := (x.s.fetch x.k bundle 0).toNat / 2 ^ 26

/-- Branch-family opcodes, `tret` and `halt`: what the last three bundles of a `zloop` body may not hold (R125). -/
def loopBarred (op : Nat) : Bool := (1 ≤ op && op ≤ 0x0D) || op == 0x15 || op == 0x16

/-- What slot 0 of a `ploop` kernel bundle may hold (R127); a syllable that decodes to nothing is none of these. -/
def kernelCtrl (w : BitVec 32) : Bool :=
  match decodeSlot 0 w with
  | some .nop | some (.lbrk ..) | some (.trap ..) | some (.brk ..) | some (.rdsys ..) | some (.wrsys ..) | some (.fenceq ..)
  | some (.rngseed ..) => true
  | _ => false

/-- Loop count N = s(d)[47:0] (R125, R127). -/
def loopCount (w : Word) : Nat := w.toNat % 2 ^ 48

/-- After a loop body is skipped, the next bundle is the one behind it; no level changes (R125, R127). -/
def Core.skipTo (c : Core) (last : BitVec 12) : Core := c.modF fun f => { f with next := some (last + 1) }

/-- `zloop` (R125): ILLOP at TL ≥ 1 (R184) and for its body, then ILLDELAY in a delay shadow (R84, R123). -/
def execZloop (d a : BitVec 5) (l : BitVec 12) (s : State) : Host.Outcome State Fault Refusal :=
  viaLoop s <| s.syllable fun x =>
      let p := x.c.f.pc.toNat
      let len := l.toNat + 1
      let last := p + len
      let tail := (List.range (min 3 len)).any fun i => loopBarred (x.ctrlOp (last - i))
      let n := loopCount (x.sc 0 d)
      if 1 ≤ x.c.tl || 4095 < last || tail || !x.c.nestOk last || (n ≠ 0 && 4 ≤ x.c.depth) then .error (trapIllop x.syll)
      else if x.c.inShadow then .error (Trap.mk' 2 0)
      else if n = 0 then .ok (x.c.skipTo (BitVec.ofNat 12 last))
      else .ok (x.c.setLevel x.c.depth ⟨1, 0, 0, x.c.f.pc + 1, BitVec.ofNat 12 last, BitVec.ofNat 64 (n - 1), a, 0, false⟩)

/-- Syllable `j` of the stage-map bundle (R103). -/
def Ctx.stageWord (x : Ctx) (j : Nat) : BitVec 32 := x.s.fetch x.k (x.c.f.pc.toNat + 1) j

/-- The checks of R104 on the stage-map bundle for `stages` stages and `ii` kernel bundles. -/
def Ctx.stageMapOk (x : Ctx) (stages ii : Nat) : Bool :=
  (List.range 8).all fun j =>
    if ii ≤ j then x.stageWord j == 0
    else (List.range 8).all fun slot =>
      x.s.fetch x.k (x.c.f.pc.toNat + 2 + j) slot == 0 || (x.stageWord j).toNat / 2 ^ (4 * slot) % 16 < stages

/-- `ploop` (R127), with the checks of `zloop` in their order. -/
def execPloop (d a : BitVec 5) (st : BitVec 4) (i : BitVec 3) (s : State) : Host.Outcome State Fault Refusal :=
  viaLoop s <| s.syllable fun x =>
      let p := x.c.f.pc.toNat
      let ii := i.toNat + 1
      let stages := st.toNat + 1
      let last := p + 1 + ii
      let ctrl := (List.range ii).all fun j => kernelCtrl (x.s.fetch x.k (p + 2 + j) 0)
      let n := loopCount (x.sc 0 d)
      if 1 ≤ x.c.tl || 4095 < last || !ctrl || !x.stageMapOk stages ii || !x.c.nestOk last || (n ≠ 0 && 4 ≤ x.c.depth) then
        .error (trapIllop x.syll)
      else if x.c.inShadow then .error (Trap.mk' 2 0)
      else if n = 0 then .ok (x.c.skipTo (BitVec.ofNat 12 last))
      else
        let c := x.c.setLevel x.c.depth
          ⟨2, st, i, x.c.f.pc + 2, BitVec.ofNat 12 last, BitVec.ofNat 64 (n + stages - 2), a, 0, false⟩
        .ok ((c.modL fun l => { l with sen := 1, smap := (List.range ii).map x.stageWord }).modF fun f =>
          { f with next := some (x.c.f.pc + 2) })

/-- `lbrk` (R129): PROT at TL ≥ 1 (R184); its change of LPC takes effect after the bundle. -/
def execLbrk (a : BitVec 5) (s : State) : Host.Outcome State Fault Refusal :=
  viaLoop s <| s.syllable fun x =>
    if 1 ≤ x.c.tl then .error (trapProt akOther)
    else if x.sc 0 a = 0 then .ok x.c
    else match x.c.inner with
      | none => .ok x.c
      | some _ => .ok (x.c.modF fun f => { f with lbrk := some (x.c.depth - 1) })

/-- The cut of LPC that a taken `lbrk` makes at issue + 1 (R129). -/
def Core.applyLbrk (c : Core) : Core :=
  match c.f.lbrk with
  | none => c
  | some i =>
    let l := c.l.levels.getD i LoopLevel.zero
    let v := if l.kind = 1 then 0 else min l.lpc.toNat l.stg.toNat
    (c.setLevel i { l with lpc := BitVec.ofNat 64 v }).modF fun f => { f with lbrk := none }

/-! Waits and barriers (R130, R131). -/

/-- A wait begins at TL0 only (R184). -/
def startWait (w : Ctx → Wait) (s : State) : Host.Outcome State Fault Refusal :=
  s.syllable fun x =>
    if 1 ≤ x.c.tl then .error (trapProt akOther)
    else .ok (x.c.modF fun f => { f with wait := w x, arr := (x.c.clk, x.c.x.schc) })

def execWaitt (a : BitVec 5) (i : BitVec 16) (s : State) := startWait (fun x => .waitt (x.sc 0 a + sImm i)) s
def execWaitg (a : BitVec 5) (i : BitVec 16) (s : State) := startWait (fun x => .waitg (x.sc 0 a + sImm i)) s
/-- The level of a `syncb`: `domain` in a launch without a fabric timetable is `package` (R131). -/
def Launch.syncLevel (l : Launch) (level : Nat) : Nat := if level = 4 ∧ l.ftt.isNone then 3 else level

def execSyncb (l : BitVec 3) (s : State) := startWait (fun x => .syncb ((x.s.launchOf x.k).syncLevel l.toNat)) s

/-! Traps, returns and the end of a task (R132 to R134). -/

/-- `trap`: USER, after slot 0 has committed (R132). -/
def execTrap (i : BitVec 16) (s : State) : Host.Outcome State Fault Refusal :=
  s.syllable fun _ => .error ⟨22, i.toNat, 0, 0, true⟩

/-- `tret`: PROT at TL0 and ILLDELAY in a delay shadow; else the core waits for the handler's work after this bundle (R123,
R133, R189). -/
def execTret (s : State) : Host.Outcome State Fault Refusal :=
  s.syllable fun x =>
    if x.c.inShadow then .error (Trap.mk' 2 0)
    else if x.c.tl = 0 then .error (trapProt akOther)
    else .ok (x.c.modF fun f => { f with mode := .tret })

/-- `halt`: PROT at TL ≥ 1; else the task ends after its bundle (R126, R134, R402). -/
def execHalt (s : State) : Host.Outcome State Fault Refusal :=
  s.syllable fun x =>
    if x.c.inShadow then .error (Trap.mk' 2 0)
    else if 1 ≤ x.c.tl then .error (trapProt akOther)
    else .ok (x.c.modF fun f => { f with halting := true })

/-- The end of a task, when the bundle of its `halt` has committed: every loop level is discarded, and so are interrupts. -/
def Core.applyHalt (c : Core) : Core :=
  if c.f.halting then
    (c.modF fun f =>
      { f with mode := .halted, halting := false, arr := (c.clk, c.x.schc), timer := none, irqTimer := false, irqBelfry := false,
               irqDebug := false }).modL fun l => { l with levels := l.levels.map fun v => { v with kind := 0 } }
  else c

/-! System registers (R50 to R53, R135). -/

/-- True where R50 permits a read of system register `n` at a trap level. -/
def sysReadOk (n tl : Nat) : Bool :=
  if n = 0x03 ∨ (0x10 ≤ n ∧ n ≤ 0x15) then 1 ≤ tl else if 0x18 ≤ n ∧ n ≤ 0x1D then tl == 2 else true

/-- True where R50 permits a write of system register `n` at a trap level: a read-only register takes a write without effect,
and XINJ takes none at any level. -/
def sysWriteOk (n tl : Nat) : Bool :=
  if n ∈ [0x00, 0x01, 0x02, 0x05, 0x08] then true
  else if n = 0x09 then false
  else if 0x18 ≤ n ∧ n ≤ 0x1D then tl == 2
  else 1 ≤ tl

/-- A register of a trap bank. -/
def Bank.get (b : Bank) : Nat → Word
  | 0 => b.cause
  | 1 => b.epc
  | 2 => b.slot
  | 3 => b.lane
  | 4 => b.addr
  | _ => b.schc

/-- A trap bank with a register written: only the fields its map lists are kept (R53, R177). -/
def Bank.set (b : Bank) (i : Nat) (v : Word) : Bank :=
  match i with
  | 0 => { b with cause := v &&& 0x000000FF0000FFFF#64 }
  | 1 => { b with epc := v &&& 0xFFF#64 }
  | 2 => { b with slot := v &&& 7#64 }
  | 3 => { b with lane := v &&& 63#64 }
  | 4 => { b with addr := v }
  | _ => { b with schc := v }

/-- TTDIG: set by the caller from the spire (R53). -/
def Core.sysRead (c : Core) (gtime ttdig : Word) (n : Nat) : Word :=
  match n with
  | 0x00 => c.x.sstat
  | 0x01 => c.x.schc
  | 0x02 => gtime
  | 0x03 => c.x.xvec
  | 0x04 => c.x.ovp
  | 0x05 => c.x.splb
  | 0x06 => c.l.rrb.setWidth 64
  | 0x07 => c.l.sen.setWidth 64
  | 0x08 => ttdig
  | 0x09 => c.x.xinj
  | _ =>
    if n < 0x10 then BitVec.ofNat 64 (c.l.levels.getD (n - 0x0C) LoopLevel.zero).word
    else if n < 0x18 then c.x.bank1.get (n - 0x10)
    else if n < 0x20 then c.x.bank2.get (n - 0x18)
    else (c.l.levels.getD (n - 0x20) LoopLevel.zero).lpc

/-- The landing of a `wrsys` (R50 to R53). -/
def Core.sysWrite (c : Core) (n : Nat) (v : Word) : Core :=
  match n with
  | 0x00 =>
    c.modX fun x => { x with sstat := setField (setField (setField x.sstat 21 3 (field v 21 3)) 26 1 (field v 26 1)) 27 5 (field v 27 5) }
  | 0x03 => c.modX fun x => { x with xvec := v &&& 0xFC0#64 }
  | 0x04 => c.modX fun x => { x with ovp := v &&& 0x01FFFFFFFFFFF000#64 }
  | 0x06 => c.modL fun l => { l with rrb := v.setWidth 3 }
  | 0x07 => c.modL fun l => { l with sen := v.setWidth 16 }
  | _ =>
    if 0x0C ≤ n ∧ n < 0x10 then c.setLevel (n - 0x0C) ((c.l.levels.getD (n - 0x0C) LoopLevel.zero).ofWord v)
    else if 0x10 ≤ n ∧ n < 0x18 then c.modX fun x => { x with bank1 := x.bank1.set (n - 0x10) v }
    else if 0x18 ≤ n ∧ n < 0x20 then c.modX fun x => { x with bank2 := x.bank2.set (n - 0x18) v }
    else if 0x20 ≤ n ∧ n < 0x24 then c.setLevel (n - 0x20) { (c.l.levels.getD (n - 0x20) LoopLevel.zero) with lpc := v }
    else c

/-- `wrsys` (R50 to R52, R135): a write that would set FRM to 4 to 7, or a loop level's KIND to 3, raises ILLOP. -/
def execWrsys (a : BitVec 5) (n : BitVec 8) (s : State) : Host.Outcome State Fault Refusal :=
  s.syllable fun x =>
    let v := x.sc 0 a
    let n := n.toNat
    if (n = 0 ∧ 4 ≤ field v 21 3) ∨ (0x0C ≤ n ∧ n ≤ 0x0F ∧ field v 62 2 = 3) then .error (trapIllop x.syll)
    else if !sysWriteOk n x.c.tl then .error (trapProt akSys)
    else x.issue 5 (x.entry (.sys n v) (x.tt 5).lat (x.tt 5).lat) []

/-- `fenceq` (R137): a fence on the named timed queues at TL0, and a mark on the handler channel. -/
def execFenceq (m : BitVec 6) (s : State) : Host.Outcome State Fault Refusal :=
  s.syllable fun x =>
    let timed := m &&& 0b111101#6
    let at_ := (List.range 6).foldl (fun n q => if timed.getLsbD q then max n (x.c.e.lastLand.getD q 0) else n) 0
    .ok (x.c.modE fun e =>
      { e with fences := if timed = 0 ∨ 1 ≤ x.c.tl then e.fences else e.fences ++ [⟨timed, at_⟩],
               hFences := if m.getLsbD 1 then e.hFences.filter (fun u => e.cmds.any fun y => y.queue == 1 && decide (y.uid < u)) ++ [x.c.p.uid]
                 else e.hFences })

/-- `brk`: BRK, after slot 0 has committed (R132). A debugger that takes it is the trap entry's concern (R350). -/
def execBrk (i : BitVec 16) (s : State) : Host.Outcome State Fault Refusal :=
  s.syllable fun _ => .error ⟨19, i.toNat, 0, 0, true⟩

/-- `rngseed`: the new queue takes effect at issue + 1 (R136). -/
def execRngseed (a : BitVec 5) (s : State) : Host.Outcome State Fault Refusal :=
  s.syllable fun x => x.issue 62 (x.entry (.reseed (x.sc 0 a)) 1 1) []

/-- The all-zero syllable (R85). -/
def execNop (s : State) : Host.Outcome State Fault Refusal := s.syllable fun x => .ok x.c

/-- A syllable that raises ILLOP for its encoding (R84). -/
def execIllop (w : BitVec 32) (s : State) : Host.Outcome State Fault Refusal :=
  s.syllable fun _ => .error (trapIllop w)

end Sys2Proof.Machine
end

