-- ==== Sys2Proof/Machine/Sha.lean ====
section
/-! DEFINITION. SHA-384 (named by 02_task_state.md R53, 08_spire.md R215 and R217, 14_code_objects.md), as FIPS 180-4 gives
it, and the timing-table image whose digest is TTDIG (R217). -/

namespace Sys2Proof.Machine

/-- The 80 round constants: the first 64 fraction bits of the cube roots of the first 80 primes. -/
def shaK : List Word :=
  [0x428a2f98d728ae22, 0x7137449123ef65cd, 0xb5c0fbcfec4d3b2f, 0xe9b5dba58189dbbc, 0x3956c25bf348b538] ++
  [0x59f111f1b605d019, 0x923f82a4af194f9b, 0xab1c5ed5da6d8118, 0xd807aa98a3030242, 0x12835b0145706fbe] ++
  [0x243185be4ee4b28c, 0x550c7dc3d5ffb4e2, 0x72be5d74f27b896f, 0x80deb1fe3b1696b1, 0x9bdc06a725c71235] ++
  [0xc19bf174cf692694, 0xe49b69c19ef14ad2, 0xefbe4786384f25e3, 0x0fc19dc68b8cd5b5, 0x240ca1cc77ac9c65] ++
  [0x2de92c6f592b0275, 0x4a7484aa6ea6e483, 0x5cb0a9dcbd41fbd4, 0x76f988da831153b5, 0x983e5152ee66dfab] ++
  [0xa831c66d2db43210, 0xb00327c898fb213f, 0xbf597fc7beef0ee4, 0xc6e00bf33da88fc2, 0xd5a79147930aa725] ++
  [0x06ca6351e003826f, 0x142929670a0e6e70, 0x27b70a8546d22ffc, 0x2e1b21385c26c926, 0x4d2c6dfc5ac42aed] ++
  [0x53380d139d95b3df, 0x650a73548baf63de, 0x766a0abb3c77b2a8, 0x81c2c92e47edaee6, 0x92722c851482353b] ++
  [0xa2bfe8a14cf10364, 0xa81a664bbc423001, 0xc24b8b70d0f89791, 0xc76c51a30654be30, 0xd192e819d6ef5218] ++
  [0xd69906245565a910, 0xf40e35855771202a, 0x106aa07032bbd1b8, 0x19a4c116b8d2d0c8, 0x1e376c085141ab53] ++
  [0x2748774cdf8eeb99, 0x34b0bcb5e19b48a8, 0x391c0cb3c5c95a63, 0x4ed8aa4ae3418acb, 0x5b9cca4f7763e373] ++
  [0x682e6ff3d6b2b8a3, 0x748f82ee5defb2fc, 0x78a5636f43172f60, 0x84c87814a1f0ab72, 0x8cc702081a6439ec] ++
  [0x90befffa23631e28, 0xa4506cebde82bde9, 0xbef9a3f7b2c67915, 0xc67178f2e372532b, 0xca273eceea26619c] ++
  [0xd186b8c721c0c207, 0xeada7dd6cde0eb1e, 0xf57d4f7fee6ed178, 0x06f067aa72176fba, 0x0a637dc5a2c898a6] ++
  [0x113f9804bef90dae, 0x1b710b35131c471b, 0x28db77f523047d84, 0x32caab7b40c72493, 0x3c9ebe0a15c9bebc] ++
  [0x431d67c49c100d4c, 0x4cc5d4becb3e42b6, 0x597f299cfc657e2a, 0x5fcb6fab3ad6faec, 0x6c44198c4a475817]

/-- The initial hash value of SHA-384. -/
def shaInit : List Word :=
  [0xcbbb9d5dc1059ed8, 0x629a292a367cd507, 0x9159015a3070dd17, 0x152fecd8f70e5939,
   0x67332667ffc00b31, 0x8eb44a8768581511, 0xdb0c2e0d64f98fa7, 0x47b5481dbefa4fa4]

/-- A big-endian value of bytes. -/
def beValue (bs : List Byte) : Nat := bs.foldl (fun n b => n * 256 + b.toNat) 0

/-- The `n` big-endian bytes of a value. -/
def beBytes (v n : Nat) : List Byte := (leBytes v n).reverse

/-- The 16 words of a 128-byte block. -/
def shaWords : Nat → List Byte → List Word
  | 0, _ => []
  | n + 1, bs => BitVec.ofNat 64 (beValue (bs.take 8)) :: shaWords n (bs.drop 8)

/-- Extends the message schedule: `ws` holds the last 16 words, oldest first. -/
def shaRounds : List Word → List Word → List Word → List Word
  | [], _, h => h
  | k :: ks, ws, h =>
    let g := fun i => h.getD i 0
    let w := ws.getD 0 0
    let s1 := (g 4).rotateRight 14 ^^^ (g 4).rotateRight 18 ^^^ (g 4).rotateRight 41
    let ch := (g 4 &&& g 5) ^^^ (~~~(g 4) &&& g 6)
    let t1 := g 7 + s1 + ch + k + w
    let s0 := (g 0).rotateRight 28 ^^^ (g 0).rotateRight 34 ^^^ (g 0).rotateRight 39
    let maj := (g 0 &&& g 1) ^^^ (g 0 &&& g 2) ^^^ (g 1 &&& g 2)
    let a := ws.getD 1 0
    let b := ws.getD 14 0
    let e0 := a.rotateRight 1 ^^^ a.rotateRight 8 ^^^ (a >>> 7)
    let e1 := b.rotateRight 19 ^^^ b.rotateRight 61 ^^^ (b >>> 6)
    let nw := e1 + ws.getD 9 0 + e0 + w
    shaRounds ks (ws.drop 1 ++ [nw]) [t1 + s0 + maj, g 0, g 1, g 2, g 3 + t1, g 4, g 5, g 6]

/-- Hashes `n` blocks. -/
def shaBlocks : Nat → List Byte → List Word → List Word
  | 0, _, h => h
  | n + 1, bs, h =>
    shaBlocks n (bs.drop 128) (List.zipWith (· + ·) h (shaRounds shaK (shaWords 16 (bs.take 128)) h))

/-- A message with its padding. -/
def shaPad (bs : List Byte) : List Byte :=
  let z := (239 - bs.length % 128) % 128
  bs ++ 0x80 :: List.replicate z 0 ++ beBytes (bs.length * 8) 16

/-- The 48-byte SHA-384 digest. -/
def sha384 (bs : List Byte) : List Byte :=
  let p := shaPad bs
  ((shaBlocks (p.length / 128) p shaInit).take 6).flatMap fun w => beBytes w.toNat 8

/-- One entry of the timing-table image (R217). -/
def entryWord (cls : Nat) (e : TimeEntry) : Nat :=
  cls * 2 ^ 56 + e.lat % 2 ^ 12 * 2 ^ 44 + e.aux % 2 ^ 12 * 2 ^ 32 + e.rep % 2 ^ 12 * 2 ^ 20 + e.rate % 2 ^ 12 * 2 ^ 8

/-- The timing-table image (R217). -/
def ttImage (tt : List TimeEntry) : List Byte :=
  leBytes 0x4254544B 4 ++ leBytes 1 2 ++ leBytes 48 2 ++ List.replicate 56 0 ++
    ((List.range 48).zip tt).flatMap fun (i, e) => leBytes (entryWord i e) 8

/-- TTDIG: bytes 0 to 7 of the image's digest, byte 0 lowest (R53, R217). -/
def ttdig (tt : List TimeEntry) : Word := BitVec.ofNat 64 (leValue ((sha384 (ttImage tt)).take 8))

end Sys2Proof.Machine
end

