-- ==== Sys2Proof/Machine/LoadStore.lean ====
section
/-! DEFINITION. Slot LS at issue: scalar and vector loads and stores, indexed accesses, spills, scratchpad atomics and sync
objects (05_scalar_control.md R138 to R143, 06_vector.md R152 to R154), and `rdsys`. -/

namespace Sys2Proof.Machine

/-- `rdsys` (R50, R51, R135): PROT at a trap level that may not read the register. -/
def execRdsys (d : BitVec 5) (n : BitVec 8) (s : State) : Host.Outcome State Fault Refusal :=
  s.syllable fun x =>
    if !sysReadOk n.toNat x.c.tl then .error (trapProt akSys)
    else x.scalar 4 d (x.c.sysRead x.s.gtime (ttdig (x.s.spire (x.k / 2)).tt) n.toNat)

/-- A scalar load of 2^sz bytes: checks, class, sample and landing offsets (R138, R139). -/
def loadScalar (sz : Nat) (d a : BitVec 5) (i : BitVec 16) (s : State) : Host.Outcome State Fault Refusal :=
  s.syllable fun x =>
    let addr := x.sc 0 a + sImm i
    match x.s.plainCheck x.k akLoad addr (2 ^ sz) with
    | .error t => .error t
    | .ok w =>
      let cls := pathClass x.c.f.task.lsp w
      x.issue cls (x.entry (.load (sz + 1) (x.c.physS d) addr.toNat) (x.tt cls).lat (x.tt cls).aux) []

/-- A scalar store of 2^sz bytes (R138, R139). -/
def storeScalar (sz : Nat) (d a : BitVec 5) (i : BitVec 16) (s : State) : Host.Outcome State Fault Refusal :=
  s.syllable fun x =>
    let addr := x.sc 1 a + sImm i
    match x.s.plainCheck x.k akStore addr (2 ^ sz) with
    | .error t => .error t
    | .ok w =>
      let cls := pathClass x.c.f.task.lsp w
      x.issue cls (x.entry (.store sz addr.toNat (x.sc 0 d)) (x.tt cls).aux (x.tt cls).aux) []

def execLdB (d a : BitVec 5) (i : BitVec 16) (s : State) := loadScalar 0 d a i s
def execLdH (d a : BitVec 5) (i : BitVec 16) (s : State) := loadScalar 1 d a i s
def execLdW (d a : BitVec 5) (i : BitVec 16) (s : State) := loadScalar 2 d a i s
def execLdD (d a : BitVec 5) (i : BitVec 16) (s : State) := loadScalar 3 d a i s
def execStB (d a : BitVec 5) (i : BitVec 16) (s : State) := storeScalar 0 d a i s
def execStH (d a : BitVec 5) (i : BitVec 16) (s : State) := storeScalar 1 d a i s
def execStW (d a : BitVec 5) (i : BitVec 16) (s : State) := storeScalar 2 d a i s
def execStD (d a : BitVec 5) (i : BitVec 16) (s : State) := storeScalar 3 d a i s

/-- The register or port number a vector load lands in. -/
def Ctx.vnum (x : Ctx) (d : BitVec 5) : Nat := if isPort d then portOf d else x.c.physV d

/-- `vld` (R152). -/
def execVld (d a : BitVec 5) (i : BitVec 16) (s : State) : Host.Outcome State Fault Refusal :=
  s.syllable fun x =>
    match x.vd d with
    | .error t => .error t
    | .ok () =>
      let addr := x.sc 0 a + sImm i
      match x.s.plainCheck x.k akLoad addr 256 with
      | .error t => .error t
      | .ok w =>
        let cls := pathClass x.c.f.task.lsp w
        x.issue cls (x.entry (.vload 5 (isPort d) (x.vnum d) addr.toNat) (x.tt cls).lat (x.tt cls).aux) []

/-- `vst` (R152). -/
def execVst (d a : BitVec 5) (i : BitVec 16) (s : State) : Host.Outcome State Fault Refusal :=
  s.syllable fun x =>
    match x.ve 0 d with
    | .error t => .error t
    | .ok v =>
      let addr := x.sc 0 a + sImm i
      match x.s.plainCheck x.k akStore addr 256 with
      | .error t => .error t
      | .ok w =>
        let cls := pathClass x.c.f.task.lsp w
        x.issue cls (x.entry (.vstore addr.toNat v) (x.tt cls).aux (x.tt cls).aux) [d]

/-! Indexed accesses (R153, R154). -/

/-- The address of lane `l`: the sum of 64 bits (log 72). -/
def idxAddr (base : Word) (offs : Vec) (l : Nat) : Word := base + (offs.at l).w.setWidth 64

/-- The check that lane `l` fails first, if any (R153). A misaligned lane counts as naming the word that holds its address (log 72). -/
def Ctx.idxFail (x : Ctx) (store : Bool) (base : Word) (offs : Vec) (m : BitVec 64) (l : Nat) : Option Trap :=
  let kind := if store then akStore else akLoad
  let a := idxAddr base offs l
  let own : Option Win := if 2 ^ 40 ≤ a.toNat then none
    else match (x.s.launchOf x.k).window a.toNat 1 with
      | some w => if w.unit = 0 ∧ w.own x.c.f.task.lsp then some w else none
      | none => none
  let same := (List.range 4).any fun j =>
    let o := l / 4 * 4 + j
    o ≠ l && laneOn m o && (idxAddr base offs o).toNat / 4 == a.toNat / 4
  match own with
  | none => some { trapProt kind a with lane := l }
  | some w =>
    if a.toNat % 4 ≠ 0 then some { trapAlign kind a with lane := l }
    else if store && same then some { Trap.mk' 10 kind a with lane := l }
    else if store && x.c.tl == 0 && x.c.inFrames w.off 4 then some { trapProt kind a with lane := l }
    else none

/-- The fault of the lowest failing active lane (R153). -/
def Ctx.idxCheck (x : Ctx) (store : Bool) (base : Word) (offs : Vec) (m : BitVec 64) : Option Trap :=
  (List.range 64).findSome? fun l => if laneOn m l then x.idxFail store base offs m l else none

/-- Lane offsets as numbers. -/
def offsOf (v : Vec) : List Nat := v.map fun y => y.w.toNat

/-- `vldx` (R153, R154). -/
def execVldx (d a b : BitVec 5) (p : BitVec 3) (s : State) : Host.Outcome State Fault Refusal :=
  s.syllable fun x =>
    match x.vd d, x.ve 0 b with
    | .error t, _ => .error t
    | _, .error t => .error t
    | .ok (), .ok o =>
      let m := x.pr 0 p.toNat
      match x.idxCheck false (x.sc 0 a) o m with
      | some t => .error t
      | none =>
        x.issue 21 (x.entry (.vldx (isPort d) (x.vnum d) (field (x.sc 0 a) 0 40) (offsOf o) m (List.replicate 64 none) 0)
          (x.tt 21).lat (x.tt 21).aux) [b]

/-- `vstx` (R153, R154): its entry lasts until the last of its 16 groups lands. -/
def execVstx (d a b : BitVec 5) (p : BitVec 3) (s : State) : Host.Outcome State Fault Refusal :=
  s.syllable fun x =>
    match x.ve 0 d, x.ve 1 b with
    | .error t, _ => .error t
    | _, .error t => .error t
    | .ok v, .ok o =>
      let m := x.pr 0 p.toNat
      match x.idxCheck true (x.sc 0 a) o m with
      | some t => .error t
      | none =>
        x.issue 21 (x.entry (.vstx (field (x.sc 0 a) 0 40) (offsOf o) m v 0) ((x.tt 21).aux + 15) (x.tt 21).aux) [d, b]

/-! Spills (R54, R55, R140). -/

/-- SPSZ: the spill area of the carve-out (R54). -/
def Core.spsz (c : Core) : Nat := (field c.x.splb 32 10 - field c.x.splb 0 10) * 4096 - 65536

/-- Where a spill at offset `o` goes: its timing class and a window address, or a virtual address in the overflow area. -/
inductive SpillAt where
  | pad (cls addr : Nat)
  | beyond (va : Nat)
  deriving DecidableEq, Repr

/-- Placement and faults of a spill of `n` bytes at offset `o` (R55). A redirected spill acts in global memory, which a
handler may not do (R184). -/
def Ctx.spillAt (x : Ctx) (kind : Nat) (o : Word) (n : Nat) : Except Trap SpillAt :=
  if o.toNat % n ≠ 0 then .error (trapAlign kind o)
  else if o.toNat + n ≤ x.c.spsz then
    .ok (.pad (if x.c.spm then 11 else 6) (windowOf x.c.f.task.lsp (field x.c.x.splb 0 10 * 4096 + o.toNat)))
  else if !x.c.spm then .error (Trap.mk' 17 0 o)
  else if 1 ≤ x.c.tl then .error (trapProt kind)
  else .ok (.beyond (field x.c.x.ovp 12 45 * 4096 + (o.toNat - x.c.spsz)))

/-- The class of a spill. -/
def SpillAt.cls : SpillAt → Nat
  | .pad c _ => c
  | .beyond _ => 11

/-- Issues a spill whose entry the placement gives. -/
def Ctx.spill (x : Ctx) (kind : Nat) (o : Word) (n : Nat) (mk : SpillAt → EKind) (pops : List (BitVec 5)) : Except Trap Core :=
  match x.spillAt kind o n with
  | .error t => .error t
  | .ok p =>
    let t := x.tt p.cls
    x.issue p.cls (x.entry (mk p) (if kind = akLoad then t.lat else t.aux) t.aux) pops

def execSpldScalar (d a : BitVec 5) (k : BitVec 16) (s : State) : Host.Outcome State Fault Refusal :=
  s.syllable fun x => x.spill akLoad (x.sc 0 a + 8 * zImm k) 8
    (fun | .pad _ ad => .load 6 (x.c.physS d) ad | .beyond va => .load 8 (x.c.physS d) va) []

def execSpstScalar (d a : BitVec 5) (k : BitVec 16) (s : State) : Host.Outcome State Fault Refusal :=
  s.syllable fun x => x.spill akStore (x.sc 1 a + 8 * zImm k) 8
    (fun | .pad _ ad => .store 3 ad (x.sc 0 d) | .beyond va => .spillStore va (x.sc 0 d)) []

def execSpldVector (d a : BitVec 5) (k : BitVec 16) (s : State) : Host.Outcome State Fault Refusal :=
  s.syllable fun x =>
    match x.vd d with
    | .error t => .error t
    | .ok () => x.spill akLoad (x.sc 0 a + 256 * zImm k) 256
      (fun | .pad _ ad => .vload 7 (isPort d) (x.vnum d) ad | .beyond va => .vload 9 (isPort d) (x.vnum d) va) []

def execSpstVector (d a : BitVec 5) (k : BitVec 16) (s : State) : Host.Outcome State Fault Refusal :=
  s.syllable fun x =>
    match x.ve 0 d with
    | .error t => .error t
    | .ok v => x.spill akStore (x.sc 0 a + 256 * zImm k) 256
      (fun | .pad _ ad => .vstore ad v | .beyond va => .spillVStore va v) [d]

/-! Scratchpad atomics (R141). -/

/-- The new value of an atomic of width 64 or 32 (R141, R283). -/
def atomicNew (op : AtomicOp) (w64 : Bool) (old operand cmp : Word) : Word :=
  let lo : Word → Word := fun v => if w64 then v else (lo32 v).setWidth 64
  let sx : Word → Int := fun v => if w64 then v.toInt else (lo32 v).toInt
  match op with
  | .add => lo (old + operand)
  | .and => lo (old &&& operand)
  | .or => lo (old ||| operand)
  | .xor => lo (old ^^^ operand)
  | .min => if sx old < sx operand then lo old else lo operand
  | .max => if sx old < sx operand then lo operand else lo old
  | .swap => lo operand
  | .cas => if lo old = lo cmp then lo operand else lo old

/-- A scratchpad atomic at issue: the checks of R138, and PROT outside the issuing spire's tile scratchpad (R141). -/
def amo (op : AtomicOp) (d a b : BitVec 5) (c : Option (BitVec 5)) (w : BitVec 1) (s : State) :
    Host.Outcome State Fault Refusal :=
  s.syllable fun x =>
    let addr := x.sc 0 a
    match x.s.plainCheck x.k akAtomic addr (if w = 1 then 8 else 4) with
    | .error t => .error t
    | .ok win =>
      if win.unit ≠ 0 ∨ !win.own x.c.f.task.lsp then .error (trapProt akAtomic addr)
      else
        let cmp := match c with | some r => x.sc 2 r | none => 0
        x.issue 10 (x.entry (.amo op (w == 1) (x.c.physS d) addr.toNat (x.sc 1 b) cmp) (x.tt 10).lat (x.tt 10).aux) []

def execAmoAdd (d a b : BitVec 5) (w : BitVec 1) (s : State) := amo .add d a b none w s
def execAmoAnd (d a b : BitVec 5) (w : BitVec 1) (s : State) := amo .and d a b none w s
def execAmoOr (d a b : BitVec 5) (w : BitVec 1) (s : State) := amo .or d a b none w s
def execAmoXor (d a b : BitVec 5) (w : BitVec 1) (s : State) := amo .xor d a b none w s
def execAmoMin (d a b : BitVec 5) (w : BitVec 1) (s : State) := amo .min d a b none w s
def execAmoMax (d a b : BitVec 5) (w : BitVec 1) (s : State) := amo .max d a b none w s
def execAmoSwap (d a b : BitVec 5) (w : BitVec 1) (s : State) := amo .swap d a b none w s
def execAmoCas (d a b c : BitVec 5) (w : BitVec 1) (s : State) := amo .cas d a b (some c) w s

/-! Sync objects (R142, R143). -/

/-- The binding table after a bind (R142). -/
def bindTable (t : List Binding) (b : Binding) : List Binding :=
  let rest := t.filter fun e => e.obj ≠ b.obj
  if b.len = 0 then rest
  else if rest.length = t.length then t ++ [b] else t.map fun e => if e.obj = b.obj then b else e

/-- `bind` (R142). A length of 0 never raises PROT, also for an object the full table does not hold (log 78). -/
def execBind (d a b : BitVec 5) (s : State) : Host.Outcome State Fault Refusal :=
  s.syllable fun x =>
    let e : Binding := ⟨x.sc 0 d, x.sc 1 a, x.sc 2 b⟩
    if e.obj.toNat % 8 ≠ 0 then .error (trapAlign akSync e.obj)
    else if e.len ≠ 0 ∧ 16 ≤ x.c.r.bind.length ∧ !(x.c.r.bind.any fun t => t.obj == e.obj) then
      .error (trapProt akSync e.obj)
    else x.issue 5 (x.entry (.binding e) (x.tt 5).lat (x.tt 5).lat) []

/-- The extent of a strided range of addresses: first and one past the last (R207, R209). -/
def strideRange (base len cnt1 cnt2 : Nat) (s1 s2 : Int) : Int × Int :=
  let lo1 := if s1 < 0 then s1 * (cnt1 - 1 : Nat) else 0
  let hi1 := if s1 < 0 then 0 else s1 * (cnt1 - 1 : Nat)
  let lo2 := if s2 < 0 then s2 * (cnt2 - 1 : Nat) else 0
  let hi2 := if s2 < 0 then 0 else s2 * (cnt2 - 1 : Nat)
  ((base : Int) + lo1 + lo2, (base : Int) + hi1 + hi2 + len)

/-- Whether two ranges meet. -/
def overlaps (a b : Int × Int) : Bool := a.1 < b.2 && b.1 < a.2

/-- Whether a run of `len` bytes at one of `n` places `step` apart meets a range. -/
def rowMeets (base : Int) (len n : Nat) (step : Int) (r : Int × Int) : Bool :=
  let b := if step < 0 then base + step * (n - 1 : Nat) else base
  let d := step.natAbs
  -- the first place whose run ends above the range's start
  let i := if d = 0 ∨ r.1 < b + len then 0 else (r.1 - (b + len)).toNat / d + 1
  decide (i < n) && overlaps (b + i * d, b + i * d + len) r

/-- Whether a strided endpoint meets a range: some run of bytes it touches does (R143, R207). -/
def strideMeets (base len cnt1 cnt2 : Nat) (s1 s2 : Int) (r : Int × Int) : Bool :=
  overlaps (strideRange base len cnt1 cnt2 s1 s2) r &&
    (List.range cnt2).any fun j => rowMeets (base + s2 * j) len cnt1 s1 r

/-- A command writes a byte of a global range: a copy's or fill's destination, a scatter's indexed side at every index it may
hold, an atomic's target (R143; log 18). -/
def Cmd.writes (m : Cmd) (r : Int × Int) : Bool :=
  match m.kind with
  | .copy p c => p.dg && strideMeets c.dst c.len0 c.cnt1 c.cnt2 c.ds1 c.ds2 r
  | .gather p g => p.dg && overlaps (if g.scatter then (g.idxBase, g.idxBase + 2 ^ 32 * 2 ^ g.esz)
      else (g.base, g.base + g.n * 2 ^ g.esz)) r
  | .gamo g => overlaps (g.addr, g.addr + (if g.w64 then 8 else 4)) r
  | _ => false

/-- A command reads a byte of a global range (R143; log 18). -/
def Cmd.reads (m : Cmd) (r : Int × Int) : Bool :=
  match m.kind with
  | .copy p c => p.sg && c.fill.isNone && strideMeets c.src c.len0 c.cnt1 c.cnt2 c.ss1 c.ss2 r
  | .gather p g => p.sg && overlaps (if g.scatter then (g.base, g.base + g.n * 2 ^ g.esz)
      else (g.idxBase, g.idxBase + 2 ^ 32 * 2 ^ g.esz)) r
  | .gamo g => overlaps (g.addr, g.addr + (if g.w64 then 8 else 4)) r
  | _ => false

/-- Whether some region bound to the object meets what `f` tells (R143). -/
def Core.boundTo (c : Core) (obj : Word) (f : Int × Int → Bool) : Bool :=
  c.r.bind.any fun b => b.obj == obj && f (b.base.toNat, b.base.toNat + b.len.toNat)

/-- A sync-object command of the syllable, acting LAT of class 23 after issue (R143). -/
def Ctx.syncCmd (x : Ctx) (kind : CmdKind) : Cmd :=
  { uid := x.c.p.uid, kind := kind, queue := 7, bundle := x.c.f.pc.toNat, slot := x.slot, syll := x.syll,
    issue := x.c.clk, start := x.c.clk + (x.tt 23).lat, land := x.c.clk + (x.tt 23).lat, started := false, sPos := 0,
    lPos := 0, flights := [], pages := [], regs := [] }

/-- `acq` (R143): ALIGN, then PROT at TL ≥ 1 (R184; the order is the model's, log 79), and a guard on later readers of the bound regions. -/
def execAcq (a : BitVec 5) (sc : BitVec 3) (s : State) : Host.Outcome State Fault Refusal :=
  s.syllable fun x =>
    let o := x.sc 0 a
    if o.toNat % 8 ≠ 0 then .error (trapAlign akSync o)
    else if 1 ≤ x.c.tl then .error (trapProt akSync)
    else
      let m := x.syncCmd (.acq o sc.toNat)
      .ok ((x.c.modE fun e => { e with cmds := e.cmds ++ [m], guards := e.guards ++ [⟨o, m.start⟩] }).modP fun p =>
        { p with uid := p.uid + 1 })

/-- `rel` (R143): ALIGN, then PROT at TL ≥ 1 (R184; the order is the model's, log 79), then LATESTART where an earlier copy or atomic that writes a bound region has not landed at the issue cycle. -/
def execRel (a : BitVec 5) (sc : BitVec 3) (s : State) : Host.Outcome State Fault Refusal :=
  s.syllable fun x =>
    let o := x.sc 0 a
    if o.toNat % 8 ≠ 0 then .error (trapAlign akSync o)
    else if 1 ≤ x.c.tl then .error (trapProt akSync)
    else if x.c.e.cmds.any fun m => x.c.clk < m.land && x.c.boundTo o m.writes then
      .error slipLate
    else
      let m := x.syncCmd (.rel o sc.toNat)
      .ok ((x.c.modE fun e => { e with cmds := e.cmds ++ [m] }).modP fun p => { p with uid := p.uid + 1 })

end Sys2Proof.Machine
end

