-- ==== Sys2Proof/Machine/Lantern.lean ====
section
/-! DEFINITION. What the lanterns write for tasks beside traps and engine events: deviation, sample, stop and transit records,
and the result digest (15_lantern.md R347 to R354). -/

namespace Sys2Proof.Machine

/-- The deviation record of a core that resumes, and the end of its stop (R25, R347). -/
def State.deviation (s : State) (k : Nat) : State :=
  let c := s.core k
  match c.f.dev with
  | none => s
  | some d =>
    let l := s.launchOf k
    let low := min 15 l.fjoined * 2 ^ 40 + min (2 ^ 40 - 1) (s.wall - d.wall)
    let s := if s.kindOn (towerOf k) 1 then
        s.recordAt d.gtime (towerOf k) l.corr c.f.task.req (infoWord 1 l.fcause d.bundle low) d.schc.toNat
      else s
    s.modCore k fun c => c.modF fun f => { f with dev := none }

/-- The deviation records of a package-scope freeze that began in a wall cycle: its cycles that no launch-scope stop of the task and no
time before its start counts already (R25, R347, R361). -/
def State.packageDeviation (s : State) (code start : Nat) : State :=
  s.cores.foldl (fun s x =>
    let l := s.launchOf x.1
    let from_ := max start l.startAt
    let to_ := match x.2.f.dev with | some d => min d.wall s.wall | none => s.wall
    let idle := x.2.f.mode == .halted && x.2.p.prb.isEmpty && x.2.e.cmds.isEmpty && x.2.p.held.isEmpty && x.2.p.dues.isEmpty
    if l.phase ≠ .running ∨ x.2.f.mode = .idle ∨ idle = true then s
    else s.taskRecord x.1 1 code x.2.f.pc.toNat (2 ^ 40 + min (2 ^ 40 - 1) (to_ - from_)) x.2.x.schc.toNat) s

/-- A sample record of a core's present loop (R344, R348). `force` writes it whatever KEN holds (R351). -/
def State.sampleRecord (s : State) (k : Nat) (force : Bool) : State :=
  let c := s.core k
  let schc := c.x.schc.toNat % 65536 * 2 ^ 48
  let (sub, low, value) := match c.inner with
    | some l => (c.depth - 1, l.id.toNat * 2 ^ 39 + c.l.sen.toNat * 2 ^ 23 + c.l.rrb.toNat * 2 ^ 20, schc + l.iter % 2 ^ 48)
    | none => (15, 0, schc)
  let info := infoWord 2 sub c.f.pc.toNat low
  if force || s.kindOn (towerOf k) 2 then s.record (towerOf k) (s.launchOf k).corr c.f.task.req info value else s

/-- What a stop writes for a task, whatever KEN holds: an event, a sample, and one record per pending entry (R351). -/
def State.stopRecords (s : State) (k : Nat) : State :=
  let c := s.core k
  let t := towerOf k
  let corr := (s.launchOf k).corr
  let s := s.record t corr c.f.task.req (infoWord 3 10 c.f.pc.toNat 0) c.x.schc.toNat
  let s := s.sampleRecord k true
  (sortEntries c.p.prb).foldl (fun s e =>
    s.record t corr c.f.task.req (infoWord 7 0 e.bundle (e.slot * 2 ^ 41)) (entryImage e (e.delayTo - c.now)).1) s

/-! Transit records (R33, R352). -/

/-- The indices of a gather's elements: those it has sampled, and the rest as its list holds them (R214). -/
def State.indices (s : State) (k : Nat) (g : GatherArgs) : List Nat :=
  (List.range g.n).map fun i => g.idx.getD i (leValue (s.bytes ((((s.launchOf k).window (g.list + 4 * i) 1).map Win.flat).getD 0) 4))

/-- The granule of 64 bytes at `g` meets what a started timed copy-engine command reads or writes, with the indices of its elements: in global
memory or in the window. -/
def Cmd.transits (m : Cmd) (idx : List Nat) (glob : Bool) (g : Int) : Bool :=
  let r := (g, g + 64)
  match m.kind with
  | .copy p c =>
    (c.fill.isNone && p.sg == glob && strideMeets c.src c.len0 c.cnt1 c.cnt2 c.ss1 c.ss2 r) ||
      (p.dg == glob && strideMeets c.dst c.len0 c.cnt1 c.cnt2 c.ds1 c.ds2 r)
  | .gather p g =>
    ((if g.scatter then p.sg else p.dg) == glob && overlaps (g.base, g.base + g.n * 2 ^ g.esz) r) ||
      ((if g.scatter then p.dg else p.sg) == glob &&
        idx.any fun i => overlaps ((g.idxBase + i * 2 ^ g.esz : Nat), (g.idxBase + (i + 1) * 2 ^ g.esz : Nat)) r)
  | _ => false

/-- The first 64-byte granule of a sample, given by its ranges, that lies in a range in transit of the launch, other than a command's own
(R352). -/
def State.inTransit (s : State) (k : Nat) (glob : Bool) (xs : List (Nat × Nat)) (self : Option Nat) : Option Nat :=
  let l := (s.core k).f.task.launch
  let moving := s.cores.flatMap fun x =>
    if x.2.f.task.launch = l then
      (x.2.e.cmds.filter fun m => m.started && m.queue == 0 && decide (m.start ≤ x.2.clk) && decide (x.2.clk < m.land) &&
        !(x.1 == k && self == some m.uid)).map fun m =>
          (m, match m.kind with
            | .gather _ g => s.indices x.1 g
            | _ => [])
    else []
  let granules := xs.flatMap fun x => (List.range (if x.2 = 0 then 0 else (x.1 + x.2 - 1) / 64 - x.1 / 64 + 1)).map fun i => (x.1 / 64 + i) * 64
  granules.find? fun g => moving.any fun m => m.1.transits m.2 glob g

/-- Writes the transit record of an offending sample, where KEN bit 6 asks for the check (R352). `sub` is the access. -/
def State.transitCheck (s : State) (k sub slot bundle : Nat) (glob : Bool) (xs : List (Nat × Nat)) (self : Option Nat) : State :=
  if field (s.lantern (towerOf k)).lctl 0 1 = 1 ∧ s.kindOn (towerOf k) 6 = true then
    match s.inTransit k glob xs self with
    | some g => s.taskRecord k 6 sub bundle (slot * 2 ^ 41) g
    | none => s
  else s

/-! The result digest (R353, R354). -/

/-- One step of CRC-64/ECMA-182 over a byte. -/
def crcByte (crc : BitVec 64) (b : Byte) : BitVec 64 :=
  (List.range 8).foldl (fun c _ => if c.msb then (c <<< 1) ^^^ 0x42F0E1EBA9EA3693#64 else c <<< 1) (crc ^^^ (b.setWidth 64 <<< 56))

/-- CRC-64/ECMA-182 of bytes (R353). -/
def crc64 (crc : BitVec 64) (bs : List Byte) : BitVec 64 := bs.foldl crcByte crc

/-- The digest regions of a launch: base and length (R305). -/
def Launch.regions (l : Launch) : List (Word × Nat) :=
  (List.range 4).map fun i =>
    (BitVec.ofNat 64 (leValue ((l.record.drop (0xE0 + 16 * i)).take 8)), leValue ((l.record.drop (0xE8 + 16 * i)).take 8))

/-- What a landing of bytes at an address contributes: its maximal runs inside one region (R353). -/
def Launch.runs (l : Launch) (glob : Bool) (a : Nat) (bs : List Byte) : List (Word × List Byte) :=
  l.regions.filterMap fun r =>
    let win := r.1.msb
    let base := if win then r.1.toNat % 2 ^ 40 else r.1.toNat
    if r.2 = 0 ∨ win = glob then none
    else
      let lo := max a base
      let hi := min (a + bs.length) (base + r.2)
      if hi ≤ lo then none
      else some (BitVec.ofNat 64 lo ||| (if win then 1#64 <<< 63 else 0), (bs.drop (lo - a)).take (hi - lo))

/-- True where a contribution comes before another: those of the handler channel stay in the order in which they come (R354). -/
def Contrib.before (a b : Contrib) : Bool :=
  if a.cycle ≠ b.cycle then a.cycle < b.cycle
  else if a.chan || b.chan then !a.chan && b.chan
  else if a.req ≠ b.req then a.req < b.req
  else if a.slot ≠ b.slot then a.slot < b.slot
  else a.addr.toNat < b.addr.toNat

/-- Inserts a contribution behind those that come no later (R354). -/
def insertContrib (x : Contrib) : List Contrib → List Contrib
  | [] => [x]
  | y :: r => if x.before y then x :: y :: r else y :: insertContrib x r

/-- Counts a landing of a task, engine or handler channel of the launch in the digest. -/
def State.digestFrom (s : State) (k slot cycle : Nat) (chan glob : Bool) (a : Nat) (bs : List Byte) : State :=
  let c := s.core k
  let runs := (s.launchOf k).runs glob a bs
  if runs = [] then s
  else s.modLaunch c.f.task.launch fun l =>
    { l with contrib := runs.foldl (fun acc r => insertContrib ⟨cycle, chan, c.f.task.req, slot, r.1, r.2⟩ acc) l.contrib }

/-- Counts a landing of a task or engine of the launch in the digest (R353). -/
def State.digest (s : State) (k slot cycle : Nat) (glob : Bool) (a : Nat) (bs : List Byte) : State := s.digestFrom k slot cycle false glob a bs

/-- Counts a handler-channel landing, at the slot-clock cycle at which the launch froze (R354). -/
def State.digestChan (s : State) (k slot : Nat) (glob : Bool) (a : Nat) (bs : List Byte) : State :=
  s.digestFrom k slot (s.launchOf k).lclk true glob a bs

/-- Takes back what a withdrawn landing of `n` bytes counted (R18, R353). -/
def State.undigest (s : State) (k slot cycle : Nat) (glob : Bool) (a n : Nat) : State :=
  let req := (s.core k).f.task.req
  let runs := (s.launchOf k).runs glob a (List.replicate n 0)
  s.modLaunch (s.core k).f.task.launch fun l =>
    { l with contrib := l.contrib.filter fun x => !(x.cycle == cycle && !x.chan && x.req == req && x.slot == slot && runs.any fun r => r.1 == x.addr) }

/-- The bytes of one contribution (R353). -/
def Contrib.stream (x : Contrib) : List Byte := leBytes x.addr.toNat 8 ++ leBytes x.bytes.length 4 ++ x.bytes

/-- D_k: the digest of a launch's contributions (R353, R354). -/
def Launch.digestOf (l : Launch) : BitVec 64 := l.contrib.foldl (fun c x => crc64 c x.stream) 0

end Sys2Proof.Machine
end

