-- ==== Sys2Proof/Machine/Translate.lean ====
section
/-! DEFINITION. Translation of global virtual addresses: the page-table walk, the TLBs, rights, ownership and page formats
(11_tower_memory.md R261 to R278, R287). -/

namespace Sys2Proof.Machine

/-! Page-table entries (R263). -/

def pteV (p : Word) : Bool := field p 63 1 == 1
def pteOwn (p : Word) : Bool := field p 62 1 == 1
def pteR (p : Word) : Bool := field p 61 1 == 1
def pteW (p : Word) : Bool := field p 60 1 == 1
def pteX (p : Word) : Bool := field p 59 1 == 1
def pteFmt (p : Word) : Nat := field p 55 4
def pteTs (p : Word) : Bool := field p 52 1 == 1
def pteLeaf (p : Word) : Bool := field p 51 1 == 1
def pteC64 (p : Word) : Bool := field p 50 1 == 1
def pteCtl (p : Word) : Bool := field p 49 1 == 1
def pteFrame (p : Word) : Nat := field p 12 37

/-- BLK, honoured only for PFMT 4 to 7 (R264). -/
def pteBlk (p : Word) : Nat := if 4 ≤ pteFmt p ∧ pteFmt p ≤ 7 then field p 53 2 else 0

/-- 4 KiB frames of device frame space (R266). -/
def frameCount : Nat := hbmSize / 4096

/-- The entry word at an index of a table frame. -/
def State.pteAt (s : State) (frame idx : Nat) : Word := BitVec.ofNat 64 (s.mem.value (frame * 4096 + 8 * idx) 8)

/-- The index of a level, 1 to 5 (R261). -/
def vaIndex (va level : Nat) : Nat := va / 2 ^ (12 + 9 * (level - 1)) % 512

/-- Checks that every leaf must meet, whatever its size (R264, R265). -/
def leafOk (p : Word) (frames : Nat) : Bool :=
  p.toNat % 4096 == 0 && pteFrame p % frames == 0 && pteFrame p + frames ≤ frameCount &&
    !(8 ≤ pteFmt p && pteFmt p ≤ 12 && field p 53 2 != 0)

/-- A 64 KiB group whose sixteen entries the walk reads holds a poisoned one (R287). -/
def State.groupPoison (s : State) (frame idx : Nat) : Bool := (s.poisonIn (frame * 4096 + 8 * (idx / 16 * 16)) 128).1 != 0

/-- A 64 KiB group keeps R262: entries alike but for FRAME, which rises by 1 from a multiple of 16. -/
def State.groupOk (s : State) (frame idx : Nat) : Bool :=
  let first := s.pteAt frame (idx / 16 * 16)
  pteFrame first % 16 == 0 && (List.range 16).all fun i =>
    s.pteAt frame (idx / 16 * 16 + i) == setField first 12 37 (pteFrame first + i)

/-- The leaf that an entry of a table makes, with the frames it maps, where no walk through it fails; `level` is 0 for a level-1 table (R262,
R265). -/
def State.leafEntry (s : State) (table i level : Nat) : Option (Word × Nat) :=
  let p := s.pteAt table i
  if !pteV p then none
  else if level = 0 then
    if pteLeaf p then none
    else if pteC64 p then
      if s.groupOk table i && leafOk (s.pteAt table (i / 16 * 16)) 16 then some (p, 1) else none
    else if leafOk p 1 then some (p, 1) else none
  else if !pteLeaf p || decide (3 ≤ level) || pteC64 p || !leafOk p (512 ^ level) then none
  else some (p, 512 ^ level)

/-- An entry that names a further table (R265). -/
def tableEntry (p : Word) : Bool := pteV p && !pteLeaf p && p &&& ~~~(0x8009FFFFFFFFF000#64) == 0

/-- The walk from a table of `level` for `va`: the leaf with the base and size of its page, or the cause: 11 XLATE, 18 ECC
(R265, R287). -/
def State.walkFrom (s : State) (asid va : Nat) : Nat → Nat → Except Nat TlbEntry
  | 0, _ => .error 11
  | level + 1, frame =>
    let idx := vaIndex va (level + 1)
    let p := s.pteAt frame idx
    if frameCount ≤ frame then .error 11
    else if (s.poisonIn (frame * 4096 + 8 * idx) 8).1 ≠ 0 then .error 18
    else if !pteV p then .error 11
    else if level = 0 then
      if pteLeaf p then .error 11
      else if pteC64 p then
        if s.groupPoison frame idx then .error 18
        else if s.groupOk frame idx && leafOk (s.pteAt frame (idx / 16 * 16)) 16 then
          .ok ⟨asid, va / 65536 * 65536, 65536, s.pteAt frame (idx / 16 * 16)⟩
        else .error 11
      else if leafOk p 1 then .ok ⟨asid, va / 4096 * 4096, 4096, p⟩ else .error 11
    else if pteLeaf p then
      let size := 2 ^ (12 + 9 * level)
      if 3 ≤ level ∨ pteC64 p ∨ !leafOk p (size / 4096) then .error 11
      else .ok ⟨asid, va / size * size, size, p⟩
    else if p &&& ~~~(0x8009FFFFFFFFF000#64) ≠ 0 then .error 11
    else s.walkFrom asid va level (pteFrame p)

/-- The five-level walk of a virtual address (R261). -/
def State.walk (s : State) (asid root va : Nat) : Except Nat TlbEntry :=
  if 2 ^ 57 ≤ va then .error 11 else s.walkFrom asid va 5 root

/-- The leaf of the 4 KiB page of `va` under a TLB entry: FRAME is that page's own frame. -/
def TlbEntry.leaf (e : TlbEntry) (va : Nat) : Word := setField e.pte 12 37 (pteFrame e.pte + (va - e.va) / 4096)

/-! TLBs (R272). -/

/-- True where an entry translates `va`. -/
def TlbEntry.covers (e : TlbEntry) (asid va : Nat) : Bool := e.asid == asid && e.va ≤ va && va < e.va + e.size

/-- Puts an entry first among at most `n`, replacing the least recently used. -/
def lruPut (n : Nat) (l : List TlbEntry) (e : TlbEntry) : List TlbEntry := (e :: l.filter (· ≠ e)).take n

/-- The L2 set of a virtual address in the cupola of a core. -/
def l2Key (k va : Nat) : Nat := k / 32 * 256 + va / 4096 % 256

/-- Puts an entry first in the core's L1 (R272). -/
def State.fillL1 (s : State) (k : Nat) (e : TlbEntry) : State :=
  s.modCore k fun c => c.modE fun x => { x with tlb := lruPut 128 x.tlb e }

/-- Puts an entry first in its set of a cupola's L2. -/
def State.fillL2 (s : State) (key : Nat) (e : TlbEntry) : State :=
  { s with l2 := alSet s.l2 key (lruPut 16 (alGet [] s.l2 key) e) }

/-- Looks `va` up in the L1 and then the L2 of a core; a hit becomes the most recent entry (R272). -/
def State.lookup (s : State) (k asid va : Nat) : State × Option Word :=
  match (s.core k).e.tlb.find? (·.covers asid va) with
  | some e => (s.fillL1 k e, some (e.leaf va))
  | none =>
    match (alGet [] s.l2 (l2Key k va)).find? (·.covers asid va) with
    | some e => ((s.fillL2 (l2Key k va) e).fillL1 k e, some (e.leaf va))
    | none => (s, none)

/-- Walks `va` and fills the L2 and the L1 of the core (R273). -/
def State.walkFill (s : State) (k va : Nat) : State × Except Nat Word :=
  let l := s.launchOf k
  match s.walk l.asid l.asroot va with
  | .ok e => ((s.fillL2 (l2Key k va) e).fillL1 k e, .ok (e.leaf va))
  | .error c => (s, .error c)

/-- What a translation gives: the leaf, a miss that needs a walk, or the cause of a failed walk. -/
inductive Xlat where
  | leaf (p : Word)
  | miss
  | fail (cause : Nat)
  deriving DecidableEq, Repr

/-- Translates `va` for a core. `walked` says that its walks have completed, or cost no cycle (R216), so that a miss walks
at once (R272, R273). -/
def State.xlate (s : State) (k va : Nat) (walked : Bool) : State × Xlat :=
  if 2 ^ 57 ≤ va then (s, .fail 11)
  else match s.lookup k (s.launchOf k).asid va with
    | (s, some p) => (s, .leaf p)
    | (s, none) =>
      if walked then
        match s.walkFill k va with
        | (s, .ok p) => (s, .leaf p)
        | (s, .error c) => (s, .fail c)
      else (s, .miss)

/-- Translates the pages of a list of addresses: the leaves by page number, the addresses that missed, or the first failure
with its address. -/
def State.xlateAll (s : State) (k : Nat) (walked : Bool) : List Nat → State × Except (Nat × Nat) (List (Nat × Word) × Bool)
  | [] => (s, .ok ([], false))
  | va :: r =>
    match s.xlate k va walked with
    | (s, .fail c) => (s, .error (c, va))
    | (s, .miss) =>
      match s.xlateAll k walked r with
      | (s, .ok (ps, _)) => (s, .ok (ps, true))
      | (s, .error e) => (s, .error e)
    | (s, .leaf p) =>
      match s.xlateAll k walked r with
      | (s, .ok (ps, m)) => (s, .ok (alSet ps (va / 4096) p, m))
      | (s, .error e) => (s, .error e)

/-- The trap of a failed walk: XLATE with the access kind, or ECC of data poisoned in HBM, with XADDR the virtual address
(R265, R287). -/
def walkTrap (cause kind va : Nat) : Trap :=
  Trap.mk' cause (if cause = 18 then 4 else kind) (BitVec.ofNat 64 va)

/-! Page checks (R264, R266, R274, R278). -/

/-- True where the frame of a leaf lies in a tagged extent (R266). -/
def State.inTagged (s : State) (p : Word) : Bool := s.seq.tagged.contains (pteFrame p / 512)

/-- The format and BLK an access meets in a page: a decoder's output for PFMT 13 to 15; `none` is FMTMIS (R264, R266, R278). -/
def State.pageFmt (s : State) (p : Word) : Option (Nat × Nat) :=
  let f := pteFmt p
  if pteCtl p && f ≠ 0 then none
  else if f = 12 then (if pteTs p && s.inTagged p then some (12, 0) else none)
  else if 13 ≤ f then (s.bel.decoders.find? (fun d => d.1 == f)).map fun d => (d.2.out, 0)
  else some (f, pteBlk p)

/-- The fabric format whose decoder a page needs, 0 for none (R264). -/
def pageDec (p : Word) : Nat := if 13 ≤ pteFmt p then pteFmt p else 0

/-- Source and destination bytes per unit of a page's decoder (R210, R259). -/
def State.pageRatio (s : State) (p : Word) : Nat × Nat :=
  match if pageDec p = 0 then none else s.bel.decoders.find? (fun d => d.1 == pageDec p) with
  | some d => (d.2.srcBytes, d.2.dstBytes)
  | none => (1, 1)

/-- PROT then MIGRATE of a page for the given rights (R274). -/
def pageRights (r w x : Bool) (p : Word) : Option Nat :=
  if (r && !pteR p) || (w && !pteW p) || (x && !pteX p) then some 12
  else if !pteOwn p && !pteCtl p then some 13
  else none

/-- The flat address of a virtual address under the translations of a command. -/
def flatOf (pages : List (Nat × Word)) (va : Nat) : Nat := pteFrame (alGet 0 pages (va / 4096)) * 4096 + va % 4096

/-- Bytes at a virtual address, page by page, from 64-byte pieces that never cross a page. -/
def State.vbytes (s : State) (pages : List (Nat × Word)) (va n : Nat) : List Byte :=
  (List.range n).map fun i => s.mem.get (flatOf pages (va + i))

/-- The translations that addresses of a core miss in its L1 and its L2, by the base of their pages, once each (R272). -/
def State.misses (s : State) (k : Nat) (vas : List Nat) : List Nat :=
  let l := s.launchOf k
  let hit := fun (va : Nat) => ((s.core k).e.tlb ++ alGet [] s.l2 (l2Key k va)).any (·.covers l.asid va)
  ((vas.filter fun va => !hit va).map fun va => match s.walk l.asid l.asroot va with
    | .ok e => e.va
    | .error _ => va / 4096 * 4096).eraseDups

/-- The wall cycle in which a tower's walker has a slot for one more walk: it runs 64 at once, and those beyond them wait in order (R272, R273). -/
def State.walkerFree (s : State) (tower : Nat) : Nat :=
  let ends := s.launches.flatMap fun x => x.2.causes.filterMap fun z => match z with
    | .walk k _ w => if towerOf k = tower ∧ s.wall < w then some w else none
    | _ => none
  if ends.length < 64 then s.wall
  else (ends.filter fun w => ends.length < (ends.filter (· ≤ w)).length + 64).foldl min (ends.foldl max 0)

/-- One walk for a command or spill that missed: its core initiates a freeze, or joins one, until a free wall cycle (R273; log 8). -/
def State.oneWalk (s : State) (k uid : Nat) : State :=
  let s := s.freeze (s.core k).f.task.launch (.walk k uid (s.walkerFree (towerOf k) + 1 + Config.walkCycles s.free))
  { s with free := s.free + 1 }

/-- Starts a walk for each miss of a command or spill, at least one (R273). -/
def State.startWalk (s : State) (k uid : Nat) (vas : List Nat) : State := ((s.misses k vas).drop 1).foldl (fun s _ => s.oneWalk k uid) (s.oneWalk k uid)

/-- Ends the walks of a command: each page that translates fills the TLBs, and the command may start again (R273). -/
def State.endWalk (s : State) (k uid : Nat) (vas : List Nat) : State :=
  let s := vas.foldl (fun s va => (s.walkFill k va).1) s
  let s := s.modCore k fun c => c.modE fun e => { e with walked := e.walked ++ [uid] }
  s.endCauses (s.core k).f.task.launch fun c => match c with | .walk a b _ => a == k && b == uid | _ => false

/-! Frames as the host meets them (R277, R278). -/

/-- Looks through the leaves of a table of `level`: the first entry whose frames hold `frame`. -/
def State.leafOver (s : State) (frame : Nat) : Nat → Nat → Option Word
  | 0, _ => none
  | level + 1, table =>
    if frameCount ≤ table then none
    else (List.range 512).findSome? fun i =>
      match s.leafEntry table i level with
      | some (p, n) => if pteFrame p ≤ frame ∧ frame < pteFrame p + n then some p else none
      | none => if level ≠ 0 ∧ tableEntry (s.pteAt table i) then s.leafOver frame level (pteFrame (s.pteAt table i)) else none

/-- Who a 4 KiB frame belongs to, by the page tables of the address spaces the sequencer knows. -/
inductive Owner where
  | host
  | control
  | device (asid : Nat)
  deriving DecidableEq, Repr

/-- The owner of a frame: a control page, a page of the device with its ASID, or the host's, as is one that no leaf maps. -/
def State.ownerOf (s : State) (frame : Nat) : Owner :=
  let leaves := s.seq.roots.filterMap fun x => (s.leafOver frame 5 x.2).map fun p => (x.1, p)
  match leaves.find? fun x => pteCtl x.2 with
  | some _ => .control
  | none => match leaves.find? fun x => pteOwn x.2 with
    | some x => .device x.1
    | none => .host

/-- A host atomic that the device accepts: an aligned word of 4 or 8 bytes in a control page, while the host port is open (R296). -/
def State.hostAtomicOk (s : State) (op : HostAtomicOp) (offset width : Nat) : Bool :=
  op != .other && (width == 4 || width == 8) && offset % width == 0 && offset < hbmSize && !s.host.hviol.msb && 4 ≤ s.host.stage &&
    s.ownerOf (offset / 4096) == .control

end Sys2Proof.Machine
end

