-- ==== Sys2Proof/Machine/Copy.lean ====
section
/-! DEFINITION. The copy engine at issue: `cpy`, `cpyf`, `cpyg`, `cpys`, `ovl` and `cwait` (08_spire.md R202 to R216). -/

namespace Sys2Proof.Machine

/-! Engine registers (R203 to R205). -/

def Core.engReg (c : Core) (n : Nat) : Word := c.r.eng.getD n 0
def Core.ccfg (c : Core) : Word := c.engReg 0

/-- Signed 32-bit field. -/
def sField32 (w : Word) (lo : Nat) : Int := (BitVec.ofNat 32 (field w lo 32)).toInt

/-- The path and order of a command from CCFG (R204): a fill has no source endpoint. -/
def Core.pathArgs (c : Core) (order : Nat) (fill : Bool) : PathArgs :=
  let w := c.ccfg
  { sg := !fill && field w 2 1 == 1, dg := field w 3 1 == 1, sloc := field w 4 1 == 1, dloc := field w 5 1 == 1, cls := 0,
    lpath := 0, rate := 1, ch := field w 6 6, order := order }

/-- How far a window address lies from a spire: 0 own spire, 1 own cupola's unit 8, 2 own tower, 3 beyond (R206). -/
def farness (lsp a : Nat) : Nat :=
  let tower := a / 2 ^ 37
  let cup := a / 2 ^ 34 % 8
  if tower ≠ lsp / 128 then 3
  else if a / 2 ^ 26 % 16 = 8 then (if cup = lsp / 16 % 8 then 1 else 2)
  else if cup = lsp / 16 % 8 ∧ a / 2 ^ 30 % 16 = lsp % 16 then 0 else 2

/-- The path class of a command with the given endpoints (R206). -/
def PathArgs.classOf (p : PathArgs) (lsp src dst : Nat) (fill : Bool) : Nat :=
  if p.sg then (if p.sloc then 28 else 29)
  else if p.dg then (if p.dloc then 28 else 29)
  else
    let f := max (farness lsp dst) (if fill then 0 else farness lsp src)
    if f = 1 then 26 else if f = 3 then 27 else 25

/-- The path arguments with class, L_path and RATE from the timing table. -/
def Ctx.path (x : Ctx) (p : PathArgs) (src dst : Nat) (fill : Bool) : PathArgs :=
  let cls := p.classOf x.c.f.task.lsp src dst fill
  { p with cls := cls, lpath := (x.tt cls).lat, rate := max 1 (x.tt cls).rate }

/-- True for a command with a global endpoint (R202). -/
def PathArgs.global (p : PathArgs) : Bool := p.sg || p.dg

/-- KIND of the grant a command needs: 0 local, 1 package (R270). -/
def PathArgs.grantKind (p : PathArgs) : Nat := if (if p.sg then p.sloc else p.dloc) then 0 else 1

/-- Grants of KIND `kind` cover cycles s + 1 to s + d of the task (R268, R270). -/
def Launch.granted (l : Launch) (lsp half kind s d : Nat) : Bool :=
  (List.range (min d l.per)).all fun i =>
    l.grants.any fun g => g.spire == lsp && g.half == half && g.kind == kind &&
      ((s + 1 + i + (l.per - g.first % l.per)) % l.per < g.count || l.per ≤ g.count)

/-- The last landing of the commands of queue `q` (R137). -/
def Engines.last (e : Engines) (q : Nat) : Nat := e.lastLand.getD q 0

/-- A fence bars a start on queue `q` (R137). -/
def Engines.fenced (e : Engines) (q s : Nat) : Bool := e.fences.any fun f => f.mask.getLsbD q && decide (s < f.at_)

/-- An `acq` guard bars a command that reads a region bound to its object (R143). -/
def Core.guarded (c : Core) (m : Cmd) : Bool :=
  c.e.guards.any fun g => decide (m.start < g.at_) && c.boundTo g.obj m.reads

/-- What R208, R137, R143, R212, R270 and R284 ask of a timed copy-engine command at issue; `occ` is its occupancy. -/
def Ctx.copyLate (x : Ctx) (p : PathArgs) (m : Cmd) (occ : Nat) (gather : Bool) : Bool :=
  let e := x.c.e
  let other := (x.s.core (x.k / 2 * 2 + (1 - x.k % 2))).e
  decide (m.start < alGet 0 e.chan p.ch) || (gather && decide (m.start < max e.gather other.gather)) ||
    decide (m.start < (if p.global then e.hbmPort else e.winPort)) ||
    e.fenced 0 m.start || decide (m.start < max e.acqCopy e.acqAtom) ||
    (p.order == 2 && decide (m.start < e.last 0)) || x.c.guarded m ||
    (p.global && !((x.s.launchOf x.k).granted x.c.f.task.lsp x.c.half p.grantKind m.start occ))

/-- The engines after a timed copy-engine command is accepted. -/
def Engines.copyIssued (e : Engines) (p : PathArgs) (m : Cmd) (occ : Nat) (gather : Bool) : Engines :=
  { e with
    cmds := e.cmds ++ [m]
    chan := alSet e.chan p.ch m.land
    hbmPort := if p.global then m.start + occ else e.hbmPort
    winPort := if p.global then e.winPort else m.start + occ
    gather := if gather then m.start + occ else e.gather
    lastLand := e.lastLand.set 0 (max (e.last 0) m.land)
    acqCopy := if p.order = 1 then max e.acqCopy m.land else e.acqCopy }

/-- Issues a copy-engine command of the syllable: level and channel rules (R101, R184, R216), then the checks of R208. `late`
is its landing offset from the start. -/
def Ctx.copyIssue (x : Ctx) (h : Bool) (dly : Nat) (p : PathArgs) (kind : CmdKind) (occ late : Nat) (gather : Bool)
    (bothGlobal : Option Word) : Except Trap Core :=
  if h && dly ≠ 0 then .error (trapIllop x.syll)
  else if h != decide (1 ≤ x.c.tl) then .error (trapProt akOther)
  else match bothGlobal with
    | some dst => .error (trapProt akDst dst)
    | none =>
      let start := if h then x.c.hclk else x.c.clk + dly
      let m : Cmd :=
        { uid := x.c.p.uid, kind := kind, queue := if h then 1 else 0, bundle := x.c.f.pc.toNat, slot := x.slot,
          syll := x.syll, issue := if h then x.c.hclk else x.c.clk, start := start, land := start + late, started := false,
          sPos := 0, lPos := 0, flights := [], pages := [], regs := [] }
      if !h && x.copyLate p m occ gather then .error slipLate
      else
        let c := x.c.modP fun q => { q with uid := q.uid + 1 }
        .ok (c.modE fun e => if h then { e with cmds := e.cmds ++ [m] } else e.copyIssued p m occ gather)

/-- CCFG holds no value marked invalid (R204). -/
def Core.ccfgOk (c : Core) : Bool := field c.ccfg 12 4 < 13

/-- The geometry of a `cpy` or `cpyf` of `n` dimensions from the engine registers, or `none` where a value is invalid (R204,
R207). -/
def Core.copyArgs (c : Core) (n : Nat) (dst src : Word) (fill : Option Word) : Option CopyArgs :=
  let len := c.engReg 1
  let len0 := field len 0 24
  let cnt1 := if 2 ≤ n then field len 24 16 else 1
  let cnt2 := if n = 3 then field len 40 16 else 1
  let st := fun (w : Word) (lo : Nat) (on : Bool) => if on then sField32 w lo else 0
  if n = 0 ∨ len0 = 0 ∨ cnt1 = 0 ∨ cnt2 = 0 ∨ !c.ccfgOk then none
  else some
    { dst := dst.toNat, src := src.toNat, len0 := len0, cnt1 := cnt1, cnt2 := cnt2,
      ss1 := st (c.engReg 2) 0 (decide (2 ≤ n)), ss2 := st (c.engReg 2) 32 (n == 3),
      ds1 := st (c.engReg 3) 0 (decide (2 ≤ n)), ds2 := st (c.engReg 3) 32 (n == 3), fill := fill,
      ffmt := field c.ccfg 12 4, fblk := field c.ccfg 16 2 }

/-- Bytes of a copy's traversal. -/
def CopyArgs.total (c : CopyArgs) : Nat := c.len0 * c.cnt1 * c.cnt2

/-- Source and destination bytes per unit of the decoder that the source page at issue calls for, whose destination bytes count for the
landing cycle (R210; log 19). -/
def State.ratioAt (s : State) (k : Nat) (sg : Bool) (src : Nat) : Nat × Nat :=
  if sg then
    match s.walk (s.launchOf k).asid (s.launchOf k).asroot src with
    | .ok e => s.pageRatio e.pte
    | .error _ => (1, 1)
  else (1, 1)

/-- `cpy` and `cpyf` at issue (R211, R213). -/
def copyCmd (h : BitVec 1) (o n : BitVec 2) (l : BitVec 11) (dst src : Ctx → Word) (fill : Bool) (s : State) :
    Host.Outcome State Fault Refusal :=
  s.syllable fun x =>
    let pat := if fill then some (x.c.engReg 4) else none
    match x.c.copyArgs n.toNat (dst x) (src x) pat with
    | none => .error (trapIllop x.syll)
    | some a =>
      if o = 3 then .error (trapIllop x.syll)
      else
        let p := x.path (x.c.pathArgs o.toNat fill) a.src a.dst fill
        let d := x.s.ratioAt x.k p.sg a.src
        let a := { a with decSrc := d.1, decDst := d.2 }
        let occ := cdiv (a.total * a.decDst / max 1 a.decSrc) p.rate
        let both := if !fill && field x.c.ccfg 2 2 = 3 then some (dst x) else none
        x.copyIssue (h == 1) l.toNat p (.copy p a) occ (p.lpath + occ) false both

def execCpy (h : BitVec 1) (o n : BitVec 2) (a b : BitVec 5) (l : BitVec 11) (s : State) :=
  copyCmd h o n l (fun x => x.sc 0 a) (fun x => x.sc 1 b) false s
def execCpyf (h : BitVec 1) (o n : BitVec 2) (a : BitVec 5) (l : BitVec 11) (s : State) :=
  copyCmd h o n l (fun x => x.sc 0 a) (fun _ => 0) true s

/-- `cpyg` and `cpys` at issue (R214): `base` is the contiguous side and `idx` the indexed side. -/
def gatherCmd (scatter : Bool) (h : BitVec 1) (o : BitVec 2) (l : BitVec 11) (a b : BitVec 5) (s : State) :
    Host.Outcome State Fault Refusal :=
  s.syllable fun x =>
    let dst := x.sc 0 a
    let src := x.sc 1 b
    let w := x.c.engReg 5
    let esz := field w 60 4
    let n := field w 40 20
    if o = 3 ∨ esz < 2 ∨ 12 < esz ∨ n = 0 ∨ !x.c.ccfgOk then .error (trapIllop x.syll)
    else
      let p := x.path (x.c.pathArgs o.toNat false) src.toNat dst.toNat false
      let e := 2 ^ esz
      let globalIdx := if scatter then p.dg else p.sg
      let g := if globalIdx then (x.tt 30).lat * cdiv e 64 else cdiv e p.rate
      let args : GatherArgs :=
        { scatter := scatter, idxBase := (if scatter then dst else src).toNat, base := (if scatter then src else dst).toNat,
          esz := esz, n := n, list := field w 0 40, g := g, idx := [] }
      let both := if field x.c.ccfg 2 2 = 3 then some dst else none
      x.copyIssue (h == 1) l.toNat p (.gather p args) (g * n) (p.lpath + g * n) true both

def execCpyg (h : BitVec 1) (o : BitVec 2) (a b : BitVec 5) (l : BitVec 11) (s : State) := gatherCmd false h o l a b s
def execCpys (h : BitVec 1) (o : BitVec 2) (a b : BitVec 5) (l : BitVec 11) (s : State) := gatherCmd true h o l a b s

/-- `ovl` at issue (R215): the source is global, and SLOC chooses the class. -/
def execOvl (h : BitVec 1) (a b : BitVec 5) (l : BitVec 11) (s : State) : Host.Outcome State Fault Refusal :=
  s.syllable fun x =>
    if !x.c.ccfgOk then .error (trapIllop x.syll)
    else
      let p0 := { x.c.pathArgs 0 false with sg := true, dg := false }
      let p := x.path p0 (x.sc 1 b).toNat 0 false
      let n := field (x.c.engReg 6) 0 12 + 1
      let d := cdiv (32 * n) 64
      let o : OvlArgs := ⟨x.sc 0 a, n, (x.sc 1 b).toNat, field (x.c.engReg 7) 0 57, []⟩
      x.copyIssue (h == 1) l.toNat p (.ovl p o) d (p.lpath + d + (x.tt 31).lat) false none

/-- `cwait` (R145): PROT at TL0; else the core waits while a handler-channel command of its own is outstanding. -/
def execCwait (s : State) : Host.Outcome State Fault Refusal :=
  s.syllable fun x =>
    if x.c.tl = 0 then .error (trapProt akOther)
    else if x.c.e.cmds.any (·.queue == 1) then .ok (x.c.modF fun f => { f with mode := .cwait })
    else .ok x.c

end Sys2Proof.Machine
end

