-- ==== Sys2Proof/Machine/CopyRun.lean ====
section
/-! DEFINITION. A copy-engine command from its start: start checks, chunks, gather elements, overlays and the handler channel
(08_spire.md R206 to R216; log 19, log 20). -/

namespace Sys2Proof.Machine

/-- What a started command finds: translations, a miss that needs a walk, or a fault. -/
inductive Start (α : Type) where
  | ok (a : α)
  | miss
  | fault (t : Trap)

/-! Geometry (R207). -/

/-- One side of a copy: base address, row length, counts and strides. -/
structure Geo where
  base : Nat
  len : Nat
  cnt1 : Nat
  cnt2 : Nat
  s1 : Int
  s2 : Int

def CopyArgs.srcGeo (c : CopyArgs) : Geo := ⟨c.src, c.len0, c.cnt1, c.cnt2, c.ss1, c.ss2⟩

/-- The destination side; behind a decoder, lengths and strides count source bytes (R210). -/
def CopyArgs.dstGeo (c : CopyArgs) : Geo :=
  let f := fun (i : Int) => i * c.decDst / (max 1 c.decSrc : Nat)
  ⟨c.dst, c.len0 * c.decDst / max 1 c.decSrc, c.cnt1, c.cnt2, f c.ds1, f c.ds2⟩

/-- Row starts in traversal order. -/
def Geo.rows (g : Geo) : List Int :=
  (List.range g.cnt2).flatMap fun (i2 : Nat) => (List.range g.cnt1).map fun (i1 : Nat) =>
    (g.base : Int) + (i2 : Int) * g.s2 + (i1 : Int) * g.s1

/-- Address of traversal byte `t`. -/
def Geo.at (g : Geo) (t : Nat) : Int :=
  let r := t / g.len
  (g.base : Int) + (r / g.cnt1 : Nat) * g.s2 + (r % g.cnt1 : Nat) * g.s1 + (t % g.len : Nat)

/-- Bytes of the traversal. -/
def Geo.total (g : Geo) : Nat := g.len * g.cnt1 * g.cnt2

/-- Bounding range. -/
def Geo.range (g : Geo) : Int × Int := strideRange g.base g.len g.cnt1 g.cnt2 g.s1 g.s2

/-- Length of the chunk that begins at byte `t`: destination addresses that go on within one 64-byte line (R207). -/
def Geo.chunkFrom (g : Geo) (t : Nat) : Nat → Nat → Nat
  | 0, n => n
  | fuel + 1, n =>
    if t + n < g.total ∧ g.at (t + n) = g.at t + n ∧ (g.at (t + n)) / 64 = g.at t / 64 then g.chunkFrom t fuel (n + 1) else n

def Geo.chunk (g : Geo) (t : Nat) : Nat := g.chunkFrom t 63 1

/-- Chunks from byte `t`: first byte and length. -/
def Geo.chunks (g : Geo) : Nat → Nat → List (Nat × Nat)
  | 0, _ => []
  | fuel + 1, t => if g.total ≤ t then [] else (t, g.chunk t) :: g.chunks fuel (t + g.chunk t)

/-! Formats of window places (R198, R210; log 19). -/

/-- Format and BLK of a place on chip: a granule's, FP32+TAG for accumulator memory (R196), raw elsewhere. -/
def State.chipFmt (s : State) (flat : Nat) : Nat × Nat :=
  if isPad flat then s.granule flat else if 2 ^ 41 ≤ flat ∧ flat < 2 ^ 42 then (12, 0) else (0, 0)

/-- One format holds over `n` bytes from a flat address (R210). -/
def State.oneFmt (s : State) (flat n : Nat) : Bool :=
  (List.range ((flat + n - 1) / 4096 - flat / 4096 + 1)).all fun i => s.chipFmt (max flat ((flat / 4096 + i) * 4096)) == s.chipFmt flat

/-- Whether data of format `f` may land in a global page of format `g`, 13 to 15 for the fabric formats (R210). -/
def fitsPage (f g : Nat) : Bool := f == g || f == 0 || g == 0 || (f == 1 && g == 12) || (f == 12 && g == 1)

/-! Window checks of R209 items 1 and 2. -/

/-- An engine trap with its address. -/
def engTrap (cause kind : Nat) (a : Int) : Trap := Trap.mk' cause kind (BitVec.ofInt 64 a)

/-- Units a copy may read or write (R196). -/
def copyUnit (dst : Bool) (unit : Nat) : Bool := if dst then unit ≤ 3 || (6 ≤ unit && unit ≤ 8) else unit ≤ 8

/-- Item 1 of R209 for a window side: the unit, its permissions and every row within its range. `near` asks for the issuing
spire or the own cupola's unit 8 (R206). -/
def State.geoWindow (s : State) (k : Nat) (g : Geo) (dst near : Bool) (tl : Nat) : Except Trap Win :=
  let c := s.core k
  let kind := if dst then akDst else akSrc
  match if 2 ^ 40 ≤ g.base then none else (s.launchOf k).window g.base 1 with
  | none => .error (engTrap 12 kind g.base)
  | some w =>
    let lsp := c.f.task.lsp
    let close := w.own lsp || (w.unit == 8 && w.tower == lsp / 128 && w.cupola == lsp / 16 % 8)
    if !copyUnit dst w.unit || (near && !close) then .error (engTrap 12 kind g.base)
    else
      let size : Int := if w.unit = 8 then (s.launchOf k).zcup else unitSize w.unit
      let bad : Option Int := g.rows.findSome? fun (a : Int) =>
        let off : Int := a - (g.base : Int) + (w.off : Int)
        if off < 0 ∨ size ≤ off then some a
        else if size < off + g.len then some (a + (size - off))
        else if dst && w.unit == 0 && tl == 0 && c.inFrames off.toNat g.len then
          some (if off < c.frameBase then a + (c.frameBase - off) else a)
        else none
      match bad with
      | some a => .error (engTrap 12 kind a)
      | none => .ok w

/-- Addresses, length and strides are multiples of `n` (R209). -/
def Geo.aligned (g : Geo) (n : Nat) : Bool :=
  g.base % n == 0 && g.len % n == 0 && (g.cnt1 ≤ 1 || g.s1 % n == 0) && (g.cnt2 ≤ 1 || g.s2 % n == 0)

/-- True where a row of a window side touches an FP32+TAG granule. -/
def State.touchesTag (s : State) (g : Geo) (w : Win) : Bool :=
  isPad w.flat && g.rows.any fun a =>
    let f := ((w.flat : Int) + (a - g.base)).toNat
    (List.range ((f + g.len - 1) / 4096 - f / 4096 + 1)).any fun i => (s.granule ((f / 4096 + i) * 4096)).1 == 12

/-- Item 2 of R209 for a window side. -/
def State.geoAlign (s : State) (g : Geo) (w : Win) (dst : Bool) : Option Trap :=
  let need := if w.unit = 7 then 8 else if (1 ≤ w.unit ∧ w.unit ≤ 3) ∨ w.unit = 6 ∨ s.touchesTag g w = true then 4 else 1
  if g.aligned need then none else some (engTrap 14 (if dst then akDst else akSrc) g.base)

/-! Global checks of R209 items 4 and 5. -/

/-- One address in each 4 KiB page a global side touches, in traversal order. -/
def Geo.pageAddrs (g : Geo) : List Int :=
  g.rows.flatMap fun (a : Int) =>
    let last : Int := a + g.len - 1
    a :: (List.range ((last / 4096 - a / 4096).toNat)).map fun (i : Nat) => (a / 4096 + (1 + i : Nat)) * 4096

/-- True where the launch's residency set places the page in the tower (R206, R310). -/
def Launch.residentIn (l : Launch) (va tower : Nat) : Bool :=
  l.resid.any fun r => r.isLocal && r.tower == tower && decide (r.va ≤ va) && decide (va < r.va + 4096 * r.pages)

/-- Items 4 and 5 of R209 for a global side: translation, then rights, ownership and format of every page. `fits` says that a format that
the page may have is one the command can use. -/
def State.geoPages (s : State) (k : Nat) (walked : Bool) (g : Geo) (dst x loc : Bool) (kind : Nat) (fits : Word → Bool) :
    State × Start (List (Nat × Word)) :=
  match g.pageAddrs.find? (fun a => a < 0) with
  | some a => (s, .fault (engTrap 11 kind a))
  | none =>
    let vas := g.pageAddrs.map Int.toNat
    match s.xlateAll k walked vas with
    | (s, .error (c, va)) => (s, .fault (walkTrap c kind va))
    | (s, .ok (_, true)) => (s, .miss)
    | (s, .ok (ps, false)) =>
      let leaf := fun va => alGet 0 ps (va / 4096)
      let tower := (s.core k).f.task.lsp / 128
      let bad (f : Nat → Bool) (cause : Nat) : Option Trap := (vas.find? f).map fun va => engTrap cause kind va
      let rights := pageRights (!dst) dst x
      let fmtBad := fun va => (s.pageFmt (leaf va)).isNone || !fits (leaf va)
      let faults :=
        [bad (fun va => rights (leaf va) == some 12 || (loc && !(s.launchOf k).residentIn va tower)) 12,
         bad (fun va => rights (leaf va) == some 13) 13, bad fmtBad 16]
      match faults.findSome? id with
      | some t => (s, .fault t)
      | none => (s, .ok ps)

/-- The last of R209's checks: a global side with an FP32+TAG page has addresses, lengths and strides of whole words. -/
def Geo.tagAlign (g : Geo) (ps : List (Nat × Word)) (kind : Nat) : Option Trap :=
  if g.aligned 4 then none
  else (g.pageAddrs.find? fun a => pteFmt (alGet 0 ps (a.toNat / 4096)) == 12).map fun a => engTrap 14 kind a

/-! Chunks. -/

/-- Flat address of byte `t` of a window side whose base resolves to `w`. -/
def Geo.flatAt (g : Geo) (w : Win) (t : Nat) : Nat := ((w.flat : Int) + (g.at t - g.base)).toNat

/-- The flat address of a byte of a side, global or window. -/
def State.sideFlat (s : State) (k : Nat) (glob : Bool) (pages : List (Nat × Word)) (a : Int) : Nat :=
  if glob then flatOf pages a.toNat else (((s.launchOf k).window a.toNat 1).map Win.flat).getD 0

/-- The runs of consecutive addresses in `n` traversal bytes from byte `t`: one for each row (R207). -/
def Geo.pieces (g : Geo) (t n : Nat) : List (Nat × Nat) :=
  (List.range ((t + n - 1) / g.len - t / g.len + 1)).map fun i =>
    let r := t / g.len + i
    let lo := max t (r * g.len)
    ((g.at lo).toNat, min (t + n) ((r + 1) * g.len) - lo)

/-- Format and BLK of the source of a copy at a source address. -/
def State.srcFmt (s : State) (k : Nat) (glob : Bool) (pages : List (Nat × Word)) (a : Int) : Nat × Nat :=
  if glob then (s.pageFmt (alGet 0 pages (a.toNat / 4096))).getD (0, 0) else s.chipFmt (s.sideFlat k false pages a)

/-- Traversal bytes of the source that make destination bytes `t` to `t + n − 1`. -/
def CopyArgs.srcBytes (c : CopyArgs) (t n : Nat) : Nat × Nat :=
  let u0 := t / c.decDst
  let u1 := (t + n - 1) / c.decDst
  (u0 * c.decSrc, (u1 + 1 - u0) * c.decSrc)

/-- The `n` destination bytes from byte `t` on that a page's decoder, 0 for none, makes of source bytes from a unit boundary; `r` gives its
bytes per unit (R210, R259). -/
def decodeBytes (dec : Nat) (r : Nat × Nat) (t n : Nat) (src : List Byte) : List Byte :=
  if dec = 0 then src
  else (List.range n).map fun i =>
    let j := t + i
    let u := j / r.2 - t / r.2
    Config.decoded dec ((src.drop (u * r.1)).take r.1) (j % r.2)

/-- The first poison of a list of flat byte addresses. -/
def State.poisonOf (s : State) (fl : List Nat) : Nat × Nat :=
  (fl.findSome? fun f => if s.poisonAt f = 0 then none else some (s.poisonAt f, f)).getD (0, 0)

/-- The poison of each of the words that `fl`, the flat addresses of their bytes, make (R286). -/
def State.poisonEach (s : State) (fl : List Nat) : List Nat :=
  if (s.poisonOf fl).1 = 0 then [] else (List.range (cdiv fl.length 4)).map fun i => (s.poisonOf ((fl.drop (4 * i)).take 4)).1

/-- The poison of each of a list of flat byte addresses; the empty list where all are clean. -/
def State.poisonList (s : State) (fl : List Nat) : List Nat := if (s.poisonOf fl).1 = 0 then [] else fl.map s.poisonAt

/-- Poisons the words that hold poisoned bytes from a flat address on (R286). -/
def State.poisonBytes (s : State) (flat : Nat) (ps : List Nat) : State :=
  let l := List.replicate (flat % 4) 0 ++ ps
  if ps.isEmpty then s else s.poisonWords flat ((List.range (cdiv l.length 4)).map fun i => ((l.drop (4 * i)).take 4).foldl max 0)

/-- The decoder that the source at an address needs, 0 for none (R210). -/
def srcDec (glob : Bool) (pages : List (Nat × Word)) (a : Int) : Nat := if glob then pageDec (alGet 0 pages (a.toNat / 4096)) else 0

/-- Bytes at flat addresses, one by one. -/
def State.gather (s : State) (fl : List Nat) : List Byte := fl.flatMap fun f => s.bytes f 1

/-- Chunk at destination byte `t` sampled now, to land at `due` (R207, R210, R213). Its format and decoder are those of the page or granule
of its first source byte (log 84). -/
def State.sampleChunk (s : State) (k : Nat) (p : PathArgs) (c : CopyArgs) (pages : List (Nat × Word)) (t due : Nat) : Flight :=
  let dg := c.dstGeo
  let n := dg.chunk t
  let dst := (dg.at t).toNat
  match c.fill with
  | some pat =>
    { dst := dst, data := (List.range n).map fun i => BitVec.ofNat 8 (field pat (8 * ((dst + i) % 8)) 8), tags := [],
      fmt := c.ffmt, blk := c.fblk, poison := 0, due := due }
  | none =>
    let (t0, m) := c.srcBytes t n
    let sg := c.srcGeo
    let fl := (List.range m).map fun i => s.sideFlat k p.sg pages (sg.at (t0 + i))
    let f := s.srcFmt k p.sg pages (sg.at t0)
    let dec := srcDec p.sg pages (sg.at t0)
    let tags := if f.1 = 12 ∧ dec = 0 ∧ dst % 4 = 0 then
      (List.range (cdiv n 4)).map fun j => clampTag (s.tagAt (fl.getD (4 * j) 0)) else []
    { dst := dst, data := decodeBytes dec (c.decSrc, c.decDst) t n (s.gather fl), tags := tags, fmt := f.1, blk := f.2, poison := (s.poisonOf fl).1,
      due := due }

/-- Lands bytes at a window address: the granules' fields where the place is scratchpad, the spill area's granules too (log 80), then bytes
and tags (R198, R207). -/
def State.landWindow (s : State) (k : Nat) (f : Flight) : State :=
  match (s.launchOf k).window f.dst 1 with
  | none => s
  | some w =>
    let s := s.setGran w.flat f.data.length f.fmt f.blk
    s.land w.flat f.data f.tags f.poison

/-- Lands bytes at a virtual address, in pieces that end at page ends; tags are kept in FP32+TAG pages (R80, R266). -/
def State.landVirtual (s : State) (pages : List (Nat × Word)) (va : Nat) (bs : List Byte) (tags : List Nat) (poison : Nat) :
    State :=
  let first := 4096 - va % 4096
  let keep := fun a => pteFmt (alGet 0 pages (a / 4096)) == 12
  let s := s.landBytes (flatOf pages va) (bs.take first) tags (keep va) poison
  if bs.length ≤ first then s
  else s.landBytes (flatOf pages (va + first)) (bs.drop first) (tags.drop (first / 4)) (keep (va + first)) poison

/-- Lands a flight of a command of a core, with its digest contribution (R207, R353). -/
def State.landFlight (s : State) (k : Nat) (m : Cmd) (glob : Bool) (f : Flight) : State :=
  let s := if glob then s.landVirtual m.pages f.dst f.data f.tags f.poison else s.landWindow k f
  let s := ((List.range f.psn.length).zip f.psn).foldl (fun s (x : Nat × Nat) =>
    if x.2 = 0 then s else s.poisonWords (s.sideFlat k glob m.pages (f.dst + 4 * x.1 : Nat)) [x.2]) s
  if m.queue = 1 then s.digestChan k m.slot glob f.dst f.data else s.digest k m.slot f.due glob f.dst f.data

/-! Start checks. -/

/-- Item 5 of R209 over chunks with a window source: a chunk that draws on granules of two formats, or whose format does not
fit its destination page, is FMTMIS (R210). -/
def State.chunkFmts (s : State) (k : Nat) (p : PathArgs) (c : CopyArgs) (pages : List (Nat × Word)) : Option Trap :=
  let dg := c.dstGeo
  let sg := c.srcGeo
  if c.fill.isSome || p.sg then none
  else (dg.chunks dg.total 0).findSome? fun (t, n) =>
    let f0 := s.srcFmt k false pages (sg.at t)
    if (List.range n).any fun i => s.srcFmt k false pages (sg.at (t + i)) != f0 then some (engTrap 16 akSrc (sg.at t))
    else if p.dg && !fitsPage f0.1 (pteFmt (alGet 0 pages ((dg.at t).toNat / 4096))) then
      some (engTrap 16 akDst (dg.at t))
    else none

/-- Start checks of a `cpy` or `cpyf`, in the order of R209. A source page of any format is taken (R210), where its bytes per unit are those
that the geometry was issued with (log 19). An overlap reports the destination's base address (log 82). -/
def State.copyCheck (s : State) (k : Nat) (walked : Bool) (tl : Nat) (p : PathArgs) (c : CopyArgs) :
    State × Start (List (Nat × Word)) :=
  let sg := c.srcGeo
  let dg := c.dstGeo
  let near := p.global
  let useSrc := c.fill.isNone
  let srcWin := if useSrc && !p.sg then some (s.geoWindow k sg false near tl) else none
  let dstWin := if !p.dg then some (s.geoWindow k dg true near tl) else none
  match srcWin, dstWin with
  | some (.error t), _ => (s, .fault t)
  | _, some (.error t) => (s, .fault t)
  | sw, dw =>
    let al1 := match sw with | some (.ok w) => s.geoAlign sg w false | _ => none
    let al2 := match dw with | some (.ok w) => s.geoAlign dg w true | _ => none
    match al1, al2 with
    | some t, _ => (s, .fault t)
    | _, some t => (s, .fault t)
    | none, none =>
      if useSrc && !p.sg && !p.dg && overlaps sg.range dg.range then (s, .fault (engTrap 12 akDst c.dst))
      else
        let r := if useSrc && p.sg then s.geoPages k walked sg false false p.sloc akSrc fun e => s.pageRatio e == (c.decSrc, c.decDst)
          else if p.dg then s.geoPages k walked dg true false p.dloc akDst fun e => c.fill.isNone || fitsPage c.ffmt (pteFmt e)
          else (s, .ok [])
        match r with
        | (s, .ok ps) =>
          let tag := if useSrc && p.sg then sg.tagAlign ps akSrc else if p.dg then dg.tagAlign ps akDst else none
          match s.chunkFmts k p c ps, tag with
          | some t, _ => (s, .fault t)
          | none, some t => (s, .fault t)
          | none, none => (s, .ok ps)
        | (s, e) => (s, e)

/-- The contiguous side of a gather or scatter as a geometry. -/
def GatherArgs.geo (g : GatherArgs) : Geo := ⟨g.base, g.n * 2 ^ g.esz, 1, 1, 0, 0⟩

/-- Start checks of `cpyg` and `cpys` (R209, R214; log 20): the list, the contiguous window and the alignments. -/
def State.gatherCheck (s : State) (k : Nat) (tl : Nat) (p : PathArgs) (g : GatherArgs) : Option Trap :=
  let al := min (2 ^ g.esz) 64
  let idxGlobal := if g.scatter then p.dg else p.sg
  let baseGlobal := if g.scatter then p.sg else p.dg
  let listOk := match (s.launchOf k).window g.list (4 * g.n) with
    | some w => w.unit == 0 && w.own (s.core k).f.task.lsp
    | none => false
  let baseKind := if g.scatter then akSrc else akDst
  let idxKind := if g.scatter then akDst else akSrc
  let idxOk : Option Trap := if idxGlobal then none
    else match if 2 ^ 40 ≤ g.idxBase then none else (s.launchOf k).window g.idxBase 1 with
      | some w => if copyUnit g.scatter w.unit then none else some (engTrap 12 idxKind g.idxBase)
      | none => some (engTrap 12 idxKind g.idxBase)
  if !listOk then some (engTrap 12 akLoad g.list)
  else if baseGlobal then some (engTrap 12 baseKind g.base)
  else match s.geoWindow k g.geo (!g.scatter) true tl with
    | .error t => some t
    | .ok w =>
      match idxOk with
      | some t => some t
      | none =>
        if g.list % 4 ≠ 0 then some (engTrap 14 akLoad g.list)
        else if g.base % al ≠ 0 then some (engTrap 14 baseKind g.base)
        else if g.idxBase % al ≠ 0 then some (engTrap 14 idxKind g.idxBase)
        else s.geoAlign g.geo w (!g.scatter)

/-- The overlay map behind a landing: what it overlaps goes (R215). -/
def ovlInsert (l : List OvlEntry) (x : OvlEntry) : List OvlEntry :=
  (l.filter fun y => y.first + y.n ≤ x.first || x.first + x.n ≤ y.first) ++ [x]

/-- The overlays under way, in the order of their landings. -/
def Engines.overlays (e : Engines) : List (Nat × OvlEntry) :=
  (e.cmds.filterMap fun m => match m.kind with
    | .ovl _ o => if m.started then some (m.land, (⟨o.first.toNat, o.n, o.src, o.man⟩ : OvlEntry)) else none
    | _ => none).foldl (fun l x => l.filter (fun y => y.1 ≤ x.1) ++ x :: l.filter (fun y => x.1 < y.1)) []

/-- Start checks of an `ovl` (R215): the map counts as the overlays under way will leave it. -/
def State.ovlCheck (s : State) (k : Nat) (walked : Bool) (p : PathArgs) (o : OvlArgs) : State × Start (List (Nat × Word)) :=
  let e := (s.core k).e
  let first := o.first.toNat
  let map := ovlInsert ((e.overlays.map Prod.snd).foldl ovlInsert e.ovl) ⟨first, o.n, o.src, o.man⟩
  let prot := fun (a : Int) => engTrap 12 akOverlay a
  if 4096 < first + o.n then (s, .fault (prot first))
  else if o.src % 32 ≠ 0 then (s, .fault (engTrap 14 akOverlay o.src))
  else if o.man % 8 ≠ 0 then (s, .fault (engTrap 14 akOverlay o.man))
  else if 64 < map.length then (s, .fault (prot first))
  else
    match s.geoPages k walked ⟨o.src, 32 * o.n, 1, 1, 0, 0⟩ false true p.sloc akOverlay fun _ => true with
    | (s, .ok ps) =>
      match s.geoPages k walked ⟨o.man, 48, 1, 1, 0, 0⟩ false false false akOverlay fun _ => true with
      | (s, .ok qs) => (s, .ok (ps ++ qs))
      | (s, r) => (s, r)
    | (s, r) => (s, r)

/-! Commands and dues of a core. -/

def Core.setCmd (c : Core) (m : Cmd) : Core :=
  c.modE fun e => { e with cmds := e.cmds.map fun x => if x.uid == m.uid then m else x }

def State.setCmd (s : State) (k : Nat) (m : Cmd) : State := s.modCore k (·.setCmd m)

def Core.endCmd (c : Core) (uid : Nat) : Core := c.modE fun e => { e with cmds := e.cmds.filter (·.uid ≠ uid) }

/-- The channel of a command for its event records. -/
def Cmd.channel (m : Cmd) : Nat :=
  match m.kind with
  | .copy p _ => p.ch
  | .gather p _ => p.ch
  | .ovl p _ => p.ch
  | .gamo g => field g.gdst 40 4
  | _ => 0

/-- A command has landed: its record, and its place in its queue (R345). -/
def State.endCmd (s : State) (k : Nat) (m : Cmd) : State :=
  (s.engineRecord k 7 m.slot m.queue m.channel m.bundle m.syll).modCore k (·.endCmd m.uid)

/-- An engine fault of a command, due at its core's next boundary of the level that issued it (R181, R209). -/
def State.engineFault (s : State) (k : Nat) (m : Cmd) (t : Trap) (eng : Bool) : State :=
  let hch := m.queue == 1
  let c := s.core k
  let d : Due :=
    { lvl := if hch then c.tl else 0, prio := 5, cause := t.cause, sub := t.sub, eng := eng, hch := hch, bundle := m.bundle,
      slot := m.slot, issue := m.issue, lane := t.lane, addr := t.addr, cmd := some (m.uid, m.queue, m.syll) }
  s.modCore k fun c => c.modP fun p => { p with dues := if p.dues.any (·.cmd == d.cmd) then p.dues else p.dues ++ [d] }

/-- A command whose remaining work a fault withdraws: what lands no earlier than `from_` goes, the rest lands (R209). -/
def Cmd.cutFrom (m : Cmd) (from_ : Nat) : Cmd := { m with cut := true, flights := m.flights.filter fun f => f.due < from_ }

/-- The virtual addresses whose pages a command's walk fetches. -/
def State.walkAddrs (s : State) (k : Nat) (m : Cmd) : List Nat :=
  let vas := fun (g : Geo) => (g.pageAddrs.filter (fun a => 0 ≤ a)).map Int.toNat
  match m.kind with
  | .copy p c => if p.sg && c.fill.isNone then vas c.srcGeo else if p.dg then vas c.dstGeo else []
  | .ovl _ o => vas ⟨o.src, 32 * o.n, 1, 1, 0, 0⟩ ++ vas ⟨o.man, 48, 1, 1, 0, 0⟩
  | .gather _ g =>
    let idx := leValue (s.bytes (s.sideFlat k false [] (g.list + 4 * g.idx.length : Nat)) 4)
    vas ⟨g.idxBase + idx * 2 ^ g.esz, 2 ^ g.esz, 1, 1, 0, 0⟩
  | .gamo g => [g.addr]
  | .rel o _ => [o.toNat]
  | .acq o _ => [o.toNat]
  | .lnch r _ => [r.toNat]
  | _ => []

/-! Events of timed copies. -/

/-- Takes a start check's outcome: the command starts, its walk begins, or its fault falls due. -/
def State.started (s : State) (k : Nat) (m : Cmd) (r : Start (List (Nat × Word))) : State :=
  match r with
  | .ok ps => (s.setCmd k { m with started := true, pages := ps }).engineRecord k 6 m.slot m.queue m.channel m.bundle m.syll
  | .miss => s.startWalk k m.uid (s.walkAddrs k m)
  | .fault t => s.engineFault k m t true

/-- The wall cycle at which the handler-channel transfer of a command ends: a free value, after every earlier one (R216,
R295; log 8, log 21). -/
def State.handlerEnd (s : State) (k : Nat) : Nat :=
  let prev := (s.core k).e.cmds.foldl (fun n m => if m.queue = 1 ∧ m.started then max n (m.land + 1) else n) 0
  max prev (s.wall + 1 + Config.handlerCycles s.free)

/-- The first cycle of a command's own work: a fault found in the cycle of its issue falls due one later (R181). -/
def execCopyStart (k uid : Nat) (s : State) : Host.Outcome State Fault Refusal :=
  match (s.core k).cmd uid with
  | none => .next s
  | some m =>
    if m.started then .next s
    else
      let h := m.queue == 1
      let walked := h || (s.core k).e.walked.contains uid
      let tl := if h then (s.core k).tl else 0
      let (s, r) := match m.kind with
        | .copy p c => s.copyCheck k walked tl p c
        | .gather p g => (s, match s.gatherCheck k tl p g with | some t => .fault t | none => .ok [])
        | .ovl p o => s.ovlCheck k walked p o
        | _ => (s, .ok [])
      let m := match m.kind, r with
        | .ovl p o, .ok ps => { m with kind := .ovl p { o with digest := s.vbytes ps o.man 48 } }
        | _, _ => m
      let m := if h then { m with land := s.handlerEnd k } else m
      let s := if h then { s with free := s.free + 1 } else s
      .next (s.started k m r)

/-- A copy samples its next chunk, or an overlay its next 64 bytes (R207, R215). -/
def execChunkSample (k uid : Nat) (s : State) : Host.Outcome State Fault Refusal :=
  match (s.core k).cmd uid with
  | none => .next s
  | some m =>
    match m.kind with
    | .copy p c =>
      let g := c.dstGeo
      if g.total ≤ m.sPos ∨ m.cut then .next s
      else
        let n := g.chunk m.sPos
        let f := s.sampleChunk k p c m.pages m.sPos (m.start + p.lpath + cdiv (m.sPos + n) p.rate)
        let (t0, len) := c.srcBytes m.sPos n
        let s := if c.fill.isSome then s
          else s.transitCheck k 1 m.slot m.bundle p.sg (c.srcGeo.pieces t0 len) (some uid)
        .next (s.setCmd k { m with sPos := m.sPos + n, flights := m.flights ++ [f] })
    | .ovl _ o =>
      let n := min 64 (32 * o.n - m.sPos)
      if n = 0 then .next s
      else
        let fl := (List.range n).map fun i => flatOf m.pages (o.src + m.sPos + i)
        let old := (m.flights.head?.map Flight.data).getD []
        let psn := ((m.flights.head?.map Flight.psn).getD []) ++ (List.range (n / 4)).map fun i => (s.poisonOf ((fl.drop (4 * i)).take 4)).1
        let s := s.transitCheck k 1 m.slot m.bundle true [(o.src + m.sPos, n)] (some uid)
        .next (s.setCmd k { m with
          sPos := m.sPos + n
          flights := [{ dst := 0, data := old ++ s.gather fl, tags := [], fmt := 0, blk := 0, poison := 0, due := m.land, psn := psn }] })
    | _ => .next s

/-- All of a command's work is done. -/
def Cmd.finished (m : Cmd) : Bool :=
  m.flights.isEmpty && (m.cut || (match m.kind with
    | .copy _ c => c.dstGeo.total ≤ m.sPos
    | .gather _ g => g.n ≤ m.lPos
    | _ => true))

/-- Lands the next flight of a command, and ends it behind its last (R207, R214). -/
def State.landNext (s : State) (k : Nat) (m : Cmd) (glob : Bool) : State :=
  match m.flights with
  | [] => s
  | f :: r =>
    let m := { m with flights := r }
    let s := (s.landFlight k m glob f).setCmd k m
    if m.finished then s.endCmd k m else s

/-- A chunk lands whole with its tags and granule fields (R207). -/
def execChunkLanding (k uid : Nat) (s : State) : Host.Outcome State Fault Refusal :=
  match (s.core k).cmd uid with
  | none => .next s
  | some m => match m.kind with
    | .copy p _ => viaUnit k uid s (.next (s.landNext k m p.dg))
    | _ => .next s

/-! Gathers and scatters (R214). -/

/-- Address of element `i` on the indexed side. -/
def GatherArgs.elem (g : GatherArgs) (i : Nat) : Nat := g.idxBase + g.idx.getD i 0 * 2 ^ g.esz

/-- Checks of the element whose index has just been sampled: range or pages, rights, ownership and format, one format over its source
granules, and no byte of the other window side (R209, R210, R214; log 20). A window index may name any unit and spire the launch may reach
(log 83). -/
def State.elemCheck (s : State) (k : Nat) (walked : Bool) (tl : Nat) (p : PathArgs) (g : GatherArgs) (a i : Nat) :
    State × Start (List (Nat × Word)) :=
  let geo : Geo := ⟨a, 2 ^ g.esz, 1, 1, 0, 0⟩
  let glob := if g.scatter then p.dg else p.sg
  let e := 2 ^ g.esz
  let near := s.sideFlat k false [] (g.base + i * e : Nat)
  let split := fun (flat src : Nat) => if s.oneFmt flat e then none else some (engTrap 16 akSrc src)
  if glob then
    let r := s.geoPages k walked geo g.scatter false (if g.scatter then p.dloc else p.sloc) (if g.scatter then akDst else akSrc)
      fun x => !g.scatter || fitsPage (s.chipFmt near).1 (pteFmt x)
    match r, if g.scatter then split near (g.base + i * e) else none with
    | (s, .ok _), some t => (s, .fault t)
    | r, _ => r
  else
    match s.geoWindow k geo g.scatter false tl with
    | .error t => (s, .fault t)
    | .ok w =>
      let dst := if g.scatter then a else g.base + i * e
      match s.geoAlign geo w g.scatter, if g.scatter then split near (g.base + i * e) else split w.flat a with
      | some t, _ => (s, .fault t)
      | none, some t => (s, .fault t)
      | none, none =>
        if overlaps geo.range g.geo.range then (s, .fault (engTrap 12 akDst dst)) else (s, .ok [])

/-- Samples element `i`'s index and translates its page (R214). -/
def execGatherIndexSample (k uid : Nat) (s : State) : Host.Outcome State Fault Refusal :=
  match (s.core k).cmd uid with
  | none => .next s
  | some m => match m.kind with
    | .gather p g =>
      let i := g.idx.length
      if g.n ≤ i ∨ m.cut then .next s
      else
        let h := m.queue == 1
        let idx := leValue (s.bytes (s.sideFlat k false [] (g.list + 4 * i : Nat)) 4)
        let a := g.idxBase + idx * 2 ^ g.esz
        let walked := h || (s.core k).e.walked.contains uid
        match s.elemCheck k walked (if h then (s.core k).tl else 0) p g a i with
        | (s, .miss) => .next (s.startWalk k uid (s.walkAddrs k m))
        | (s, .fault t) => .next ((s.setCmd k { m with cut := true }).engineFault k m t false)
        | (s, .ok ps) =>
          let s := s.modCore k fun c => c.modE fun e => { e with walked := e.walked.filter (· ≠ uid) }
          let s := s.transitCheck k 2 m.slot m.bundle false [(g.list + 4 * i, 4)] (some uid)
          .next (s.setCmd k { m with
            kind := .gather p { g with idx := g.idx ++ [idx] }
            pages := ps.foldl (fun l x => alSet l x.1 x.2) m.pages })
    | _ => .next s

/-- The flight of element `i`, sampled now: at most E bytes, decoded where its page needs a decoder (R210, R214; log 19). -/
def State.elemFlight (s : State) (k : Nat) (m : Cmd) (p : PathArgs) (g : GatherArgs) (i due : Nat) : Flight :=
  let e := 2 ^ g.esz
  let sa := if g.scatter then g.base + i * e else g.elem i
  let da := if g.scatter then g.elem i else g.base + i * e
  let fl := (List.range e).map fun j => s.sideFlat k p.sg m.pages (sa + j : Nat)
  let f := s.srcFmt k p.sg m.pages sa
  let dec := srcDec p.sg m.pages sa
  let r := if p.sg then s.pageRatio (alGet 0 m.pages (sa / 4096)) else (1, 1)
  { dst := da, data := decodeBytes dec r 0 (min e (e * r.2 / max 1 r.1)) (s.gather fl),
    tags := if f.1 = 12 ∧ dec = 0 then (List.range (e / 4)).map fun j => clampTag (s.tagAt (fl.getD (4 * j) 0)) else [],
    fmt := f.1, blk := f.2, poison := if dec = 0 then 0 else (s.poisonOf fl).1, due := due,
    psn := if dec = 0 then s.poisonEach fl else [] }

/-- Samples the source bytes of the next element (R214). -/
def execGatherElementSample (k uid : Nat) (s : State) : Host.Outcome State Fault Refusal :=
  match (s.core k).cmd uid with
  | none => .next s
  | some m => match m.kind with
    | .gather p g =>
      if g.idx.length ≤ m.lPos then .next s
      else
        let f := s.elemFlight k m p g m.lPos (m.start + p.lpath + g.g * (m.lPos + 1))
        let sa := if g.scatter then g.base + m.lPos * 2 ^ g.esz else g.elem m.lPos
        let s := s.transitCheck k 2 m.slot m.bundle p.sg [(sa, 2 ^ g.esz)] (some uid)
        .next (s.setCmd k { m with lPos := m.lPos + 1, flights := m.flights ++ [f] })
    | _ => .next s

/-- A gather or scatter element lands whole (R214). -/
def execGatherElementLanding (k uid : Nat) (s : State) : Host.Outcome State Fault Refusal :=
  match (s.core k).cmd uid with
  | none => .next s
  | some m => match m.kind with
    | .gather p _ => viaUnit k uid s (.next (s.landNext k m p.dg))
    | _ => .next s

/-! Overlays (R215, R335). -/

/-- Marks a code object as failed (R335). -/
def State.failCode (s : State) (code : Nat) : State :=
  { s with seq := { s.seq with objects := s.seq.objects.map fun o => if o.1 = code then (o.1, { o.2 with failed := true }) else o } }

/-- Kills the launch at once with CODEINT (R215, R328). -/
def State.codeInt (s : State) (k : Nat) (m : Cmd) : State :=
  let s := s.failCode (leValue (((s.launchOf k).record.drop 0x50).take 8))
  let s := s.killContext k ⟨15, 0, true, m.queue == 1, false, m.bundle, m.slot, 0, 0, 0, none⟩
  (s.freeze (s.core k).f.task.launch .kill).toPeers (s.core k).f.task.launch (.kill 11)

/-- Poisons bundles of a core's ISP, or clears their poison (R199, R215). -/
def State.markBundles (s : State) (k first n : Nat) (bad : Bool) : State :=
  let ks := (List.range n).map fun i => k % 2 * 4096 + first + i
  let sp := s.spire (k / 2)
  let rest := sp.badBundles.filter fun b => !ks.contains b
  s.setSpire (k / 2) { sp with badBundles := if bad then rest ++ ks else rest }

/-- The overlay's digest is compared, and its bundles land together or the launch is killed (R215). -/
def execOverlayLanding (k uid : Nat) (s : State) : Host.Outcome State Fault Refusal :=
  match (s.core k).cmd uid with
  | none => .next s
  | some m => match m.kind with
    | .ovl _ o => viaUnit k uid s <|
      let bs := (m.flights.head?.map Flight.data).getD []
      let psn := (m.flights.head?.map Flight.psn).getD []
      let first := o.first.toNat
      let s := s.endCmd k m
      if sha384 bs = o.digest then
        let s := ((s.landBytes (ispBase k + 32 * first) bs [] false 0).markBundles k first o.n false).poisonWords (ispBase k + 32 * first) psn
        .next (s.modCore k fun c => c.modE fun e => { e with ovl := ovlInsert e.ovl ⟨first, o.n, o.src, o.man⟩ })
      else .next ((s.markBundles k first o.n true).codeInt k m)
    | _ => .next s

/-! The handler channel (R216, R295). -/

/-- May the handler-channel command start: what a fence, a `.rel` or an earlier `.acq` orders before it has landed (R137,
R295). -/
def Core.handlerMayStart (c : Core) (m : Cmd) : Bool :=
  let order := match m.kind with | .copy p _ => p.order | .gather p _ => p.order | _ => 0
  c.e.cmds.all fun x =>
    !(x.queue == 1 && decide (x.uid < m.uid)) ||
      (x.started && order != 2 && !(c.e.hFences.any fun u => decide (x.uid < u) && decide (u ≤ m.uid)) &&
        (match x.kind with | .copy p _ => p.order != 1 | .gather p _ => p.order != 1 | _ => true))

/-- Every chunk of a copy from byte `t`, sampled and landed (R216). -/
def State.copyAll (s : State) (k : Nat) (m : Cmd) (p : PathArgs) (c : CopyArgs) : Nat → Nat → State
  | 0, _ => s
  | fuel + 1, t =>
    if c.dstGeo.total ≤ t then s
    else
      let f := s.sampleChunk k p c m.pages t (s.core k).clk
      (s.landFlight k m p.dg f).copyAll k m p c fuel (t + c.dstGeo.chunk t)

/-- Every element of a gather from element `i`, or the fault of one (R214, R216). -/
def State.gatherAll (s : State) (k : Nat) (m : Cmd) (p : PathArgs) (tl : Nat) : Nat → Nat → GatherArgs → State × Option Trap
  | 0, _, _ => (s, none)
  | fuel + 1, i, g =>
    let idx := leValue (s.bytes (s.sideFlat k false [] (g.list + 4 * i : Nat)) 4)
    match s.elemCheck k true tl p g (g.idxBase + idx * 2 ^ g.esz) i with
    | (s, .fault t) => (s, some t)
    | (s, .miss) => (s, none)
    | (s, .ok ps) =>
      let m := { m with pages := ps.foldl (fun l x => alSet l x.1 x.2) m.pages }
      let g := { g with idx := g.idx ++ [idx] }
      let f := s.elemFlight k m p g i (s.core k).clk
      (s.landFlight k m p.dg f).gatherAll k m p tl fuel (i + 1) g

/-- A handler-channel command's transfer completes (R216). -/
def execHandlerChannelLanding (k uid : Nat) (s : State) : Host.Outcome State Fault Refusal :=
  match (s.core k).cmd uid with
  | none => .next s
  | some m =>
    if !m.started then .next s
    else viaUnit k uid s <| match m.kind with
      | .copy p c => .next ((s.copyAll k m p c c.dstGeo.total 0).endCmd k m)
      | .gather p g =>
        match s.gatherAll k m p (s.core k).tl g.n 0 g with
        | (s, none) => .next (s.endCmd k m)
        | (s, some t) => .next (s.engineFault k m t false)
      | .ovl _ o =>
        let fl := (List.range (32 * o.n)).map fun i => flatOf m.pages (o.src + i)
        let f : Flight := { dst := 0, data := s.gather fl, tags := [], fmt := 0, blk := 0, poison := 0, due := 0, psn := s.poisonEach fl }
        execOverlayLanding k uid (s.setCmd k { m with flights := [f] })
      | _ => .next s

/-- The walks of a command, or of a redirected spill, complete: the TLBs are filled and the freeze's cause ends (R273). -/
def execPageWalkComplete (k uid : Nat) (s : State) : Host.Outcome State Fault Refusal :=
  let vas := match (s.core k).cmd uid with
    | some m => s.walkAddrs k m
    | none => match (s.core k).p.prb.find? (·.uid == uid) with
      | some e => match e.kind with
        | .load _ _ a => [a]
        | .vload _ _ _ a => [a]
        | .spillStore a _ => [a]
        | .spillVStore a _ => [a]
        | _ => []
      | none => []
  .next (s.endWalk k uid vas)

end Sys2Proof.Machine
end

