-- ==== Sys2Proof/Machine/Gamo.lean ====
section
/-! DEFINITION. Global atomics, sync objects at their action cycle, and `lnch` up to its arrival (05_scalar_control.md R142 to R144,
11_tower_memory.md R281 to R287). -/

namespace Sys2Proof.Machine

/-! Pages of one word. -/

/-- Translates the page of `va` and checks its rights, ownership and format; an atomic takes no page of a fabric format, also behind a
decoder (R264, R266, R274, R278, R283; R143). -/
def State.wordPage (s : State) (k : Nat) (walked : Bool) (va : Nat) (r w fmt : Bool) (kind : Nat) :
    State × Start (List (Nat × Word)) :=
  match s.xlateAll k walked [va] with
  | (s, .error (c, a)) => (s, .fault (walkTrap c kind a))
  | (s, .ok (_, true)) => (s, .miss)
  | (s, .ok (ps, false)) =>
    let p := alGet 0 ps (va / 4096)
    match pageRights r w false p with
    | some c => (s, .fault (engTrap c kind va))
    | none =>
      if (s.pageFmt p).isNone || (fmt && 13 ≤ pteFmt p) then (s, .fault (engTrap 16 kind va)) else (s, .ok ps)

/-- An atomic on a word at a flat address: the old value and its poison. A poisoned word stays poisoned but under `swap`
(R19, R281, R287). -/
def State.atomicAt (s : State) (flat : Nat) (op : AtomicOp) (w64 : Bool) (operand cmp : Word) : State × Word × Nat :=
  let n := if w64 then 8 else 4
  let old := BitVec.ofNat 64 (leValue (s.bytes flat n))
  let p := s.poisonIn flat n
  let new := atomicNew op w64 old operand cmp
  let s' := s.landBytes flat (leBytes new.toNat n) [] false 0
  ({ s' with poison := if op = .swap then s'.poison else s.poison }, old, p.1)

/-! Issue (R283, R284). -/

/-- The timed queue of a command of the syllable. -/
def Ctx.timedCmd (x : Ctx) (kind : CmdKind) (queue dly land : Nat) : Cmd :=
  { uid := x.c.p.uid, kind := kind, queue := queue, bundle := x.c.f.pc.toNat, slot := x.slot, syll := x.syll,
    issue := x.c.clk, start := x.c.clk + dly, land := x.c.clk + dly + land, started := false, sPos := 0, lPos := 0,
    flights := [], pages := [], regs := [] }

/-- A `gamo` at issue: PROT at TL ≥ 1, then channel order, fences and the order forms. -/
def gamo (op : AtomicOp) (order : Nat) (w : BitVec 1) (a b : BitVec 5) (l : BitVec 11) (s : State) :
    Host.Outcome State Fault Refusal :=
  s.syllable fun x =>
    let w64 := w == 1
    let lo : Word → Word := fun v => if w64 then v else (lo32 v).setWidth 64
    let gdst := x.c.engReg 0x11
    let g : GamoArgs := ⟨op, w64, order, (x.sc 0 a).toNat, lo (x.sc 1 b), lo (x.c.engReg 0x10), gdst, 0⟩
    let m := x.timedCmd (.gamo g) 3 l.toNat (2 * (x.tt 23).lat)
    let e := x.c.e
    let ch := field gdst 40 4
    if 1 ≤ x.c.tl then .error (trapProt akOther)
    else if m.start < alGet 0 e.atomCh ch ∨ e.fenced 3 m.start ∨ m.start < e.acqAtom ∨ x.c.guarded m ∨
        (order = 2 ∧ m.start < max (e.last 0) (e.last 3)) then .error slipLate
    else .ok ((x.c.modE fun e =>
      { e with cmds := e.cmds ++ [m], atomCh := alSet e.atomCh ch m.land, lastLand := e.lastLand.set 3 (max (e.last 3) m.land),
               acqAtom := if order = 1 then max e.acqAtom m.land else e.acqAtom }).modP fun p => { p with uid := p.uid + 1 })

def execGamoAdd (w : BitVec 1) (a b : BitVec 5) (l : BitVec 11) (s : State) := gamo .add 0 w a b l s
def execGamoAnd (w : BitVec 1) (a b : BitVec 5) (l : BitVec 11) (s : State) := gamo .and 0 w a b l s
def execGamoOr (w : BitVec 1) (a b : BitVec 5) (l : BitVec 11) (s : State) := gamo .or 0 w a b l s
def execGamoXor (w : BitVec 1) (a b : BitVec 5) (l : BitVec 11) (s : State) := gamo .xor 0 w a b l s
def execGamoMin (w : BitVec 1) (a b : BitVec 5) (l : BitVec 11) (s : State) := gamo .min 0 w a b l s
def execGamoMax (w : BitVec 1) (a b : BitVec 5) (l : BitVec 11) (s : State) := gamo .max 0 w a b l s
def execGamoSwap (w : BitVec 1) (a b : BitVec 5) (l : BitVec 11) (s : State) := gamo .swap 0 w a b l s
def execGamoCas (w : BitVec 1) (a b : BitVec 5) (l : BitVec 11) (s : State) := gamo .cas 0 w a b l s
def execGamoAcqAdd (w : BitVec 1) (a b : BitVec 5) (l : BitVec 11) (s : State) := gamo .add 1 w a b l s
def execGamoAcqAnd (w : BitVec 1) (a b : BitVec 5) (l : BitVec 11) (s : State) := gamo .and 1 w a b l s
def execGamoAcqOr (w : BitVec 1) (a b : BitVec 5) (l : BitVec 11) (s : State) := gamo .or 1 w a b l s
def execGamoAcqXor (w : BitVec 1) (a b : BitVec 5) (l : BitVec 11) (s : State) := gamo .xor 1 w a b l s
def execGamoAcqMin (w : BitVec 1) (a b : BitVec 5) (l : BitVec 11) (s : State) := gamo .min 1 w a b l s
def execGamoAcqMax (w : BitVec 1) (a b : BitVec 5) (l : BitVec 11) (s : State) := gamo .max 1 w a b l s
def execGamoAcqSwap (w : BitVec 1) (a b : BitVec 5) (l : BitVec 11) (s : State) := gamo .swap 1 w a b l s
def execGamoAcqCas (w : BitVec 1) (a b : BitVec 5) (l : BitVec 11) (s : State) := gamo .cas 1 w a b l s
def execGamoRelAdd (w : BitVec 1) (a b : BitVec 5) (l : BitVec 11) (s : State) := gamo .add 2 w a b l s
def execGamoRelAnd (w : BitVec 1) (a b : BitVec 5) (l : BitVec 11) (s : State) := gamo .and 2 w a b l s
def execGamoRelOr (w : BitVec 1) (a b : BitVec 5) (l : BitVec 11) (s : State) := gamo .or 2 w a b l s
def execGamoRelXor (w : BitVec 1) (a b : BitVec 5) (l : BitVec 11) (s : State) := gamo .xor 2 w a b l s
def execGamoRelMin (w : BitVec 1) (a b : BitVec 5) (l : BitVec 11) (s : State) := gamo .min 2 w a b l s
def execGamoRelMax (w : BitVec 1) (a b : BitVec 5) (l : BitVec 11) (s : State) := gamo .max 2 w a b l s
def execGamoRelSwap (w : BitVec 1) (a b : BitVec 5) (l : BitVec 11) (s : State) := gamo .swap 2 w a b l s
def execGamoRelCas (w : BitVec 1) (a b : BitVec 5) (l : BitVec 11) (s : State) := gamo .cas 2 w a b l s

/-! Events of a `gamo`. -/

/-- Width of an atomic in bytes. -/
def GamoArgs.bytes (g : GamoArgs) : Nat := if g.w64 then 8 else 4

/-- Start checks of a `gamo`, in the order of R283. -/
def State.gamoCheck (s : State) (k : Nat) (walked : Bool) (g : GamoArgs) : State × Start (List (Nat × Word)) :=
  let addr := field g.gdst 0 40
  let lsp := (s.core k).f.task.lsp
  let dst : Option Trap :=
    if field g.gdst 63 1 = 1 then none
    else match (s.launchOf k).window addr g.bytes with
      | none => some (engTrap 12 akAtomic addr)
      | some w =>
        if !((w.unit == 0 && w.own lsp) || (w.unit == 8 && w.tower == lsp / 128 && w.cupola == lsp / 16 % 8)) then
          some (engTrap 12 akAtomic addr)
        else if addr % g.bytes ≠ 0 then some (engTrap 14 akAtomic addr)
        else none
  if g.addr % g.bytes ≠ 0 then (s, .fault (engTrap 14 akAtomic g.addr))
  else match dst with
    | some t => (s, .fault t)
    | none => s.wordPage k walked g.addr true true true akAtomic

/-- A `gamo` makes its start checks (R283). -/
def execGamoStart (k uid : Nat) (s : State) : Host.Outcome State Fault Refusal :=
  match (s.core k).cmd uid with
  | none => .next s
  | some m => match m.kind with
    | .gamo g =>
      if m.started then .next s
      else match s.gamoCheck k ((s.core k).e.walked.contains uid) g with
        | (s, r) => .next (s.started k m r)
    | _ => .next s

/-- A `gamo` applies its operation at start + T; members of a group apply in requester order (R19, R281, R283). -/
def execGamoApply (k uid : Nat) (s : State) : Host.Outcome State Fault Refusal :=
  match (s.core k).cmd uid with
  | none => .next s
  | some m => match m.kind with
    | .gamo g =>
      if m.sPos ≠ 0 ∨ !m.started then .next s
      else viaUnit k uid s <|
        let r := s.atomicAt (flatOf m.pages g.addr) g.op g.w64 g.operand g.cmp
        let n := g.bytes
        let new := atomicNew g.op g.w64 r.2.1 g.operand g.cmp
        let s := r.1.digest k m.slot (s.core k).clk true g.addr (leBytes new.toNat n)
        .next (s.setCmd k { m with sPos := 1, regs := [r.2.1, BitVec.ofNat 64 r.2.2] })
    | _ => .next s

/-- The old value of a `gamo` lands at GDST.ADDR, and the command ends (R283, R287). -/
def execGamoOldValueLanding (k uid : Nat) (s : State) : Host.Outcome State Fault Refusal :=
  match (s.core k).cmd uid with
  | none => .next s
  | some m => match m.kind with
    | .gamo g =>
      if m.sPos = 0 then .next s
      else
        let addr := field g.gdst 0 40
        let bs := leBytes (m.regs.getD 0 0).toNat g.bytes
        let s := if field g.gdst 63 1 = 1 then s
          else match (s.launchOf k).window addr g.bytes with
            | none => s
            | some w => (s.land w.flat bs [] (m.regs.getD 1 0).toNat).digest k m.slot (s.core k).clk false addr bs
        .next (s.endCmd k m)
    | _ => .next s

/-! Sync objects (R143). -/

/-- The increment of a `rel` lands on its object (R143). -/
def execRelIncrement (k uid : Nat) (s : State) : Host.Outcome State Fault Refusal :=
  match (s.core k).cmd uid with
  | none => .next s
  | some m => match m.kind with
    | .rel obj _ => viaUnit k uid s <|
      match s.wordPage k ((s.core k).e.walked.contains uid) obj.toNat false true false akSync with
      | (s, .miss) => .next (s.startWalk k uid [obj.toNat])
      | (s, .fault t) => .next (s.engineFault k m t true)
      | (s, .ok ps) =>
        let r := s.atomicAt (flatOf ps obj.toNat) .add true 1 0
        .next ((r.1.digest k m.slot (s.core k).clk true obj.toNat (leBytes (r.2.1 + 1).toNat 8)).modCore k (·.endCmd uid))
    | _ => .next s

/-- An `acq` samples its object, which gives no result (R143). -/
def execAcqSample (k uid : Nat) (s : State) : Host.Outcome State Fault Refusal :=
  match (s.core k).cmd uid with
  | none => .next s
  | some m => match m.kind with
    | .acq obj _ => viaUnit k uid s <|
      match s.wordPage k ((s.core k).e.walked.contains uid) obj.toNat true false false akSync with
      | (s, .miss) => .next (s.startWalk k uid [obj.toNat])
      | (s, .fault t) => .next (s.engineFault k m t true)
      | (s, .ok _) => .next (s.modCore k (·.endCmd uid))
    | _ => .next s

/-! Launches from a task (R144). -/

/-- Key of the launch queue among the last starts of untabled queues. -/
def launchQueue : Nat := 2 ^ 16

/-- `lnch` at issue: PROT at TL ≥ 1, then fences and the queue's start order (R294). -/
def execLnch (a b : BitVec 5) (l : BitVec 11) (s : State) : Host.Outcome State Fault Refusal :=
  s.syllable fun x =>
    let m := x.timedCmd (.lnch (x.sc 0 a) (x.sc 1 b)) 5 l.toNat (x.tt 24).lat
    if 1 ≤ x.c.tl then .error (trapProt akOther)
    else if m.start < alGet 0 x.c.e.fabLast launchQueue ∨ x.c.e.fenced 5 m.start then .error slipLate
    else .ok ((x.c.modE fun e => { e with cmds := e.cmds ++ [m], lastLand := e.lastLand.set 5 (max (e.last 5) m.land),
                                          fabLast := alSet e.fabLast launchQueue m.start }).modP
      fun p => { p with uid := p.uid + 1 })

/-- A `lnch` reads its launch record at its start cycle (R144). A misaligned parent object reports access kind 7, the record's (log 59). -/
def execLnchStart (k uid : Nat) (s : State) : Host.Outcome State Fault Refusal :=
  match (s.core k).cmd uid with
  | none => .next s
  | some m => match m.kind with
    | .lnch rcd parent =>
      if m.started then .next s
      else if rcd.toNat % 512 ≠ 0 then .next (s.engineFault k m (engTrap 14 akRecord rcd.toNat) true)
      else if parent.toNat % 8 ≠ 0 then .next (s.engineFault k m (engTrap 14 akRecord parent.toNat) true)
      else match s.wordPage k ((s.core k).e.walked.contains uid) rcd.toNat true false false akRecord with
        | (s, .ok ps) =>
          let f : Flight := ⟨0, s.vbytes ps rcd.toNat 512, [], 0, 0, 0, m.land, []⟩
          .next (s.started k { m with flights := [f] } (.ok ps))
        | (s, r) => .next (s.started k m r)
    | _ => .next s

end Sys2Proof.Machine
end

