-- ==== Sys2Proof/Machine/Belfry.lean ====
section
/-! DEFINITION. The belfries: mailboxes, condemnation, the strip fabric and its images (10_cupola.md R250 to R260, 16_package.md
R356, R363, R364; log 28). -/

namespace Sys2Proof.Machine

/-! Mailboxes (R254). -/

def State.boxWord (s : State) (box off : Nat) : Word := BitVec.ofNat 64 (s.mem.value (mailboxBase box + off) 8)

def State.setBoxWord (s : State) (box off : Nat) (v : Word) : State :=
  { s with mem := s.mem.write (mailboxBase box + off) (leBytes v.toNat 8) }

/-- ST of a mailbox: SEQ, REJ and CODE. -/
def State.setSt (s : State) (box seq rej code : Nat) : State :=
  s.setBoxWord box 8 (BitVec.ofNat 64 (seq % 65536 * 2 ^ 48 + rej % 65536 * 2 ^ 32 + code))

/-- The final code of the command a mailbox serves. -/
def State.mailEnd (s : State) (box code : Nat) : State :=
  let st := s.boxWord box 8
  { s.setSt box (field st 48 16) (field st 32 16) code with bel := { s.bel with mail := s.bel.mail.filter (·.1 ≠ box) } }

/-- Writes REPLY words from word `i` on. -/
def State.reply (s : State) (box i : Nat) (ws : List Nat) : State :=
  { s with mem := s.mem.write (mailboxBase box + 0x100 + 8 * i) (ws.flatMap fun w => leBytes w 8) }

/-- The doorbell of a mailbox: refused while the belfry is busy, else accepted with the arguments as they stand (R254, R255). -/
def State.ring (s : State) (box : Nat) (db : Word) (task : Bool) : State :=
  let st := s.boxWord box 8
  if field st 0 8 = 1 then s.setSt box (field st 48 16) (field st 32 16 + 1) 1
  else
    let cmd := field db 0 16
    let s := s.setSt box (field db 48 16) (field st 32 16) 1
    if cmd = 0 ∨ 8 < cmd then s.mailEnd box 6
    else
      let args := (List.range 30).map fun i => s.boxWord box (0x10 + 8 * i)
      let m : MailCmd := ⟨cmd, args, s.wall + 1 + Config.mailCycles s.free, task⟩
      { s with free := s.free + 1, bel := { s.bel with mail := alSet s.bel.mail box m } }

/-- A store of 8 bytes to a mailbox word (R254): read-only words ignore it. -/
def State.mailStore (s : State) (box off : Nat) (v : Word) (task : Bool) : State :=
  if off = 0 then
    let db := v &&& 0xFFFF00000000FFFF#64
    let s := s.setBoxWord box 0 db
    if field db 0 16 = 0 then s else s.ring box db task
  else if 0x10 ≤ off ∧ off < 0x100 then s.setBoxWord box off v
  else s

/-! Which spires are in use (R253). -/

/-- A launch placed on the spire is admitted or runs. -/
def State.spireHeld (s : State) (sp : Nat) : Bool :=
  s.launches.any fun x => (x.2.phase == .admitted || x.2.phase == .running) && x.2.place.any fun y => y.2 == sp

/-- No spire of the package is held. -/
def State.packageIdle (s : State) : Bool :=
  s.launches.all fun x => !(x.2.phase == .admitted || x.2.phase == .running)

/-! Allocation maps (R257). -/

def State.allocMap (s : State) (cup : Nat) : AllocMap := alGet AllocMap.zero s.bel.maps cup

def State.setMap (s : State) (cup : Nat) (m : AllocMap) : State :=
  { s with bel := { s.bel with maps := alSet s.bel.maps cup m } }

/-- FREE of a map. -/
def AllocMap.free (m : AllocMap) : Nat := (m.quanta.filter fun q => q.state == 0).length

/-- The entry word of a quantum. -/
def Quantum.word (q : Quantum) : Nat := q.state % 4 * 2 ^ 62 + q.role % 4 * 2 ^ 60 + q.seq % 4096 * 2 ^ 48 + q.owner % 2 ^ 32

/-- The 3,136 bytes of a map's image. -/
def AllocMap.image (m : AllocMap) : List Byte :=
  leBytes 0x50414D4B 4 ++ leBytes 384 2 ++ leBytes m.free 2 ++ leBytes m.resv 2 ++ List.replicate 54 0 ++
    m.quanta.flatMap fun q => leBytes q.word 8

/-- Gives the lowest `n` free quanta to an owner: the map and the numbers taken, from quantum `i` and sequence number `k` on. -/
def takeQuanta (state role owner : Nat) : Nat → Nat → Nat → List Quantum → List Quantum × List Nat
  | _, _, _, [] => ([], [])
  | i, k, n, q :: r =>
    if n ≠ 0 ∧ q.state = 0 then
      let t := takeQuanta state role owner (i + 1) (k + 1) (n - 1) r
      (⟨state, role, k, owner⟩ :: t.1, i :: t.2)
    else
      let t := takeQuanta state role owner (i + 1) k n r
      (q :: t.1, t.2)

/-- Marks quanta faulty by number. -/
def AllocMap.fault (m : AllocMap) (qs : List Nat) : AllocMap :=
  { m with quanta := ((List.range m.quanta.length).zip m.quanta).map fun (i, q) => if qs.contains i then { q with state := 2 } else q }

/-- Changes the quanta that a test picks. -/
def AllocMap.change (m : AllocMap) (p : Quantum → Bool) (g : Quantum → Quantum) : AllocMap :=
  { m with quanta := m.quanta.map fun q => if p q then g q else q }

/-- Allocates, configures and checks `n` quanta, again while the self-check fails; at least `keep` quanta stay free (R256 steps 2
and 3, R257). The first number is the model's own counter. -/
def allocate (state role owner n keep : Nat) : Nat → Nat → AllocMap → Nat × AllocMap × Option (List Nat)
  | 0, free, m => (free, m, none)
  | fuel + 1, free, m =>
    if m.free < n + keep then (free, m, none)
    else
      let t := takeQuanta state role owner 0 0 n m.quanta
      let m' := { m with quanta := t.1 }
      if Config.selfCheck free then (free + 1, m', some t.2)
      else allocate state role owner n keep fuel (free + 1) (m'.fault t.2)

/-! Images (R260). -/

/-- A strip-fabric image's header fields. -/
structure Image where
  kind : Nat
  target : Nat
  qn : Nat
  /-- Class records: class, LAT, AUX, REP. -/
  cls : List (Nat × (Nat × Nat × Nat))
  out : Nat
  src : Nat
  dst : Nat
  deriving DecidableEq, Repr

/-- Little-endian field of an image. -/
def imgField (bs : List Byte) (off n : Nat) : Nat := leValue ((bs.drop off).take n)

/-- Reads an image's fields. -/
def readImage (bs : List Byte) : Image :=
  { kind := imgField bs 6 2, target := imgField bs 8 2, qn := imgField bs 0xA 2,
    cls := (List.range (min 16 (imgField bs 0xC 2))).map fun i =>
      let w := imgField bs (0x20 + 8 * i) 8
      (w / 2 ^ 56, (w / 2 ^ 44 % 4096, w / 2 ^ 32 % 4096, w / 2 ^ 20 % 4096))
    out := imgField bs 0x18 1 % 16, src := imgField bs 0x19 1, dst := imgField bs 0x1A 1 }

/-- An image that verifies. -/
def imageOk (bs : List Byte) : Bool := imgField bs 0 4 == 0x5342544B && imgField bs 4 2 == 1 && Config.imageVerified bs

/-- The first of the two flash copies that verifies. -/
def goodCopy (x : List Byte × List Byte) : Option Image :=
  if imageOk x.1 then some (readImage x.1) else if imageOk x.2 then some (readImage x.2) else none

/-- The replacement image of a unit type in flash (R256 step 1). -/
def State.imageFor (s : State) (type : Nat) : Option Image :=
  s.bel.flash.findSome? fun x => match goodCopy x.2 with
    | some i => if i.kind = 0 ∧ i.target = type then some i else none
    | none => none

/-- Path classes, whose records hold in every table (R219, R251). -/
def pathClasses : List Nat := [6, 7, 8, 9, 10, 11, 23, 24, 25, 26, 27, 28, 29, 30, 31, 44, 45]

/-- Classes a type's row of R251 names; a format may raise path classes (R259). -/
def rowClasses : Nat → List Nat
  | 0 => [0, 1, 5]
  | 1 => [13]
  | 2 => [14, 17, 18]
  | 3 => [19, 20]
  | 4 => [32, 33, 34, 35, 36, 37, 38, 39, 40, 41, 42]
  | 5 => [22]
  | 6 => [2, 3, 4, 21]
  | _ => pathClasses

/-- The classes of its type's row that a unit's replacement may raise: the stages of a sequencer divide their row by INDEX (R251; log 85). -/
def unitClasses (r : Nat) : List Nat :=
  if ruidType r = 6 then [[], [2, 3], [4], [21]].getD (r % 2 ^ 10) [] else rowClasses (ruidType r)

/-- A table entry raised by a class record, with the limit of R219 on LAT − AUX (R256 step 5). -/
def raiseEntry (cls : Nat) (e : TimeEntry) (r : Nat × Nat × Nat) : TimeEntry :=
  let lat := max e.lat r.1
  let aux := max e.aux r.2.1
  let e0 := tt0.getD cls ⟨0, 0, 0, 0⟩
  let bound := (6 ≤ cls && cls ≤ 11) || cls == 21 || cls == 22 || cls == 40 || cls == 44
  { e with lat := if bound then max lat (aux + (e0.lat - e0.aux)) else lat, aux := aux, rep := max e.rep r.2.2 }

/-- An image that R260 refuses for a spire. -/
def State.imageRefused (s : State) (i : Image) (row spire : Nat) : Bool :=
  i.cls.any fun x =>
    let e := raiseEntry x.1 ((s.spire spire).tt.getD x.1 ⟨0, 0, 0, 0⟩) x.2
    !(rowClasses row).contains x.1 || (x.1 ≤ 22 && (1023 < e.lat || 1023 < e.aux))

/-- Raises one class in a spire's table. -/
def State.raiseIn (s : State) (sp : Nat) (x : Nat × (Nat × Nat × Nat)) : State :=
  let p := s.spire sp
  s.setSpire sp { p with tt := p.tt.set x.1 (raiseEntry x.1 (p.tt.getD x.1 ⟨0, 0, 0, 0⟩) x.2) }

/-- Applies the class records of an image: path classes in every table of the package, others in the spire's (R219, R256). -/
def State.raiseClasses (s : State) (sp : Option Nat) (i : Image) : State :=
  i.cls.foldl (fun s x =>
    if pathClasses.contains x.1 then (List.range 512).foldl (fun s n => s.raiseIn n x) s
    else match sp with
      | some n => s.raiseIn n x
      | none => s) s

/-! Replacement (R256, R258). -/

/-- The repairs of a unit end: every waiting mailbox gets its code. -/
def State.endRepair (s : State) (x : Repair) (code : Nat) : State :=
  let boxes := s.bel.repairs.filterMap fun y => if y.ruid = x.ruid then y.box else none
  boxes.foldl (fun s b => s.mailEnd b code) { s with bel := { s.bel with repairs := s.bel.repairs.filter (·.ruid ≠ x.ruid) } }

/-- A spire is dropped: its quanta are freed, and pending condemnations of its units end (R258). -/
def State.dropSpire (s : State) (sp : Nat) : State :=
  let m := (s.allocMap (sp / 16)).change (fun q => q.state == 1 && q.role ≤ 1 && ruidSpire q.owner == sp) fun _ => Quantum.free
  let s := (s.setMap (sp / 16) m).setSpire sp { s.spire sp with dropped := true }
  (s.bel.repairs.filter fun x => ruidSpire x.ruid == sp).foldl (fun s x => s.endRepair x 4) s

/-- Quanta that were free in one map and have failed a self-check in another: they stay faulty where an installation is refused (R256, R259). -/
def AllocMap.failed (m m' : AllocMap) : AllocMap :=
  m.fault (((List.range 384).zip m'.quanta).filterMap fun (j, q) =>
    if q.state = 2 ∧ (m.quanta.getD j Quantum.free).state = 0 then some j else none)

/-- Steps 2 to 7 of R256 for a unit and an image: its quanta, as many as R251 names, with `keep` left free; false where they do not fit. The
quanta of an earlier replacement are faulty where the unit was condemned again, and are freed by a patch (R253; log 85). -/
def State.switchUnit (s : State) (r : Nat) (i : Image) (role keep : Nat) : State × Bool :=
  let sp := ruidSpire r
  let m0 := s.allocMap (sp / 16)
  let m := m0.change (fun q => q.state == 1 && q.role ≤ 1 && q.owner == r) fun q => if role = 0 then { q with state := 2 } else Quantum.free
  let (free, m, got) := allocate 1 role r (unitQuanta (ruidType r)) keep 385 s.free m
  match got with
  | none => ({ s.setMap (sp / 16) (if role = 0 then m else m0.failed m) with free := free }, false)
  | some qs =>
    let s := { s.setMap (sp / 16) m with free := free }
    let p := s.spire sp
    let s := s.setSpire sp { p with switched := p.switched.filter (· ≠ ruidLocal r) ++ [ruidLocal r] }
    let i := { i with cls := i.cls.filter fun x => (unitClasses r).contains x.1 }
    let s := s.raiseClasses (some sp) i
    let vals := i.cls.map fun x => entryWord x.1 ((s.spire sp).tt.getD x.1 ⟨0, 0, 0, 0⟩)
    ({ s with bel := { s.bel with condemnLog := s.bel.condemnLog ++ [(r, (qs, vals))] } }, true)

/-- Replacement of one condemned unit (R256). -/
def State.repair (s : State) (x : Repair) : State :=
  let r := x.ruid
  let sp := ruidSpire r
  if (s.spire sp).dropped then s.endRepair x 4
  else match s.imageFor (ruidType r) with
    | none => (s.endRepair x 3).dropSpire sp
    | some i =>
      if s.imageRefused i (ruidType r) sp then s.endRepair x 6
      else match s.switchUnit r i 0 0 with
        | (s, false) => (s.endRepair x 4).dropSpire sp
        | (s, true) => (s.setUnit r { s.unit r with condemned := false, awaiting := false }).endRepair x 2

/-- An image changes entries of path classes: the tables of the whole package (R219, R259). -/
def Image.packageWide (i : Image) : Bool := i.cls.any fun x => pathClasses.contains x.1

/-- No launch is on a spire whose table or ports an image changes (R219, R253, R259). -/
def State.unusedFor (s : State) (sp : Nat) (i : Option Image) : Bool :=
  !s.spireHeld sp && ((i.all fun x => !x.packageWide) || s.packageIdle)

/-- The repair a tower's belfry may begin: the lowest RUID whose spire, and every other spire concerned, holds no launch (R219, R253). -/
def State.nextRepair (s : State) (tower : Nat) : Option Repair :=
  (s.bel.repairs.filter fun x => x.ruid / 2 ^ 29 == tower && s.unusedFor (ruidSpire x.ruid) (s.imageFor (ruidType x.ruid))).foldl (fun b x =>
    match b with
    | none => some x
    | some y => if x.ruid < y.ruid then some x else b) none

/-- Between launches a tower's belfry replaces its next condemned unit (R253, R256). -/
def execUnitReplacement (tower : Nat) (s : State) : Host.Outcome State Fault Refusal :=
  match s.nextRepair tower with
  | some x => .next (s.repair x)
  | none => .next s

/-- Condemns a unit, for a mailbox or for the belfry itself. -/
def State.condemnUnit (s : State) (r : Nat) (box : Option Nat) : State :=
  if s.bel.repairs.any (fun x => x.ruid == r && x.box.isNone) then
    { s.setUnit r { s.unit r with condemned := true, awaiting := true } with
      bel := { s.bel with repairs := s.bel.repairs.map fun x => if x.ruid = r ∧ x.box.isNone then { x with box := box } else x } }
  else
    let s := s.setUnit r { s.unit r with condemned := true, awaiting := true }
    { s with bel := { s.bel with repairs := s.bel.repairs ++ [⟨r, box⟩] } }

/-! Commands (R255). -/

/-- Argument `i` of a command. -/
def MailCmd.arg (m : MailCmd) (i : Nat) : Nat := (m.args.getD i 0).toNat

/-- The RUID that argument `i` of a command names (R250). -/
def MailCmd.ruid (m : MailCmd) (i : Nat) : Nat := ruidArg (m.arg i)

/-- The RUID of a unit of the mailbox's tower (R255). -/
def ruidIn (box r : Nat) : Bool := ruidOk r && r / 2 ^ 29 == box / 128

/-- Serves the command of a mailbox: 7 for a task where only the host may send it, 6 where a check fails, else its effect. On the
mailboxes of the I/O dies only READUNIT passes (R255). -/
def mailServe (box cmd : Nat) (host : Bool) (ok : MailCmd → Bool) (go : State → MailCmd → State) (s : State) :
    Host.Outcome State Fault Refusal :=
  match s.bel.mail.find? (·.1 == box) with
  | none => .next s
  | some (_, m) =>
    if m.cmd ≠ cmd ∨ s.wall < m.due then .next s
    else if 512 ≤ box ∧ cmd ≠ 3 then .next (s.mailEnd box 6)
    else if host && m.task then .next (s.mailEnd box 7)
    else if !ok m then .next (s.mailEnd box 6)
    else .next (go s m)

/-- QUERY (R255, R257). -/
def execQuery (box : Nat) (s : State) : Host.Outcome State Fault Refusal :=
  mailServe box 1 false (fun m => m.arg 0 < 8) (fun s m =>
    let cup := box / 128 * 8 + m.arg 0
    ({ s with mem := s.mem.write (mailboxBase box + 0x100) (s.allocMap cup).image }).mailEnd box 2) s

/-- READTT (R217, R255). -/
def execReadtt (box : Nat) (s : State) : Host.Outcome State Fault Refusal :=
  mailServe box 2 false (fun m => ruidIn box (m.ruid 0)) (fun s m =>
    ({ s with mem := s.mem.write (mailboxBase box + 0x100) (ttImage (s.spire (ruidSpire (m.ruid 0))).tt) }).mailEnd box 2) s

/-- READUNIT (R255, R363). -/
def execReadunit (box : Nat) (s : State) : Host.Outcome State Fault Refusal :=
  mailServe box 3 false (fun m => if 512 ≤ box then m.arg 0 < 12 else ruidIn box (m.ruid 0)) (fun s m =>
    if 512 ≤ box then (s.reply box 0 [alGet 0 s.bel.ecc (m.arg 0)]).mailEnd box 2
    else
      let u := s.unit (m.ruid 0)
      let last := u.times.drop (u.times.length - 16)
      let times := (List.range 16).map fun i => (last.getD i 0).toNat
      let ecc := if ruidType (m.ruid 0) = 7 then
        (List.range 4).map fun i => alGet 0 s.bel.ecc (16 + 4 * ruidSpire (m.ruid 0) + i) else []
      (s.reply box 0 ([u.divc, u.injc] ++ times ++ ecc)).mailEnd box 2) s

/-- CONDEMN: the mailbox stays busy until the replacement ends, or the spire is dropped (R255, R258). -/
def execCondemn (box : Nat) (s : State) : Host.Outcome State Fault Refusal :=
  mailServe box 4 true (fun m => ruidIn box (m.ruid 0)) (fun s m =>
    if (s.spire (ruidSpire (m.ruid 0))).dropped then s.mailEnd box 4
    else
      let s := { s with bel := { s.bel with mail := s.bel.mail.filter (·.1 ≠ box) } }
      s.condemnUnit (m.ruid 0) (some box)) s

/-- RUIDs of every replaceable unit of a spire (R251). -/
def unitsOf (sp : Nat) : List Nat :=
  (List.range 8).flatMap fun type =>
    (List.range (if (unitKinds type).2 then 2 else 1)).flatMap fun core =>
      (List.range (unitKinds type).1).map fun i => ruidOf sp type core i

/-- Tests one unit of a spire in a service window: a failing one is condemned, and a failing replacement's quanta are faulty
(R253). -/
def State.testUnit (s : State) (r : Nat) : State :=
  let s' := { s with free := s.free + 1 }
  if Config.unitFails s.free r then
    let cup := ruidSpire r / 16
    let m := (s.allocMap cup).change (fun q => q.state == 1 && q.role ≤ 1 && q.owner == r) fun q => { q with state := 2 }
    (s'.setMap cup m).condemnUnit r none
  else s'

/-- SELFTEST: a service window on an idle spire (R253, R255). -/
def execSelftest (box : Nat) (s : State) : Host.Outcome State Fault Refusal :=
  mailServe box 5 true (fun m => ruidIn box (m.ruid 0) && !s.spireHeld (ruidSpire (m.ruid 0))) (fun s m =>
    if (s.spire (ruidSpire (m.ruid 0))).dropped then s.mailEnd box 4
    else ((unitsOf (ruidSpire (m.ruid 0))).foldl State.testUnit s).mailEnd box 2) s

/-- SETTHR (R252). -/
def execSetthr (box : Nat) (s : State) : Host.Outcome State Fault Refusal :=
  mailServe box 6 true (fun m => m.arg 0 < 8 && 1 ≤ m.arg 1 && m.arg 1 ≤ 255) (fun s m =>
    ({ s with bel := { s.bel with thr := alSet s.bel.thr (box / 128 * 16 + m.arg 0) (m.arg 1, m.arg 2) } }).mailEnd box 2) s

/-- SETRESV (R257). -/
def execSetresv (box : Nat) (s : State) : Host.Outcome State Fault Refusal :=
  mailServe box 8 true (fun m => m.arg 0 < 8 && m.arg 1 ≤ 384) (fun s m =>
    let cup := box / 128 * 8 + m.arg 0
    (s.setMap cup { s.allocMap cup with resv := m.arg 1 }).mailEnd box 2) s

/-! Patches and formats (R259). -/

/-- The image an INSTALL names, from its flash slot. -/
def State.slotImage (s : State) (slot : Nat) : Option Image :=
  match s.bel.flash.find? (·.1 == slot) with
  | some x => goodCopy x.2
  | none => none

/-- An INSTALL may take effect: its spire, or for a format every spire, holds no launch (R259). -/
def State.installReady (s : State) (m : MailCmd) : Bool :=
  match s.slotImage (m.arg 0) with
  | some i => if i.kind = 1 then s.unusedFor (ruidSpire (m.ruid 1)) (some i) else i.kind ≠ 2 || s.packageIdle
  | none => true

/-- Gives a format its quanta in cupolas `cs`; false where one does not fit. -/
def State.decoderQuanta (s : State) (i : Image) : List Nat → State × Bool
  | [] => (s, true)
  | c :: cs =>
    let m := (s.allocMap c).change (fun q => q.state == 3 && q.owner == i.target) fun _ => Quantum.free
    let (free, m, got) := allocate 3 2 i.target i.qn m.resv 385 s.free m
    let s := { s.setMap c m with free := free }
    match got with
    | none => (s, false)
    | some _ => s.decoderQuanta i cs

/-- Installs a format in every cupola or in none (R259). -/
def State.installFormat (s : State) (box : Nat) (i : Image) : State :=
  match s.decoderQuanta i (List.range 32) with
  | (t, true) =>
    let t := t.raiseClasses none i
    ({ t with bel := { t.bel with decoders := alSet t.bel.decoders i.target ⟨i.out, i.src, i.dst⟩ } }).mailEnd box 2
  | (t, false) =>
    let maps := (List.range 32).foldl (fun (s' : State) c => s'.setMap c ((s'.allocMap c).failed (t.allocMap c))) s
    ({ maps with free := t.free }).mailEnd box 5

/-- The unit has been condemned: it waits for its replacement, or the replacement is in service (R259; log 85). -/
def State.hasBeenCondemned (s : State) (r : Nat) : Bool :=
  (s.unit r).condemned || (s.allocMap (ruidSpire r / 16)).quanta.any fun q => q.state == 1 && q.role == 0 && q.owner == r

/-- INSTALL of a patch or a fabric format (R259, R260): code 3 without a verified image, 6 for a bad one, 5 without room. -/
def execInstall (box : Nat) (s : State) : Host.Outcome State Fault Refusal :=
  match s.bel.mail.find? (·.1 == box) with
  | none => .next s
  | some (_, m) =>
    if !(s.installReady m) && decide (box < 512) && !m.task then .next s
    else mailServe box 7 true (fun _ => true) (fun s m =>
      match s.slotImage (m.arg 0) with
      | none => s.mailEnd box 3
      | some i =>
        let r := m.ruid 1
        if i.kind = 1 then
          if !ruidIn box r || i.target ≠ ruidType r || s.hasBeenCondemned r || s.imageRefused i i.target (ruidSpire r) then s.mailEnd box 6
          else if (s.spire (ruidSpire r)).dropped then s.mailEnd box 4
          else match s.switchUnit r i 1 (s.allocMap (ruidSpire r / 16)).resv with
            | (s, true) => s.mailEnd box 2
            | (s, false) => s.mailEnd box 5
        else if i.kind = 2 ∧ 13 ≤ i.target ∧ i.target ≤ 15 ∧ 1 ≤ i.out ∧ i.out ≤ 12 ∧ s.imageRefused i 7 0 = false then
          s.installFormat box i
        else s.mailEnd box 6) s

/-! Accesses of a belfry queue (R294). -/

/-- A write at a window address of physical coordinates. -/
def State.physWrite (s : State) (a : Nat) (bs : List Byte) : State :=
  let tower := a / 2 ^ 37
  let spire := tower * 128 + a / 2 ^ 34 % 8 * 16 + a / 2 ^ 30 % 16
  let unit := a / 2 ^ 26 % 16
  let off := a % 2 ^ 26
  if 6 ≤ tower ∨ unitSize unit < off + bs.length then s
  else if unit = 10 then
    s.mailStore (if 4 ≤ tower then 512 + (tower - 4) else spire) off (BitVec.ofNat 64 (leValue bs)) false
  else match physFlat a bs.length with
    | some f => s.land f bs [] 0
    | none => s

/-- Enrols a key of 2,592 bytes: every registered image is verified again before its next admission (R336). -/
def State.enrolKey (s : State) (slot : Nat) (key : List Byte) : State :=
  if 7 < slot ∨ key.length ≠ 2592 then s
  else { s with bel := { s.bel with keys := alSet s.bel.keys slot key },
                seq := { s.seq with objects := s.seq.objects.map fun o => (o.1, { o.2 with rekeyed := true }) } }

/-- A command of a belfry queue lands in wall time (R294). -/
def execBelfryIssuedAccess (_belfry _queue : Nat) (op : BelfryOp) (s : State) : Host.Outcome State Fault Refusal :=
  match op with
  | .writeWindow a bs => .next (s.physWrite a bs)
  | .writeFrame a bs => .next (if hbmSize < a + bs.length then s else s.landBytes a bs [] false 0)
  | .atomicAdd a width v =>
    .next (if hbmSize < a + width then s else (s.atomicAt a .add (width == 8) v 0).1)
  | .setXinj k mask => .next (s.modCore k fun c => c.modX fun x => { x with xinj := mask.setWidth 64 })
  | .fence _ => .next s
  | .enrolKey slot key => .next (s.enrolKey slot key)
  | .storeImage slot a b => .next { s with bel := { s.bel with flash := alSet s.bel.flash slot (a, b) } }

end Sys2Proof.Machine
end

