-- ==== Sys2Proof/Machine/Vector.lean ====
section
/-! DEFINITION. Vector, permute, predicate and tag instructions of slots VA and VB, with the tag group of CV (06_vector.md R146
to R169). -/

namespace Sys2Proof.Machine

/-- Element width of a type code (R146). -/
def typeWidth : Nat → Nat
  | 1 => 16
  | 2 => 16
  | 3 => 8
  | 4 => 8
  | 5 => 4
  | 8 => 8
  | 9 => 16
  | 12 => 8
  | 13 => 16
  | _ => 32

/-- A vector result of one vector operand, lane by lane, under the writing predicate. -/
def vec1 (cls : Nat) (d a : BitVec 5) (p : BitVec 3) (chk : Bool) (sh : Option Nat) (g : Ctx → LaneW → LaneW) (s : State) :
    Host.Outcome State Fault Refusal :=
  s.syllable fun x =>
    match x.vd d, x.ve 0 a with
    | .error t, _ => .error t
    | _, .error t => .error t
    | .ok (), .ok u => x.vector cls d (maskLanes (x.pr 0 p.toNat) fun l => g x (u.at l)) chk sh [a]

/-- A vector result of two vector operands. -/
def vec2 (cls : Nat) (d a b : BitVec 5) (p : BitVec 3) (chk : Bool) (sh : Option Nat) (g : Ctx → LaneW → LaneW → LaneW) (s : State) :
    Host.Outcome State Fault Refusal :=
  s.syllable fun x =>
    match x.vd d, x.ve 0 a, x.ve 1 b with
    | .error t, _, _ => .error t
    | _, .error t, _ => .error t
    | _, _, .error t => .error t
    | .ok (), .ok u, .ok v => x.vector cls d (maskLanes (x.pr 0 p.toNat) fun l => g x (u.at l) (v.at l)) chk sh [a, b]

/-- A vector result of three vector operands. -/
def vec3 (cls : Nat) (d a b c : BitVec 5) (p : BitVec 3) (chk : Bool) (sh : Option Nat) (g : Ctx → LaneW → LaneW → LaneW → LaneW)
    (s : State) : Host.Outcome State Fault Refusal :=
  s.syllable fun x =>
    match x.vd d, x.ve 0 a, x.ve 1 b, x.ve 2 c with
    | .error t, _, _, _ => .error t
    | _, .error t, _, _ => .error t
    | _, _, .error t, _ => .error t
    | _, _, _, .error t => .error t
    | .ok (), .ok u, .ok v, .ok w =>
      x.vector cls d (maskLanes (x.pr 0 p.toNat) fun l => g x (u.at l) (v.at l) (w.at l)) chk sh [a, b, c]

/-! Integer group (R155 to R157). -/

/-- True for a signed integer type code (R60). -/
def isSigned (t : Nat) : Bool := t < 12

/-- An integer element as its type reads it. -/
def intElem (t v : Nat) : Int := if isSigned t then sElem v (typeWidth t) else v

/-- An integer-group instruction: each element result wraps modulo 2^w (R155). -/
def vint (d a b : BitVec 5) (p : BitVec 3) (t : BitVec 4) (g : Nat → Nat → Nat → Int) (s : State) :=
  vec2 12 d a b p false none (fun _ x y => intEls2 (typeWidth t.toNat) (g (typeWidth t.toNat)) x y) s

def execVadd (d a b : BitVec 5) (p : BitVec 3) (t : BitVec 4) (s : State) := vint d a b p t (fun _ x y => x + y) s
def execVsub (d a b : BitVec 5) (p : BitVec 3) (t : BitVec 4) (s : State) := vint d a b p t (fun _ x y => (x : Int) - y) s
def execVand (d a b : BitVec 5) (p : BitVec 3) (t : BitVec 4) (s : State) := vint d a b p t (fun _ x y => (x &&& y : Nat)) s
def execVor (d a b : BitVec 5) (p : BitVec 3) (t : BitVec 4) (s : State) := vint d a b p t (fun _ x y => (x ||| y : Nat)) s
def execVxor (d a b : BitVec 5) (p : BitVec 3) (t : BitVec 4) (s : State) := vint d a b p t (fun _ x y => (x ^^^ y : Nat)) s
/-- Shift amounts are b[log2(w) − 1 : 0] (R155). -/
def execVshl (d a b : BitVec 5) (p : BitVec 3) (t : BitVec 4) (s : State) :=
  vint d a b p t (fun w x y => (x * 2 ^ (y % w) : Nat)) s
def execVshr (d a b : BitVec 5) (p : BitVec 3) (t : BitVec 4) (s : State) :=
  vint d a b p t (fun w x y => (x / 2 ^ (y % w) : Nat)) s
def execVsra (d a b : BitVec 5) (p : BitVec 3) (t : BitVec 4) (s : State) :=
  vint d a b p t (fun w x y => Int.fdiv (sElem x w) (2 ^ (y % w) : Nat)) s
def execVmin (d a b : BitVec 5) (p : BitVec 3) (t : BitVec 4) (s : State) :=
  vint d a b p t (fun _ x y => if intElem t.toNat x ≤ intElem t.toNat y then x else y) s
def execVmax (d a b : BitVec 5) (p : BitVec 3) (t : BitVec 4) (s : State) :=
  vint d a b p t (fun _ x y => if intElem t.toNat x ≤ intElem t.toNat y then y else x) s
/-- |a|; the most negative value gives itself (R155). -/
def execVabs (d a : BitVec 5) (p : BitVec 3) (t : BitVec 4) (s : State) :=
  vec1 12 d a p false none (fun _ x => mapEls1 (typeWidth t.toNat)
    (fun e => ((sElem e.1 (typeWidth t.toNat)).natAbs % 2 ^ typeWidth t.toNat, 24)) x) s
/-- Low half of the product (R156). -/
def execVmul (d a b : BitVec 5) (p : BitVec 3) (t : BitVec 4) (s : State) :=
  vec2 13 d a b p false none (fun _ x y => intEls2 (typeWidth t.toNat) (fun u v => (u * v : Nat)) x y) s
/-- High half of the product, signed or natural by type (R156). -/
def execVmulh (d a b : BitVec 5) (p : BitVec 3) (t : BitVec 4) (s : State) :=
  vec2 13 d a b p false none (fun _ x y => intEls2 (typeWidth t.toNat)
    (fun u v => Int.fdiv (intElem t.toNat u * intElem t.toNat v) (2 ^ typeWidth t.toNat : Nat)) x y) s
/-- The sum of the signed element products of a lane (R157). -/
def dotLane (w : Nat) (x y : LaneW) : Int :=
  (List.range (32 / w)).foldl (fun n e => n + sElem (elemOf x.w w e) w * sElem (elemOf y.w w e) w) 0
/-- `vmadd`: one INT32 result a lane, wrapped once (R157). -/
def execVmadd (d a b c : BitVec 5) (p : BitVec 3) (t : BitVec 3) (s : State) :=
  vec3 13 d a b c p false none (fun _ x y z =>
    let w := if t = 4 then 8 else if t = 5 then 16 else 32
    ⟨BitVec.ofInt 32 (z.w.toInt + dotLane w x y), 24⟩) s

/-! Floating-point group (R158 to R160). -/

/-- An FP instruction of two operands, checked and compared with the shadow unit where `chk` says so (R151, R158). -/
def vfp2 (d a b : BitVec 5) (p : BitVec 3) (t : BitVec 4) (chk : Bool) (g : Fmt → Rm → El → El → El) (s : State) :=
  vec2 14 d a b p chk (some t.toNat) (fun x u v => mapEls2 (typeWidth t.toNat) (g (fmtOfType t.toNat) x.c.frm) u v) s

/-- The two elements of an operation with their tags as read. -/
def onTv (f : Fmt) (g : TV → TV → El) (u v : El) : El := g (f.tv u.1 u.2) (f.tv v.1 v.2)

def execVfadd (d a b : BitVec 5) (p : BitVec 3) (t : BitVec 4) (s : State) :=
  vfp2 d a b p t true (fun f rm => onTv f (f.addEl rm)) s
def execVfsub (d a b : BitVec 5) (p : BitVec 3) (t : BitVec 4) (s : State) :=
  vfp2 d a b p t true (fun f rm => onTv f (fun u v => f.addEl rm u v.neg)) s
def execVfmul (d a b : BitVec 5) (p : BitVec 3) (t : BitVec 4) (s : State) :=
  vfp2 d a b p t true (fun f rm => onTv f (f.mulEl rm)) s
def execVfmin (d a b : BitVec 5) (p : BitVec 3) (t : BitVec 4) (s : State) :=
  vfp2 d a b p t false (fun f _ => f.minMaxEl false) s
def execVfmax (d a b : BitVec 5) (p : BitVec 3) (t : BitVec 4) (s : State) :=
  vfp2 d a b p t false (fun f _ => f.minMaxEl true) s
def execVfabs (d a : BitVec 5) (p : BitVec 3) (t : BitVec 4) (s : State) :=
  vec1 14 d a p false (some t.toNat) (fun _ u => mapEls1 (typeWidth t.toNat) ((fmtOfType t.toNat).signEl false) u) s
def execVfneg (d a : BitVec 5) (p : BitVec 3) (t : BitVec 4) (s : State) :=
  vec1 14 d a p false (some t.toNat) (fun _ u => mapEls1 (typeWidth t.toNat) ((fmtOfType t.toNat).signEl true) u) s

/-- An FMA form: the product negated, the addend negated (R159). -/
def vfmaForm (negP negC : Bool) (d a b c : BitVec 5) (p : BitVec 3) (t : BitVec 3) (s : State) :=
  vec3 14 d a b c p true (some t.toNat) (fun x u v w =>
    let f := fmtOfType t.toNat
    mapEls3 (typeWidth t.toNat) (fun i j k =>
      let z := f.tv k.1 k.2
      f.fmaEl x.c.frm (f.tv i.1 i.2) (f.tv j.1 j.2) (if negC then z.neg else z) negP) u v w) s

def execVfma (d a b c : BitVec 5) (p : BitVec 3) (t : BitVec 3) (s : State) := vfmaForm false false d a b c p t s
def execVfms (d a b c : BitVec 5) (p : BitVec 3) (t : BitVec 3) (s : State) := vfmaForm false true d a b c p t s
def execVfnma (d a b c : BitVec 5) (p : BitVec 3) (t : BitVec 3) (s : State) := vfmaForm true false d a b c p t s

/-- An approximation of each FP32 lane (R160). -/
def vapprox (fn : Val → Val) (d a : BitVec 5) (p : BitVec 3) (s : State) :=
  vec1 18 d a p true (some 0) (fun x u => mapEls1 32 (approxEl fn x.c.frm) u) s

def execVfrcp (d a : BitVec 5) (p : BitVec 3) (s : State) := vapprox rcpVal d a p s
def execVfrsq (d a : BitVec 5) (p : BitVec 3) (s : State) := vapprox rsqVal d a p s
def execVfexp2 (d a : BitVec 5) (p : BitVec 3) (s : State) := vapprox exp2Val d a p s
def execVflog2 (d a : BitVec 5) (p : BitVec 3) (s : State) := vapprox log2Val d a p s

/-! Compares and classes (R161, R162). -/

/-- A predicate result of two vector operands. -/
def cmp2 (d a b : BitVec 5) (p : BitVec 3) (g : Lane → Lane → Bool) (s : State) : Host.Outcome State Fault Refusal :=
  s.syllable fun x =>
    match x.ve 0 a, x.ve 1 b with
    | .error t, _ => .error t
    | _, .error t => .error t
    | .ok u, .ok v => x.predicate 15 d (laneBits fun l => g (u.at l).w (v.at l).w) (x.pr 0 p.toNat) [a, b]

/-- Conditions 0 to 5 on an order −1, 0 or 1 (R161). -/
def condHolds (f : Nat) (o : Int) : Bool :=
  match f with
  | 0 => o == 0
  | 1 => o != 0
  | 2 => o < 0
  | 3 => o ≤ 0
  | 4 => o > 0
  | _ => o ≥ 0

/-- Order of two integers. -/
def orderOf (a b : Int) : Int := if a < b then -1 else if b < a then 1 else 0

/-- `vcmp`: .i32 signed or .n32 natural (R161). -/
def execVcmp (d a b : BitVec 5) (p : BitVec 3) (t f : BitVec 4) (s : State) :=
  cmp2 d a b p (fun u v => condHolds f.toNat
    (if t = 10 then orderOf u.toInt v.toInt else orderOf u.toNat v.toNat)) s

/-- An FP32 condition: a NaN operand is unordered (R161). -/
def fpCond (f : Nat) (u v : Lane) : Bool :=
  let x := fp32.read u.toNat
  let y := fp32.read v.toNat
  if x.isNan || y.isNan then f == 1 || f == 6 else f ≠ 6 && condHolds f (Val.cmp x y)

def execVfcmp (d a b : BitVec 5) (p : BitVec 3) (f : BitVec 4) (s : State) := cmp2 d a b p (fpCond f.toNat) s

/-- The class mask of R162. -/
def classMask (x : LaneW) : Nat :=
  match fp32.read x.w.toNat with
  | .inf n => if n then 1 else 128
  | .nan => 256
  | .zero n => (if n then 8 else 16) + (if min x.tag 24 < 24 then 512 else 0)
  | .fin n m e =>
    let sub := expOf m e < -126
    if n then (if sub then 4 else 2) else (if sub then 32 else 64)

def execVfclass (d a : BitVec 5) (p : BitVec 3) (s : State) :=
  vec1 12 d a p false none (fun _ u => ⟨BitVec.ofNat 32 (classMask u), 24⟩) s

/-! Selects and permutes (R163 to R166). -/

/-- `vsel`: lane(a) where the selector is 1, lane(b) elsewhere, each with its tag (R163). -/
def execVsel (d a b c : BitVec 5) (p : BitVec 3) (s : State) : Host.Outcome State Fault Refusal :=
  s.syllable fun x =>
    match x.vd d, x.ve 0 a, x.ve 1 b with
    | .error t, _, _ => .error t
    | _, .error t, _ => .error t
    | _, _, .error t => .error t
    | .ok (), .ok u, .ok v =>
      let sel := x.pr 0 c.toNat
      x.vector 12 d (maskLanes (x.pr 1 p.toNat) fun l => if laneOn sel l then u.at l else v.at l) false none [a, b]

/-- `vperm` (R164). -/
def execVperm (d a b : BitVec 5) (p : BitVec 3) (s : State) : Host.Outcome State Fault Refusal :=
  s.syllable fun x =>
    match x.vd d, x.ve 0 a, x.ve 1 b with
    | .error t, _, _ => .error t
    | _, .error t, _ => .error t
    | _, _, .error t => .error t
    | .ok (), .ok u, .ok v =>
      x.vector 16 d (maskLanes (x.pr 0 p.toNat) fun l => u.at ((v.at l).w.toNat % 64)) false none [a, b]

/-- `vslide` by k = min(s(c), 64) toward lane 0 (R165). -/
def execVslide (d a b c : BitVec 5) (p : BitVec 3) (s : State) : Host.Outcome State Fault Refusal :=
  s.syllable fun x =>
    match x.vd d, x.ve 0 a, x.ve 1 b with
    | .error t, _, _ => .error t
    | _, .error t, _ => .error t
    | _, _, .error t => .error t
    | .ok (), .ok u, .ok v =>
      let k := min (x.sc 0 c).toNat 64
      x.vector 16 d (maskLanes (x.pr 0 p.toNat) fun l => if l + k < 64 then u.at (l + k) else v.at (l + k - 64)) false none
        [a, b]

/-- `vrot` by s(c)[5:0] (R165). -/
def execVrot (d a c : BitVec 5) (p : BitVec 3) (s : State) : Host.Outcome State Fault Refusal :=
  s.syllable fun x =>
    match x.vd d, x.ve 0 a with
    | .error t, _ => .error t
    | _, .error t => .error t
    | .ok (), .ok u =>
      let k := (x.sc 0 c).toNat % 64
      x.vector 16 d (maskLanes (x.pr 0 p.toNat) fun l => u.at ((l + k) % 64)) false none [a]

/-- `vbcast` (R166). -/
def execVbcast (d a : BitVec 5) (p : BitVec 3) (s : State) : Host.Outcome State Fault Refusal :=
  s.syllable fun x =>
    match x.vd d with
    | .error t => .error t
    | .ok () => x.vector 16 d (maskLanes (x.pr 0 p.toNat) fun _ => ⟨lo32 (x.sc 0 a), 24⟩) false none []

/-- `vext` (R166). -/
def execVext (d a b : BitVec 5) (s : State) : Host.Outcome State Fault Refusal :=
  s.syllable fun x =>
    match x.ve 0 a with
    | .error t => .error t
    | .ok u => x.scalar 16 d ((u.at ((x.sc 0 b).toNat % 64)).w.setWidth 64) [a]

/-- `vins` reads vD at issue; into a write port every other lane is a zero word with tag 24 (R166). -/
def execVins (d a b : BitVec 5) (s : State) : Host.Outcome State Fault Refusal :=
  s.syllable fun x =>
    match x.vd d, (if isPort d then .ok Vec.zero else x.ve 0 d) with
    | .error t, _ => .error t
    | _, .error t => .error t
    | .ok (), .ok u =>
      let n := (x.sc 1 b).toNat % 64
      x.vector 16 d (maskLanes (BitVec.allOnes 64) fun l => if l = n then ⟨lo32 (x.sc 0 a), 24⟩ else u.at l) false none []

/-! Reductions (R167). -/

/-- A reduction of vA into every active lane; `g` gives the written word of the lanes and the mask. With no active lane nothing lands, in a
port neither (R167): the entry is then one of a register that writes no lane. -/
def reduce (d a : BitVec 5) (p : BitVec 3) (chk : Bool) (sh : Option Nat) (g : Ctx → Vec → BitVec 64 → LaneW) (s : State) :
    Host.Outcome State Fault Refusal :=
  s.syllable fun x =>
    match x.vd d, x.ve 0 a with
    | .error t, _ => .error t
    | _, .error t => .error t
    | .ok (), .ok u =>
      let m := x.pr 0 p.toNat
      x.vector 17 (if m = 0 then 0 else d) (maskLanes m fun _ => g x u m) chk sh [a]

/-- The values of the active lanes. -/
def activeVals (u : Vec) (m : BitVec 64) (rd : Lane → Int) : List Int :=
  (List.range 64).filterMap fun l => if laneOn m l then some (rd (u.at l).w) else none

/-- A lane read as .i32 or .n32. -/
def lane32 (t : BitVec 4) (w : Lane) : Int := if t = 10 then w.toInt else w.toNat

def execVredadd (d a : BitVec 5) (p : BitVec 3) (t : BitVec 4) (s : State) :=
  reduce d a p false none (fun _ u m => ⟨BitVec.ofInt 32 ((activeVals u m (lane32 t)).foldl (· + ·) 0), 24⟩) s
/-- An inactive lane enters as the largest value of the type (R167). -/
def execVredmin (d a : BitVec 5) (p : BitVec 3) (t : BitVec 4) (s : State) :=
  reduce d a p false none (fun _ u m =>
    ⟨BitVec.ofInt 32 ((activeVals u m (lane32 t)).foldl min (intRange (t == 10) 32).2), 24⟩) s
/-- An inactive lane enters as the smallest value of the type (R167). -/
def execVredmax (d a : BitVec 5) (p : BitVec 3) (t : BitVec 4) (s : State) :=
  reduce d a p false none (fun _ u m =>
    ⟨BitVec.ofInt 32 ((activeVals u m (lane32 t)).foldl max (intRange (t == 10) 32).1), 24⟩) s
/-- The pairwise tree of R70 under FRM; an inactive lane enters as +0 with tag 24 (R167). -/
def execVfredadd (d a : BitVec 5) (p : BitVec 3) (s : State) :=
  reduce d a p true (some 0) (fun x u m =>
    let r := redTree x.c.frm ((List.range 64).map fun l => if laneOn m l then ((u.at l).w.toNat, (u.at l).tag) else (0, 24))
    ⟨BitVec.ofNat 32 r.1, r.2⟩) s

/-! Predicates (R168). -/

/-- A predicate of two predicates in the active lanes. -/
def pred2 (d a b : BitVec 5) (p : BitVec 3) (g : BitVec 64 → BitVec 64 → BitVec 64) (s : State) :
    Host.Outcome State Fault Refusal :=
  s.syllable fun x => x.predicate 15 d (g (x.pr 0 a.toNat) (x.pr 1 b.toNat)) (x.pr 2 p.toNat) []

def execPand (d a b : BitVec 5) (p : BitVec 3) (s : State) := pred2 d a b p (· &&& ·) s
def execPor (d a b : BitVec 5) (p : BitVec 3) (s : State) := pred2 d a b p (· ||| ·) s
def execPxor (d a b : BitVec 5) (p : BitVec 3) (s : State) := pred2 d a b p (· ^^^ ·) s
def execPnot (d a : BitVec 5) (p : BitVec 3) (s : State) : Host.Outcome State Fault Refusal :=
  s.syllable fun x => x.predicate 15 d (~~~ x.pr 0 a.toNat) (x.pr 1 p.toNat) []
def execPset (d : BitVec 5) (p : BitVec 3) (s : State) : Host.Outcome State Fault Refusal :=
  s.syllable fun x => x.predicate 15 d (BitVec.allOnes 64) (x.pr 0 p.toNat) []
def execPclr (d : BitVec 5) (p : BitVec 3) (s : State) : Host.Outcome State Fault Refusal :=
  s.syllable fun x => x.predicate 15 d 0 (x.pr 0 p.toNat) []
def execPcnt (d a : BitVec 5) (p : BitVec 3) (s : State) : Host.Outcome State Fault Refusal :=
  s.syllable fun x => x.scalar 15 d (BitVec.ofNat 64 (popFrom (x.pr 0 a.toNat &&& x.pr 1 p.toNat) 64))
/-- The index of the lowest one, or 64 (R168). -/
def execPfirst (d a : BitVec 5) (p : BitVec 3) (s : State) : Host.Outcome State Fault Refusal :=
  s.syllable fun x => x.scalar 15 d (BitVec.ofNat 64 (ctzFrom (x.pr 0 a.toNat &&& x.pr 1 p.toNat) 64 0))

/-! Tags and zero flags (R169): slots VA, VB and CV. -/

/-- `vsig`: the stored tag as a word (R169). -/
def sigForm (d a : BitVec 5) (p : BitVec 3) (s : State) :=
  vec1 12 d a p false none (fun _ u => ⟨BitVec.ofNat 32 u.tag, 24⟩) s
/-- `vsigset`: the tag n clamped to p of the format (R169). -/
def sigsetForm (d a n : BitVec 5) (p : BitVec 3) (t : BitVec 4) (s : State) :=
  vec1 12 d a p false none (fun _ u => ⟨u.w, min n.toNat (tagOfType t.toNat)⟩) s
/-- A predicate of one vector operand. -/
def lanePred (d a : BitVec 5) (p : BitVec 3) (g : LaneW → Bool) (s : State) : Host.Outcome State Fault Refusal :=
  s.syllable fun x =>
    match x.ve 0 a with
    | .error t => .error t
    | .ok u => x.predicate 15 d (laneBits fun l => g (u.at l)) (x.pr 0 p.toNat) [a]
/-- `vsiglt`: stored tag below n (R169). -/
def sigltForm (d a n : BitVec 5) (p : BitVec 3) (s : State) := lanePred d a p (fun u => u.tag < n.toNat) s
/-- `vzmask`: the zero flags (R169). -/
def zmaskForm (d a : BitVec 5) (p : BitVec 3) (s : State) := lanePred d a p LaneW.zflag s
/-- `sigmin`: the least stored tag over active lanes, 31 for none (R169). -/
def sigminForm (d a : BitVec 5) (p : BitVec 3) (s : State) : Host.Outcome State Fault Refusal :=
  s.syllable fun x =>
    match x.ve 0 a with
    | .error t => .error t
    | .ok u =>
      let m := x.pr 0 p.toNat
      x.scalar 17 d (BitVec.ofNat 64 ((List.range 64).foldl (fun n l => if laneOn m l then min n (u.at l).tag else n) 31)) [a]

def execVsig (d a : BitVec 5) (p : BitVec 3) (s : State) := sigForm d a p s
def execVsigset (d a n : BitVec 5) (p : BitVec 3) (t : BitVec 4) (s : State) := sigsetForm d a n p t s
def execVsiglt (d a n : BitVec 5) (p : BitVec 3) (s : State) := sigltForm d a n p s
def execSigmin (d a : BitVec 5) (p : BitVec 3) (s : State) := sigminForm d a p s
def execVzmask (d a : BitVec 5) (p : BitVec 3) (s : State) := zmaskForm d a p s
def execVsigCv (d a : BitVec 5) (p : BitVec 3) (s : State) := sigForm d a p s
def execVsigsetCv (d a n : BitVec 5) (p : BitVec 3) (t : BitVec 4) (s : State) := sigsetForm d a n p t s
def execVsigltCv (d a n : BitVec 5) (p : BitVec 3) (s : State) := sigltForm d a n p s
def execSigminCv (d a : BitVec 5) (p : BitVec 3) (s : State) := sigminForm d a p s
def execVzmaskCv (d a : BitVec 5) (p : BitVec 3) (s : State) := zmaskForm d a p s

end Sys2Proof.Machine
end

