-- ==== Sys2Proof/Machine/Convert.lean ====
section
/-! DEFINITION. Slot CV: conversions, packing, codebook decode and block scaling (06_vector.md R170 to R175). -/

namespace Sys2Proof.Machine

/-- The random word of an RSR conversion: the head of the task's queue at TL0, the handler generator's output at TL ≥ 1
(R48). -/
def Core.rsrWord (c : Core) : BitVec 32 := if c.tl = 0 then c.r.rngQ.headD 0 else c.r.hrng.next.1

/-- The core after the bundle's RSR conversion has taken its word (R48, R66). -/
def Core.rsrPop (c : Core) : Core :=
  if c.tl = 0 then
    c.modR fun r => { r with rngQ := r.rngQ.drop 1 ++ [r.rng.next.1], rng := r.rng.next.2, rngPops := r.rngPops + 1 }
  else c.modR fun r => { r with hrng := r.hrng.next.2 }

/-- The rounding mode of element `e` of lane `l` for a static code (R91, R67). -/
def Ctx.convRm (x : Ctx) (r : BitVec 4) (l e : Nat) : Rm :=
  if r = 4 then .rsr (rngBits x.c.rsrWord l e) else Rm.ofCode r.toNat

/-- Issues a conversion result; code 4 takes a random word, whatever lanes are active (R171). -/
def Ctx.conv (x : Ctx) (d : BitVec 5) (p : BitVec 3) (r : BitVec 4) (chk : Bool) (pops : List (BitVec 5)) (g : Nat → LaneW) :
    Except Trap Core :=
  match x.vector 19 d (maskLanes (x.pr 0 p.toNat) g) chk none pops with
  | .error t => .error t
  | .ok c => .ok (if r = 4 then c.rsrPop else c)

/-- One converted element: source type, destination type, mode (R69, R171). -/
def cvtEl (src dst : Nat) (rm : Rm) (a : El) : El :=
  if src < 8 then
    if dst < 8 then convEl (fmtOfType src) (fmtOfType dst) rm a
    else
      let w := typeWidth dst
      (((fmtOfType src).read a.1).toInt rm (isSigned dst) w % (2 ^ w : Nat) |>.toNat, 24)
  else intToFpEl (fmtOfType dst) rm (intElem src a.1)

/-- `vcvt`: the k_src elements of each lane, the bits above them zero (R170, R171). -/
def execVcvt (d a : BitVec 5) (sr : BitVec 4) (p : BitVec 3) (t r : BitVec 4) (s : State) :
    Host.Outcome State Fault Refusal :=
  s.syllable fun x =>
    match x.vd d, x.ve 0 a with
    | .error e, _ => .error e
    | _, .error e => .error e
    | .ok (), .ok u =>
      let ws := typeWidth sr.toNat
      x.conv d p r (t.toNat < 8) [a] fun l =>
        laneOfEls (typeWidth t.toNat) ((List.range (32 / ws)).map fun e =>
          cvtEl sr.toNat t.toNat (x.convRm r l e) (elemOf (u.at l).w ws e, (u.at l).tag))

/-- Saturation of a signed INT32 to an integer type (R172). -/
def satInt (t : Nat) (i : Int) : Int :=
  let (lo, hi) := intRange (isSigned t) (typeWidth t)
  if i < lo then lo else if hi < i then hi else i

/-- `vpack`: 128 lanes narrowed to dense elements; lanes beyond them hold zero words (R172). -/
def execVpack (d a b : BitVec 5) (p : BitVec 3) (t r : BitVec 4) (s : State) : Host.Outcome State Fault Refusal :=
  s.syllable fun x =>
    match x.vd d, x.ve 0 a, x.ve 1 b with
    | .error e, _, _ => .error e
    | _, .error e, _ => .error e
    | _, _, .error e => .error e
    | .ok (), .ok u, .ok v =>
      let w := typeWidth t.toNat
      let k := 32 / w
      let lane := fun j => if j < 64 then u.at j else v.at (j - 64)
      x.conv d p r (t.toNat < 8) [a, b] fun l =>
        if 128 ≤ l * k then ⟨0, if t.toNat < 8 then (fmtOfType t.toNat).p else 24⟩
        else laneOfEls w ((List.range k).map fun e =>
          let y := lane (l * k + e)
          if t.toNat < 8 then convEl fp32 (fmtOfType t.toNat) (x.convRm r l e) (y.w.toNat, y.tag)
          else ((satInt t.toNat y.w.toInt % (2 ^ w : Nat)).toNat, 24))

/-- Dense element `j` of width `w` with its word's tag (R146). -/
def denseEl (u : Vec) (w j : Nat) : El :=
  let k := 32 / w
  (elemOf (u.at (j / k)).w w (j % k), (u.at (j / k)).tag)

/-- `vunpack`: 64 dense elements widened exactly (R173). -/
def execVunpack (d a : BitVec 5) (p : BitVec 3) (t e : BitVec 4) (s : State) : Host.Outcome State Fault Refusal :=
  s.syllable fun x =>
    match x.vd d, x.ve 0 a with
    | .error e, _ => .error e
    | _, .error e => .error e
    | .ok (), .ok u =>
      let w := typeWidth t.toNat
      x.conv d p 0 (t.toNat < 8) [a] fun l =>
        let y := denseEl u w (64 * e.toNat + l)
        if t.toNat < 8 then
          let f := fmtOfType t.toNat
          let v := f.read y.1
          let r := fp32.round .rne v
          ⟨BitVec.ofNat 32 r.bits, fp32.limit v r (min y.2 f.p)⟩
        else ⟨BitVec.ofInt 32 (intElem t.toNat y.1), 24⟩

/-- Weight `k` of an LQ2 index: the value m/4 with its sign, a zero positive (R61). -/
def lq2Weight (index entry k : Nat) : Val :=
  let h := index % 2
  let sg := index / 2 % 128
  let ones := (List.range 7).foldl (fun n i => n + sg / 2 ^ i % 2) 0
  let neg := if k < 7 then sg / 2 ^ k % 2 == 1 else ones % 2 == 1
  let m := 2 * (entry / 16 ^ k % 16) + h
  if m = 0 then .zero false else .fin neg m (-2)

/-- The codebook entry of an LQ2 index in a physical spire's store (R61, R241). -/
def State.codebook (s : State) (spire index : Nat) : Nat := s.mem.value (codebookBase spire + 4 * (index / 256 % 256)) 4

/-- `vcbdec`: weights of a group of indices, every word with tag 4 (R174). -/
def execVcbdec (d a : BitVec 5) (p : BitVec 3) (t e : BitVec 4) (s : State) : Host.Outcome State Fault Refusal :=
  s.syllable fun x =>
    match x.vd d, x.ve 0 a with
    | .error e, _ => .error e
    | _, .error e => .error e
    | .ok (), .ok u =>
      let f := fmtOfType t.toNat
      let k := 32 / f.width
      let weight := fun g =>
        let i := (denseEl u 16 (g / 8)).1
        (f.round .rne (lq2Weight i (x.s.codebook (x.k / 2) i) (g % 8))).bits
      x.vector 20 d (maskLanes (x.pr 0 p.toNat) fun l =>
        ⟨BitVec.ofNat 32 (packElems f.width ((List.range k).map fun j => weight (64 * k * e.toNat + l * k + j))), 4⟩)
        false none [a]

/-- `vscale`: an E8M0 scale per lane, one rounding (R175). -/
def execVscale (d a b : BitVec 5) (p : BitVec 3) (t r : BitVec 4) (s : State) : Host.Outcome State Fault Refusal :=
  s.syllable fun x =>
    match x.vd d, x.ve 0 a, x.ve 1 b with
    | .error e, _, _ => .error e
    | _, .error e, _ => .error e
    | _, _, .error e => .error e
    | .ok (), .ok u, .ok v =>
      let f := fmtOfType t.toNat
      x.conv d p r true [a, b] fun l =>
        let y := Val.mul (fp32.read (u.at l).w.toNat) (e8m0 ((v.at l).w.toNat % 256))
        let q := f.round (x.convRm r l 0) y
        ⟨BitVec.ofNat 32 q.bits, f.limit y q (min (min (u.at l).tag 24) f.p)⟩

end Sys2Proof.Machine
end

