-- ==== Sys2Proof/Machine/Fabric.lean ====
section
/-! DEFINITION. The scale-up fabric: circuits, streams, frames, retries, skew waits and global time (17_fabric.md R366 to R387). -/

namespace Sys2Proof.Machine

/-! Ports and the timetable (R366 to R372). -/

/-- GTIME units in nine wall cycles, with the slew in force. -/
def State.rate9 (s : State) : Nat := ((gtimeNine : Int) + s.host.slew).toNat

/-- GTIME of the wall cycle `n` cycles from now (R374, R382). -/
def State.gtimeIn (s : State) (n : Nat) : Word := BitVec.ofNat 64 ((s.gtime9 + n * s.rate9) / 9)

/-- Launch frame `n` is granted to the circuit (R370). -/
def Circuit.granted (c : Circuit) (perf n : Nat) : Bool :=
  (n + (perf - c.first % perf)) % perf < (if c.cnt = 0 then 65536 else c.cnt) && n % 16 ≠ 15

/-- The first frame granted at or after `n`. -/
def Circuit.nextFrame (c : Circuit) (perf : Nat) : Nat → Nat → Nat
  | 0, n => n
  | fuel + 1, n => if c.granted perf n then n else c.nextFrame perf fuel (n + 1)

def Circuit.next (c : Circuit) (f : Ftt) (n : Nat) : Nat := c.nextFrame f.perf (f.perf + 16) n

/-- The frame of the `i`-th granted frame from `n` on, counted from 0. -/
def Circuit.frameNo (c : Circuit) (f : Ftt) (n : Nat) : Nat → Nat
  | 0 => c.next f n
  | i + 1 => c.next f (c.frameNo f n i + 1)

/-- Frame of flit `i` of a command whose sequence starts at frame `n` (R370). -/
def Circuit.flitFrame (c : Circuit) (f : Ftt) (n i : Nat) : Nat := c.frameNo f n (i / max 1 c.k)

/-- Position of flit `i` (R370). -/
def Circuit.flitPos (c : Circuit) (i : Nat) : Nat := c.fpos + i % max 1 c.k

/-- A circuit of a launch by its index. -/
def Launch.circuit (l : Launch) (i : Nat) : Option (Ftt × Circuit) :=
  match l.ftt with
  | none => none
  | some f => (f.circuits[i]?).map fun c => (f, c)

/-- F_dom of a launch with a timetable (R373). -/
def Ftt.fdom (f : Ftt) : Nat := f.hopmax + 96

/-- The task's requester number mod 1,024 (R370). -/
def Core.taskNo (c : Core) : Nat := 2 * c.f.task.lsp + c.f.task.half

/-! Issue (R375 to R379). -/

/-- Queue keys of a core's sends, receives and streams. -/
def sendKey (c : Nat) : Nat := c
def recvKey (c : Nat) : Nat := 2 ^ 13 + c
def streamKey (c : Nat) : Nat := 2 ^ 14 + c

/-- The engines after a fabric command is accepted. -/
def Engines.fabIssued (e : Engines) (m : Cmd) (key : Nat) : Engines :=
  { e with cmds := e.cmds ++ [m], fabLast := alSet e.fabLast key m.land, lastLand := e.lastLand.set 4 (max (e.last 4) m.land) }

/-- A fabric command of the syllable: its issue checks give its start frame, landing and queue key. -/
def Ctx.fabIssue (x : Ctx) (dly : Nat) (f : FabArgs) (g : Launch → Nat → Except Trap (Nat × Nat × Nat)) : Except Trap Core :=
  if 1 ≤ x.c.tl then .error (trapProt akOther)
  else
    let start := x.c.clk + dly
    match g (x.s.launchOf x.k) start with
    | .error t => .error t
    | .ok (n0, land, key) =>
      if start < alGet 0 x.c.e.fabLast key ∨ x.c.e.fenced 4 start then .error slipLate
      else
        let m : Cmd :=
          { uid := x.c.p.uid, kind := .fab f, queue := 4, bundle := x.c.f.pc.toNat, slot := x.slot, syll := x.syll,
            issue := x.c.clk, start := start, land := land, started := false, sPos := 0, lPos := 0, flights := [], pages := [],
            regs := [BitVec.ofNat 64 n0] }
        .ok ((x.c.modE fun e => e.fabIssued m key).modP fun p => { p with uid := p.uid + 1 })

/-- `fsend`: a circuit send or a stream transfer (R376 to R378). -/
def execFsend (a b : BitVec 5) (l : BitVec 11) (s : State) : Host.Outcome State Fault Refusal :=
  s.syllable fun x =>
    let w := x.c.engReg 0x18
    let slt := x.c.engReg 0x1A
    let strm := field w 63 1 == 1
    let rel := field w 62 1 == 1
    let nfl := field w 32 16
    let invalid := if rel then !strm || nfl ≠ 0 else nfl == 0 || 16384 < nfl
    let args : FabArgs := ⟨false, 0, x.sc 0 a, x.sc 1 b, w, slt, 0⟩
    if invalid || (!strm && b ≠ 0) then .error (trapIllop x.syll)
    else x.fabIssue l.toNat args fun lch start =>
      if strm then
        let str := field slt 12 6
        if (lch.ftt.map fun f => f.streams.length).getD 0 ≤ str then .error slipFabric
        else .ok (0, start + 8 * (if rel then 1 else nfl), streamKey str)
      else
        let ci := field slt 0 12
        match lch.circuit ci with
        | none => .error slipFabric
        | some (f, c) =>
          let n0 := start / 8
          if c.spkg ≠ f.self ∨ c.stask ≠ x.c.taskNo ∨ start % 8 ≠ 0 ∨ !c.granted f.perf n0 then .error slipFabric
          else .ok (n0, 8 * c.flitFrame f n0 (nfl - 1) + 8, sendKey ci)

/-- A receive at issue (R379). -/
def frecv (op : Nat) (a b : BitVec 5) (l : BitVec 11) (s : State) : Host.Outcome State Fault Refusal :=
  s.syllable fun x =>
    let w := x.c.engReg 0x19
    let skw := x.c.engReg 0x1B
    let nfl := field w 32 16
    let ci := field w 0 12
    let args : FabArgs := ⟨true, op, x.sc 0 a, if op = 0 then 0 else x.sc 1 b, w, 0, skw⟩
    if nfl = 0 ∨ 16384 < nfl ∨ 2048 < field skw 0 12 then .error (trapIllop x.syll)
    else x.fabIssue l.toNat args fun lch start =>
      match lch.circuit ci with
      | none => .error (trapProt akOther)
      | some (f, c) =>
        if c.dpkg ≠ f.self ∨ c.dtask ≠ x.c.taskNo then .error (trapProt akOther)
        else
          let n0 := c.next f (cdiv (start - f.hopmax) 8)
          .ok (n0, 8 * c.flitFrame f n0 (nfl - 1) + f.hopmax + 4, recvKey ci)

def execFrecv (a : BitVec 5) (l : BitVec 11) (s : State) := frecv 0 a 0 l s
def execFrecvAddF32 (a b : BitVec 5) (l : BitVec 11) (s : State) := frecv 1 a b l s
def execFrecvAddBf16 (a b : BitVec 5) (l : BitVec 11) (s : State) := frecv 2 a b l s
def execFrecvMaxF32 (a b : BitVec 5) (l : BitVec 11) (s : State) := frecv 3 a b l s

/-! Start checks (R377, R379). -/

/-- A window range of a fabric command: unit 0 of the issuing spire or unit 8 of the own cupola, 64-byte aligned. -/
def State.fabRange (s : State) (k a n kind : Nat) : Option Trap :=
  match if 2 ^ 40 ≤ a then none else (s.launchOf k).window a 1 with
  | none => some (engTrap 12 kind a)
  | some w =>
    let c := s.core k
    let lsp := c.f.task.lsp
    let ok := (w.unit == 0 && w.own lsp) || (w.unit == 8 && w.tower == lsp / 128 && w.cupola == lsp / 16 % 8)
    let size := if w.unit = 8 then (s.launchOf k).zcup else unitSize w.unit
    if !ok then some (engTrap 12 kind a)
    else if size < w.off + n then some (engTrap 12 kind (a + (size - w.off) : Nat))
    else if kind = akDst ∧ w.unit = 0 ∧ c.inFrames w.off n then
      some (engTrap 12 kind (if w.off < c.frameBase then a + (c.frameBase - w.off) else a : Nat))
    else if a % 64 ≠ 0 then some (engTrap 14 kind a)
    else none

/-- NFL of a fabric command. -/
def FabArgs.nfl (f : FabArgs) : Nat := field f.desc 32 16

/-- True for a stream transfer. -/
def FabArgs.stream (f : FabArgs) : Bool := !f.recv && field f.desc 63 1 == 1

/-- The start checks of a fabric command. -/
def State.fabCheck (s : State) (k : Nat) (f : FabArgs) : Option Trap :=
  let n := 64 * f.nfl
  if f.recv then
    match s.fabRange k f.sa.toNat n akDst with
    | some t => some t
    | none =>
      if f.op = 0 then none
      else match s.fabRange k f.sb.toNat n akSrc with
        | some t => some t
        | none =>
          if f.sa ≠ f.sb ∧ f.sa.toNat < f.sb.toNat + n ∧ f.sb.toNat < f.sa.toNat + n then some (engTrap 12 akDst f.sa.toNat) else none
  else if f.nfl = 0 then none
  else s.fabRange k f.sa.toNat n akSrc

/-- Starts a fabric command or raises its start fault. -/
def State.fabStart (s : State) (k : Nat) (m : Cmd) (f : FabArgs) : State :=
  s.started k m (match s.fabCheck k f with | some t => .fault t | none => .ok [])

/-- The frame number a command keeps: the first of its flit sequence. -/
def Cmd.frame0 (m : Cmd) : Nat := (m.regs.getD 0 0).toNat

/-! Sends (R377, R378). -/

/-- FMT and BLK of the scratchpad granule of a window address, and 64 bytes from it. -/
def State.flitAt (s : State) (k a : Nat) : Flit :=
  match (s.launchOf k).window a 1 with
  | none => ⟨0, 0, 1, List.replicate 64 0⟩
  | some w => ⟨(s.chipFmt w.flat).1, (s.chipFmt w.flat).2, 1, s.bytes w.flat 64⟩

/-- A circuit send starts, samples its next flit at its granted frame, or ends at its landing cycle (R377). -/
def execFlitSample (k uid : Nat) (s : State) : Host.Outcome State Fault Refusal :=
  match (s.core k).cmd uid with
  | none => .next s
  | some m => match m.kind with
    | .fab f =>
      if f.recv || f.stream then .next s
      else if !m.started then .next (s.fabStart k m f)
      else if f.nfl ≤ m.sPos then .next (s.endCmd k m)
      else match (s.launchOf k).circuit (field f.slt 0 12) with
        | none => .next (s.endCmd k m)
        | some (t, c) =>
          let x : TxFlit := ⟨(s.core k).f.task.launch, c.flitFrame t m.frame0 m.sPos, c.flitPos m.sPos,
            s.flitAt k (f.sa.toNat + 64 * m.sPos)⟩
          let inj := (s.core k).inj 6
          let s := s.modPort c.sport fun p => { p with tx := p.tx ++ [x], forced := p.forced || inj }
          let s := if inj then s.modCore k (·.clearInj 6) else s
          .next (s.setCmd k { m with sPos := m.sPos + 1 })
    | _ => .next s

/-- A stream transfer starts, samples its next flit or its release into the bridge port's buffer, or ends (R378). -/
def execStreamFlitSample (k uid : Nat) (s : State) : Host.Outcome State Fault Refusal :=
  match (s.core k).cmd uid with
  | none => .next s
  | some m => match m.kind with
    | .fab f =>
      if f.recv || !f.stream then .next s
      else if !m.started then
        .next (if f.nfl ≠ 0 ∧ f.sb.toNat % 64 ≠ 0 then s.engineFault k m (engTrap 14 akDst f.sb.toNat) true
          else if f.nfl = 0 ∧ f.sb.toNat % 8 ≠ 0 then s.engineFault k m (engTrap 14 akSync f.sb.toNat) true
          else s.fabStart k m f)
      else if max 1 f.nfl ≤ m.sPos then .next (s.endCmd k m)
      else
        let str := field f.slt 12 6
        let port := (((s.launchOf k).ftt.map fun t => t.streams.getD str default).map StreamDef.port).getD 0
        if 1024 ≤ (s.port port).stream.length then
          .next ((s.setCmd k { m with cut := true }).engineFault k m (trapSlip 2) false)
        else
          let rel := f.nfl == 0
          let item : StreamItem := ⟨(s.core k).f.task.launch, str, f.sb.toNat + 64 * m.sPos, rel,
            if rel then [] else (s.flitAt k (f.sa.toNat + 64 * m.sPos)).data⟩
          let s := s.modPort port fun p => { p with stream := p.stream ++ [item] }
          .next (s.setCmd k { m with sPos := m.sPos + 1 })
    | _ => .next s

/-! Receives (R379 to R382). -/

/-- One element of a reduce: the form's type and operation on the received and the local element. -/
def reduceEl (op : Nat) (r l : El) : El :=
  match op with
  | 1 => fp32.addEl .rne (fp32.tv r.1 r.2) (fp32.tv l.1 l.2)
  | 2 => bf16.addEl .rne (bf16.tv r.1 r.2) (bf16.tv l.1 l.2)
  | _ => fp32.minMaxEl true r l

/-- The 64 result bytes of a reduce and the tags of their words (R380). -/
def reduceBytes (op : Nat) (recv loc : List Byte) (ltags : List Nat) : List Byte × List Nat :=
  let w := if op = 2 then 16 else 32
  let p := if op = 2 then 8 else 24
  let els := (List.range (512 / w)).map fun i =>
    let get := fun (bs : List Byte) => leValue ((bs.drop (i * w / 8)).take (w / 8))
    reduceEl op (get recv, p) (get loc, ltags.getD (i * w / 32) p)
  (els.flatMap fun e => leBytes e.1 (w / 8), (List.range 16).map fun i => minTag ((els.drop (i * 32 / w)).take (32 / w)))

/-- Formats a reduce form accepts (R380). -/
def reduceFmt (op f : Nat) : Bool := f == 0 || (if op = 2 then f == 2 else f == 1 || f == 12)

/-- The skew wait of a receive: every component of the launch on the package stops in this cycle (R382). -/
def State.startSkew (s : State) (k uid : Nat) : State :=
  let l := (s.core k).f.task.launch
  let s := s.freeze l (.skew k uid)
  let cores := s.cores.map fun (x : Nat × Core) =>
    if x.2.f.task.launch = l ∧ x.1 ≠ k ∧ (x.2.f.mode ≠ Mode.idle ∧ (x.2.f.mode ≠ Mode.halted ∨ x.2.work = true)) then
      (x.1, (x.2.stopAt s.wall s.gtime).modF fun f => { f with stopped := true }) else x
  { s with cores := cores }

/-- Takes the head of the receive queue at the flit's expected cycle: a flight of the result, or what the head raises (R380). -/
def State.takeFlit (s : State) (k : Nat) (m : Cmd) (f : FabArgs) (c : Circuit) (t : Ftt) : State :=
  let ci := field f.desc 0 12
  let l := (s.core k).f.task.launch
  let q := alGet [] (s.launch l).rq ci
  let n := c.flitFrame t m.frame0 m.sPos
  let pos := c.flitPos m.sPos
  let skew := (s.setCmd k { m with cut := true }).engineFault k m (trapSlip 6) true
  match q with
  | [] => s.startSkew k m.uid
  | h :: rest =>
    if h.frame < n ∨ (h.frame = n ∧ h.pos < pos) then skew
    else if n < h.frame ∨ pos < h.pos then s.startSkew k m.uid
    else
      let dst := f.sa.toNat + 64 * m.sPos
      let src := f.sb.toNat + 64 * m.sPos
      let local_ := s.flitAt k src
      let flat := s.sideFlat k false [] src
      let ltags := if local_.fmt = 12 then (List.range 16).map fun i => clampTag (s.tagAt (flat + 4 * i)) else []
      if f.op ≠ 0 ∧ !(reduceFmt f.op h.flit.fmt && reduceFmt f.op local_.fmt) then
        (s.setCmd k { m with cut := true }).engineFault k m
          (engTrap 16 akSrc (if reduceFmt f.op h.flit.fmt then src else 0 : Nat)) true
      else
        let r := if f.op = 0 then (h.flit.data, []) else reduceBytes f.op h.flit.data local_.data ltags
        let psn := if f.op = 0 then 0 else (s.poisonIn flat 64).1
        let fl : Flight := ⟨dst, r.1, r.2, if f.op = 0 then h.flit.fmt else if f.op = 2 then 2 else 1,
          if f.op = 0 then h.flit.blk else 0, psn, (s.core k).clk + 4, []⟩
        let s := s.modLaunch l fun x => { x with rq := alSet x.rq ci rest }
        s.setCmd k { m with sPos := m.sPos + 1, flights := m.flights ++ [fl] }

/-- Lands the oldest taken flit of a receive (R380); a reduce keeps an FP32+TAG granule (R198). -/
def State.landFlit (s : State) (k : Nat) (m : Cmd) (f : FabArgs) : State :=
  match m.flights with
  | [] => s
  | x :: rest =>
    let flat := s.sideFlat k false [] x.dst
    let x := if f.op ≠ 0 ∧ (s.granule flat).1 = 12 then { x with fmt := 12, blk := (s.granule flat).2 } else x
    let m := { m with flights := rest }
    let s := (s.landFlight k m false x).setCmd k m
    if rest.isEmpty && (f.nfl ≤ m.sPos || m.cut) then s.endCmd k m else s

/-- A receive starts, lands a flit that is due, or takes the next (R379, R380). -/
def execFlitReceive (k uid : Nat) (s : State) : Host.Outcome State Fault Refusal :=
  match (s.core k).cmd uid with
  | none => .next s
  | some m => match m.kind with
    | .fab f =>
      if !f.recv then .next s
      else if !m.started then .next (s.fabStart k m f)
      else if (m.flights.head?.map fun x => decide (x.due ≤ (s.core k).clk)).getD false || f.nfl ≤ m.sPos then
        .next (s.landFlit k m f)
      else match (s.launchOf k).circuit (field f.desc 0 12) with
        | none => .next (s.endCmd k m)
        | some (t, c) => .next (s.takeFlit k m f c t)
    | _ => .next s

/-- The skew waits of a launch: core and command. -/
def Launch.skews (l : Launch) : List (Nat × Nat) :=
  l.causes.filterMap fun | .skew k uid => some (k, uid) | _ => none

/-- The queue of a receive holds neither its flit nor an earlier one (R380). -/
def State.flitLate (s : State) (k : Nat) (m : Cmd) (f : FabArgs) : Bool :=
  match (s.launchOf k).circuit (field f.desc 0 12) with
  | none => false
  | some (t, c) =>
    let n := c.flitFrame t m.frame0 m.sPos
    match alGet [] (s.launchOf k).rq (field f.desc 0 12) with
    | [] => true
    | h :: _ => decide (n < h.frame) || (h.frame == n && decide (c.flitPos m.sPos < h.pos))

/-- The flit that a skew wait awaits stands at the head of its queue (R382). -/
def State.skewMet (s : State) (k uid : Nat) : Bool :=
  match (s.core k).cmd uid with
  | none => true
  | some m => match m.kind with
    | .fab f => match (s.launchOf k).circuit (field f.desc 0 12) with
      | some (t, c) => match alGet [] (s.launchOf k).rq (field f.desc 0 12) with
        | h :: _ => h.frame == c.flitFrame t m.frame0 m.sPos && h.pos == c.flitPos m.sPos
        | [] => false
      | none => true
    | _ => true

/-- The awaited flits have arrived: the thaw is announced for the wall cycle F_dom after the arrival (R382). -/
def execSkewFlitArrival (l : Nat) (s : State) : Host.Outcome State Fault Refusal :=
  let x := s.launch l
  match x.ftt with
  | none => .next s
  | some t =>
    if x.skews = [] ∨ x.thawAt.isSome ∨ !(x.skews.all fun w => s.skewMet w.1 w.2) then .next s
    else
      let g := s.gtimeIn t.fdom
      let s := s.modLaunch l fun x => { x with thawAt := some g }
      .next (if (x.causes.filter Cause.told).all Cause.skewed then s.toPeers l (.thaw g.toNat) else s)

/-- The first cause of another package's freeze ends. -/
def dropRemote : List Cause → List Cause
  | [] => []
  | .remote .. :: r => r
  | c :: r => c :: dropRemote r

/-- Wall cycles since a GTIME that another package announced late. -/
def State.wallSince (s : State) (g : Word) : Nat := (s.gtime9 - 9 * g.toNat) / s.rate9

/-- The launch thaws at the announced GTIME: this package's skew waits end, and for each thaw of another package one freeze of its own
(R374, R382). The slot clock then stands where the initiator's does. -/
def execSkewThaw (l : Nat) (s : State) : Host.Outcome State Fault Refusal :=
  let x := s.launch l
  let x := match x.thawAt with
    | some g => if s.gtime < g then x else
        { x with thawAt := none, causes := x.causes.filter fun c => match c with | .skew _ _ => false | _ => true }
    | none => x
  let now := x.thaws.filter fun g => g ≤ s.gtime
  let x := { x with thaws := x.thaws.filter (fun g => !(g ≤ s.gtime)), causes := now.foldl (fun cs _ => dropRemote cs) x.causes,
                    dbg := x.dbg && (now.foldl (fun cs _ => dropRemote cs) x.causes).any Cause.stops,
                    lclk := x.lclk + (if x.causes = [] then 0 else now.foldl (fun _ g => s.wallSince g) 0) }
  .next (if (s.launch l).thawAt.isNone && (s.launch l).thaws.isEmpty then s else s.setLaunch l x)

/-! Frames (R366 to R368). -/

/-- The launch a port belongs to (R372). -/
def State.portLaunch (s : State) (p : Nat) : Option Nat :=
  (s.launches.find? fun x => (x.2.phase == .running || x.2.phase == .admitted || x.2.phase == .saved) &&
    (match x.2.ftt with
      | some f => f.circuits.any (fun c => (c.spkg == f.self && c.sport == p) || (c.dpkg == f.self && c.dport == p)) ||
          f.streams.any (fun d => d.port == p)
      | none => false)).map Prod.fst

/-- Flits kept for a resend: those of the last 512 frames. -/
def keepSent (l : List TxFlit) : List TxFlit :=
  let newest := l.foldl (fun n x => max n x.frame) 0
  l.filter fun x => newest < x.frame + 512

/-- The flits of one frame by position, empty positions of kind 0. -/
def frameFlits (l : List TxFlit) (kind : Nat) : List Flit :=
  (List.range 6).map fun p => match l.find? (fun x => x.pos == p) with
    | some x => { x.flit with kind := kind }
    | none => ⟨0, 0, 0, List.replicate 64 0⟩

/-- The resends that fit one frame: one for each position. -/
def pickResend (l : List TxFlit) : List TxFlit :=
  (List.range 6).filterMap fun p => l.find? fun x => x.pos == p

/-- The bytes that a frame's CRC covers: FNUM, the descriptors, MSG and the payload (R366). -/
def frameCovered (fr : Frame) : List Byte :=
  leBytes fr.fnum 2 ++ fr.flits.map (fun x => BitVec.ofNat 8 (x.fmt % 16 * 16 + x.blk % 4 * 4 + x.kind % 4)) ++ fr.msg ++ fr.flits.flatMap Flit.data

/-- A frame as it is sent, with its fragment of the message channel and its CRC (R366). -/
def sealFrame (port fnum : Nat) (flits : List Flit) (msg : List Byte) : Frame :=
  let fr : Frame := { port := port, fnum := fnum % 65536, flits := flits, crcOk := true, msg := msg }
  { fr with crc := Config.crc24 (frameCovered fr) }

/-- The 3 bytes of a fragment. -/
def fragBytes (f : List Byte) : List Byte := (f ++ [0, 0, 0]).take 3

/-- The fragment that goes with the next frame: the next one of the message under way, or the first of a retry request or of a message; zeros
where there is none (R366; log 42). -/
def Port.fragment (x : Port) (corr : Nat) : List Byte × Port :=
  match x.frags, x.retries, x.msgs with
  | f :: r, _, _ => (fragBytes f, { x with frags := r })
  | [], n :: r, _ => (fragBytes ((Config.retryFragments n).headD []), { x with retries := r, frags := (Config.retryFragments n).drop 1 })
  | [], [], m :: r => (fragBytes ((Config.fragments corr m).headD []), { x with msgs := r, frags := (Config.fragments corr m).drop 1 })
  | [], [], [] => ([0, 0, 0], x)

/-- The 16 header bytes of a stream packet; R366 names the fields, not their places (log 42). -/
def packetHeader (k : StreamPacket) : List Byte :=
  leBytes k.va 8 ++ leBytes k.seq 4 ++ leBytes k.stream 2 ++ leBytes (if k.release then 1 else 0) 2

/-- The stream items of one packet: a release alone, or up to four flits of one stream at consecutive addresses (R366). -/
def packetItems : List StreamItem → List StreamItem
  | [] => []
  | x :: r =>
    if x.release then [x]
    else x :: ((List.range 3).zip r).foldl (fun (l : List StreamItem) (y : Nat × StreamItem) =>
      if l.length = y.1 ∧ y.2.release = false ∧ y.2.launch = x.launch ∧ y.2.stream = x.stream ∧ y.2.va = x.va + 64 * (y.1 + 1) then l ++ [y.2] else l) []

/-- A bridge port sends its next stream packet (R366, R378). -/
def State.sendPacket (s : State) (p : Nat) : State :=
  let x := s.port p
  match packetItems x.stream with
  | [] => s
  | i :: r =>
    let key := 64 * i.launch + i.stream
    let seq := alGet 0 x.seqs key
    let asid := (((s.launch i.launch).ftt.map fun t => t.streams.getD i.stream default).map StreamDef.asid).getD 0
    let k : StreamPacket := { port := p, stream := i.stream, asid := asid, va := i.va, seq := seq, release := i.release,
                              flits := if i.release then [] else (i :: r).map StreamItem.data }
    s.setPort p { x with stream := x.stream.drop (r.length + 1), seqs := alSet x.seqs key (seq + 1),
                         packet := some { k with crc := Config.crc32 (packetHeader k ++ k.flits.flatten) } }

/-- Resends of the last 512 frames. -/
def keepResent (no : Nat) (l : List (Nat × TxFlit)) : List (Nat × TxFlit) := l.filter fun x => no < x.1 + 512

/-- A port sends its frame: the flits of its launch frame once the slot clock has reached it, none of them in a freeze; resends in a slack frame
or in a frame that a freeze leaves empty; or stream packets on a bridge port (R366 to R368). A fragment of the message channel goes with it. -/
def execFrameSend (p : Nat) (s : State) : Host.Outcome State Fault Refusal :=
  let x := { s.port p with sentAt := s.wall }
  let l := s.launch ((s.portLaunch p).getD 0)
  let no := l.lclk / 8
  let ready := match x.tx.head? with
    | some t => l.causes.isEmpty && decide (t.frame ≤ no)
    | none => false
  if x.stream ≠ [] then .next ((s.setPort p x).sendPacket p)
  else
    let (msg, x) := x.fragment l.corr
    .next (s.setPort p (
      if ready then
        let n := (x.tx.head?.map TxFlit.frame).getD 0
        let now := x.tx.filter fun t => t.frame == n
        let x := { x with tx := x.tx.filter (fun t => t.frame ≠ n), sent := keepSent (x.sent ++ now), out := some (sealFrame p n (frameFlits now 1) msg) }
        if x.forced then { x with forced := false, crcRetries := x.crcRetries + 1, resend := x.resend ++ now } else x
      else if x.resend ≠ [] ∧ (no % 16 = 15 ∨ l.causes ≠ []) then
        let now := pickResend x.resend
        { x with resend := x.resend.filter (fun t => !now.contains t), resent := keepResent no (x.resent ++ now.map fun t => (no, t)),
                 out := some (sealFrame p no (frameFlits now 2) msg) }
      else { x with out := some (sealFrame p no (frameFlits [] 1) msg) }))

/-- The launch frame of an FNUM, the nearest to the slot clock's own frame. -/
def frameOfNum (cur fnum : Nat) : Nat :=
  let top := cur + 32768
  top - (top + 65536 - fnum % 65536) % 65536

/-- Circuits received on a port that hold position `pos` of frame `n`. -/
def Ftt.recvCircuit (f : Ftt) (port n pos : Nat) : Option Nat :=
  (List.range f.circuits.length).find? fun i => match f.circuits[i]? with
    | some c => c.dpkg == f.self && c.dport == port && c.granted f.perf n && c.fpos ≤ pos && pos < c.fpos + c.k
    | none => false

/-- Inserts a flit in the order of the flit sequence. -/
def insertFlit (x : QFlit) : List QFlit → List QFlit
  | [] => [x]
  | y :: r => if x.frame < y.frame ∨ (x.frame = y.frame ∧ x.pos < y.pos) then x :: y :: r else y :: insertFlit x r

/-- Enqueues a received flit; one that meets a full queue is discarded and counted (R381). -/
def State.enqueueFlit (s : State) (port l n pos : Nat) (fl : Flit) : State :=
  match (s.launch l).ftt with
  | none => s
  | some f =>
    match f.recvCircuit port n pos with
    | none => s
    | some ci =>
      let q := alGet [] (s.launch l).rq ci
      let rqd := ((f.circuits[ci]?).map Circuit.rqd).getD 0
      if rqd ≤ q.length then s.modPort port fun p => { p with crcRetries := p.crcRetries + 1 }
      else s.modLaunch l fun x => { x with rq := alSet x.rq ci (insertFlit ⟨n, pos, fl⟩ q) }

/-- Slack exhaustion on a port: a domain-scope freeze with this package as initiator (R368). -/
def State.exhaust (s : State) (port : Nat) : State :=
  if (s.port port).exhausted.isSome then s
  else
    let s := s.modPort port fun p => { p with exhausted := some s.gtime }
    s.launches.foldl (fun s x =>
      if x.2.phase = .running ∧ x.2.ftt.isSome then
        (s.freeze x.1 (.slack port)).toPeers x.1 (.freeze x.2.lclk (x.2.lclk + x.2.stagger) 4)
      else s) s

/-- Ends the freeze of a port's slack exhaustion, on every package (R24, R368). -/
def State.thawSlack (s : State) (port : Nat) : State :=
  let s := s.modPort port fun p => { p with exhausted := none }
  s.launches.foldl (fun s x =>
    if x.2.causes.contains (.slack port) then
      (s.modLaunch x.1 fun l => { l with causes := l.causes.filter (· ≠ .slack port) }).toPeers x.1 (.thaw s.gtime.toNat)
    else s) s

/-- The slack exhaustion of a port whose waiting flits have all been delivered ends (R368). -/
def State.endSlack (s : State) (port : Nat) : State :=
  if (s.port port).waiting ≠ [] ∨ (s.port port).exhausted.isNone then s else s.thawSlack port

/-- A port receives a frame: a failed CRC asks for it again, a good one enqueues its flits (R368, R370, R381). -/
def execFrameReceive (fr : Frame) (s : State) : Host.Outcome State Fault Refusal :=
  match s.portLaunch fr.port with
  | none => .next s
  | some l =>
    let n := frameOfNum ((s.launch l).lclk / 8) fr.fnum
    if !fr.crcOk then
      let occupied := ((List.range 6).zip fr.flits).filter fun x => x.2.kind == 1
      let held := match (s.launch l).ftt with
        | some f => (occupied.filter fun (x : Nat × Flit) => (f.recvCircuit fr.port n x.1).isSome).map fun (x : Nat × Flit) => (n, x.1)
        | none => []
      let s := s.modPort fr.port fun p =>
        { p with crcRetries := p.crcRetries + 1, retries := p.retries ++ [fr.fnum], waiting := p.waiting ++ held.filter fun w => !p.waiting.contains w }
      let again := fr.flits.any fun x => x.kind == 2
      .next (if again || 6 < (s.port fr.port).waiting.length then s.exhaust fr.port else s)
    else
      let s := ((List.range 6).zip fr.flits).foldl (fun s (pos, fl) =>
        if fl.kind = 1 then s.enqueueFlit fr.port l n pos fl
        else if fl.kind = 2 then
          match (s.port fr.port).waiting.find? (fun w => w.2 == pos) with
          | none => s
          | some w => (s.modPort fr.port fun p => { p with waiting := p.waiting.filter (· ≠ w) }).enqueueFlit fr.port l w.1 pos fl
        else s) s
      .next (s.endSlack fr.port)

/-- The sender puts the flits of the named frame up for a resend: those of the launch frame, and those resent under its number (R368). -/
def execRetryRequest (port fnum : Nat) (s : State) : Host.Outcome State Fault Refusal :=
  .next (s.modPort port fun p =>
    let first := p.sent.filter fun t => t.frame % 65536 == fnum % 65536
    let again := (p.resent.filter fun t => t.1 % 65536 == fnum % 65536).map Prod.snd
    { p with resend := p.resend ++ (first ++ again).filter (fun t => !p.resend.contains t), crcRetries := p.crcRetries + 1 })

/-- A waiting flit that has not arrived within HOPMAX + 128 cycles of its send (R368). -/
def State.lateFlit (s : State) (port : Nat) : Bool :=
  match s.portLaunch port with
  | none => false
  | some l => match (s.launch l).ftt with
    | none => false
    | some f => (s.port port).exhausted.isNone &&
        (s.port port).waiting.any fun w => decide (8 * w.1 + f.hopmax + 128 ≤ (s.launch l).lclk)

/-- Slack exhaustion for a flit not delivered in time (R368). -/
def execFlitArrivalTimeout (port : Nat) (s : State) : Host.Outcome State Fault Refusal :=
  .next (if s.lateFlit port then s.exhaust port else s)

/-! Streams at their destination (R378). -/

/-- Lands the flits of a packet in order, or breaks the stream at the first that fails. -/
def State.landStream (s : State) (pkt : StreamPacket) (root : Nat) : Nat → List (List Byte) → State × Option Nat
  | _, [] => (s, none)
  | va, d :: r =>
    match s.walk pkt.asid root va with
    | .error _ => (s, some va)
    | .ok e =>
      let p := e.leaf va
      if !pteW p || !pteOwn p then (s, some va)
      else (s.landBytes (pteFrame p * 4096 + va % 4096) d [] false 0).landStream pkt root (va + 64) r

/-- Writes a link-health record (R386). -/
def State.linkRecord (s : State) (sub port lane low value : Nat) : State :=
  if s.kindOn 0 5 then s.record 0 0 noReq (infoWord 5 sub 0 (port * 2 ^ 38 + lane * 2 ^ 36 + low)) value else s

/-- A destination port lands stream flits and release increments; a failing flit breaks the stream until its launch ends, which a packet with
sequence number 0, the first of another launch, shows (R302, R378; log 42). -/
def execStreamPacketReceive (pkt : StreamPacket) (s : State) : Host.Outcome State Fault Refusal :=
  let s := if pkt.seq = 0 then s.modPort pkt.port fun p => { p with broken := p.broken.filter (· ≠ (pkt.stream, pkt.asid)) } else s
  if (s.port pkt.port).broken.contains (pkt.stream, pkt.asid) then .next s
  else
    let root := alGet 0 s.seq.roots pkt.asid
    match s.landStream pkt root pkt.va (if pkt.release then [] else pkt.flits) with
    | (s, bad) =>
      let bad := match bad with
        | some va => some va
        | none =>
          if !pkt.release then none
          else match s.walk pkt.asid root pkt.va with
            | .ok e => if pteW (e.leaf pkt.va) && (pteOwn (e.leaf pkt.va) || pteCtl (e.leaf pkt.va)) then none else some pkt.va
            | .error _ => some pkt.va
      match bad with
      | some va =>
        .next ((s.modPort pkt.port fun p => { p with broken := p.broken ++ [(pkt.stream, pkt.asid)] }).linkRecord 5 pkt.port 0 pkt.stream va)
      | none =>
        if pkt.release then
          match s.walk pkt.asid root pkt.va with
          | .ok e =>
            let flat := pteFrame (e.leaf pkt.va) * 4096 + pkt.va % 4096
            .next (s.atomicAt flat .add true 1 0).1
          | .error _ => .next s
        else .next s

/-- The host reaches the package: it is powered and its link is up (R365). -/
def State.linkUp (s : State) : Bool := s.host.powered && 4 ≤ s.host.stage

/-! Port training and health (R386, R387). -/

/-- A port is trained (R386). -/
def execPortTrained (port : Nat) (s : State) : Host.Outcome State Fault Refusal :=
  .next ((s.modPort port fun p => { p with trained := true, crcRetries := 0 }).linkRecord 4 port 0 0 0)

/-- A lane measurement breaches a threshold of R387. -/
def laneBad (h : LaneHealth) : Bool :=
  h.eyeWidth < 24 || h.eyeHeight < 8 || 65536 < h.corrected || h.uncorrectable ≠ 0

/-- Seconds of GTIME (R386). -/
def State.secNow (s : State) : Nat := s.gtime.toNat / (65536 * 10 ^ 9)

/-- A second of GTIME has begun whose link health is not recorded. -/
def State.secDue (s : State) : Bool := s.linkUp && decide (s.host.sec < s.secNow)

/-- The measurements of the four lanes of every trained port. -/
def State.lanesNow (s : State) : List LaneHealth :=
  (s.ports.filter fun x => x.2.trained).flatMap fun x => (List.range 4).map fun n =>
    { Config.laneHealth s.free x.1 n with port := x.1, lane := n }

/-- One link-health record per lane in use each second, and one for the first breach of a lane in an hour (R386). -/
def execLinkHealthTick (lanes : List LaneHealth) (s : State) : Host.Outcome State Fault Refusal :=
  if !s.secDue then .next s
  else .next (lanes.foldl (fun s h =>
    let low := min h.eyeWidth 255 * 2 ^ 28 + min h.eyeHeight 255 * 2 ^ 20 + min h.corrected (2 ^ 20 - 1)
    let value := h.uncorrectable % 2 ^ 32 * 2 ^ 32 + (s.port h.port).crcRetries % 2 ^ 32
    let s := s.linkRecord 1 h.port h.lane low value
    let hour := s.gtime.toNat / 65536 / (3600 * 10 ^ 9) + 1
    if laneBad h && alGet 0 (s.port h.port).breach h.lane ≠ hour then
      (s.modPort h.port fun p => { p with breach := alSet p.breach h.lane hour }).linkRecord 2 h.port h.lane low value
    else s) { s with free := s.free + 1, host := { s.host with sec := s.secNow } })

/-! Barrier arrivals and messages of other parts (R373, R374). -/

/-- The running launch of a CORR. -/
def State.byCorr (s : State) (corr : Nat) : Option Nat :=
  (s.launches.find? fun x => x.2.corr == corr && x.2.phase != .ended).map Prod.fst

/-- A domain barrier arrival of a task of another package (R373). -/
def execBarrierArrivalMessage (corr req schc : Nat) (s : State) : Host.Outcome State Fault Refusal :=
  match s.byCorr corr with
  | none => .next s
  | some l => .next (s.modLaunch l fun x => { x with arrs := x.arrs ++ [(req, schc)] })

/-! Global time (R383 to R385). -/

/-- Standing of a clock in the best master clock algorithm: the smaller is better. -/
def better (a b : Nat × Nat × Nat) : Bool :=
  if a.1 ≠ b.1 then a.1 < b.1 else if a.2.1 ≠ b.2.1 then a.2.1 < b.2.1 else a.2.2 < b.2.2

/-- This package's own standing (R383, R385). -/
def State.ownRank (s : State) : Nat × Nat × Nat := (field s.host.ptpcfg 56 8, field s.host.ptpcfg 48 8, Config.packageId)

def rankOf (m : PtpMessage) : Nat × Nat × Nat := (m.prio1, m.prio2, m.clockId)

/-- An offset as PTPSTAT holds it: 32 bits, saturating (R385). -/
def satOfs (i : Int) : Int := max (-(2 ^ 31)) (min (2 ^ 31 - 1) i)

/-- A package that loses its master clears CONV (R384). -/
def State.loseMaster (s : State) : State := { s with host := { s.host with master := none, conv := false, within := 0 } }

/-- A timestamped event message of the package's domain: the best clock heard becomes the master, where it is better than the package's own;
a master that no longer is one is lost (R383). -/
def execPtpEventMessage (m : PtpMessage) (s : State) : Host.Outcome State Fault Refusal :=
  let h := s.host
  if m.domain ≠ field h.ptpcfg 44 4 then .next s
  else
    let known := match h.master with
      | none => true
      | some b => b.clockId == m.clockId || better (rankOf m) (rankOf b)
    if !known then .next s
    else if better (rankOf m) s.ownRank then .next { s with host := { h with master := some m, gm := false, ofs := satOfs m.offset } }
    else .next (if h.master.any fun b => b.clockId == m.clockId then s.loseMaster else s)

/-- Each sync interval GTIME is disciplined: a step before CONV was first reported, a slew after (R383, R384). -/
def execSyncInterval (s : State) : Host.Outcome State Fault Refusal :=
  let h := s.host
  let idx := s.gtime.toNat / 65536 / 7812500
  let ofs : Int := match h.master with | some m => m.offset | none => 0
  let near := ofs.natAbs ≤ 8 * 65536
  let within := if near then h.within + 1 else 0
  let conv := 64 ≤ within
  let slew : Int := if h.master.isSome then max (-52) (min 52 (Config.slew s.free ofs)) else 0
  let step := if h.settled then s.gtime9 else ((s.gtime9 : Int) - 9 * ofs).toNat
  let idx' := if h.settled then idx else step / 9 / 65536 / 7812500
  .next { s with
    gtime9 := step
    free := s.free + 1
    host := { h with gm := h.master.isNone, within := within, conv := conv, settled := h.settled || conv, slew := if h.settled then slew else 0,
                     sync := max idx idx', master := h.master.map fun m => if h.settled then m else { m with offset := 0 } } }

/-- The master is heard no more (R384). -/
def execLossOfMaster (s : State) : Host.Outcome State Fault Refusal := .next s.loseMaster

end Sys2Proof.Machine
end

