-- ==== Sys2Proof/Machine/Matrix.lean ====
section
/-! DEFINITION. The matrix array: commands at issue, their start checks, microprogram routines, and the sampling and landing of
passes, blocks, steps and operand buffers (09_matrix.md R221 to R245). -/

namespace Sys2Proof.Machine

/-! Formats (R221, R222). -/

/-- Element width in bits of a PFMT code; LQ2 weights come 8 to a 16-bit index. -/
def pfmtWidth : Nat → Nat
  | 1 => 32
  | 2 => 16
  | 3 => 16
  | 6 => 4
  | 8 => 16
  | 11 => 1
  | 12 => 32
  | _ => 8

/-- The floating-point format of a PFMT code. -/
def pfmtFmt : Nat → Fmt
  | 2 => bf16
  | 3 => fp16
  | 4 => e4m3
  | 7 => e4m3
  | 5 => e5m2
  | 6 => e2m1
  | _ => fp32

/-- K and pass class of an accepted format pair (R221). -/
def formatPair (bin : Bool) (fa fb : Nat) : Option (Nat × Nat) :=
  let f8 := fun f => f == 4 || f == 5 || f == 7
  if bin then (if fa = 11 ∧ fb = 11 then some (1024, 36) else none)
  else if f8 fa && f8 fb then some (128, 32)
  else if fa = 9 ∧ fb = 9 then some (128, 32)
  else if fa = 2 ∧ fb = 2 then some (64, 33)
  else if fa = 3 ∧ fb = 3 then some (64, 33)
  else if fa = 6 ∧ fb = 6 then some (256, 34)
  else if (fa = 4 ∨ fa = 7) ∧ fb = 8 then some (128, 35)
  else none

/-- The block size of a pair, `none` where its blocks raise FMTMIS (R222). -/
def blockSize (fa ba fb bb : Nat) : Option Nat :=
  if fa = 9 ∨ fa = 11 then (if ba = 0 ∧ bb = 0 then some 32 else none)
  else if fb = 8 then (if (ba = 0 ∨ ba = 2) ∧ (bb = 0 ∨ bb = 2) then some 32 else none)
  else if ba = 0 ∧ bb = 0 then some 32
  else if ba ≠ 0 ∧ bb ≠ 0 ∧ ba ≠ bb then none
  else some (8 * 2 ^ max ba bb)

/-- A scaled operand (R222). -/
def isScaled (f b : Nat) : Bool := f == 7 || f == 8 || b != 0

/-! Descriptors (R225, R226). -/

def dRow16 (w0 : Word) : Nat := field w0 54 1
def dCol (w0 : Word) : Nat := field w0 44 10
def dRot (w0 : Word) : Nat := field w0 40 4
def dBase (w0 : Word) : Nat := field w0 0 40
def dSoff (w1 : Word) : Nat := field w1 44 20
def dTp (w1 : Word) : Nat := field w1 20 24
def dRp (w1 : Word) : Nat := field w1 0 20

/-- Address of row `r`. -/
def rowAddr (w0 w1 : Word) (r : Nat) : Nat := dBase w0 + r % 32 * dRp w1 + r / 32 * dTp w1

/-- Address of the scales of row `r`. -/
def scaleAddr (w0 w1 : Word) (r : Nat) : Nat := dBase w0 + 16 * dSoff w1 + 16 * (r % 32) + 512 * (r / 32)

/-- The operand buffer `i` of a core's spire. -/
def State.obuf (s : State) (k i : Nat) : OpBuf := (s.spire (k / 2)).ob.getD i OpBuf.zero

/-- Format and BLK of an operand, a descriptor's from the granule of row 0 (R224, R226). -/
def State.mxFmt (s : State) (k : Nat) : MxSrc → Nat × Nat
  | .none => (0, 0)
  | .ob i => ((s.obuf k i).fmt, (s.obuf k i).blk)
  | .desc w0 _ => match (s.launchOf k).window (dBase w0) 1 with
    | some w => if isPad w.flat then s.granule w.flat else (0, 0)
    | none => (0, 0)

/-- True where the descriptor's row 0 lies in the cupola scratchpad. -/
def State.mxCup (s : State) (k : Nat) : MxSrc → Bool
  | .desc w0 _ => match (s.launchOf k).window (dBase w0) 1 with
    | some w => w.unit == 8
    | none => false
  | _ => false

/-- A matrix engine fault (R233). -/
def mxTrap (cause a : Nat) : Trap := Trap.mk' cause akLoad (BitVec.ofNat 64 a)

/-- Units and ranges of a descriptor: rows of `bytes` bytes, and 16 scale bytes a row where `scaled` (R226). -/
def State.mxRange (s : State) (k : Nat) (x : MxSrc) (rows bytes : Nat) (near8 dst scaled : Bool) : Option Trap :=
  match x with
  | .desc w0 w1 =>
    let c := s.core k
    let base := dBase w0
    match (s.launchOf k).window base 1 with
    | none => some (mxTrap 12 base)
    | some w =>
      let lsp := c.f.task.lsp
      let ok := (w.unit == 0 && w.own lsp) || (near8 && w.unit == 8 && w.tower == lsp / 128 && w.cupola == lsp / 16 % 8)
      let size := if w.unit = 8 then (s.launchOf k).zcup else unitSize w.unit
      let bad (a n : Nat) : Option Trap :=
        let off := a - base + w.off
        if size ≤ off then some (mxTrap 12 a)
        else if size < off + n then some (mxTrap 12 (a + (size - off)))
        else if dst && w.unit == 0 && c.inFrames off n then some (mxTrap 12 (if off < c.frameBase then a + (c.frameBase - off) else a))
        else none
      if !ok then some (mxTrap 12 base)
      else match (List.range rows).findSome? fun r => bad (rowAddr w0 w1 r) bytes with
        | some t => some t
        | none => if scaled then (List.range rows).findSome? fun r => bad (scaleAddr w0 w1 r) 16 else none
  | _ => none

/-- BASE, RP and TP are multiples of `n` (R226). -/
def mxAlign (x : MxSrc) (n : Nat) : Option Trap :=
  match x with
  | .desc w0 w1 => if dBase w0 % n = 0 ∧ dRp w1 % n = 0 ∧ dTp w1 % n = 0 then none else some (mxTrap 14 (dBase w0))
  | _ => none

/-- Rows that touch granules of different FMT or BLK (R226). -/
def State.mxMixed (s : State) (k : Nat) (x : MxSrc) (rows bytes : Nat) : Option Trap :=
  match x with
  | .desc w0 w1 =>
    match (s.launchOf k).window (dBase w0) 1 with
    | none => none
    | some w =>
      let f := s.granule w.flat
      (List.range rows).findSome? fun r =>
        let a := rowAddr w0 w1 r
        let fl := w.flat + (a - dBase w0)
        (List.range ((fl + bytes - 1) / 4096 - fl / 4096 + 1)).findSome? fun i =>
          if s.granule (fl + i * 4096) = f then none else some (mxTrap 16 a)
  | _ => none

/-! Runs: shapes and timing (R223, R227). -/

/-- Row blocks. -/
def MxRun.mb (r : MxRun) : Nat := cdiv r.m 32
/-- Column blocks. -/
def MxRun.nb (r : MxRun) : Nat := cdiv r.n 32
/-- Rows of row block `i`. -/
def MxRun.rowsIn (r : MxRun) (i : Nat) : Nat := min 32 (r.m - 32 * i)
/-- Columns of column block `i`. -/
def MxRun.colsIn (r : MxRun) (i : Nat) : Nat := min 32 (r.n - 32 * i)
/-- Row block and column block of pass or block `q` (R229). -/
def MxRun.blockOf (r : MxRun) (q : Nat) : Nat × Nat := (q % r.mb, q / r.mb)
/-- Row and column block of step `q` (R236). -/
def MxRun.stepOf (r : MxRun) (q : Nat) : Nat × Nat := (q % r.m, q / r.m)

/-- The timing class of a run (R228). -/
def MxRun.cls (r : MxRun) : Nat :=
  match r.op with
  | 1 => ((formatPair false r.fa r.fb).getD (128, 32)).2
  | 2 => 36
  | 3 => 37
  | 4 => if r.cup then 45 else 38
  | 5 => 39
  | _ => if r.cup then 44 else 40

/-- Width in bits of an `mrd` or `mwr` type (R236). -/
def mrdWidth : Nat → Nat
  | 0 => 32
  | 1 => 16
  | 2 => 16
  | 3 => 8
  | 4 => 8
  | 5 => 4
  | 8 => 8
  | 9 => 16
  | _ => 32

/-- Destination formats an `mrd` of a type accepts beside 0 (R237), or source formats of an `mwr` (R238). -/
def stepFmtOk (read : Bool) (typ f : Nat) : Bool :=
  f == 0 || match typ with
    | 0 => f == 1 || f == 12
    | 1 => f == 2
    | 2 => f == 3
    | 3 => read && (f == 4 || f == 7)
    | 4 => read && f == 5
    | 5 => read && f == 6
    | 8 => read && f == 9
    | _ => false

/-- A pass of the run is mirrored (R234). -/
def MxRun.mirrored (r : MxRun) (q : Nat) : Bool := r.m == 16 || r.chk || r.colsIn (r.blockOf q).2 == 16

/-- The occupancy of a checked run (R229, R235, R236, R239). -/
def State.mxOccupy (s : State) (k : Nat) (r : MxRun) : MxRun :=
  let lat := (s.tt k r.cls).lat
  let per := if r.op ≤ 2 then (if r.chk then 2 * lat else lat) else if r.op = 6 then 1 else lat
  let u := if r.op ≤ 3 then r.mb * r.nb * per else if r.op = 6 then r.n / 4 else r.m * r.nb * per
  { r with per := per, u := u }

/-- The start checks of a run, in the order of R233. The formats are those found now. -/
def State.mxCheck (s : State) (k : Nat) (syll : BitVec 32) (r : MxRun) : Except Trap MxRun :=
  let (fa, ba) := s.mxFmt k r.a
  let (fb, bb) := s.mxFmt k r.b
  let r := { r with fa := fa, ba := ba, fb := fb, bb := bb, cup := 4 ≤ r.op && s.mxCup k r.a }
  let colBad := r.op ≤ 5 && (r.col % 16 != 0 || 1024 < r.col + r.n)
  let bytesB := if r.fb = 8 then 32 else 128
  let stepBytes := r.n * mrdWidth r.typ / 8
  let range : Option Trap := match r.op with
    | 1 | 2 => (s.mxRange k r.a r.m 128 false false (isScaled fa ba)).or (s.mxRange k r.b r.n bytesB false false (isScaled fb bb))
    | 4 => s.mxRange k r.a r.m stepBytes true true false
    | 5 => s.mxRange k r.a r.m stepBytes false false false
    | 6 => s.mxRange k r.a r.n 128 true false (isScaled fa ba)
    | _ => none
  let align : Option Trap := match r.op with
    | 1 | 2 => (mxAlign r.a 64).or (mxAlign r.b (if r.fb = 8 then 32 else 64))
    | 4 | 5 => mxAlign r.a 16
    | 6 => mxAlign r.a 64
    | _ => none
  let fmt : Option Trap := match r.op with
    | 1 | 2 =>
      ((s.mxMixed k r.a r.m 128).or (s.mxMixed k r.b r.n bytesB)).or
        (if (formatPair (r.op == 2) fa fb).isNone || (blockSize fa ba fb bb).isNone then some (mxTrap 16 0) else none)
    | 4 | 5 => (s.mxMixed k r.a r.m stepBytes).or
        (match r.a with
          | .desc w0 _ => if stepFmtOk (r.op == 4) r.typ fa then none else some (mxTrap 16 (dBase w0))
          | _ => none)
    | 6 => s.mxMixed k r.a r.n 128
    | _ => none
  if colBad then .error (trapIllop syll)
  else match (range.or align).or fmt with
    | some t => .error t
    | none => .ok (s.mxOccupy k r)

/-! Commands as runs (R223 to R226, R242 to R245). -/

/-- An MS code as an operand. -/
def srcOf (code : Nat) (d : Word × Word) : MxSrc := if code < 4 then .ob code else .desc d.1 d.2

/-- The operand-buffer limits of R224. -/
def obLimits (op m n a b : Nat) : Bool := op ≤ 2 && 1 ≤ op && ((a < 4 && m == 64) || (b < 4 && 32 < n))

/-- The parameter word a command reads at its start (R223). -/
def Core.param (c : Core) (i : Nat) : Word := c.r.mp.getD i 0

/-- The run of a native command, before its checks. -/
def MxArgs.run (a : MxArgs) (c : Core) : MxRun :=
  let p := c.param a.par
  let acc := a.op ≤ 3
  { op := a.op, m := a.m, n := a.n, acc := a.acc,
    a := if a.op = 3 then .none else srcOf a.a a.ad
    b := if a.op ≤ 2 then srcOf a.b a.bd else .none
    col := if acc then field p 38 10 else dCol a.ad.1
    row16 := if acc then field p 37 1 else dRow16 a.ad.1
    bop := field p 36 1, chk := a.chk, za := a.za, typ := a.typ, scale := a.scale, k := 0, u := 0, per := 1,
    fa := 0, ba := 0, fb := 0, bb := 0, cup := false }

/-- Microword `i` of the core's spire (R242). -/
def State.microword (s : State) (k i : Nat) : Word := BitVec.ofNat 64 (s.mem.value (microBase (k / 2) + 8 * i) 8)

/-- The microwords of a routine from an index to its end word, and the index beyond the store where none ends it (R242). -/
def State.routine (s : State) (k : Nat) : Nat → Nat → List (Nat × Word) × Option Nat
  | 0, i => ([], some i)
  | fuel + 1, i =>
    let w := s.microword k i
    if field w 58 6 = 0 then ([], none)
    else
      let r := s.routine k fuel (i + 1)
      ((i, w) :: r.1, r.2)

/-- A signed 6-bit field. -/
def sField6 (w : Word) (lo : Nat) : Int := (BitVec.ofNat 6 (field w lo 6)).toInt

/-- An MS code of a microword that names a descriptor pair (R243). -/
def microDesc (code : Nat) : Bool := 16 ≤ code && code ≤ 20

/-- The pair an MS code of a microword names. -/
def Core.microPair (c : Core) (code : Nat) (sx sy : Word) : Word × Word :=
  if code = 20 then (sx, sy) else (c.param (2 * (code - 16)), c.param (2 * (code - 16) + 1))

/-- A microword as the arguments of its native command, `none` where a field is invalid (R243). -/
def Core.microArgs (c : Core) (w sx sy : Word) : Option MxArgs :=
  let hi : BitVec 32 := (w >>> 32).setWidth 32
  let pair := fun (x : BitVec 5) => c.microPair x.toNat sx sy
  let src := fun (x : BitVec 5) => x.toNat < 4 || microDesc x.toNat
  let adv := fun (x : BitVec 5) (lo : Nat) => 16 ≤ x.toNat || field w lo 6 == 0
  let base (op m n acc : Nat) : MxArgs := ⟨op, m, n, acc, 0, (0, 0), 0, (0, 0), false, false, 0, 0, 0⟩
  let go : Option MxArgs := match decodeMx hi with
    | some (.mma m n acc a b z0 z1 p) =>
      if src a && src b && adv a 18 && adv b 12 then
        some { base 1 (16 * 2 ^ m.toNat) (16 * n.toNat) acc.toNat with
          a := a.toNat, ad := pair a, b := b.toNat, bd := pair b, chk := z0 == 1, za := z1 == 1, par := p.toNat }
      else none
    | some (.mmaBin m n acc a b z0 z1 p) =>
      if src a && src b && adv a 18 && adv b 12 then
        some { base 2 (16 * 2 ^ m.toNat) (16 * n.toNat) acc.toNat with
          a := a.toNat, ad := pair a, b := b.toNat, bd := pair b, chk := z0 == 1, za := z1 == 1, par := p.toNat }
      else none
    | some (.mzero m n acc) => some (base 3 (16 * 2 ^ m.toNat) (16 * n.toNat) acc.toNat)
    | some (.mrd m n acc a b t) =>
      if microDesc a.toNat && b.toNat ≤ 2 then
        some { base 4 (16 * 2 ^ m.toNat) (16 * n.toNat) acc.toNat with
          a := a.toNat, ad := pair a, typ := t.toNat,
          scale := if b = 0 then 0x3F800000#64 else if b = 1 then sx else sy }
      else none
    | some (.mwr m n acc a t) =>
      if microDesc a.toNat then
        some { base 5 (16 * 2 ^ m.toNat) (16 * n.toNat) acc.toNat with a := a.toNat, ad := pair a, typ := t.toNat }
      else none
    | some (.mld n i a) =>
      if microDesc a.toNat then some { base 6 32 (16 * n.toNat) i.toNat with a := a.toNat, ad := pair a } else none
    | _ => none
  let wf := match decodeMx hi with | some i => i.wellFormed | none => false
  if !wf || field w 0 6 ≠ 0 then none
  else match go with
    | some a => if obLimits a.op a.m a.n a.a a.b then none else some a
    | none => none

/-- BASE advanced by run `r` of a step. -/
def advance (d : Word × Word) (adv : Int) (r : Nat) : Word × Word :=
  (setField d.1 0 40 (((dBase d.1 : Int) + r * 128 * adv) % (2 ^ 40 : Nat)).toNat, d.2)

/-- The runs of one microword (R244). A COL that leaves the accumulator's columns fails R223's check. -/
def MxArgs.stepRuns (a : MxArgs) (c : Core) (w : Word) : List MxRun :=
  (List.range (field w 24 8 + 1)).map fun r =>
    let run := ({ a with ad := advance a.ad (sField6 w 18) r, bd := advance a.bd (sField6 w 12) r } : MxArgs).run c
    let col : Int := run.col + r * 16 * sField6 w 6
    { run with col := if col < 0 then 2 ^ 16 else col.toNat }

/-- Checks runs in order and gives each its first array cycle from `k0` (R244, R245). -/
def State.mxRuns (s : State) (k : Nat) (syll : BitVec 32) : Nat → List MxRun → Except Trap (List MxRun)
  | _, [] => .ok []
  | k0, r :: rest =>
    match s.mxCheck k syll r with
    | .error t => .error t
    | .ok r =>
      match s.mxRuns k syll (k0 + r.u) rest with
      | .ok l => .ok ({ r with k := k0 } :: l)
      | .error t => .error t

/-- The runs a matrix command starts with, or the fault of its start (R233, R245). `ad` of an `mcall` holds sx and sy, and
`par` its routine. -/
def State.mxPlan (s : State) (k : Nat) (syll : BitVec 32) (a : MxArgs) : Except Trap (List MxRun) :=
  let c := s.core k
  if a.op ≠ 7 then s.mxRuns k syll 0 [a.run c]
  else
    let start := field (s.microword k a.par) 0 12
    let illop (i : Nat) : Trap := Trap.mk' 1 0 (BitVec.ofNat 64 i)
    if start < 256 then .error (illop a.par)
    else
      let ws := s.routine k (4096 - start) start
      match ((ws.1.find? fun x => (c.microArgs x.2 a.ad.1 a.ad.2).isNone).map Prod.fst).or ws.2 with
      | some i => .error (illop i)
      | none =>
        s.mxRuns k syll (s.tt k 42).lat (ws.1.flatMap fun x =>
          match c.microArgs x.2 a.ad.1 a.ad.2 with
          | some m => m.stepRuns c x.2
          | none => [])

/-- Array cycles of a plan. -/
def mxTotal (runs : List MxRun) (lead : Nat) : Nat := (runs.getLast?.map fun r => r.k + r.u).getD lead

/-! Array cycles (R193, R227). -/

/-- The window length W of AMODE 2. -/
def Core.mxWindow (c : Core) : Nat := 8 * 2 ^ c.awin

/-- τ(k) in the core's clock for a command that starts at `start` with SCHC `schc`. -/
def Core.tau (c : Core) (start schc k : Nat) : Nat :=
  if c.amode = 2 then start + k + (schc % c.mxWindow + k) / c.mxWindow * c.mxWindow else start + k

/-- τ(k) of an issued command, which keeps the SCHC of its issue, with STE and STHR then (R77). -/
def Cmd.tau (m : Cmd) (c : Core) (k : Nat) : Nat := c.tau m.start ((m.regs.getD 0 0).toNat + 1) k

/-- Array cycles of an issued command: as started, or as it would start now. -/
def State.mxCycles (s : State) (k : Nat) (m : Cmd) : Nat :=
  match m.kind with
  | .mx a =>
    if m.started then mxTotal m.runs 0
    else match s.mxPlan k m.syll a with
      | .ok runs => mxTotal runs (s.tt k 42).lat
      | .error _ => 0
  | _ => 0

/-- The array would be active for `m` of core `k` in a cycle in which a command of the other core is active (R193). -/
def State.mxClash (s : State) (k : Nat) (m : Cmd) : Bool :=
  let o := k / 2 * 2 + (1 - k % 2)
  let c := s.core k
  let oc := s.core o
  let others := (oc.e.cmds.filter (·.queue == 2)).flatMap fun x => (List.range (s.mxCycles o x)).map (x.tau oc)
  (List.range (s.mxCycles k m)).any fun i => others.contains (m.tau c i)

/-! Issue. -/

/-- A matrix command at issue: ILLOP, PROT at TL ≥ 1, then the slips of R227 and R193. -/
def Ctx.mxIssue (x : Ctx) (bad : Bool) (a : MxArgs) : Except Trap Core :=
  let c := x.c
  let start := c.clk + 1
  let schc := c.x.schc.toNat + 1
  let m : Cmd :=
    { uid := c.p.uid, kind := .mx a, queue := 2, bundle := c.f.pc.toNat, slot := x.slot, syll := x.syll, issue := c.clk,
      start := start, land := start, started := false, sPos := 0, lPos := 0, flights := [], pages := [], regs := [c.x.schc, BitVec.ofNat 64 ((if c.ste then 1 else 0) + 2 * c.sthr)] }
  if bad then .error (trapIllop x.syll)
  else if 1 ≤ c.tl then .error (trapProt akOther)
  else if c.amode ≠ 2 ∧ c.half ≠ c.amode then .error slipWindow
  else if c.amode = 2 ∧ schc / c.mxWindow % 2 ≠ c.half then .error slipWindow
  else if start < c.e.mxRelease ∨ c.e.fenced 2 start then .error slipLate
  else if c.amode = 2 ∧ x.s.mxClash x.k m then .error slipWindow
  else .ok ((c.modE fun e => { e with cmds := e.cmds ++ [m] }).modP fun p => { p with uid := p.uid + 1 })

/-- The scalars of an MS operand that names a pair, from scalar operand `i` on (R225). -/
def Ctx.pair (x : Ctx) (i : Nat) (code : BitVec 5) : Word × Word :=
  if 16 ≤ code.toNat then
    (x.sc i (BitVec.ofNat 5 (2 * (code.toNat - 16))), x.sc (i + 1) (BitVec.ofNat 5 (2 * (code.toNat - 16) + 1)))
  else (0, 0)

/-- `mma` and `mma.bin` (R229, R232). -/
def mmaCmd (op : Nat) (m : BitVec 2) (n : BitVec 6) (c : BitVec 3) (a b : BitVec 5) (z0 z1 : BitVec 1) (p : BitVec 3) (s : State) :
    Host.Outcome State Fault Refusal :=
  s.syllable fun x =>
    let mm := 16 * 2 ^ m.toNat
    let nn := 16 * n.toNat
    let bad := !(shapeOk m n c && msOk a && msOk b) || obLimits op mm nn a.toNat b.toNat
    x.mxIssue bad ⟨op, mm, nn, c.toNat, a.toNat, x.pair 0 a, b.toNat, x.pair (if 16 ≤ a.toNat then 2 else 0) b, z0 == 1, z1 == 1,
      p.toNat, 0, 0⟩

def execMma (m : BitVec 2) (n : BitVec 6) (c : BitVec 3) (a b : BitVec 5) (z0 z1 : BitVec 1) (p : BitVec 3) (s : State) :=
  mmaCmd 1 m n c a b z0 z1 p s
def execMmaBin (m : BitVec 2) (n : BitVec 6) (c : BitVec 3) (a b : BitVec 5) (z0 z1 : BitVec 1) (p : BitVec 3) (s : State) :=
  mmaCmd 2 m n c a b z0 z1 p s

/-- `mzero` (R235). -/
def execMzero (m : BitVec 2) (n : BitVec 6) (c : BitVec 3) (s : State) : Host.Outcome State Fault Refusal :=
  s.syllable fun x => x.mxIssue (!shapeOk m n c) ⟨3, 16 * 2 ^ m.toNat, 16 * n.toNat, c.toNat, 0, (0, 0), 0, (0, 0), false, false, 0, 0, 0⟩

/-- `mrd` (R236). -/
def execMrd (m : BitVec 2) (n : BitVec 6) (c : BitVec 3) (a b : BitVec 5) (t : BitVec 4) (s : State) :
    Host.Outcome State Fault Refusal :=
  s.syllable fun x => x.mxIssue (!(shapeOk m n c && descOk a && mrdType t))
    ⟨4, 16 * 2 ^ m.toNat, 16 * n.toNat, c.toNat, a.toNat, x.pair 0 a, 0, (0, 0), false, false, 0, t.toNat,
      x.sc (if 16 ≤ a.toNat then 2 else 0) b⟩

/-- `mwr` (R238). -/
def execMwr (m : BitVec 2) (n : BitVec 6) (c : BitVec 3) (a : BitVec 5) (t : BitVec 4) (s : State) :
    Host.Outcome State Fault Refusal :=
  s.syllable fun x => x.mxIssue (!(shapeOk m n c && descOk a && mwrType t))
    ⟨5, 16 * 2 ^ m.toNat, 16 * n.toNat, c.toNat, a.toNat, x.pair 0 a, 0, (0, 0), false, false, 0, t.toNat, 0⟩

/-- `mld` (R239). -/
def execMld (n : BitVec 6) (i : BitVec 2) (a : BitVec 5) (s : State) : Host.Outcome State Fault Refusal :=
  s.syllable fun x => x.mxIssue (!((n.toNat == 1 || n.toNat == 2) && descOk a))
    ⟨6, 32, 16 * n.toNat, i.toNat, a.toNat, x.pair 0 a, 0, (0, 0), false, false, 0, 0, 0⟩

/-- `mcall` (R244). -/
def execMcall (d a : BitVec 5) (i : BitVec 8) (s : State) : Host.Outcome State Fault Refusal :=
  s.syllable fun x => x.mxIssue false ⟨7, 0, 0, 0, 20, (x.sc 0 d, x.sc 1 a), 0, (0, 0), false, false, i.toNat, 0, 0⟩

/-! Starts. -/

/-- Drain DR of pass `q` (R231). -/
def State.mxDrain (s : State) (k : Nat) (r : MxRun) (q : Nat) : Nat :=
  (s.tt k r.cls).aux + (if r.mirrored q then (s.tt k 41).aux else 0)

/-- Cycle of the next sample of a run, for a landing that no fault has withdrawn (R233). -/
def State.mxSampleAt (s : State) (k : Nat) (m : Cmd) (r : MxRun) : Option Nat :=
  let t := m.tau (s.core k)
  match r.op with
  | 1 | 2 => if r.s < r.u ∧ r.s / r.per < r.lim then some (t (r.k + r.s)) else none
  | 4 | 5 => if r.s * r.per < r.u ∧ r.s < r.lim then some (t (r.k + r.s * r.per)) else none
  | 6 => if r.s < r.u ∧ 0 < r.lim then some (t (r.k + r.s) + (s.tt k r.cls).aux) else none
  | _ => none

/-- Cycle of landing `l` of a run (R231, R235 to R239). -/
def State.mxLandTime (s : State) (k : Nat) (m : Cmd) (r : MxRun) (l : Nat) : Nat :=
  let t := m.tau (s.core k)
  let e := s.tt k r.cls
  match r.op with
  | 1 | 2 => t (r.k + l * r.per + r.per - 1) + 1 + s.mxDrain k r l
  | 3 => t (r.k + l * r.per) + 1 + e.aux
  | 4 | 5 => t (r.k + l * r.per) + e.aux
  | _ => t (r.k + r.u - 1) + 1 + e.lat

/-- Landings of a run. -/
def MxRun.landings (r : MxRun) : Nat :=
  min r.lim (if r.op ≤ 3 then r.mb * r.nb else if r.op = 6 then 1 else r.m * r.nb)

/-- Cycle of the next landing of a run. -/
def State.mxLandAt (s : State) (k : Nat) (m : Cmd) (r : MxRun) : Option Nat :=
  if r.l < r.landings then some (s.mxLandTime k m r r.l) else none

/-- Starts a matrix command: its checks, its runs, its release and its last landing (R227, R233, R244). -/
def State.mxStart (s : State) (k : Nat) (m : Cmd) (a : MxArgs) : State :=
  match s.mxPlan k m.syll a with
  | .error t => s.engineFault k m t true
  | .ok runs =>
    let c := s.core k
    let total := mxTotal runs (s.tt k 42).lat
    let last := runs.foldl (fun n r => max n (s.mxLandTime k m r (r.landings - 1))) (m.start + 1)
    let m := { m with started := true, runs := runs, land := last }
    let s := s.setCore k ((c.setCmd m).modE fun e =>
      { e with mxRelease := m.tau c (total - 1) + 1, lastLand := e.lastLand.set 2 (max (e.last 2) last) })
    let s := s.engineRecord k 6 m.slot 2 0 m.bundle m.syll
    if runs = [] then s.endCmd k m else s

/-- A native matrix command makes its start checks (R233). -/
def execMatrixCommandStart (k uid : Nat) (s : State) : Host.Outcome State Fault Refusal :=
  match (s.core k).cmd uid with
  | none => .next s
  | some m => match m.kind with
    | .mx a => if m.started then .next s else .next (s.mxStart k m a)
    | _ => .next s

/-- An `mcall` samples and checks its routine (R244, R245). -/
def execMcallStart (k uid : Nat) (s : State) : Host.Outcome State Fault Refusal :=
  match (s.core k).cmd uid with
  | none => .next s
  | some m => match m.kind with
    | .mx a => if m.started then .next s else .next (s.mxStart k m a)
    | _ => .next s

/-! Runs in progress. -/

/-- The run, among those the filter takes, whose time is earliest. -/
def firstRun (m : Cmd) (p : MxRun → Bool) (t : MxRun → Option Nat) : Option (Nat × MxRun) :=
  ((List.range m.runs.length).zip m.runs).foldl (fun best x =>
    if !p x.2 then best
    else match t x.2, best with
      | none, b => b
      | some _, none => some x
      | some n, some b => if (t b.2).all (fun o => decide (n < o)) then some x else some b) none

def Cmd.setRun (m : Cmd) (j : Nat) (r : MxRun) : Cmd := { m with runs := m.runs.set j r }

/-- Window address of byte `off` of the accumulator memory of a core's spire. -/
def State.accWin (s : State) (k off : Nat) : Nat := windowOf (s.core k).f.task.lsp (2 ^ 26 + off)

/-- Accumulator offset of row `row` and column `col` of a run's output (R45, R223). -/
def MxRun.accOff (r : MxRun) (row col : Nat) : Nat :=
  let tile := r.acc + (if r.m = 64 then row / 32 else 0)
  let line := (if r.m = 16 then 16 * r.row16 else 0) + row % 32
  tile * 131072 + line * 4096 + 4 * (r.col + col)

/-- Accumulator word at an offset. -/
def State.accWord (s : State) (k off : Nat) : LaneW :=
  let f := accBase (k / 2) + off
  ⟨BitVec.ofNat 32 (leValue (s.bytes f 4)), clampTag (s.tagAt f)⟩

/-- Bytes at a window address with the poison found: sub-cause and window address. -/
def State.mxRead (s : State) (k a n : Nat) : List Byte × (Nat × Nat) :=
  match (s.launchOf k).window a 1 with
  | none => (List.replicate n 0, (0, 0))
  | some w =>
    let p := s.poisonIn w.flat n
    (s.bytes w.flat n, if p.1 = 0 then (0, 0) else (p.1, a + (p.2 - w.flat)))

/-- The first of two poisons. -/
def firstPoison (a b : Nat × Nat) : Nat × Nat := if a.1 ≠ 0 then a else b

/-- Slot of index `x` of an operand in a pass of `per` array cycles (R230). -/
def mxSlot (rot x per : Nat) : Nat := (x + 2 * rot) % 32 * per / 32

/-- ROT of an operand. -/
def MxSrc.rot : MxSrc → Nat
  | .desc w0 _ => dRot w0
  | _ => 0

/-- Samples row `g` of an operand: `bytes` bytes, its scales, and for LQ2 its codebook entries (R224, R226, R230). -/
def State.mxRow (s : State) (k : Nat) (x : MxSrc) (fmt blk g bytes : Nat) : List Byte × List Byte × List Nat × (Nat × Nat) :=
  let (data, scales, psn) := match x with
    | .ob i => (((s.obuf k i).rows.getD g []).take bytes, (s.obuf k i).scales.getD g [], ((0, 0) : Nat × Nat))
    | .desc w0 w1 =>
      let d := s.mxRead k (rowAddr w0 w1 g) bytes
      let sc := if isScaled fmt blk then s.mxRead k (scaleAddr w0 w1 g) 16 else ([], (0, 0))
      (d.1, sc.1, firstPoison d.2 sc.2)
    | .none => ([], [], (0, 0))
  if fmt = 8 then
    let idx := (List.range 16).map fun i => leValue ((data.drop (2 * i)).take 2)
    let cbp := idx.findSome? fun i =>
      let off := 4 * (i / 256 % 256)
      let p := s.poisonIn (codebookBase (k / 2) + off) 4
      if p.1 = 0 then none else some (p.1, windowOf (s.core k).f.task.lsp (6 * 2 ^ 26 + off))
    (data, scales, idx.map (s.codebook (k / 2)), firstPoison psn (cbp.getD (0, 0)))
  else (data, scales, [], psn)

/-- The window ranges of row `g` of a descriptor operand with its scales (R226). -/
def MxSrc.spans (x : MxSrc) (fmt blk g bytes : Nat) : List (Nat × Nat) :=
  match x with
  | .desc w0 w1 => (rowAddr w0 w1 g, bytes) :: (if isScaled fmt blk then [(scaleAddr w0 w1 g, 16)] else [])
  | _ => []

/-- Bytes of a sampled row of an operand B: an LQ2 column has 32 (R226). -/
def MxRun.rowB (r : MxRun) : Nat := if r.fb = 8 then 32 else 128

/-- The window ranges that sample `i` of a run reads (R230, R238, R239). -/
def MxRun.spans (r : MxRun) (i : Nat) : List (Nat × Nat) :=
  match r.op with
  | 1 | 2 =>
    let (mb, nb) := r.blockOf (i / r.per)
    let rows := fun (x : MxSrc) (fmt blk first cnt bytes : Nat) =>
      ((List.range cnt).filter fun n => mxSlot x.rot n r.per == i % r.per).flatMap fun n => x.spans fmt blk (first + n) bytes
    rows r.a r.fa r.ba (32 * mb) (r.rowsIn mb) 128 ++ rows r.b r.fb r.bb (32 * nb) (r.colsIn nb) r.rowB
  | 5 =>
    let (row, nb) := r.stepOf i
    (match r.a with
      | .desc w0 w1 => [(rowAddr w0 w1 row + 32 * nb * mrdWidth r.typ / 8, r.colsIn nb * mrdWidth r.typ / 8)]
      | _ => [])
  | 6 => (List.range 4).flatMap fun n => r.a.spans (if r.fa = 8 then 7 else r.fa) r.ba (4 * i + n) 128
  | _ => []

/-- The first address that landing `q` of a run has sampled through its descriptors. -/
def MxRun.firstSpan (r : MxRun) (q : Nat) : Option Nat :=
  ((List.range (if r.op ≤ 2 then r.per else 1)).findSome? fun i => (r.spans (if r.op ≤ 2 then q * r.per + i else q)).head?).map Prod.fst

/-- The transit checks of a matrix command's samples (R352). -/
def State.mxTransit (s : State) (k : Nat) (m : Cmd) (xs : List (Nat × Nat)) : State :=
  xs.foldl (fun s x => s.transitCheck k 4 m.slot m.bundle false [x] none) s

/-- Rows of one operand sampled in array cycle `c` of pass `q`. -/
def State.passRows (s : State) (k j q c per : Nat) (side : Nat) (x : MxSrc) (fmt blk first cnt bytes : Nat) : List Got :=
  ((List.range cnt).filter fun i => mxSlot x.rot i per == c).map fun i =>
    let r := s.mxRow k x fmt blk (first + i) bytes
    { run := j, q := q, side := side, idx := i, data := r.1, scales := r.2.1, cb := r.2.2.1, tags := [], poison := r.2.2.2 }

/-- A pass samples the operand rows of one of its array cycles (R230). -/
def execPassSample (k uid : Nat) (s : State) : Host.Outcome State Fault Refusal :=
  match (s.core k).cmd uid with
  | none => .next s
  | some m => match firstRun m (fun r => 1 ≤ r.op && r.op ≤ 2) (s.mxSampleAt k m) with
    | none => .next s
    | some (j, r) =>
      let q := r.s / r.per
      let c := r.s % r.per
      let (mb, nb) := r.blockOf q
      let s := s.mxTransit k m (r.spans r.s)
      let ga := s.passRows k j q c r.per 0 r.a r.fa r.ba (32 * mb) (r.rowsIn mb) 128
      let gb := s.passRows k j q c r.per 1 r.b r.fb r.bb (32 * nb) (r.colsIn nb) r.rowB
      .next (s.setCmd k { (m.setRun j { r with s := r.s + 1 }) with got := m.got ++ ga ++ gb })

/-- An `mrd` step samples its accumulator words (R236). -/
def execMrdStepSample (k uid : Nat) (s : State) : Host.Outcome State Fault Refusal :=
  match (s.core k).cmd uid with
  | none => .next s
  | some m => match firstRun m (fun r => r.op == 4) (s.mxSampleAt k m) with
    | none => .next s
    | some (j, r) =>
      let (row, nb) := r.stepOf r.s
      let ws := (List.range (r.colsIn nb)).map fun i => s.accWord k (r.accOff row (32 * nb + i))
      let off := r.accOff row (32 * nb)
      let p := s.poisonIn (accBase (k / 2) + off) (4 * r.colsIn nb)
      let s := s.mxTransit k m [(s.accWin k off, 4 * r.colsIn nb)]
      let g : Got := { run := j, q := r.s, side := 0, idx := 0, data := vecBytes ws, scales := [], cb := [],
                       tags := ws.map (·.tag), poison := if p.1 = 0 then (0, 0) else (p.1, s.accWin k (p.2 - accBase (k / 2))) }
      .next (s.setCmd k { (m.setRun j { r with s := r.s + 1 }) with got := m.got ++ [g] })

/-- An `mwr` step samples its source row segment with the tags of FP32+TAG granules (R238). -/
def execMwrStepSample (k uid : Nat) (s : State) : Host.Outcome State Fault Refusal :=
  match (s.core k).cmd uid with
  | none => .next s
  | some m => match firstRun m (fun r => r.op == 5) (s.mxSampleAt k m) with
    | none => .next s
    | some (j, r) =>
      let (row, nb) := r.stepOf r.s
      let w := mrdWidth r.typ
      let a := match r.a with
        | .desc w0 w1 => rowAddr w0 w1 row + 32 * nb * w / 8
        | _ => 0
      let s := s.mxTransit k m (r.spans r.s)
      let d := s.mxRead k a (r.colsIn nb * w / 8)
      let tags := match (s.launchOf k).window a 1 with
        | some x => if r.fa = 12 then (List.range (r.colsIn nb)).map fun i => clampTag (s.tagAt (x.flat + 4 * i)) else []
        | none => []
      let g : Got := { run := j, q := r.s, side := 0, idx := 0, data := d.1, scales := [], cb := [], tags := tags, poison := d.2 }
      .next (s.setCmd k { (m.setRun j { r with s := r.s + 1 }) with got := m.got ++ [g] })

/-- An `mld` samples four source rows with their scales (R239). -/
def execMldSample (k uid : Nat) (s : State) : Host.Outcome State Fault Refusal :=
  match (s.core k).cmd uid with
  | none => .next s
  | some m => match firstRun m (fun r => r.op == 6) (s.mxSampleAt k m) with
    | none => .next s
    | some (j, r) =>
      let s := s.mxTransit k m (r.spans r.s)
      let gs := (List.range 4).map fun i =>
        let x := s.mxRow k r.a (if r.fa = 8 then 7 else r.fa) r.ba (4 * r.s + i) 128
        ({ run := j, q := 0, side := 0, idx := 4 * r.s + i, data := x.1, scales := x.2.1, cb := [], tags := [],
           poison := x.2.2.2 } : Got)
      .next (s.setCmd k { (m.setRun j { r with s := r.s + 1 }) with got := m.got ++ gs })

/-! Landings. -/

/-- Lands byte runs at window addresses with their tags, and counts them in the digest (R240, R353). -/
def State.landRuns (s : State) (k slot cycle : Nat) (runs : List (Nat × (List Byte × List Nat))) (poison : Nat) : State :=
  runs.foldl (fun s r =>
    match (s.launchOf k).window r.1 1 with
    | none => s
    | some w => (s.land w.flat r.2.1 r.2.2 poison).digest k slot cycle false r.1 r.2.1) s

/-- A due event of a matrix command's landing, which the array holds (R234, R237). -/
def mxDue (prio cause sub lane : Nat) (m : Cmd) (addr : Nat) : Due :=
  { lvl := 0, prio := prio, cause := cause, sub := sub, eng := false, hch := false, bundle := m.bundle, slot := m.slot,
    issue := m.issue, lane := lane, addr := BitVec.ofNat 64 addr, cmd := none }

/-- ECC of poison met in a landing's samples, or forced through XINJ where it sampled descriptor operands or, at offset `acc`, the accumulator
memory (R233, R364). -/
def State.mxEcc (s : State) (k : Nat) (m : Cmd) (r : MxRun) (p : Nat × Nat) (acc : Option Nat) : List Due :=
  let forced := fun (sub : Nat) (a : Option Nat) =>
    if (s.core k).inj (sub + 1) then a.map fun x => mxDue 3 18 (0x8000 + sub) 0 m x else none
  if p.1 ≠ 0 then [mxDue 3 18 p.1 0 m p.2]
  else ((forced 1 (r.firstSpan r.l)).or (forced 2 (acc.map (s.accWin k)))).toList

/-- SUB of the FABUNIT report of a landing: of a column group, or of the router for a run on a cupola path, behind a switched port (R190, R251,
R253, R364; log 56). -/
def State.arrayFabFails (s : State) (k : Nat) (r : MxRun) : Option Nat :=
  let ids := if 44 ≤ r.cls then [routerId] else (s.spire (k / 2)).switched.filter fun u => u / 2 ^ 11 == 4
  ids.findSome? (s.fabReport k)

/-- The rows of an `mld` take their place in the operand buffer with its format fields (R239). -/
def State.loadOb (s : State) (spire : Nat) (o : ObLoad) : State :=
  let sp := s.spire spire
  let b := o.rows.foldl (fun (b : OpBuf) r => { b with rows := b.rows.set r.1 r.2.1, scales := b.scales.set r.1 r.2.2 })
    (sp.ob.getD o.buf OpBuf.zero)
  s.setSpire spire { sp with ob := sp.ob.set o.buf { b with fmt := o.fmt, blk := o.blk } }

/-- A landing of the array takes place. -/
def State.landHeld (s : State) (k : Nat) (h : Held) : State :=
  let s := s.landRuns k h.slot (s.core k).clk h.runs h.poison
  match h.ob with
  | some o => s.loadOb (k / 2) o
  | none => s

/-- Lands the next landing of run `j`, or holds it in the array where a check fails; ends the command behind its last. The reports of units and
forced ones are counted. -/
def State.mxLand (s : State) (k : Nat) (m : Cmd) (j : Nat) (r : MxRun) (h : Held) (dues : List Due) : State :=
  let fab := s.arrayFabFails k r
  let s := match fab with
    | some u => s.countFab k u
    | none => s
  let dues := dues ++ fab.toList.map fun u => mxDue 1 21 u 0 m 0
  let s := dues.foldl (fun s d => if d.cause = 18 ∧ 0x8000 ≤ d.sub then s.modCore k (·.clearInj (d.sub - 0x8000 + 1)) else s) s
  let m' := { (m.setRun j { r with l := r.l + 1 }) with got := m.got.filter fun g => !(g.run == j && g.q == r.l) }
  let s := s.setCmd k m'
  let s := if dues = [] then s.landHeld k h
    else s.modCore k fun c => c.modP fun p => { p with held := p.held ++ [h], dues := p.dues ++ dues }
  if m'.runs.all fun x => decide (x.landings ≤ x.l) then s.endCmd k m' else s

/-- Element `i` of width `w` of bytes, as a number. -/
def elemBits (v w i : Nat) : Nat := v / 2 ^ (w * i) % 2 ^ w

/-- The values of a sampled row (R221). -/
def Got.vals (g : Got) (fmt cnt : Nat) : List Val :=
  let v := leValue g.data
  if fmt = 8 then (List.range cnt).map fun i => lq2Weight (elemBits v 16 (i / 8)) (g.cb.getD (i / 8) 0) (i % 8)
  else (List.range cnt).map fun i => (pfmtFmt fmt).read (elemBits v (pfmtWidth fmt) i)

/-- Leading exponent of the largest nonzero product (R76). -/
def leadExp : List Val → Option Int
  | [] => none
  | .fin _ m e :: r => maxFloor (some (expOf m e)) (leadExp r)
  | _ :: r => leadExp r

/-- One K block added into an accumulator word (R76, R231): `pmin` is the smaller precision of the formats. -/
def blockAdd (w : El) (as bs : List Val) (sa sb : Nat) (pmin : Nat) : El :=
  let prods := List.zipWith Val.mul as bs
  let sum := prods.foldl (Val.add .rne) (.zero false)
  let x := Val.mul (Val.mul sum (e8m0 sa)) (e8m0 sb)
  let fl := (leadExp prods).map fun e => e + ((sa : Int) - 127) + ((sb : Int) - 127) - pmin + 1
  let a := fp32.tv w.1 w.2
  let ex := Val.add .rne a.v x
  let r := fp32.round .rne ex
  let phi := maxFloor a.floor fl
  let t := if a.untrusted fp32 then 0
    else if ex.isZero then (if phi = none then fp32.p else 0)
    else match fp32.read r.bits, phi with
      | .fin _ m e, some q => clampInt (expOf m e - q + 1) fp32.p
      | .fin _ _ _, none => fp32.p
      | _, _ => 0
  (r.bits, fp32.limit ex r t)

/-- Precision of an operand format in the tag rule; 4 for LQ2 (R71, R76). -/
def pfmtPrec (f : Nat) : Nat := if f = 8 then 4 else (pfmtFmt f).p

/-- The new accumulator word of an output element from its sampled row and column (R231, R232). -/
def MxRun.element (r : MxRun) (w : El) (a b : Got) : El :=
  if r.op = 2 then
    let x := leValue a.data
    let y := leValue b.data
    let z := if r.bop = 0 then x ^^^ y else x &&& y
    ((w.1 + (List.range 1024).foldl (fun n i => n + elemBits z 1 i) 0) % 2 ^ 32, 24)
  else if r.fa = 9 then
    let x := leValue a.data
    let y := leValue b.data
    let sum := (List.range 128).foldl (fun (n : Int) i => n + sElem (elemBits x 8 i) 8 * sElem (elemBits y 8 i) 8) 0
    (((w.1 : Int) + sum) % (2 ^ 32 : Nat) |>.toNat, 24)
  else
    let cnt := ((formatPair false r.fa r.fb).getD (128, 32)).1
    let bs := (blockSize r.fa r.ba r.fb r.bb).getD 32
    let va := a.vals r.fa cnt
    let vb := b.vals r.fb cnt
    let scale := fun (f bk : Nat) (g : Got) (i : Nat) => if isScaled f bk then (g.scales.getD i 0).toNat else 127
    (List.range (cnt / bs)).foldl (fun w i =>
      blockAdd w ((va.drop (i * bs)).take bs) ((vb.drop (i * bs)).take bs) (scale r.fa r.ba a i) (scale r.fb r.bb b i)
        (min (pfmtPrec r.fa) (pfmtPrec r.fb))) w

/-- The first word, 32 × row + column, in which the two copies of a mirrored pass differ, its column group, and whether XINJ forced it: a
column group that fails at word 4 × row + column of the group (R234, R364; log 56, log 71). -/
def State.mirrorFails (s : State) (k rows cols : Nat) : Option (Nat × Nat × Bool) :=
  if (s.core k).inj 1 then some (0, 0, true)
  else
    let found := (List.range 8).flatMap fun g =>
      if (s.spire (k / 2)).switched.contains (4 * 2 ^ 11 + g) then []
      else ((s.upsetsOf (ruidOf (k / 2) 4 0 g)).filter fun p => decide (p / 4 < rows ∧ 4 * g + p % 4 < cols)).map fun p =>
        (32 * (p / 4) + 4 * g + p % 4, g)
    (List.range 1024).findSome? fun w => (found.find? fun x => x.1 == w).map fun x => (x.1, x.2, false)

/-- A pass lands: every output word is read and rewritten in one landing (R231, R234). -/
def execPassLanding (k uid : Nat) (s : State) : Host.Outcome State Fault Refusal :=
  match (s.core k).cmd uid with
  | none => .next s
  | some m => match firstRun m (fun r => 1 ≤ r.op && r.op ≤ 2) (s.mxLandAt k m) with
    | none => .next s
    | some (j, r) =>
      let (mb, nb) := r.blockOf r.l
      let mine := m.got.filter fun g => g.run == j && g.q == r.l
      let none' : Got := ⟨j, r.l, 0, 0, [], [], [], [], (0, 0)⟩
      let get := fun side i => (mine.find? fun g => g.side == side && g.idx == i).getD none'
      let cols := (List.range (r.colsIn nb)).map (get 1)
      let rows := (List.range (r.rowsIn mb)).map fun i =>
        let a := get 0 i
        let off := fun c => r.accOff (32 * mb + i) (32 * nb + c)
        let els := ((List.range cols.length).zip cols).map fun (c, b) =>
          let w := s.accWord k (off c)
          r.element (if r.za then (0, 24) else (w.w.toNat, w.tag)) a b
        (s.accWin k (off 0), (els.flatMap fun e => leBytes e.1 4, els.map Prod.snd))
      let accP := if r.za then (0, 0) else ((List.range (r.rowsIn mb)).findSome? fun i =>
        let o := r.accOff (32 * mb + i) (32 * nb)
        let p := s.poisonIn (accBase (k / 2) + o) (4 * r.colsIn nb)
        if p.1 = 0 then none else some (p.1, s.accWin k (p.2 - accBase (k / 2)))).getD (0, 0)
      let psn := firstPoison (mine.foldl (fun p g => firstPoison p g.poison) (0, 0)) accP
      let s := if r.za then s else s.mxTransit k m ((List.range (r.rowsIn mb)).map fun i =>
        (s.accWin k (r.accOff (32 * mb + i) (32 * nb)), 4 * r.colsIn nb))
      let mir := if r.mirrored r.l then s.mirrorFails k (r.rowsIn mb) (r.colsIn nb) else none
      let dues := (match mir with
          | some x => [mxDue 2 7 (if x.2.2 then 0x8000 else 0) 0 m (s.accWin k (r.accOff (32 * mb + x.1 / 32) (32 * nb + x.1 % 32)))]
          | none => []) ++ s.mxEcc k m r psn (if r.za then none else some (r.accOff (32 * mb) (32 * nb)))
      let s := match mir with
        | some (_, _, true) => (s.modCore k (·.clearInj 1)).reportUnit (ruidOf (k / 2) 4 0 0) true
        | some (_, g, false) => s.reportUpset (ruidOf (k / 2) 4 0 g)
        | none => s
      .next (s.mxLand k m j r { slot := m.slot, runs := rows, poison := psn.1 } dues)

/-- An `mzero` block lands exact zeros (R235). -/
def execMzeroBlockLanding (k uid : Nat) (s : State) : Host.Outcome State Fault Refusal :=
  match (s.core k).cmd uid with
  | none => .next s
  | some m => match firstRun m (fun r => r.op == 3) (s.mxLandAt k m) with
    | none => .next s
    | some (j, r) =>
      let (mb, nb) := r.blockOf r.l
      let rows := (List.range (r.rowsIn mb)).map fun i =>
        (s.accWin k (r.accOff (32 * mb + i) (32 * nb)),
          (List.replicate (4 * r.colsIn nb) (0 : Byte), List.replicate (r.colsIn nb) 24))
      .next (s.mxLand k m j r { slot := m.slot, runs := rows, poison := 0 } [])

/-- The element an `mrd` lands (R236): its bits and its tag. -/
def mrdElement (typ : Nat) (scale w : Nat) (tag : Nat) : El :=
  if typ < 8 then
    let f := fmtOfType typ
    let a := fp32.tv w tag
    let sc := fp32.tv scale 24
    let x := Val.mul a.v sc.v
    let r := f.round .rne x
    (r.bits, f.limit x r (min (fp32.mulTag a sc x) f.p))
  else
    let width := mrdWidth typ
    let i := (BitVec.ofNat 32 w).toInt
    let x := Val.mul (valOfInt i) (fp32.read scale)
    ((x.toInt .rne true width % (2 ^ width : Nat)).toNat, 24)

/-- An `mrd` step lands its row segment, checked against STHR in that cycle (R236, R237). -/
def execMrdStepLanding (k uid : Nat) (s : State) : Host.Outcome State Fault Refusal :=
  match (s.core k).cmd uid with
  | none => .next s
  | some m => match firstRun m (fun r => r.op == 4) (s.mxLandAt k m) with
    | none => .next s
    | some (j, r) =>
      let (row, nb) := r.stepOf r.l
      let w := mrdWidth r.typ
      match m.got.find? fun g => g.run == j && g.q == r.l with
      | none => .next (s.mxLand k m j r { slot := m.slot, runs := [], poison := 0 } [])
      | some g =>
        let v := leValue g.data
        let n := r.colsIn nb
        let els := (List.range n).map fun i => mrdElement r.typ (field r.scale 0 32) (elemBits v 32 i) (g.tags.getD i 24)
        let a := match r.a with
          | .desc w0 w1 => rowAddr w0 w1 row + 32 * nb * w / 8
          | _ => 0
        let bytes := leBytes (packElems w (els.map Prod.fst)) (n * w / 8)
        let word := 32 / w
        let tags := (List.range (n / word)).map fun i => minTag ((els.drop (i * word)).take word)
        let sth := m.regs.getD 1 0
        let loss := if field sth 0 1 = 1 ∧ r.typ < 8 then
          (List.range n).find? fun i => decide (tags.getD (i / word) 24 < field sth 1 5) else none
        let dues := s.mxEcc k m r g.poison (some (r.accOff row (32 * nb))) ++ (match loss with | some i => [mxDue 4 5 m.slot i m 0] | none => [])
        .next (s.mxLand k m j r { slot := m.slot, runs := [(a, (bytes, tags))], poison := g.poison.1 } dues)

/-- The word and tag an `mwr` lands from a source element (R238). -/
def mwrElement (typ v tag : Nat) (tagged : Bool) : El :=
  match typ with
  | 0 => (v, if tagged then tag else 24)
  | 10 => (v, 24)
  | _ =>
    let f := fmtOfType typ
    let x := f.read v
    let r := fp32.round .rne x
    (r.bits, fp32.limit x r f.p)

/-- An `mwr` step lands its words in the accumulator row (R238). -/
def execMwrStepLanding (k uid : Nat) (s : State) : Host.Outcome State Fault Refusal :=
  match (s.core k).cmd uid with
  | none => .next s
  | some m => match firstRun m (fun r => r.op == 5) (s.mxLandAt k m) with
    | none => .next s
    | some (j, r) =>
      let (row, nb) := r.stepOf r.l
      let w := mrdWidth r.typ
      match m.got.find? fun g => g.run == j && g.q == r.l with
      | none => .next (s.mxLand k m j r { slot := m.slot, runs := [], poison := 0 } [])
      | some g =>
        let v := leValue g.data
        let els := (List.range (r.colsIn nb)).map fun i => mwrElement r.typ (elemBits v w i) (g.tags.getD i 24) (r.fa == 12)
        let run := (s.accWin k (r.accOff row (32 * nb)), (els.flatMap fun e => leBytes e.1 4, els.map Prod.snd))
        .next (s.mxLand k m j r { slot := m.slot, runs := [run], poison := g.poison.1 } (s.mxEcc k m r g.poison none))

/-- All rows of an `mld` land in the operand buffer together with its format fields, or wait in the array (R233, R239). -/
def execMldLanding (k uid : Nat) (s : State) : Host.Outcome State Fault Refusal :=
  match (s.core k).cmd uid with
  | none => .next s
  | some m => match firstRun m (fun r => r.op == 6) (s.mxLandAt k m) with
    | none => .next s
    | some (j, r) =>
      let mine := m.got.filter fun g => g.run == j
      let scaled := isScaled r.fa r.ba
      let o : ObLoad := { buf := r.acc, fmt := r.fa, blk := r.ba,
                          rows := mine.map fun g => (g.idx, g.data, if scaled then g.scales else List.replicate 16 0) }
      let psn := mine.foldl (fun p g => firstPoison p g.poison) (0, 0)
      .next (s.mxLand k m j r { slot := m.slot, runs := [], poison := psn.1, ob := some o } (s.mxEcc k m r psn none))

end Sys2Proof.Machine
end

