-- ==== Sys2Proof/Machine/Collide.lean ====
section
/-! DEFINITION. Which components advance in a wall cycle, the memory accesses that fall due in it, collisions, and the accesses that
a freeze holds back (01_tile_task.md R12, R18 to R25, 08_spire.md R197). -/

namespace Sys2Proof.Machine

/-! Time of a component. -/

/-- The core's task has a cycle in this wall cycle: the launch runs, and either no freeze is in force and the core has reached
the slot clock, or the core has not stopped yet (R12, R24). -/
def State.ticks (s : State) (k : Nat) : Bool :=
  let c := s.core k
  let l := s.launchOf k
  s.pkgFreeze.isEmpty && (c.f.mode == .task || c.f.mode == .halted) && l.phase == .running &&
    !c.f.stopped && c.f.dev.isNone && (!l.causes.isEmpty || c.clk == l.lclk + c.f.lead)

/-- The core is in handler time (R184). -/
def Core.handling (c : Core) : Bool := c.f.mode == .handler || c.f.mode == .tret || c.f.mode == .cwait

/-- The core has a cycle, of its task or of its handler, in this wall cycle. -/
def State.active (s : State) (k : Nat) : Bool := s.ticks k || ((s.core k).handling && s.pkgFreeze.isEmpty)

/-- The core's started commands drain in this wall cycle: its launch is frozen for a pre-emption, and no walk of a drained command
is under way (R322). -/
def State.drains (s : State) (k : Nat) : Bool :=
  let c := s.core k
  let l := s.launchOf k
  (match l.pre with | .drain _ => true | _ => false) && l.phase == .running && s.pkgFreeze.isEmpty &&
    (c.f.mode == .task || c.f.mode == .halted) && l.causes.all fun z => match z with | .walk .. => false | _ => true

/-- A command that a pre-emption drains: a started timed command of the engines (R322). -/
def Cmd.drained (m : Cmd) : Bool :=
  m.started && m.queue != 1 && (match m.kind with | .lnch .. => false | .rel .. => false | .acq .. => false | _ => true)

/-- The engine commands of a core that have a cycle in this wall cycle. -/
def State.liveCmds (s : State) (k : Nat) : List Cmd :=
  if s.ticks k then (s.core k).e.cmds else if s.drains k then (s.core k).e.cmds.filter Cmd.drained else []

/-- An engine fault or withdrawal of the command is due. -/
def Core.faulted (c : Core) (uid : Nat) : Bool := c.p.dues.any fun d => (d.cmd.map Prod.fst) == some uid

/-! Accesses. -/

/-- The flat address of a window address of a core's launch. -/
def State.winFlat (s : State) (k a : Nat) : Option Nat := ((s.launchOf k).window a 1).map Win.flat

/-- An access at a flat address. -/
def Access.at (k : Nat) (cmd : Bool) (uid : Nat) (land : Bool) (flat n kind addr : Nat) : Access :=
  ⟨k, cmd, uid, false, land, flat, n, none, false, kind, addr, 0⟩

/-- An access at a window address, none where the address names nothing. -/
def State.winAccess (s : State) (k : Nat) (cmd : Bool) (uid : Nat) (land : Bool) (a n kind : Nat) : List Access :=
  match s.winFlat k a with
  | some f => [{ Access.at k cmd uid land f n kind a with port := true }]
  | none => []

/-- The address of lane `l` of an indexed operation: the checks of R153 leave no sum beyond 40 bits. -/
def laneAddr (base : Nat) (offs : List Nat) (l : Nat) : Nat := (base + offs.getD l 0) % 2 ^ 40

/-- The trap of a redirected spill's page: rights, then its format, which must be FP32+TAG (R55). -/
def State.spillPage (s : State) (k uid : Nat) (va : Nat) (store : Bool) : State × Start (List (Nat × Word)) :=
  let kind := if store then akStore else akLoad
  match s.wordPage k ((s.core k).e.walked.contains uid) va (!store) store false kind with
  | (s, .ok ps) =>
    let p := alGet 0 ps (va / 4096)
    if pteFmt p ≠ 12 ∨ (s.pageFmt p).isNone then (s, .fault (engTrap 16 kind va)) else (s, .ok ps)
  | (s, r) => (s, r)

/-- A redirected spill's fault is due: it waits for the boundary. -/
def Core.spillFaulted (c : Core) (e : Entry) : Bool :=
  c.p.dues.any fun d => d.prio == 5 && d.bundle == e.bundle && d.slot == e.slot && d.issue == e.issue && d.cmd.isNone

/-- The landing of a redirected spill store where its page is there to take it (R55). -/
def State.spillAccess (s : State) (k : Nat) (e : Entry) (va n : Nat) : List Access :=
  if e.due ≠ (s.core k).now ∨ (s.core k).spillFaulted e = true then []
  else match (s.spillPage k e.uid va true).2 with
    | .ok ps => [Access.at k false e.uid true (flatOf ps va) n akStore va]
    | _ => []

/-- The accesses of the four lanes of a gather's or scatter's group that is served now; the indexed port is no bank access (R154). -/
def State.laneAccesses (s : State) (k : Nat) (e : Entry) (store : Bool) (base : Nat) (offs : List Nat) (mask : BitVec 64) (g : Nat) :
    List Access :=
  if e.samp + g ≠ (s.core k).now then []
  else ((List.range 4).map fun j => 4 * g + j).flatMap fun l =>
    if laneOn mask l then
      (s.winAccess k false e.uid store (laneAddr base offs l) 4 (if store then akStore else akLoad)).map
        fun a => { a with port := false, lane := l }
    else []

/-- The accesses that one pending entry makes at its core's present cycle (R16, R55, R141, R154). -/
def State.entryAccesses (s : State) (k : Nat) (e : Entry) : List Access :=
  let now := (s.core k).now
  match e.kind with
  | .load ldk _ a =>
    if e.samp = now ∧ ldk ≠ 8 then s.winAccess k false e.uid false a (if ldk = 6 then 8 else 2 ^ (ldk - 1)) akLoad else []
  | .vload ldk _ _ a => if e.samp = now ∧ ldk ≠ 9 then s.winAccess k false e.uid false a 256 akLoad else []
  | .store sz a _ => if e.due = now then s.winAccess k false e.uid true a (2 ^ sz) akStore else []
  | .vstore a _ => if e.due = now then s.winAccess k false e.uid true a 256 akStore else []
  | .spillStore a _ => s.spillAccess k e a 8
  | .spillVStore a _ => s.spillAccess k e a 256
  | .amo _ w64 _ a _ _ =>
    if e.samp = now then
      let n := if w64 then 8 else 4
      (s.winAccess k false e.uid true a n akAtomic).map fun x => { x with atom := some (x.flat, n) }
    else []
  | .vldx _ _ base offs mask _ g => s.laneAccesses k e false base offs mask g
  | .vstx base offs mask _ g => s.laneAccesses k e true base offs mask g
  | _ => []

/-- The chunks of a copy that sample in its core's present cycle. -/
def CopyArgs.chunksNow (g : Geo) (start rate now : Nat) : Nat → Nat → List (Nat × Nat)
  | 0, _ => []
  | fuel + 1, t =>
    let n := g.chunk t
    if g.total ≤ t ∨ start + cdiv (t + n) rate ≠ now then [] else (t, n) :: chunksNow g start rate now fuel (t + n)

/-- Landings of flights due now. -/
def State.flightAccesses (s : State) (k : Nat) (m : Cmd) (glob : Bool) (kind now : Nat) : List Access :=
  (m.flights.filter fun f => f.due == now).flatMap fun f =>
    if glob then [Access.at k true m.uid true (flatOf m.pages f.dst) f.data.length kind f.dst]
    else s.winAccess k true m.uid true f.dst f.data.length kind

/-- The address of vector `n` of a generator (R200). -/
def AgSet.addr (a : AgSet) (n : Nat) : Int :=
  let c0 := genCount a.cnt0
  let c1 := genCount a.cnt1
  (a.base.toNat : Int) + (n % c0 : Nat) * a.str0.toInt + (n / c0 % c1 : Nat) * a.str1.toInt + (n / c0 / c1 : Nat) * a.str2.toInt

/-- The runs of a matrix command, planned now where it starts in this cycle. -/
def State.mxRunsNow (s : State) (k : Nat) (m : Cmd) (a : MxArgs) : List MxRun :=
  if m.started then m.runs
  else if (s.core k).faulted m.uid then []
  else match s.mxPlan k m.syll a with
    | .ok runs => runs
    | .error _ => []

/-- A key for an operand buffer, which no address names: two `mld` landings in one cycle meet there (R240). -/
def obKey (spire buf : Nat) : Nat := 2 ^ 48 + 4 * spire + buf

/-- The accesses of a matrix command in its core's present cycle (R230 to R240). -/
def State.mxAccesses (s : State) (k : Nat) (m : Cmd) (runs : List MxRun) : List Access :=
  let now := (s.core k).clk
  let acc := fun (off n : Nat) => [Access.at k true m.uid true (accBase (k / 2) + off) n akStore (s.accWin k off)]
  runs.flatMap fun r =>
    let sampled := if s.mxSampleAt k m r = some now then
        (r.spans r.s).flatMap fun x => s.winAccess k true m.uid false x.1 x.2 akLoad
      else []
    let landed := if s.mxLandAt k m r = some now then
        (match r.op with
        | 1 | 2 | 3 =>
          let (mb, nb) := r.blockOf r.l
          (List.range (r.rowsIn mb)).flatMap fun i => acc (r.accOff (32 * mb + i) (32 * nb)) (4 * r.colsIn nb)
        | 4 =>
          let (row, nb) := r.stepOf r.l
          (match r.a with
            | .desc w0 w1 =>
              let a := rowAddr w0 w1 row + 32 * nb * mrdWidth r.typ / 8
              s.winAccess k true m.uid true a (r.colsIn nb * mrdWidth r.typ / 8) akStore
            | _ => [])
        | 5 =>
          let (row, nb) := r.stepOf r.l
          acc (r.accOff row (32 * nb)) (4 * r.colsIn nb)
        | 6 => [Access.at k true m.uid true (obKey (k / 2) r.acc) 1 akStore 0]
        | _ => [])
      else []
    sampled ++ landed

/-- Cycle of flit `i` of a command: its frame, or the cycle at which a receive expects it (R377, R378, R380). -/
def State.flitCycleAt (s : State) (k : Nat) (m : Cmd) (f : FabArgs) (i : Nat) : Nat :=
  if f.stream then m.start + 8 * i
  else
    let ci := if f.recv then field f.desc 0 12 else field f.slt 0 12
    match (s.launchOf k).circuit ci with
    | none => m.start
    | some (t, c) => 8 * c.flitFrame t m.frame0 i + (if f.recv then t.hopmax else 0)

/-- Cycle of the next flit of a command. -/
def State.flitCycle (s : State) (k : Nat) (m : Cmd) (f : FabArgs) : Nat := s.flitCycleAt k m f m.sPos

/-- The flit that stands `i` places from the head of a receive's queue is the one it expects there (R380). -/
def State.flitThere (s : State) (k : Nat) (m : Cmd) (f : FabArgs) (i : Nat) : Bool :=
  match (s.launchOf k).circuit (field f.desc 0 12), (alGet [] (s.launchOf k).rq (field f.desc 0 12))[i]? with
  | some (t, c), some h => h.frame == c.flitFrame t m.frame0 (m.sPos + i) && h.pos == c.flitPos (m.sPos + i)
  | _, _ => false

/-- The samples of a fabric command in its core's present cycle: of a send its flits of the frame, of a reduce the local operands of the
flits that it takes (R377, R378, R380). -/
def State.flitAccesses (s : State) (k : Nat) (m : Cmd) (f : FabArgs) : List Access :=
  let now := (s.core k).clk
  if m.cut || decide (now < m.start) || !(m.started || (s.fabCheck k f).isNone) || (f.recv && f.op == 0) then []
  else
    let here := (List.range 6).filter fun i => decide (m.sPos + i < f.nfl) && s.flitCycleAt k m f (m.sPos + i) == now
    let taken := if f.recv then here.takeWhile (s.flitThere k m f) else here
    taken.flatMap fun i => s.winAccess k true m.uid false ((if f.recv then f.sb.toNat else f.sa.toNat) + 64 * (m.sPos + i)) 64 akSrc

/-- The landings of a handler-channel transfer that completes in this wall cycle (R216; log 21). -/
def State.channelAccesses (s : State) (k : Nat) (m : Cmd) : List Access :=
  let at' := fun (glob : Bool) (a n : Nat) =>
    ({ Access.at k true m.uid true (s.sideFlat k glob m.pages a) n akDst a with whole := true } : Access)
  match m.kind with
  | .copy p c =>
    let g := c.dstGeo
    (g.chunks g.total 0).map fun x => at' p.dg (g.at x.1).toNat x.2
  | .gather p g => (List.range g.n).map fun i =>
    let idx := leValue (s.bytes (s.sideFlat k false [] (g.list + 4 * i : Nat)) 4)
    at' p.dg (if g.scatter then g.idxBase + idx * 2 ^ g.esz else g.base + i * 2 ^ g.esz) (2 ^ g.esz)
  | _ => []

/-- A handler-channel transfer completes in this wall cycle (R216). -/
def State.channelEnds (s : State) (k : Nat) (m : Cmd) : Bool :=
  s.pkgFreeze.isEmpty && m.queue == 1 && m.started && decide (m.land ≤ s.wall) && !(s.core k).faulted m.uid && !(s.core k).fabHeld m

/-- The accesses of an engine command in its core's present cycle. -/
def State.cmdAccesses (s : State) (k : Nat) (m : Cmd) : List Access :=
  let now := (s.core k).clk
  if m.queue = 1 ∨ ((s.core k).faulted m.uid && !m.cut) then []
  else match m.kind with
  | .copy p c =>
    let chunks := if m.started && !m.cut && c.fill.isNone && !p.sg then CopyArgs.chunksNow c.dstGeo m.start p.rate now 512 m.sPos else []
    (chunks.flatMap fun (t, n) =>
      let (t0, len) := c.srcBytes t n
      (c.srcGeo.pieces t0 len).flatMap fun x => s.winAccess k true m.uid false x.1 x.2 akSrc) ++ s.flightAccesses k m p.dg akDst now
  | .gather p g =>
    let i := g.idx.length
    let go := !m.cut && decide (m.start ≤ now) && (m.started || (s.gatherCheck k 0 p g).isNone)
    let index := if go && decide (i < g.n) && m.start + g.g * i == now then s.winAccess k true m.uid false (g.list + 4 * i) 4 akLoad else []
    let elem := if !m.cut && decide (m.lPos < i) && m.start + g.g * (m.lPos + 1) == now && !p.sg then
        s.winAccess k true m.uid false (if g.scatter then g.base + m.lPos * 2 ^ g.esz else g.elem m.lPos) (2 ^ g.esz) akSrc
      else []
    index ++ elem ++ s.flightAccesses k m p.dg akDst now
  | .gen port _ set =>
    let t := s.tt k 22
    let sample := if m.started && !m.cut && decide (port < 4) && decide (m.sPos < set.total) && m.start + t.aux + m.sPos == now then
        s.winAccess k true m.uid false (set.addr m.sPos).toNat 256 akLoad else []
    sample ++ (if port < 4 then [] else s.flightAccesses k m false akStore now)
  | .mx a => if m.start ≤ now then s.mxAccesses k m (s.mxRunsNow k m a) else []
  | .gamo g =>
    let n := g.bytes
    let addr := field g.gdst 0 40
    if !m.started || m.cut then []
    else if m.sPos = 0 ∧ m.start + (s.tt k 23).lat = now then
      let f := flatOf m.pages g.addr
      [{ Access.at k true m.uid true f n akAtomic g.addr with atom := some (f, n) }]
    else if m.sPos ≠ 0 ∧ m.land = now ∧ field g.gdst 63 1 = 0 then s.winAccess k true m.uid true addr n akAtomic
    else []
  | .rel obj _ =>
    if m.land = now then
      match (s.wordPage k ((s.core k).e.walked.contains m.uid) obj.toNat false true false akSync).2 with
      | .ok ps =>
        let f := flatOf ps obj.toNat
        [{ Access.at k true m.uid true f 8 akSync obj.toNat with atom := some (f, 8) }]
      | _ => []
    else []
  | .fab f => s.flitAccesses k m f ++ (if f.recv then s.flightAccesses k m false akDst now else [])
  | _ => []

/-! What arrives from outside (R289, R294 to R296, R302, R304). -/

/-- Where in its wall cycle an event from outside takes place: 0 with the inputs; 1 with the plain landings, 2, 3 and 4 with the cycle's
atomics of belfries, host and streams; 5 with the sequencer's work; 6 behind the bundles, where an interrupt request becomes pending (R180)
and a host read takes what the cycle has left. R304 does not rank a stream's release among the atomics: it applies last (log 81). -/
def Event.phase : Event → Nat
  | .hostWrite .. => 1
  | .registerWrite .. => 1
  | .belfryIssuedAccess _ _ (.atomicAdd ..) => 2
  | .belfryIssuedAccess .. => 1
  | .hostAtomic .. => 3
  | .streamPacketReceive p => if p.release then 4 else 1
  | .submissionDigestExchange .. => 5
  | .freezeMessage _ (.kill _) => 5
  | .freezeMessage _ (.digest _) => 5
  | .belfryInterruptRequest _ => 6
  | .debugInterruptRequest _ => 6
  | .hostRead .. => 6
  | _ => 0

/-- An input reaches the package: without power only its reset does (R365). -/
def State.heard (s : State) (e : Event) : Bool := s.host.powered || e == .packageReset

/-- The order that an outside agent's commands keep among themselves: the host's, a belfry queue's, a stream's (R294 to R296, R302). -/
inductive OuterLane where
  | host
  | belfry (b q : Nat)
  | stream (port stream : Nat)
  deriving DecidableEq, Repr

def Event.lane : Event → Option OuterLane
  | .hostWrite .. => some .host
  | .registerWrite .. => some .host
  | .hostAtomic .. => some .host
  | .belfryIssuedAccess b q _ => some (.belfry b q)
  | .streamPacketReceive p => some (.stream p.port p.stream)
  | _ => none

/-- The bytes of a posted write that land in one wall cycle: those of its first 64-byte line (R292). -/
def hostPart (off : Nat) (bs : List Byte) : List Byte := bs.take (64 - off % 64)

/-- The first part of a posted write meets none of another. -/
def partsApart (a b : Event) : Bool :=
  match a, b with
  | .hostWrite x bs _, .hostWrite y cs _ => x + (hostPart x bs).length ≤ y || y + (hostPart y cs).length ≤ x
  | _, _ => false

/-- A fence of a belfry names the queue of another of its commands (R137, R295). -/
def fences (f e : Event) : Bool :=
  match f, e with
  | .belfryIssuedAccess b _ (.fence qs), .belfryIssuedAccess b' q _ => b == b' && qs.getLsbD q
  | _, _ => false

/-- An outside landing may take place beside those already chosen and before those that wait: the first of its lane, with no fence between; a
host atomic beside host atomics; a posted write with Relaxed Ordering beside one that it does not meet, before any that waits (R295, R296). -/
def arrives (chosen waiting : List Event) (e : Event) : Bool :=
  let relaxed := match e with | .hostWrite _ _ true => true | _ => false
  match e.lane with
  | none => false
  | some l => ((chosen.filter fun x => x.lane == some l).all fun x => (e.phase == 3 && x.phase == 3) || (relaxed && partsApart x e)) &&
      (relaxed || waiting.all fun x => x.lane != some l) && (chosen ++ waiting).all fun x => !fences x e && !fences e x

/-- The outside landings of this wall cycle, in their order, and the inputs that are left. -/
def takeArrivals (due : Nat × Event → Bool) : List (Nat × Event) → List Event → List Event → List Event × List (Nat × Event)
  | [], ch, _ => (ch, [])
  | x :: r, ch, wt =>
    if due x && arrives ch wt x.2 then takeArrivals due r (ch ++ [x.2]) wt
    else
      let t := takeArrivals due r ch (if due x then wt ++ [x.2] else wt)
      (t.1, x :: t.2)

/-- Gives the outside landings of this wall cycle their numbers. -/
def State.arrive (s : State) : State :=
  let t := takeArrivals (fun x => decide (x.1 ≤ s.wall) && s.heard x.2) s.inputs [] []
  { s with arrivals := (List.range t.1.length).zip t.1, inputs := t.2 }

/-- The key of accesses that no core makes: those of the host, the belfries and the streams. -/
def noCore : Nat := 2 ^ 20

/-- The accesses of one outside landing: a host write that is dropped or refused makes none (R277, R296). -/
def State.arrivalAccesses (s : State) (i : Nat) (e : Event) : List Access :=
  let at' := fun (flat n : Nat) => Access.at noCore false i true flat n akStore flat
  let atom := fun (flat n : Nat) => ({ at' flat n with atom := some (flat, n) } : Access)
  match e with
  | .hostWrite off bs _ =>
    if 2 ^ 40 ≤ off ∨ hbmSize < off + bs.length ∨ s.host.hviol.msb = true ∨ s.host.stage < 4 then []
    else match s.ownerOf (off / 4096) with
      | .device _ => []
      | _ => [at' off (hostPart off bs).length]
  | .hostAtomic op off w _ _ => if s.hostAtomicOk op off w then [atom off w] else []
  | .belfryIssuedAccess _ _ (.atomicAdd a w _) => [atom a w]
  | .belfryIssuedAccess _ _ (.writeFrame a bs) => if hbmSize < a + bs.length then [] else [at' a bs.length]
  | .belfryIssuedAccess _ _ (.writeWindow a bs) => ((physFlat a bs.length).map fun f => at' f bs.length).toList
  | .streamPacketReceive p =>
    let root := alGet 0 s.seq.roots p.asid
    let flat := fun (va : Nat) => match s.walk p.asid root va with
      | .ok e => some (pteFrame (e.leaf va) * 4096 + va % 4096)
      | .error _ => none
    if p.release then ((flat p.va).map fun f => atom f 8).toList
    else (List.range p.flits.length).filterMap fun j => (flat (p.va + 64 * j)).map fun f => at' f 64
  | _ => []

/-- Every access of this wall cycle: of the cores that have a cycle in it, of the handler channels, and from outside. -/
def State.accesses (s : State) : List Access :=
  (s.cores.flatMap fun (k, c) =>
    (if s.active k then c.p.prb.flatMap (s.entryAccesses k) else []) ++
      (s.liveCmds k).flatMap (s.cmdAccesses k) ++ (c.e.cmds.filter (s.channelEnds k)).flatMap (s.channelAccesses k)) ++
    s.arrivals.flatMap fun x => s.arrivalAccesses x.1 x.2

/-! Collisions (R18, R19, R197). -/

/-- The bank and row of a scratchpad line, by flat address: 48 banks a tile scratchpad, 512 a cupola scratchpad. -/
def bankOf (flat : Nat) : Nat × Nat :=
  if 2 ^ 45 ≤ flat then
    let line := flat % 2 ^ 25 / 64
    (2 ^ 20 + (flat - 2 ^ 45) / 2 ^ 25 * 512 + line % 512, line / 512)
  else
    let line := flat % 2 ^ 22 / 64
    ((flat - 2 ^ 40) / 2 ^ 22 * 48 + line % 48, line / 48)

/-- Banks and rows that an access uses; an indexed access uses none (R154). -/
def Access.banks (a : Access) : List (Nat × Nat) :=
  if a.port && isPad a.flat && a.n ≠ 0 then
    (List.range ((a.flat + a.n - 1) / 64 - a.flat / 64 + 1)).map fun i => bankOf ((a.flat / 64 + i) * 64)
  else []

/-- The two accesses share a byte. -/
def Access.meets (a b : Access) : Bool := a.flat < b.flat + b.n && b.flat < a.flat + a.n

/-- How two accesses collide: 10 SAMELAND, 9 BANKCOL, 0 not at all. Accesses of one command collide like any others (R197). -/
def Access.clash (a b : Access) : Nat :=
  if (a.atom.isSome && a.atom == b.atom) || (a.whole && b.whole && a.core == b.core && a.uid == b.uid) then 0
  else if a.land && b.land && a.meets b then 10
  else if a.banks.any fun x => b.banks.any fun y => x.1 == y.1 && (x.2 != y.2 || (a.land && b.land)) then 9
  else 0

/-- The collision an access meets among the others of its cycle; SAMELAND where both kinds apply. -/
def clashOf (all : List (Nat × Access)) (a : Nat × Access) : Nat :=
  all.foldl (fun n b => if b.1 = a.1 then n else max n (a.2.clash b.2)) 0

/-- The withdrawal of a matrix command from landing `q` of run `j` on (R233). -/
def Cmd.cutRuns (m : Cmd) (j q : Nat) : Cmd :=
  let runs := ((List.range m.runs.length).zip m.runs).map fun (i, r) =>
    if i < j then r else if i = j then { r with lim := q } else { r with lim := 0 }
  let left := runs.any fun r => r.l < r.landings
  { m with cut := true, runs := if left then runs else [], got := if left then m.got else [] }

/-- The run and the landing from which a meeting in this cycle withdraws a matrix command (R233). -/
def State.cutAt (s : State) (k : Nat) (m : Cmd) (land : Bool) : Option (Nat × Nat) :=
  let now := (s.core k).clk
  let hit := fun (r : MxRun) => if land then s.mxLandAt k m r == some now else s.mxSampleAt k m r == some now
  (((List.range m.runs.length).zip m.runs).find? fun x => hit x.2).map fun (j, r) =>
    (j, if land then r.l else if r.op ≤ 2 then r.s / r.per else if r.op = 6 then 0 else r.s)

/-- The part of a command that a collision withdraws: what has not been sampled, and what lands from the cut on (R209, R233). -/
def State.cutCmd (s : State) (k : Nat) (m : Cmd) (land : Bool) : Cmd :=
  match m.kind with
  | .mx _ => match s.cutAt k m land with
    | some (j, q) => m.cutRuns j q
    | none => m.cutRuns 0 0
  | _ => if land then m.cutFrom (s.core k).clk else { m with cut := true }

/-- The event of a task's own access that a collision withdraws (R18). -/
def collisionDue (lvl bundle slot issue cause : Nat) (a : Access) : Due :=
  ⟨lvl, 5, cause, a.kind, false, false, bundle, slot, issue, a.lane, BitVec.ofNat 64 a.addr, none⟩

/-- An outside landing that meets another does not take place; a host atomic completes with Completer Abort (R285, R304; log 26). -/
def State.abortArrival (s : State) (i : Nat) : State :=
  let aborted := s.arrivals.any fun x => x.1 == i && x.2.phase == 3
  { s with arrivals := s.arrivals.filter fun x => x.1 != i,
           host := if aborted then { s.host with reply := (2, []) } else s.host }

/-- Withdraws a colliding access and makes its event due at the boundary of this cycle (R18, R181, R209). -/
def State.collided (s : State) (a : Access) (cause : Nat) : State :=
  let c := s.core a.core
  if a.core = noCore then s.abortArrival a.uid
  else if a.cmd then
    match c.cmd a.uid with
    | none => s
    | some m => (s.setCmd a.core (s.cutCmd a.core m a.land)).engineFault a.core m
        (Trap.mk' cause a.kind (BitVec.ofNat 64 a.addr) a.lane) false
  else
    match c.p.prb.find? (·.uid == a.uid) with
    | none => s
    | some e => s.setCore a.core (c.modP fun p =>
        { p with prb := p.prb.filter (·.uid ≠ a.uid), dues := p.dues ++ [collisionDue c.tl e.bundle e.slot e.issue cause a] })

/-- Two results that land in one write port in one cycle (R41). -/
def Core.portClash (c : Core) (e : Entry) : Bool :=
  match e.kind with
  | .port n _ => e.due == c.now && c.p.prb.any fun x => x.uid != e.uid && x.due == c.now &&
      (match x.kind with | .port m _ => m == n | _ => false)
  | _ => false

/-- Withdraws the results of a core that meet in a write port. -/
def State.portClashes (s : State) (k : Nat) : State :=
  let c := s.core k
  let bad := c.p.prb.filter c.portClash
  if bad = [] then s
  else s.setCore k (c.modP fun p =>
    { p with prb := p.prb.filter (fun e => !bad.contains e),
             dues := p.dues ++ bad.map fun e => ⟨c.tl, 5, 10, akStore, false, false, e.bundle, e.slot, e.issue, 0, 0, none⟩ })

/-- What an access that no collision withdraws leaves for a later meeting in its cycle. -/
def State.seenOf (s : State) (a : Access) : Seen :=
  let c := s.core a.core
  let e := if a.cmd || a.core == noCore then none else c.p.prb.find? (·.uid == a.uid)
  let m := if a.cmd then c.cmd a.uid else none
  let w := a.flat / 4
  let keep := a.land && decide (a.flat < 2 ^ 46) && a.n != 0
  let words := if keep then List.range ((a.flat + a.n - 1) / 4 - w + 1) else []
  { acc := a, lvl := c.tl, bundle := (e.map Entry.bundle).getD 0, slot := ((m.map Cmd.slot).getD ((e.map Entry.slot).getD 0)),
    issue := (e.map Entry.issue).getD 0, cmd := m, old := if keep then s.bytes a.flat a.n else [],
    tags := words.map fun i => alGet 24 s.tags (w + i), poison := words.map fun i => alGet 0 s.poison (w + i),
    gran := if keep && isPad a.flat then
        (List.range ((a.flat + a.n - 1) / 4096 - a.flat / 4096 + 1)).map fun i => alGet (0, 0) s.gran (a.flat / 4096 + i)
      else [] }

/-- Every collision of this wall cycle, judged on all its accesses together (R18). -/
def State.collide (s : State) : State :=
  let s := s.arrive
  let as := s.accesses
  let all := (List.range as.length).zip as
  let hits := (all.map fun a => (a, clashOf all a)).filter fun x => x.2 ≠ 0
  let kept := (all.filter fun a => hits.all fun h => h.1.1 != a.1).map Prod.snd
  let s := hits.foldl (fun s x => s.collided x.1.2 x.2) s
  let s := { s with seen := kept.map s.seenOf }
  s.cores.foldl (fun s x => if s.active x.1 then s.portClashes x.1 else s) s

/-! Meetings that show only later in the cycle: the first samples of a command that starts in the cycle of its issue, and the sequencer's
increments (R18, R304; log 51). -/

/-- Puts back what a landing has replaced. -/
def State.restoreSeen (s : State) (x : Seen) : State :=
  let a := x.acc
  if x.old = [] then s
  else
    { s with mem := s.mem.write a.flat x.old, tags := alWrite 24 s.tags (a.flat / 4) x.tags,
             poison := alWrite 0 s.poison (a.flat / 4) x.poison,
             gran := if x.gran = [] then s.gran else alWrite (0, 0) s.gran (a.flat / 4096) x.gran }

/-- A command whose access of this cycle is withdrawn after it took effect: `m0` is the command as the cycle found it. -/
def State.cutLate (s : State) (k : Nat) (m0 m : Cmd) (land : Bool) : Cmd :=
  match m.kind with
  | .mx _ => match s.cutAt k m0 land with
    | some (j, q) => m.cutRuns j q
    | none => m.cutRuns 0 0
  | .gamo _ => { m with cut := true, sPos := 0 }
  | _ =>
    let m := if land then m.cutFrom (s.core k).clk else m
    { m with cut := true, flights := m.flights.filter fun f => m0.flights.contains f }

/-- Withdraws an access of this cycle that has taken effect; its event falls due at the next boundary (R18, R181). -/
def State.withdraw (s : State) (x : Seen) (cause : Nat) : State :=
  let a := x.acc
  let s := if a.land then s.restoreSeen x else s
  if a.core = noCore then s.abortArrival a.uid
  else
    let s := if a.land then s.undigest a.core x.slot (s.core a.core).clk (decide (a.flat < 2 ^ 40)) a.addr a.n else s
    let c := s.core a.core
    match x.cmd with
    | some m0 =>
      let t := Trap.mk' cause a.kind (BitVec.ofNat 64 a.addr) a.lane
      let m := s.cutLate a.core m0 ((c.cmd a.uid).getD m0) a.land
      let s := if (c.cmd a.uid).isSome then s.setCmd a.core m
        else s.modCore a.core fun c => c.modE fun e => { e with cmds := e.cmds ++ [m] }
      s.engineFault a.core m t false
    | none => s.setCore a.core (c.modP fun p =>
        { p with prb := p.prb.filter (·.uid ≠ a.uid), dues := p.dues ++ [collisionDue x.lvl x.bundle x.slot x.issue cause a] })

/-- The first accesses of the commands that start in the cycle of their issue. -/
def State.lateAccesses (s : State) : List Access :=
  s.cores.flatMap fun (k, c) =>
    if s.ticks k then (c.e.cmds.filter fun m => m.issue == c.clk && m.start == c.clk && !m.started).flatMap (s.cmdAccesses k) else []

/-- Their collisions, among themselves and with what the cycle has seen (R18). -/
def State.collideLate (s : State) : State :=
  let new := s.lateAccesses
  if new = [] then s
  else
    let old := s.seen.map Seen.acc
    let as := new ++ old
    let all := (List.range as.length).zip as
    let bad := fun (i : Nat) (a : Access) => all.foldl (fun n b =>
      if b.1 = i ∨ (new.length ≤ i ∧ new.length ≤ b.1) then n else max n (a.clash b.2)) 0
    let hitsNew := ((List.range new.length).zip new).filter fun x => bad x.1 x.2 ≠ 0
    let hitsOld := ((List.range s.seen.length).zip s.seen).filter fun x => bad (new.length + x.1) x.2.acc ≠ 0
    let s' := hitsNew.foldl (fun t x => t.collided x.2 (bad x.1 x.2)) s
    hitsOld.foldl (fun t x => t.withdraw x.2 (bad (new.length + x.1) x.2.acc)) s'

/-- The sequencer's increment of the word at a flat address: a member of the word's atomic group, which a plain landing, or an atomic of
another width, on any of its bytes withdraws together with itself (R285, R304). -/
def State.increment (s : State) (flat : Nat) : State :=
  let bad := s.seen.filter fun x => x.acc.land && decide (x.acc.flat < flat + 8) && decide (flat < x.acc.flat + x.acc.n) && x.acc.atom != some (flat, 8)
  if bad = [] then (s.atomicAt flat .add true 1 0).1
  else bad.foldl (fun s x => s.withdraw x 10) { s with seen := s.seen.filter fun x => !bad.contains x }

/-! What a freeze holds back (R23, R24; log 27). -/

/-- Logical spires that share a unit of a level. -/
def levelSpan : Nat → Nat
  | 0 => 1
  | 1 => 16
  | 2 => 128
  | _ => 512

/-- A core waits at a barrier of the level, also where a trap has taken it out of its wait (R26, R186). -/
def Core.waitsAt (c : Core) (level : Nat) : Bool := c.f.wait == .syncb level || c.f.tw == .syncb level

/-- The first cycle in which a core can issue its next bundle. -/
def Core.nextAt (c : Core) : Nat :=
  match c.f.wait with
  | .leave _ at_ _ => max c.clk at_
  | _ => c.clk

/-- An access of global memory. -/
def Access.glob (a : Access) : Bool := a.flat < 2 ^ 40

/-- The physical spire whose memories or registers hold a flat address, none for a cupola scratchpad, a mailbox or global memory. -/
def spireOf (flat : Nat) : Option Nat :=
  if flat < 2 ^ 40 then none
  else if flat < 2 ^ 41 then some ((flat - 2 ^ 40) / 2 ^ 22)
  else if flat < 2 ^ 42 then some ((flat - 2 ^ 41) / 2 ^ 20)
  else if flat < 2 ^ 43 then some ((flat - 2 ^ 42) / 2 ^ 18)
  else if flat < 2 ^ 44 then some ((flat - 2 ^ 43) / 2 ^ 10)
  else if flat < 2 ^ 45 then some ((flat - 2 ^ 44) / 2 ^ 15)
  else if flat < 2 ^ 47 then none
  else if flat < 2 ^ 48 then some ((flat - 2 ^ 47) / 2 ^ 14)
  else some ((flat - 2 ^ 48) / 4)

/-- What a paused core's pending entry has still to do to memory: its cycle, whether it lands, and its place, in global memory by virtual
address and elsewhere by flat address. -/
structure Reach where
  at_ : Nat
  land : Bool
  glob : Bool
  place : Nat
  n : Nat
  deriving DecidableEq, Repr

/-- The accesses that a pending entry has still to make (R15, R16). -/
def State.entryReach (s : State) (p : Nat) (e : Entry) : List Reach :=
  let win := fun (at_ : Nat) (land : Bool) (a n : Nat) => (s.winFlat p a).toList.map fun f => (⟨at_, land, false, f, n⟩ : Reach)
  let lanes := fun (land : Bool) (base : Nat) (offs : List Nat) (mask : BitVec 64) => (List.range 64).flatMap fun l =>
    if laneOn mask l then win (e.samp + l / 4) land (laneAddr base offs l) 4 else []
  match e.kind with
  | .load ldk _ a => if ldk = 8 then [⟨e.samp, false, true, a, 8⟩] else win e.samp false a (if ldk = 6 then 8 else 2 ^ (ldk - 1))
  | .vload ldk _ _ a => if ldk = 9 then [⟨e.samp, false, true, a, 256⟩] else win e.samp false a 256
  | .store sz a _ => win e.due true a (2 ^ sz)
  | .vstore a _ => win e.due true a 256
  | .spillStore a _ => [⟨e.due, true, true, a, 8⟩]
  | .spillVStore a _ => [⟨e.due, true, true, a, 256⟩]
  | .amo _ w _ a _ _ => win e.samp true a (if w then 8 else 4)
  | .vldx _ _ base offs mask _ _ => lanes false base offs mask
  | .vstx base offs mask _ _ => lanes true base offs mask
  | _ => []

/-- The entries that a paused core resumes with: those of its buffer, or those that its trap frame of level 1 holds (R182, R189). -/
def State.resumeEntries (s : State) (p : Nat) : List Entry :=
  let c := s.core p
  if c.tl = 0 then c.p.prb
  else
    let f := s.readFrame p 1
    ((List.range f.descs.length).zip f.descs).map fun (i, d) => s.reinject p f c.p.side1 c.clk i d

/-- An entry of a paused core that acts no later than cycle `c` meets an access. -/
def Reach.meets (r : Reach) (c : Nat) (a : Access) : Bool :=
  let x := if r.glob then a.addr else a.flat
  r.at_ ≤ c && (r.land || a.land) && r.glob == a.glob && r.place < x + a.n && x < r.place + r.n

/-- An issued engine command of a paused core may still meet an access by cycle `c`: a copy by its ranges, an atomic, a synchronisation or
launch command by its words, and a generator, matrix or fabric command anywhere in the places it can name. -/
def State.cmdMeets (s : State) (p : Nat) (m : Cmd) (c : Nat) (a : Access) : Bool :=
  let meets := fun (x n : Nat) => a.glob && x < a.addr + a.n && a.addr < x + n
  let near := !a.glob && (spireOf a.flat == some (p / 2) || (2 ^ 45 ≤ a.flat && a.flat < 2 ^ 46))
  m.start ≤ c && m.queue != 1 && match m.kind with
    | .copy .. | .gather .. =>
      let idx := match m.kind with
        | .gather _ g => s.indices p g
        | _ => []
      (List.range (if a.n = 0 then 0 else (a.addr + a.n - 1) / 64 - a.addr / 64 + 1)).any fun i => m.transits idx a.glob ((a.addr / 64 + i) * 64 : Nat)
    | .ovl _ o => a.land && (meets o.src (32 * o.n) || meets o.man 48)
    | .gen .. => !a.glob
    | .mx _ => near
    | .fab _ => near
    | .gamo g => meets g.addr 8 || !a.glob
    | .lnch r _ => a.land && meets r.toNat 512
    | .rel o _ => meets o.toNat 8
    | .acq o _ => meets o.toNat 8

/-- Cycles from a paused core's next bundle to the first access by which that bundle, or a later one, could see a landing or change what is
sampled (R16, R207, R218): its own spire stands still with it; elsewhere a copy with DLY 0 samples one cycle behind its issue, and a store of
the place's class, or a copy to global memory, lands first. -/
def State.gap (s : State) (p : Nat) (a : Access) : Nat :=
  let c := s.core p
  if a.glob then (if a.land then 1 else (s.tt p 28).lat + 1)
  else match spireOf a.flat with
    | some q =>
      if q = p / 2 then (if a.land || !c.p.held.isEmpty then 0 else (s.tt p 6).aux)
      else if a.land then 1 else if q / 128 = p / 256 then (s.tt p 8).aux else (s.tt p 9).aux
    | none => if !c.p.held.isEmpty then 0 else if a.land then 1 else (s.tt p 7).aux

/-- A paused core could still change, or see, what an access of another core of its launch samples or lands at its present cycle (R23): by
work it has issued, or by its next bundles. -/
def State.mayReach (s : State) (p k : Nat) (a : Access) : Bool :=
  let c := s.core p
  let now := (s.core k).clk
  (s.resumeEntries p).any (fun e => (s.entryReach p e).any fun r => r.meets now a) || c.e.cmds.any (fun m => s.cmdMeets p m now a) ||
    (c.f.mode != .halted && decide (c.nextAt + s.gap p a ≤ now))

/-- Cycles from the last arrival to the release of a barrier of the launch (R26, R373). -/
def Launch.barrierLat (l : Launch) : Nat → Nat
  | 0 => 4
  | 1 => 12
  | 2 => 40
  | 3 => 96
  | _ => match l.ftt with
    | some f => 2 * f.hopmax + 96
    | none => 96

/-- The core has cycles of a STEP left (R351). -/
def Core.stepping (c : Core) : Bool :=
  match c.f.stepTo with
  | some n => decide (c.clk < n)
  | none => false

/-- The samples of global memory that a core makes in its present cycle, by virtual address (R143, R144, R207, R214, R215). -/
def State.globSamples (s : State) (k : Nat) : List Access :=
  let c := s.core k
  let glob := fun (uid a n : Nat) => Access.at k true uid false 0 n akSrc a
  let spills := c.p.prb.flatMap fun e => match e.kind with
    | .load ldk _ a => if ldk = 8 ∧ e.samp = c.now then [glob e.uid a 8] else []
    | .vload ldk _ _ a => if ldk = 9 ∧ e.samp = c.now then [glob e.uid a 256] else []
    | _ => []
  spills ++ (c.e.cmds.filter fun m => m.queue != 1 && !m.cut && decide (m.start ≤ c.clk)).flatMap fun m => match m.kind with
    | .copy p a =>
      if !p.sg || !m.started || a.fill.isSome then []
      else (CopyArgs.chunksNow a.dstGeo m.start p.rate c.clk 512 m.sPos).flatMap fun (t, n) =>
        let (t0, len) := a.srcBytes t n
        (a.srcGeo.pieces t0 len).map fun x => glob m.uid x.1 x.2
    | .gather p g =>
      if p.sg && decide (m.lPos < g.idx.length) && m.start + g.g * (m.lPos + 1) == c.clk then
        [glob m.uid (if g.scatter then g.base + m.lPos * 2 ^ g.esz else g.elem m.lPos) (2 ^ g.esz)]
      else []
    | .ovl _ o => if m.sPos < 32 * o.n then [glob m.uid o.src (32 * o.n)] else []
    | .acq o _ => if m.land = c.clk then [glob m.uid o.toNat 8] else []
    | .lnch r _ => if m.started then [] else [glob m.uid r.toNat 512]
    | _ => []

/-- A receive of the core meets a queue without its flit while another package, or a port, holds the launch: the flit may still come (R23). -/
def State.flitMissing (s : State) (k : Nat) : Bool :=
  let c := s.core k
  ((s.launchOf k).causes.any fun z => match z with | .remote .. => true | .slack _ => true | _ => false) &&
    c.e.cmds.any fun m => match m.kind with
      | .fab f => f.recv && m.started && !m.cut && decide (m.sPos < f.nfl) && decide (s.flitCycle k m f ≤ c.clk) && s.flitLate k m f
      | _ => false

/-- The present cycle of a core waits for other cores of its launch that may still act before it (R23): a barrier's release for one that has not
arrived, a receive for its flit, and an access for a core that it could meet. -/
def State.heldBy (s : State) (k : Nat) (paused : List Nat) : Bool :=
  let c := s.core k
  let l := s.launch c.f.task.launch
  let barrier := match c.f.wait with
    | .syncb lev => paused.any fun p =>
      let d := s.core p
      d.f.task.lsp / levelSpan lev == c.f.task.lsp / levelSpan lev && !d.waitsAt lev && d.f.mode != .halted &&
        decide (d.nextAt + l.barrierLat lev ≤ c.clk)
    | _ => false
  barrier || s.flitMissing k ||
    (!paused.isEmpty && (c.p.prb.flatMap (s.entryAccesses k) ++ c.e.cmds.flatMap (s.cmdAccesses k) ++ s.globSamples k).any fun a =>
      paused.any fun p => s.mayReach p k a)

/-- The other cores of a core's launch that are behind it: stopped, in a STEP, or where the core runs ahead of the slot clock. -/
def State.behind (s : State) (k : Nat) : List Nat :=
  let c := s.core k
  (s.cores.filter fun x => x.2.f.task.launch == c.f.task.launch && x.1 != k && x.2.f.mode != .idle && decide (x.2.clk < c.clk) &&
    (x.2.f.dev.isSome || x.2.f.stepTo.isSome || c.f.lead != 0)).map Prod.fst

/-- The other cores of a core's launch that have stopped before the core's own cycle. -/
def State.level (s : State) (k : Nat) : List Nat :=
  let c := s.core k
  (s.cores.filter fun x => x.2.f.task.launch == c.f.task.launch && x.1 != k && x.2.clk == c.clk && x.2.f.dev.isSome).map Prod.fst

/-- A core must stop, or stay stopped, before its present cycle (R23). Cores that make the cycles of a STEP together do not wait for
each other (R351; log 27). -/
def State.heldBack (s : State) (k : Nat) : Bool :=
  let low := s.behind k
  let eq := s.level k
  let together := (s.core k).stepping && eq.all fun p => (s.core p).stepping && !s.heldBy p (s.behind p)
  s.heldBy k (if together then low else low ++ eq)

end Sys2Proof.Machine
end

