-- ==== Sys2Proof/Machine/Land.lean ====
section
/-! DEFINITION. What pending entries and queue generators do at their cycles: samples, landings with their checks, atomics, redirected
spills, and generator vectors (01_tile_task.md R13 to R17, 02_task_state.md R40, R41, R55, 05_scalar_control.md R119, R139, R141,
07_task_traps.md R181, 08_spire.md R200, R201). -/

namespace Sys2Proof.Machine

/-! Entries. -/

def Core.entryOf (c : Core) (uid : Nat) : Option Entry := c.p.prb.find? (·.uid == uid)

/-- Replaces an entry. -/
def Core.setEntry (c : Core) (e : Entry) : Core :=
  c.modP fun p => { p with prb := p.prb.map fun x => if x.uid == e.uid then e else x }

/-- Frees an entry. -/
def Core.freeEntry (c : Core) (uid : Nat) : Core := c.modP fun p => { p with prb := p.prb.filter (·.uid ≠ uid) }

/-- An event of a pending entry: nothing where the entry has gone. -/
def onEntry (k uid : Nat) (s : State) (g : Entry → State) : Host.Outcome State Fault Refusal :=
  match (s.core k).entryOf uid with
  | some e => .next (g e)
  | none => .next s

/-! Samples (R16, R17, R139, R152, R154). -/

/-- Where sampled data came from, for a forced ECC report (R364): 1 scratchpad, 2 accumulator memory, 3 ISP, 4 HBM. -/
def sourceOf (flat : Nat) : Nat :=
  if flat < 2 ^ 40 then 4 else if isPad flat then 1 else if flat < 2 ^ 42 then 2 else if flat < 2 ^ 43 then 3 else 0

/-- Poison met by a sample: its sub-cause and the address of its first poisoned word; 0 and the sample's address where there is none (R286). -/
def State.samplePoison (s : State) (a flat n : Nat) : Nat × Nat :=
  let p := s.poisonIn flat n
  if p.1 = 0 then (0, a) else (p.1, a + (p.2 - flat))

/-- Bytes of a scalar load. -/
def loadSize (ldk : Nat) : Nat := if ldk = 6 ∨ ldk = 8 then 8 else 2 ^ (ldk - 1)

/-- Sign-extends an `n`-byte value (R139). -/
def sextBytes (n v : Nat) : Word := BitVec.ofInt 64 (sElem v (8 * n))

/-- A load's entry once it has sampled flat address `flat`, shown as address `a`. -/
def State.sampled (s : State) (e : Entry) (a flat : Nat) : Entry :=
  match e.kind with
  | .load ldk phys _ =>
    let n := loadSize ldk
    let p := s.samplePoison a flat n
    { e with kind := .scalar phys (sextBytes n (leValue (s.bytes flat n))), poison := p.1, paddr := p.2, src := sourceOf flat }
  | .vload _ port n _ =>
    let p := s.samplePoison a flat 256
    let lanes := (s.sampleVec flat).map some
    { e with kind := if port then .port n lanes else .vector n lanes, poison := p.1, paddr := p.2, src := sourceOf flat }
  | _ => e

/-- One group of a gather: four lanes of the indexed port (R154). -/
def State.gatherGroup (s : State) (k : Nat) (e : Entry) (port : Bool) (n base : Nat) (offs : List Nat) (mask : BitVec 64)
    (got : List (Option LaneW)) (g : Nat) : Entry :=
  let lanes := (List.range 4).filterMap fun j => if laneOn mask (4 * g + j) then some (4 * g + j) else none
  let flat := fun l => (s.winFlat k (laneAddr base offs l)).getD 0
  let got := lanes.foldl (fun (acc : List (Option LaneW)) l =>
    acc.set l (some ⟨BitVec.ofNat 32 (leValue (s.bytes (flat l) 4)), s.loadTag (flat l)⟩)) got
  let psn := lanes.foldl (fun p l => firstPoison p (s.samplePoison (laneAddr base offs l) (flat l) 4)) (e.poison, e.paddr)
  let first := lanes.head?.map fun l => laneAddr base offs l
  let e := if lanes = [] then e else
    { e with poison := psn.1, src := 1,
             paddr := if psn.1 ≠ 0 then psn.2 else if e.src ≠ 0 then e.paddr else first.getD 0 }
  if g = 15 then { e with kind := if port then .port n got else .vector n got }
  else { e with kind := .vldx port n base offs mask got (g + 1) }

/-- A fault of a redirected spill at its sample or landing: the entry stays for a retry (R55; log 29). -/
def State.spillFault (s : State) (k : Nat) (e : Entry) (t : Trap) : State :=
  s.modCore k fun c =>
    let d : Due := ⟨c.tl, 5, t.cause, t.sub, false, false, e.bundle, e.slot, e.issue, 0, t.addr, none⟩
    c.modP fun p => { p with dues := if p.dues.contains d then p.dues else p.dues ++ [d] }

/-- A load samples its location, or the next group of a gather (R17, R154); a redirected one translates first (R55). -/
def execLoadSample (k uid : Nat) (s : State) : Host.Outcome State Fault Refusal :=
  onEntry k uid s fun e => match e.kind with
    | .load ldk _ a =>
      if ldk = 8 then
        match s.spillPage k uid a false with
        | (s, .ok ps) => (s.transitCheck k 0 e.slot e.bundle true [(a, 8)] none).modCore k (·.setEntry (s.sampled e a (flatOf ps a)))
        | (s, .miss) => s.startWalk k uid [a]
        | (s, .fault t) => s.spillFault k e t
      else
        let s := s.transitCheck k 0 e.slot e.bundle false [(a, loadSize ldk)] none
        s.modCore k (·.setEntry (s.sampled e a ((s.winFlat k a).getD 0)))
    | .vload ldk _ _ a =>
      if ldk = 9 then
        match s.spillPage k uid a false with
        | (s, .ok ps) =>
          let e' := s.sampled e a (flatOf ps a)
          let tags := (List.range 64).map fun l => clampTag (s.tagAt (flatOf ps a + 4 * l))
          let tag := fun (ls : List (Option LaneW)) => (ls.zip tags).map fun (x, t) => x.map fun y => { y with tag := t }
          (s.transitCheck k 0 e.slot e.bundle true [(a, 256)] none).modCore k (·.setEntry (match e'.kind with
            | .vector n ls => { e' with kind := .vector n (tag ls) }
            | .port n ls => { e' with kind := .port n (tag ls) }
            | _ => e'))
        | (s, .miss) => s.startWalk k uid [a]
        | (s, .fault t) => s.spillFault k e t
      else
        let s := s.transitCheck k 0 e.slot e.bundle false [(a, 256)] none
        s.modCore k (·.setEntry (s.sampled e a ((s.winFlat k a).getD 0)))
    | .vldx port n base offs mask got g =>
      let s := (List.range 4).foldl (fun s j =>
        if laneOn mask (4 * g + j) then s.transitCheck k 0 e.slot e.bundle false [(laneAddr base offs (4 * g + j), 4)] none else s) s
      s.modCore k (·.setEntry (s.gatherGroup k e port n base offs mask got g))
    | _ => s

/-! Stores (R16, R37, R79, R139, R152, R154). -/

/-- Lands bytes with tags at a window address of a task, or at a mailbox word (R254). -/
def State.storeAt (s : State) (k slot a : Nat) (bs : List Byte) (tags : List Nat) : State :=
  match (s.launchOf k).window a 1 with
  | none => s
  | some w =>
    if w.unit = 10 then s.mailStore ((w.flat - mailboxBase 0) / 4096) w.off (BitVec.ofNat 64 (leValue bs)) true
    else (s.land w.flat bs tags 0).digest k slot (s.core k).clk false a bs

/-- SUB of a FABUNIT report of the replacement that computed a result (R190, R253, R364). -/
def State.fabFails (s : State) (k : Nat) (e : Entry) : Option Nat :=
  if e.unit = 0 then none else s.fabReport k (e.unit - 1)

/-- The event of a failing check is already due. -/
def Core.checked (c : Core) (e : Entry) : Bool :=
  c.p.dues.any fun d => d.prio ≤ 4 && d.bundle == e.bundle && d.slot == e.slot && d.issue == e.issue && d.cmd.isNone

/-- The FABUNIT report of an entry falls due, and the entry is held (R181, R190). -/
def State.holdFab (s : State) (k : Nat) (e : Entry) (sub : Nat) : State :=
  (s.modCore k fun c => (c.setEntry { e with held := true, suspect := true }).modP fun p =>
    { p with dues := p.dues ++ [⟨c.tl, 1, 21, sub, false, false, e.bundle, e.slot, e.issue, 0, 0, none⟩] }).countFab k sub

/-- A store lands: plain, vector, one group of a scatter, or a redirected spill (R16, R55, R154). -/
def execStoreLanding (k uid : Nat) (s : State) : Host.Outcome State Fault Refusal :=
  let spill := fun (e : Entry) (va : Nat) (bs : List Byte) (tags : List Nat) => match s.spillPage k uid va true with
    | (s, .ok ps) => ((s.landVirtual ps va bs tags 0).digest k e.slot (s.core k).clk true va bs).modCore k (·.freeEntry uid)
    | (s, .miss) => s.startWalk k uid [va]
    | (s, .fault t) => s.spillFault k e t
  onEntry k uid s fun e => match if e.held then none else s.fabFails k e with
   | some sub => s.holdFab k e sub
   | none => match e.kind with
    | .store sz a v => (s.storeAt k e.slot a (leBytes v.toNat (2 ^ sz)) []).modCore k (·.freeEntry uid)
    | .vstore a v => (s.storeAt k e.slot a (vecBytes v) (v.map (·.tag))).modCore k (·.freeEntry uid)
    | .vstx base offs mask v g =>
      let s := (List.range 4).foldl (fun s j =>
        let l := 4 * g + j
        if laneOn mask l then s.storeAt k e.slot (laneAddr base offs l) (leBytes (v.at l).w.toNat 4) [(v.at l).tag] else s) s
      if g = 15 then s.modCore k (·.freeEntry uid)
      else s.modCore k (·.setEntry { e with kind := .vstx base offs mask v (g + 1) })
    | .spillStore va v => spill e va (leBytes v.toNat 8) []
    | .spillVStore va v => spill e va (vecBytes v) (v.map (·.tag))
    | _ => s

/-! Scratchpad atomics (R19, R141). -/

/-- A scratchpad atomic rewrites its word and keeps the old value for its result's landing. -/
def execAmoApply (k uid : Nat) (s : State) : Host.Outcome State Fault Refusal :=
  onEntry k uid s fun e => match e.kind with
    | .amo op w64 phys a operand cmp =>
      let n := if w64 then 8 else 4
      let flat := (s.winFlat k a).getD 0
      let r := s.atomicAt flat op w64 operand cmp
      let new := atomicNew op w64 r.2.1 operand cmp
      let s := (r.1.digest k e.slot (s.core k).clk false a (leBytes new.toNat n))
      s.modCore k (·.setEntry { e with kind := .scalar phys (sextBytes n r.2.1.toNat) })
    | _ => s

/-! Results (R13, R14, R41, R181). -/

/-- A field of an address-generator set from a written word (R43). -/
def AgSet.write (g : AgSet) (sel : Nat) (v : Word) : AgSet :=
  match sel with
  | 0 => { g with base := v.setWidth 40 }
  | 1 => { g with str0 := v.setWidth 24 }
  | 2 => { g with str1 := v.setWidth 24 }
  | 3 => { g with str2 := v.setWidth 24 }
  | 4 => { g with cnt0 := v.setWidth 16 }
  | 5 => { g with cnt1 := v.setWidth 16 }
  | 6 => { g with cnt2 := v.setWidth 16 }
  | _ => { g with fmt := v.setWidth 4 }

/-- The bits of an engine register that a `wreng` writes: its RW fields (R5, R203 to R205, R282, 17_fabric.md). -/
def engMask : Nat → Word
  | 0x00 => 0x3FFFC
  | 0x01 => 0x00FFFFFFFFFFFFFF
  | 0x06 => 0xFFF
  | 0x07 => 0x01FFFFFFFFFFFFFF
  | 0x11 => 0x80000FFFFFFFFFFF
  | 0x18 => 0xC000FFFF00000000
  | 0x19 => 0x0000FFFF00000FFF
  | 0x1A => 0x3FFFF
  | 0x1B => 0xFFF
  | _ => ~~~0

/-- Reseeds the core's generator and refills its queue (R48, R136). -/
def Core.reseed (c : Core) (seed : Word) : Core :=
  let r := rngFill 16 (rngSeed seed c.f.task.req)
  c.modR fun x => { x with rngQ := r.1, rng := r.2, rngPops := 0 }

/-- A result takes effect in its register or port. -/
def Core.landEntry (c : Core) (e : Entry) : Core :=
  match e.kind with
  | .scalar n v => c.setS n v
  | .vector n l => c.landV n l
  | .pred n v m => c.landP n v m
  | .port n l => c.modR fun r => { r with wq := r.wq.set n (r.wq.getD n [] ++ [portVec l]) }
  | .ag n sel v => c.modR fun r => { r with ag := r.ag.set n ((r.ag.getD n AgSet.zero).write sel v) }
  | .mp n v => c.modR fun r => { r with mp := r.mp.set n v }
  | .eng n v => c.modR fun r => { r with eng := r.eng.set n (v &&& engMask n) }
  | .sys n v => c.sysWrite n v
  | .binding b => c.modR fun r => { r with bind := bindTable r.bind b }
  | .reseed v => c.reseed v
  | _ => c

/-- True for an entry that lands in a register or port when it is due. -/
def Entry.result (e : Entry) : Bool :=
  match e.kind with
  | .load .. | .vload .. | .store .. | .vstore .. | .spillStore .. | .spillVStore .. | .vldx .. | .vstx .. | .amo .. => false
  | _ => true

/-- The lowest written lane whose tag is below a threshold (R77, R78). -/
def lowLane (lanes : List (Option LaneW)) (t : Nat) : Option Nat :=
  (List.range 64).find? fun l => match lanes.getD l none with
    | some x => decide (x.tag < t)
    | none => false

/-- The lanes of a vector result. -/
def Entry.lanes (e : Entry) : List (Option LaneW) :=
  match e.kind with
  | .vector _ l => l
  | .port _ l => l
  | _ => []

/-- The lowest active lane of a result, which a forced SHADOW report names; lane 0 where it has no lanes (R151, R364, log 44). -/
def Entry.lowActive (e : Entry) : Nat :=
  match e.kind with
  | .vector _ l => (l.findIdx? Option.isSome).getD 0
  | .port _ l => (l.findIdx? Option.isSome).getD 0
  | .pred _ _ mask => ((List.range 64).find? fun b => mask.getLsbD b).getD 0
  | _ => 0

/-- A result has data in a lane that a shadow unit compares (R151). -/
def Entry.compares (e : Entry) (lane : Nat) : Bool :=
  match e.kind with
  | .vector _ l => (l.getD lane none).isSome
  | .port _ l => (l.getD lane none).isSome
  | .pred _ _ mask => mask.getLsbD lane
  | _ => lane == 0

/-- The word a result writes in a lane. -/
def Entry.laneWord (e : Entry) (l : Nat) : Lane := ((e.lanes.getD l none).map LaneW.w).getD 0

/-- The XINJ bit that forces an ECC report on data of a source (R364). -/
def Entry.eccBit (e : Entry) : Nat := if e.src = 4 then 5 else e.src + 1

/-- The FP pipe that computed a result (R251). -/
def Entry.pipeId (k : Nat) (e : Entry) : Nat := ruidOf (k / 2) 2 (k % 2) (e.slot - 4)
def State.switchedUnit (s : State) (r : Nat) : Bool := (s.spire (ruidSpire r)).switched.contains (ruidLocal r)

/-- The lane of a SHADOW report and its SUB: forced through XINJ, or the lowest active lane that mismatches the shadow unit's value (R151, R190,
R363, R364). -/
def State.shadowFails (s : State) (k : Nat) (e : Entry) : Option (Nat × Nat) :=
  if !e.fpu then none
  else if (s.core k).inj 0 then some (e.lowActive, 0x8000 + e.slot)
  else if s.switchedUnit (e.pipeId k) then none
  else
    let bad := (s.wrongLanes (e.pipeId k)).filter fun x => e.compares x.1 && laneMismatch e.typ (e.laneWord x.1) x.2
    ((bad.map Prod.fst).min?).map fun l => (l, e.slot)

/-- What the checks of R181 find in a result that lands: priority, cause, sub-cause and lane of each, and its address. -/
def State.landFails (s : State) (k : Nat) (e : Entry) : List (Nat × Nat × Nat × Nat × Nat) :=
  let c := s.core k
  let poison := if e.poison ≠ 0 then [(3, 18, e.poison, 0, e.paddr)] else []
  if e.held then poison
  else
    let shadow := match s.shadowFails k e with
      | some x => [(1, 6, x.2, x.1, 0)]
      | none => []
    let fab := match s.fabFails k e with
      | some u => [(1, 21, u, 0, 0)]
      | none => []
    let ecc := if e.poison = 0 && e.src ≠ 0 && c.inj e.eccBit then [(3, 18, 0x8000 + e.src, 0, e.paddr)] else []
    let loss := match e.sthr with
      | some t => match lowLane e.lanes t with
        | some l => [(4, 5, e.slot, l, 0)]
        | none => []
      | none => []
    shadow ++ fab ++ poison ++ ecc ++ loss

/-- The reports of units that the belfry counts, and the bits of XINJ that forced ones clear (R190, R252, R364). -/
def State.unitReports (s : State) (k : Nat) (e : Entry) (fs : List (Nat × Nat × Nat × Nat × Nat)) : State :=
  fs.foldl (fun s f =>
    let forced := decide (0x8000 ≤ f.2.2.1)
    if f.2.1 = 6 then
      if forced then (s.modCore k (·.clearInj 0)).reportUnit (e.pipeId k) true else s.reportUpset (e.pipeId k)
    else if f.2.1 = 21 then
      s.countFab k f.2.2.1
    else if forced then s.modCore k (·.clearInj e.eccBit)
    else s) s

/-- A result lands at its cycle, or a check holds it back (R13, R41, R181). A vector that meets a full write port is lost with its QFULL (log
77). -/
def execResultLanding (k uid : Nat) (s : State) : Host.Outcome State Fault Refusal :=
  onEntry k uid s fun e =>
    let c := s.core k
    if !e.result || c.checked e then s
    else
      let fs := s.landFails k e
      if fs = [] then
        match e.kind with
        | .port n _ =>
          let take := c.e.cmds.any fun m => match m.kind with
            | .gen p _ set => p == n + 4 && m.started && !m.cut && decide (m.sPos < set.total) &&
                decide (m.start + (s.tt k 22).lat + m.sPos = c.clk)
            | _ => false
          if 4 ≤ (c.r.wq.getD n []).length && !take then
            let d : Due := ⟨c.tl, 5, 8, 2, false, false, e.bundle, e.slot, e.issue, 0, 0, none⟩
            s.setCore k ((c.freeEntry uid).modP fun p => { p with dues := p.dues ++ [d] })
          else s.setCore k ((c.freeEntry uid).landEntry e)
        | _ => s.setCore k ((c.freeEntry uid).landEntry e)
      else
        let dues := fs.map fun f =>
          (⟨c.tl, f.1, f.2.1, f.2.2.1, false, false, e.bundle, e.slot, e.issue, f.2.2.2.1, BitVec.ofNat 64 f.2.2.2.2, none⟩ : Due)
        let e' := { e with held := true, suspect := e.suspect || fs.any (·.1 == 1),
                           forced := e.forced || fs.any fun f => f.2.1 == 18 && 0x8000 ≤ f.2.2.1 }
        (s.setCore k ((c.setEntry e').modP fun p => { p with dues := p.dues ++ dues })).unitReports k e fs

/-! Queue generators (R40, R119, R200, R201). -/

/-- Vector `n`'s checks: alignment, the issuing spire's unit 0, and the granule's format. -/
def State.genCheck (s : State) (k : Nat) (set : AgSet) (n kind : Nat) : Except Trap Nat :=
  let a := set.addr n
  if a % 256 ≠ 0 then .error (engTrap 14 kind a)
  else match if a < 0 ∨ 2 ^ 40 ≤ a then none else (s.launchOf k).window a.toNat 256 with
    | none => .error (engTrap 12 kind a)
    | some w =>
      if w.unit ≠ 0 ∨ !w.own (s.core k).f.task.lsp then .error (engTrap 12 kind a)
      else if set.fmt ≠ 0 ∧ (s.granule w.flat).1 ≠ set.fmt.toNat then .error (engTrap 16 kind a)
      else .ok w.flat

/-- A generator stops at its first fault. -/
def State.genFault (s : State) (k : Nat) (m : Cmd) (t : Trap) : State := (s.setCmd k { m with cut := true }).engineFault k m t false

/-- A generator copies its set and runs; the next `qgo` of its port is checked again against the counts copied (R119). -/
def execQueueGeneratorStart (k uid : Nat) (s : State) : Host.Outcome State Fault Refusal :=
  match (s.core k).cmd uid with
  | none => .next s
  | some m => match m.kind with
    | .gen port ag _ =>
      if m.started then .next s
      else
        let set := (s.core k).r.ag.getD ag AgSet.zero
        let m := { m with kind := .gen port ag set, started := true }
        let s := (s.setCmd k m).engineRecord k 6 m.slot 6 port m.bundle m.syll
        let late := (s.core k).e.cmds.find? fun x => match x.kind with
          | .gen p _ _ => p == port && m.uid < x.uid && decide (x.start < genLast m.start (s.tt k 22).lat set)
          | _ => false
        match late with
        | some x => .next ((s.engineFault k x slipLate false).modCore k fun c =>
            c.modE fun e => { e with gens := e.gens.filter (·.uid != x.uid) })
        | none => .next s
    | _ => .next s

/-- A read-port generator samples its next vector with the tags of a vector load (R200). -/
def execGeneratorSample (k uid : Nat) (s : State) : Host.Outcome State Fault Refusal :=
  match (s.core k).cmd uid with
  | none => .next s
  | some m => match m.kind with
    | .gen port _ set =>
      if m.cut ∨ 4 ≤ port ∨ set.total ≤ m.sPos then .next s
      else match s.genCheck k set m.sPos akLoad with
        | .error t => .next (s.genFault k m t)
        | .ok flat =>
          let s := s.transitCheck k 3 m.slot m.bundle false [((set.addr m.sPos).toNat, 256)] none
          let v := s.sampleVec flat
          let f : Flight := ⟨0, vecBytes v, v.map (·.tag), 0, 0, (s.poisonIn flat 256).1, m.start + (s.tt k 22).lat + m.sPos, []⟩
          .next (s.setCmd k { m with sPos := m.sPos + 1, flights := m.flights ++ [f] })
    | _ => .next s

/-- The vector of 256 bytes and 64 tags. -/
def flightVec (f : Flight) : Vec :=
  (List.range 64).map fun l => ⟨BitVec.ofNat 32 (leValue ((f.data.drop (4 * l)).take 4)), f.tags.getD l 24⟩

/-- A generator command whose last vector has passed ends. -/
def State.genDone (s : State) (k : Nat) (m : Cmd) (set : AgSet) : State :=
  if m.flights.isEmpty && (m.cut || decide (set.total ≤ m.sPos)) then s.endCmd k m else s

/-- A read-port generator delivers a vector; a fifth raises QFULL and stops it (R40). -/
def execGeneratorDelivery (k uid : Nat) (s : State) : Host.Outcome State Fault Refusal :=
  match (s.core k).cmd uid with
  | none => .next s
  | some m => match m.kind, m.flights with
    | .gen port _ set, f :: rest => viaUnit k uid s <|
      let q := (s.core k).r.q.getD port []
      if 4 ≤ q.length then
        .next ((s.setCmd k { m with cut := true, flights := [] }).engineFault k m (trapSlip 2) false)
      else
        let m := { m with flights := rest }
        let s := (s.setCmd k m).modCore k fun c => c.modR fun r => { r with q := r.q.set port (q ++ [flightVec f]) }
        .next (s.genDone k m set)
    | _, _ => .next s

/-- A write-port generator takes a vector from its port, or raises QEMPTY (R41, R201). -/
def execGeneratorTake (k uid : Nat) (s : State) : Host.Outcome State Fault Refusal :=
  match (s.core k).cmd uid with
  | none => .next s
  | some m => match m.kind with
    | .gen port _ set =>
      if m.cut ∨ port < 4 ∨ set.total ≤ m.sPos then .next s
      else match (s.core k).r.wq.getD (port - 4) [] with
        | [] => .next (s.genFault k m slipEmpty)
        | v :: rest =>
          let t := s.tt k 22
          let f : Flight := ⟨(set.addr m.sPos).toNat, vecBytes v, v.map (·.tag), m.sPos, 0, 0, m.start + t.lat + m.sPos + t.aux, []⟩
          .next ((s.setCmd k { m with sPos := m.sPos + 1, flights := m.flights ++ [f] }).modCore k fun c =>
            c.modR fun r => { r with wq := r.wq.set (port - 4) rest })
    | _ => .next s

/-- A write-port generator lands a taken vector, or stops at a failing address (R201). A flight's `fmt` holds its vector number. -/
def execGeneratorLanding (k uid : Nat) (s : State) : Host.Outcome State Fault Refusal :=
  match (s.core k).cmd uid with
  | none => .next s
  | some m => match m.kind, m.flights with
    | .gen _ _ set, f :: rest => viaUnit k uid s <|
      match s.genCheck k set f.fmt akStore with
      | .error t => .next (s.genFault k { m with flights := [] } t)
      | .ok flat =>
        let m := { m with flights := rest }
        let s := ((s.setCmd k m).land flat f.data f.tags 0).digest k m.slot f.due false f.dst f.data
        .next (s.genDone k m set)
    | _, _ => .next s

end Sys2Proof.Machine
end

