-- ==== Sys2Proof/Machine/Cycle.lean ====
section
/-! DEFINITION. What happens to a core between bundles and behind them: waits, barriers, boundaries, freezes and thaws, handlers,
interrupts, breakpoints, loop-back and the end of a bundle (01_tile_task.md R22 to R30, 05_scalar_control.md R122 to R131,
07_task_traps.md R180 to R191, 15_lantern.md R348 to R351). -/

namespace Sys2Proof.Machine

/-! Waits (R29, R30). -/

/-- The target of a `waitt` or `waitg`, or the release of a barrier, is reached. -/
def State.waitOver (s : State) (k : Nat) : Bool :=
  match (s.core k).f.wait with
  | .waitt t => decide (t.toNat ≤ (s.core k).x.schc.toNat)
  | .waitg g => decide (g.toNat ≤ s.gtime.toNat)
  | .leave _ at_ _ => decide (at_ ≤ (s.core k).clk)
  | _ => false

/-- The core behind its wait: a barrier's participant takes V as its SCHC (R27). -/
def Core.waitEnded (c : Core) : Core :=
  let c := match c.f.wait with
    | .leave _ _ v => c.modX fun x => { x with schc := v }
    | _ => c
  c.modF fun f => { f with wait := .none }

/-- Ends a wait whose target is reached. -/
def State.endWait (s : State) (k : Nat) : State := if s.waitOver k then s.modCore k Core.waitEnded else s

def execWaittExpiry (k : Nat) (s : State) : Host.Outcome State Fault Refusal :=
  match (s.core k).f.wait with
  | .waitt _ => .next (s.endWait k)
  | _ => .next s

def execWaitgExpiry (k : Nat) (s : State) : Host.Outcome State Fault Refusal :=
  match (s.core k).f.wait with
  | .waitg _ => .next (s.endWait k)
  | _ => .next s

/-! Barriers (R26 to R28, R373). -/

/-- The cores of a launch on this package that take part in the barrier of a level's unit. -/
def State.members (s : State) (l level unit : Nat) : List (Nat × Core) :=
  s.cores.filter fun x => x.2.f.task.launch == l && x.2.f.mode != .idle && x.2.f.task.lsp / levelSpan level == unit

/-- Arrivals of other packages that a domain barrier needs: each package of the launch has as many tasks, and a halted one counts as
arrived (R26, R373; log 30). -/
def Launch.remoteNeeded (l : Launch) (level here : Nat) : Nat :=
  if level ≠ 4 then 0 else match l.ftt with
    | some f => (f.npkg - 1) * here - l.halts.length
    | none => 0

/-- Slot-clock cycle of the last arrival, if every participant has arrived. -/
def State.lastArrival (s : State) (l level unit : Nat) : Option Nat :=
  let ms := s.members l level unit
  let x := s.launch l
  let needed := x.remoteNeeded level ms.length
  if !(ms.any fun m => m.2.waitsAt level) || !(ms.all fun m => m.2.waitsAt level || m.2.f.mode == .halted) || x.arrs.length < needed then none
  else
    let near := ms.foldl (fun n m => max n m.2.f.arr.1) 0
    some (if level = 4 then (x.arrs.take needed ++ x.halts).foldl (fun n a => max n a.2) near else near)

/-- The cycle of a barrier's release, a fixed latency behind the last arrival whatever freezes stand between (R23, R26). -/
def State.releaseAt (s : State) (l level unit : Nat) : Option Nat :=
  (s.lastArrival l level unit).map (· + (s.launch l).barrierLat level)

/-- A core has come to the cycle of its barrier's release. -/
def State.releases (s : State) (k : Nat) : Bool :=
  let c := s.core k
  s.ticks k && match c.f.wait with
    | .syncb level => match s.releaseAt c.f.task.launch level (c.f.task.lsp / levelSpan level) with
      | some n => decide (n ≤ c.clk)
      | none => false
    | .leave _ at_ _ => decide (at_ ≤ c.clk)
    | _ => false

/-- A barrier may release a core now. -/
def State.barrierDue (s : State) (l level unit : Nat) : Bool :=
  (s.members l level unit).any fun m => s.releases m.1 && (match m.2.f.wait with
    | .syncb n => n == level
    | .leave n _ _ => n == level
    | _ => false)

/-- The freeze of a context kill begins (R191). -/
def State.beginKill (s : State) (l : Nat) : State :=
  match (s.launch l).kill with
  | none => s
  | some i => if (s.launch l).causes.contains .kill then s else (s.freeze l .kill).toPeers l (.kill i.reason)

/-- A wait at a barrier whose release is fixed. -/
def Wait.fixed (level at_ : Nat) (v : Word) (w : Wait) : Wait := if w = .syncb level then .leave level at_ v else w

/-- Fixes the release of a barrier whose last participant has arrived: its cycle, and V, the largest SCHC of any participant's `syncb` plus the
level's latency (R27). The arrivals of other packages that it took are spent. -/
def State.fixRelease (s : State) (l level unit : Nat) : State :=
  match s.releaseAt l level unit with
  | none => s
  | some n =>
    let ms := s.members l level unit
    let x := s.launch l
    let needed := x.remoteNeeded level ms.length
    let far := (x.arrs.take needed).foldl (fun n a => max n a.2) 0
    let top := ms.foldl (fun n m => if m.2.waitsAt level then max n m.2.f.arr.2.toNat else n) far
    let v := BitVec.ofNat 64 (top + x.barrierLat level)
    let s := ms.foldl (fun s m => s.modCore m.1 fun c => c.modF fun f =>
      { f with wait := f.wait.fixed level n v, tw := f.tw.fixed level n v }) s
    s.modLaunch l fun y => { y with arrs := y.arrs.drop needed }

/-- Releases a barrier: every participant takes V as its SCHC at its own cycle of the release (R26, R27); a context kill's freeze begins with it
(R191). -/
def execBarrierRelease (l level unit : Nat) (s : State) : Host.Outcome State Fault Refusal :=
  if !s.barrierDue l level unit then .next s
  else
    let s := s.fixRelease l level unit
    let s := (s.members l level unit).foldl (fun s m => if s.ticks m.1 then s.endWait m.1 else s) s
    .next (s.beginKill l)

/-! Debugger stops (R349, R351). -/

/-- Sets DSTAT.CODE of the lanterns attached to a CORR. -/
def State.setDstat (s : State) (corr code : Nat) : State :=
  { s with lanterns := s.lanterns.map fun l => if field l.datt 63 1 = 1 ∧ field l.datt 0 32 = corr then { l with dstat := code } else l }

/-- The breakpoint that matches the task's next bundle (R349). -/
def Core.bpAt (c : Core) (b : Nat) : Bool :=
  let inside := fun (l : LoopLevel) => l.start.toNat ≤ b && b ≤ l.last.toNat
  match c.inner with
  | some l =>
    if l.kind = 2 ∧ l.start ≤ c.f.pc ∧ c.f.pc ≤ l.last then c.f.pc == l.start && inside l
    else c.f.pc.toNat == b || c.l.levels.any fun x => x.ended && inside x
  | none => c.f.pc.toNat == b || c.l.levels.any fun x => x.ended && inside x

/-- Whether a breakpoint word selects a task. -/
def bpSelects (w : Word) (c : Core) : Bool :=
  let h := field w 61 2
  field w 63 1 == 1 && (h == 0 || (h ≠ 3 && h == c.f.task.half + 1)) && (field w 60 1 == 1 || field w 51 9 == c.f.task.lsp)

def State.breakpoint (s : State) (k : Nat) : Option Nat :=
  let c := s.core k
  let ready := c.f.mode == .task && c.tl == 0 && c.f.shadow.isNone && c.f.wait == .none && c.f.latch.isEmpty && !c.f.bpSeen
  if !ready || !s.attached k then none
  else (List.range 8).find? fun i =>
    let w := (s.lantern (towerOf k)).bp.getD i 0
    bpSelects w c && c.bpAt (field w 0 12)

/-- A matching core starts a debugger stop (R349). -/
def State.hitBreakpoint (s : State) (k n : Nat) : State :=
  let c := s.core k
  let l := c.f.task.launch
  let s := (s.freeze l .debug).taskRecord k 3 9 c.f.pc.toNat n c.x.schc.toNat
  (s.modCore k fun c => (c.stopAt s.wall s.gtime).modF fun f => { f with bpSeen := true }).endSteps l

/-! The boundary (R181). -/

/-- The event a boundary takes: the lowest priority number, then the earliest issue, then the lowest slot. -/
def Due.before (a b : Due) : Bool :=
  if a.prio ≠ b.prio then a.prio < b.prio else if a.issue ≠ b.issue then a.issue < b.issue else a.slot < b.slot

def Core.nextDue (c : Core) : Option Due :=
  (c.p.dues.filter fun d => d.lvl == c.tl).foldl (fun b d => match b with
    | none => some d
    | some x => if d.before x then some d else some x) none

/-- PEND bit of an event: SHADOW and FABUNIT 0, MIRROR 1, ECC 2, SIGLOSS 3, engine faults 4 (R186). -/
def Due.pendBit (d : Due) : Nat := if d.prio ≤ 4 then 2 ^ (d.prio - 1) else if d.cmd.isSome then 16 else 0

/-- PEND: every kind of check that failed and was not the one taken, and an engine fault beside the event taken (R181, R186). -/
def Core.pendBits (c : Core) (t : Due) : Nat :=
  (List.range 5).foldl (fun n i =>
    if c.p.dues.any fun d => d.lvl == t.lvl && d.pendBit == 2 ^ i && (d.prio != t.prio || (d.prio == 5 && d != t)) then n + 2 ^ i
    else n) 0

/-- Takes a due event: the next trap level, between bundles (R181). -/
def State.takeDue (s : State) (k : Nat) (d : Due) : State :=
  let c := s.core k
  let pend := c.pendBits d
  let s := s.setCore k (c.modP fun p => { p with dues := p.dues.filter (· ≠ d) })
  s.enterTrap k ⟨d.cause, d.sub, true, d.hch, d.eng, d.bundle, d.slot, d.lane, d.addr, pend, d.cmd⟩

/-- The pending interrupt with the lowest sub-cause (R180). -/
def Flow.irq (f : Flow) : Option Nat :=
  if f.irqTimer then some 1 else if f.irqBelfry then some 2 else if f.irqDebug then some 3 else none

/-- An interrupt may be taken at this boundary (R180). -/
def Core.irqOpen (c : Core) : Bool :=
  c.tl == 0 && c.f.mode == .task && c.f.shadow.isNone && c.f.wait == .none && c.f.latch.isEmpty

def State.takeIrq (s : State) (k n : Nat) : State :=
  let s := s.modCore k fun c => c.modF fun f =>
    match n with
    | 1 => { f with irqTimer := false }
    | 2 => { f with irqBelfry := false }
    | _ => { f with irqDebug := false }
  s.enterTrap k ⟨20, n, true, false, false, (s.core k).f.pc.toNat, 0, 0, 0, 0, none⟩

/-- The next bundle would issue: the core is not idle, waiting or ending. The slots that a trap cut off from their bundle issue before the
bundle's own wait, `cwait` or `tret` goes on (R189). -/
def Core.issues (c : Core) : Bool :=
  let rest := !c.f.latch.isEmpty
  (c.f.mode == .task && (c.f.wait == .none || rest)) || c.f.mode == .handler || ((c.f.mode == .cwait || c.f.mode == .tret) && rest)

/-- ECC of the bundle that would issue: poisoned, or forced through XINJ bit 4 (R199, R364). -/
def State.fetchEcc (s : State) (k : Nat) : Option Nat :=
  let c := s.core k
  if !c.issues then none
  else if (s.poisonIn (ispBase k + 32 * c.f.pc.toNat) 32).1 ≠ 0 then some 3
  else if c.inj 4 then some 0x8003
  else none

/-- A sample record is due with the bundle, once: not with the slots of it that a trap or a stop cut off (R348). -/
def State.sampleDue (s : State) (k : Nat) : Bool :=
  let c := s.core k
  let e := field (s.lantern (towerOf k)).lctl 24 8
  c.f.mode == .task && c.f.latch.isEmpty && 6 ≤ e && e ≤ 40 && c.x.schc.toNat % 2 ^ e == 0

/-- The core stops at its boundary. -/
def State.stopHere (s : State) (k : Nat) : State :=
  s.modCore k fun c => (c.stopAt s.wall s.gtime).modF fun f => { f with stopped := true }

/-- One boundary: the highest event due, else an interrupt, a poisoned bundle, a breakpoint, or the sample record (R181, R348, R349). R181
does not rank the ECC of a poisoned bundle: the model puts it behind the interrupts (log 75). A task stops for a pre-emption or a STOP instead of taking a trap (R322, R351). -/
def State.boundary (s : State) (k : Nat) : State :=
  let s := s.modCore k fun c => c.modF fun f => { f with bnd := true }
  let c := s.core k
  let held := (s.launchOf k).holdsTraps && c.tl == 0
  match c.nextDue with
  | some d => if held then s.stopHere k else s.takeDue k d
  | none =>
    match if c.irqOpen && !held then c.f.irq else none with
    | some n => s.takeIrq k n
    | none =>
      match s.fetchEcc k with
      | some sub =>
        if held then s.stopHere k
        else
        let s := if sub = 0x8003 then s.modCore k (·.clearInj 4) else s
        let addr := windowOf c.f.task.lsp ((4 + k % 2) * 2 ^ 26 + 32 * c.f.pc.toNat)
        s.enterTrap k ⟨18, sub, true, false, false, c.f.pc.toNat, 0, 0, BitVec.ofNat 64 addr, 0, none⟩
      | none =>
        match s.breakpoint k with
        | some n => s.hitBreakpoint k n
        | none => if s.sampleDue k then s.sampleRecord k false else s

def execCycleBoundary (k : Nat) (s : State) : Host.Outcome State Fault Refusal := .next (s.boundary k)

/-! Handlers (R145, R182, R189, R216). -/

/-- The first handler bundle of a trap level issues (R182). -/
def execHandlerStart (k : Nat) (s : State) : Host.Outcome State Fault Refusal :=
  match (s.core k).f.mode with
  | .entry w => .next (if s.wall < w then s else s.modCore k fun c => c.modF fun f => { f with mode := .handler })
  | _ => .next s

/-- The handler's own work has landed. -/
def Core.handlerIdle (c : Core) : Bool := c.p.prb.isEmpty && c.e.cmds.all fun m => m.queue != 1

/-- Lands what the array held back, in the resume cycle (R234, R237). -/
def State.flushHeld (s : State) (k : Nat) : State :=
  let hs := (s.core k).p.held
  let s := s.modCore k fun c => c.modP fun p => { p with held := [] }
  hs.foldl (fun s h => s.landHeld k h) s

/-- A `tret` completes: checks, re-injection and, at TL0, the landings the array held (R189). -/
def execTretComplete (k : Nat) (s : State) : Host.Outcome State Fault Refusal :=
  let c := s.core k
  if c.f.mode ≠ .tret ∨ c.f.latch ≠ [] ∨ c.handlerIdle = false then .next s
  else
    let s := s.leaveTrap k
    .next (if (s.core k).f.mode = .task then s.flushHeld k else s)

/-- A `cwait` ends with the landing of the last handler-channel command (R145). -/
def execCwaitEnd (k : Nat) (s : State) : Host.Outcome State Fault Refusal :=
  let c := s.core k
  if c.f.mode ≠ .cwait ∨ c.f.latch ≠ [] ∨ c.e.cmds.any (fun m => m.queue == 1) then .next s
  else .next (s.setCore k (c.modF fun f => { f with mode := .handler }))

/-! Freezes (R22 to R25, R191, R382). -/

/-- A core that has not stopped and has something to stop, of a frozen launch, or one that runs ahead of the slot clock since a resume (R24, R323,
R347). -/
def State.runsOn (s : State) (k : Nat) : Bool :=
  let c := s.core k
  let l := s.launchOf k
  l.phase == .running && (!l.causes.isEmpty || c.f.lead != 0) && !c.f.stopped && c.f.dev.isNone &&
    (c.f.mode == .task || (c.f.mode == .halted && c.work))

/-- A component's stop is due: F cycles after an initiator of this package, at the slot-clock cycle that another package's freeze names, or at
once where this package has detected slack exhaustion (R24, R382). -/
def State.stopNow (s : State) (k : Nat) : Bool :=
  let l := s.launchOf k
  l.causes.any fun z => match z with
    | .remote n _ => decide (n ≤ (s.core k).clk)
    | .slack _ => true
    | .debug => match (s.core k).f.stepTo with
      | some n => decide (n ≤ (s.core k).clk)
      | none => decide (l.fstart + l.stagger ≤ s.wall)
    | _ => decide (l.fstart + l.stagger ≤ s.wall)

/-- Only the debugger has frozen the launch: a component then stops behind the landings of its stop cycle (R351; log 40). -/
def Launch.debugOnly (l : Launch) : Bool := !l.causes.isEmpty && l.causes.all Cause.stops

/-- The core has made the cycles of a STEP (R351). -/
def Core.stepped (c : Core) : Bool :=
  match c.f.stepTo with
  | some n => decide (n ≤ c.clk)
  | none => false

/-- A component stops F cycles after the initiator, or before an access that R23 holds back, or at the end of its STEP, whose boundary no
breakpoint matches (R349, R351). -/
def execFreezeStaggerStop (k : Nat) (s : State) : Host.Outcome State Fault Refusal :=
  if !s.runsOn k || !(s.stopNow k || s.heldBack k) then .next s
  else
    .next (s.modCore k fun c => (c.stopAt s.wall s.gtime).modF fun f =>
      { f with stopped := true, stepTo := if c.stepped then none else f.stepTo,
               bpSeen := f.bpSeen || (c.stepped && f.wait == .none) })

/-- A stopped core whose turn to resume has come (R24), or that has cycles of a STEP left (R351). One that runs ahead of the slot clock waits for
the cores that R23 makes it wait for (R323). -/
def State.resumes (s : State) (k : Nat) : Bool :=
  let c := s.core k
  let l := s.launchOf k
  l.phase == .running && (c.f.stopped || c.f.dev.isSome) && (c.f.mode == .task || c.f.mode == .halted) && s.pkgFreeze.isEmpty &&
    ((l.causes.isEmpty && decide (c.clk ≤ l.lclk + c.f.lead) && (c.f.lead == 0 || !s.heldBack k)) ||
      (l.debugOnly && c.f.stepTo.isSome && !c.stepped && !s.heldBack k))

/-- Every component of a launch has stopped. -/
def State.allStopped (s : State) (l : Nat) : Bool :=
  s.cores.all fun x => x.2.f.task.launch != l || x.2.f.mode == .idle || !s.runsOn x.1

/-- Each component of a launch resumes as many cycles after the initiator as it stopped after it (R24, R25). -/
def execThaw (l : Nat) (s : State) : Host.Outcome State Fault Refusal :=
  .next (s.cores.foldl (fun t x =>
    if x.2.f.task.launch = l ∧ s.resumes x.1 = true then
      (t.deviation x.1).modCore x.1 fun c => c.modF fun f =>
        { f with stopped := false, dev := none, lead := if f.lead = 0 then 0 else c.clk - (s.launch l).lclk }
    else t) s)

/-- The belfry's freeze of a context kill, at the latest 4,096 slot-clock cycles after the stop (R191). -/
def execKillFreeze (l : Nat) (s : State) : Host.Outcome State Fault Refusal :=
  match (s.launch l).kill with
  | none => .next s
  | some i => .next (if (s.launch l).lclk < i.stop + 4096 then s else s.beginKill l)

/-- The skew wait of a core whose budget has run out: its command and its stop (R382). -/
def State.skewExpired (s : State) (k : Nat) : Option Cmd :=
  let c := s.core k
  let l := s.launchOf k
  if l.thawAt.isSome then none
  else match (l.skews.find? (·.1 == k)).bind fun x => c.cmd x.2, c.f.dev with
    | some m, some d => match m.kind with
      | .fab f =>
        let b := if field f.skw 0 12 = 0 then 256 else field f.skw 0 12
        if d.wall + b ≤ s.wall ∧ s.skewMet k m.uid = false then some m else none
      | _ => none
    | _, _ => none

/-- The budget of a skew wait expires: the receive raises SLIP/SKEW at its expected cycle and the launch stays frozen (R382). -/
def execSkewBudgetExpiry (k : Nat) (s : State) : Host.Outcome State Fault Refusal :=
  match s.skewExpired k with
  | none => .next s
  | some m =>
    let l := (s.core k).f.task.launch
    let s := s.enterTrap k ⟨8, 6, true, false, true, m.bundle, m.slot, 0, 0, 0, some (m.uid, m.queue, m.syll)⟩
    .next (s.endCauses l (· == .skew k m.uid))

/-! Interrupt requests (R180, R402). -/

/-- Makes an interrupt pending; a halted or idle core discards it. -/
def State.request (s : State) (k n : Nat) : State :=
  s.modCore k fun c =>
    if c.f.mode = .idle ∨ c.f.mode = .halted ∨ c.f.mode = .killed then c
    else c.modF fun f => match n with
      | 1 => { f with irqTimer := true }
      | 2 => { f with irqBelfry := true }
      | _ => { f with irqDebug := true }

/-- GTIME has reached the task's comparator. -/
def State.timerDue (s : State) (k : Nat) : Bool :=
  match (s.core k).f.timer with
  | some g => decide (g.toNat ≤ s.gtime.toNat)
  | none => false

/-- The comparator makes INTR 1 pending once and disarms (R180). -/
def execTimerInterrupt (k : Nat) (s : State) : Host.Outcome State Fault Refusal :=
  .next (if s.timerDue k then (s.request k 1).modCore k fun c => c.modF fun f => { f with timer := none } else s)

def execBelfryInterruptRequest (k : Nat) (s : State) : Host.Outcome State Fault Refusal := .next (s.request k 2)
def execDebugInterruptRequest (k : Nat) (s : State) : Host.Outcome State Fault Refusal := .next (s.request k 3)

/-! The end of a bundle (R39, R122, R126 to R129). -/

/-- A branch-family syllable (R122). -/
def branchFamily : Instr → Bool
  | .brZ .. | .brNz .. | .brLz .. | .brGez .. | .brP .. | .brAny .. | .brAll .. | .brNone .. | .jmp .. | .call .. | .jmpi ..
  | .calli .. | .ret => true
  | _ => false

/-- The bundle after one whose index, for the loop levels, is `idx`: loop-back and the cascade of levels that end (R126, R128).
`fuel` is the number of levels. -/
def Core.loopBack : Nat → BitVec 12 → Core → Core
  | 0, idx, c => c.modF fun f => { f with pc := idx + 1 }
  | fuel + 1, idx, c =>
    match c.inner with
    | none => c.modF fun f => { f with pc := idx + 1 }
    | some l =>
      if l.last ≠ idx then c.modF fun f => { f with pc := idx + 1 }
      else
        let i := c.depth - 1
        let c := if l.kind = 2 then c.modL fun x => { x with rrb := x.rrb + 1 } else c
        if l.lpc ≠ 0 then
          let l' := { l with lpc := l.lpc - 1, iter := l.iter + 1 }
          let c := (c.setLevel i l').modF fun f => { f with pc := l.start }
          if l.kind = 2 then
            c.modL fun x => { x with sen := (x.sen <<< 1) ||| (if l.stg.toNat ≤ l'.lpc.toNat then 1 else 0) }
          else c
        else
          let c := c.setLevel i { l with kind := 0, ended := l.kind == 2 }
          loopBack fuel idx (if l.kind = 2 then c.modL fun x => { x with sen := 0 } else c)

/-- Where the core goes after the bundle at its pc: the bundle that a loop instruction names, else loop-back or the next one (R125 to
R128). `branch` says that the bundle holds a branch-family syllable, whose shadow has not begun yet. -/
def Core.advance (c : Core) (branch : Bool) : Core :=
  let go := fun (c : Core) => match c.f.next with
    | some n => c.modF fun f => { f with pc := n }
    | none => if c.tl = 0 then c.loopBack 4 c.f.pc else c.modF fun f => { f with pc := f.pc + 1 }
  match c.f.shadow with
  | none => go c
  | some sh =>
    if branch then go c
    else if 1 < sh.remain then go (c.modF fun f => { f with shadow := some { sh with remain := sh.remain - 1 } })
    else if sh.taken then c.modF fun f => { f with shadow := none, pc := sh.target }
    else go (c.modF fun f => { f with shadow := none })

/-- The other packages hear of a task's arrival at a domain barrier, and of its `halt` (R26, R373). -/
def State.tellArrival (s : State) (k : Nat) : State :=
  let c := s.core k
  if c.f.mode = .halted then s.toPeers c.f.task.launch (.halted c.f.task.req c.f.arr.2.toNat)
  else if c.f.wait = .syncb 4 ∧ c.f.arr.1 = c.clk then s.toPeers c.f.task.launch (.arrival c.f.task.req c.f.arr.2.toNat)
  else s

/-- A bundle ends: ports pop once, the next bundle is fixed, and an `lbrk` takes effect (R39, R122, R126 to R129). -/
def State.finishBundle (s : State) (k : Nat) : State :=
  let c := s.core k
  let branch := branchFamily (s.slotInstr k 0)
  let c := c.popPorts (c.f.popNow &&& ~~~c.f.pops)
  let c := c.modL fun x => { x with levels := x.levels.map fun l => { l with ended := false } }
  let c := if c.f.mode = .tret then c else c.advance branch
  let c := c.applyHalt.applyLbrk.modF fun f =>
    { f with next := none, latch := [], slot0 := 0, pops := 0, popNow := 0, done := true, bpSeen := false }
  ({ s.setCore k c with cur := none } : State).tellArrival k

/-! A wall cycle (R4, R11, R12, R270). -/

/-- The core completes a cycle of its task: it ran, or it stopped behind its bundle of this cycle. -/
def State.completes (s : State) (k : Nat) : Bool :=
  let f := (s.core k).f
  s.ticks k || (f.mode == .task && f.done && (match f.dev with | some d => d.wall == s.wall | none => false))

/-- A freeze that began behind the bundles of this cycle: every initiating core has completed it. -/
def State.lateFreeze (s : State) (l : Launch) : Bool :=
  l.fstart == s.wall && l.causes.all fun c => match c.core with
    | some k => s.completes k
    | none => false

/-- A core at the end of a wall cycle. -/
def State.tickCore (s : State) (k : Nat) (c : Core) : Core :=
  let run := s.completes k
  let late := run && !s.ticks k
  let c := if run || s.drains k then { c with clk := c.clk + 1 } else c
  let c := if run && c.f.mode == .task then c.modX fun x => { x with schc := x.schc + 1 } else c
  let c := if c.handling && s.pkgFreeze.isEmpty then { c with hclk := c.hclk + 1 } else c
  c.modF fun f =>
    { f with done := false, bnd := false, dev := if late then f.dev.map fun d => { d with schc := d.schc + 1, bundle := f.pc.toNat } else f.dev }

/-- A launch at the end of a wall cycle. Its slot clock waits for a core that is about to resume at its cycle (R24, R323). -/
def State.tickLaunch (s : State) (n : Nat) (l : Launch) : Launch :=
  let waits := s.cores.any fun y => y.2.f.task.launch == n && y.2.f.lead == 0 && s.resumes y.1
  if l.phase = .running ∧ s.pkgFreeze = [] ∧ waits = false ∧ (l.causes = [] ∨ s.lateFreeze l = true) then
    { l with lclk := l.lclk + 1, steps := l.steps.map (· - 1) }
  else match l.pre with
    | .drain n =>
      let walk := l.causes.any fun z => match z with | .walk .. => true | _ => false
      if l.phase = .running ∧ s.pkgFreeze = [] ∧ walk = false then { l with pre := .drain (n + 1) } else l
    | _ => l

/-- The end of a wall cycle: every component advances, GTIME counts from bring-up stage 4 on (R365), and the next cycle's inputs follow. -/
def State.tick (s : State) : State :=
  { s with
    wall := s.wall + 1
    stage := .inputs
    seen := []
    cores := s.cores.map fun x => (x.1, s.tickCore x.1 x.2)
    launches := s.launches.map fun x => (x.1, s.tickLaunch x.1 x.2)
    gtime9 := if 4 ≤ s.host.stage then s.gtime9 + s.rate9 else s.gtime9 }

end Sys2Proof.Machine
end

