-- ==== Sys2Proof/Machine/Record.lean ====
section
/-! DEFINITION. What a launch names and the checks at its submission: the record, the hierarchy, the residency set, the HBM slot table, the fabric
timetable and the code object (11_tower_memory.md R268, R269, 13_launch.md R305 to R312, R318, 14_code_objects.md R330 to R336,
17_fabric.md R369 to R372; log 34). -/

namespace Sys2Proof.Machine

/-! Address spaces as the sequencer sees them. -/

/-- An address space: ASID and root-table frame. -/
abbrev Space := Nat × Nat

/-- The leaf of the 4 KiB page of `va`. -/
def State.pageOf (s : State) (sp : Space) (va : Nat) : Option Word :=
  match s.walk sp.1 sp.2 va with
  | .ok e => some (e.leaf va)
  | .error _ => none

/-- The leaves of `n` pages from page `vpn`, each of which must pass a test. -/
def State.pagesFrom (s : State) (sp : Space) (p : Word → Bool) : Nat → Nat → Option (List (Nat × Word))
  | _, 0 => some []
  | vpn, n + 1 =>
    match s.pageOf sp (vpn * 4096) with
    | none => none
    | some w => if p w then (s.pagesFrom sp p (vpn + 1) n).map fun r => (vpn, w) :: r else none

/-- The leaves of the pages of `n` bytes from `va`. -/
def State.pagesOf (s : State) (sp : Space) (p : Word → Bool) (va n : Nat) : Option (List (Nat × Word)) :=
  s.pagesFrom sp p (va / 4096) (if n = 0 then 0 else (va + n - 1) / 4096 - va / 4096 + 1)

/-- `n` bytes at `va`, where every page passes a test. -/
def State.readAt (s : State) (sp : Space) (p : Word → Bool) (va n : Nat) : Option (List Byte) :=
  (s.pagesOf sp p va n).map fun ps => s.vbytes ps va n

/-- The poison of each of the `n` bytes at `va`, none where a page cannot be reached or every byte is clean (R286). -/
def State.poisonOfPages (s : State) (sp : Space) (p : Word → Bool) (va n : Nat) : List Nat :=
  match s.pagesOf sp p va n with
  | none => []
  | some ps => s.poisonList ((List.range n).map fun i => flatOf ps (va + i))

/-- Readable, and device-owned or a control page (R274). -/
def devRead (p : Word) : Bool := pteR p && (pteOwn p || pteCtl p)

/-- Writable, and device-owned or a control page. -/
def devWrite (p : Word) : Bool := pteW p && (pteOwn p || pteCtl p)

/-- Lands bytes from `va` on, page by page; every word they touch gets tag 24. -/
def State.landPages (s : State) (va : Nat) (bs : List Byte) : List (Nat × Word) → State
  | [] => s
  | x :: r =>
    let n := 4096 - va % 4096
    (s.landBytes (pteFrame x.2 * 4096 + va % 4096) (bs.take n) [] false 0).landPages (va + n) (bs.drop n) r

/-- Lands bytes at `va`, where every page passes a test; otherwise nothing lands. -/
def State.writeAt (s : State) (sp : Space) (p : Word → Bool) (va : Nat) (bs : List Byte) : State × Bool :=
  match s.pagesOf sp p va bs.length with
  | none => (s, false)
  | some ps => (s.landPages va bs ps, true)

/-! The record (R305, R306). -/

/-- A little-endian field of a record. -/
def Launch.fld (l : Launch) (off n : Nat) : Nat := imgField l.record off n
def recFlags (r : List Byte) : Nat := imgField r 0xC 4
def Launch.prio (l : Launch) : Nat := l.fld 7 1
def Launch.preRight (l : Launch) : Bool := recFlags l.record / 2 % 2 == 1
def Launch.gstartFlag (l : Launch) : Bool := recFlags l.record % 2 == 1
def Launch.stime (l : Launch) : Nat := l.fld 0x70 8
def Launch.saveVa (l : Launch) : Nat := l.fld 0xA8 8
def Launch.saveSize (l : Launch) : Nat := l.fld 0xB0 8
def Launch.dumpSize (l : Launch) : Nat := l.fld 0xC0 8
def Launch.statusVa (l : Launch) : Nat := l.fld 0xC8 8
def Launch.code (l : Launch) : Nat := l.fld 0x50 8
def Launch.zUnits (l : Launch) : Nat := l.fld 0x84 2
def Launch.carve (l : Launch) : Nat := l.fld 0x82 2
def Launch.space (l : Launch) : Space := (l.asid, l.asroot)

/-- Object address, value and DCORR of dependence `k` (R316). -/
def Launch.dep (l : Launch) (k : Nat) : Nat × Nat × Nat := (l.fld (0x120 + 24 * k) 8, l.fld (0x128 + 24 * k) 8, l.fld (0x130 + 24 * k) 4)

/-! The hierarchy (R307 to R309). -/

/-- A level of the hierarchy. -/
structure Level where
  kind : Nat
  mscope : Nat
  bar : Nat
  grp : Nat
  rsv : Nat
  ext : Nat
  deriving DecidableEq, Repr, Inhabited

def readLevel (w : Nat) : Level :=
  ⟨w / 2 ^ 60, w / 2 ^ 56 % 16, w / 2 ^ 53 % 8, w / 2 ^ 48 % 32, w / 2 ^ 32 % 2 ^ 16, w % 2 ^ 32⟩

/-- The levels of a record, LEV0 first. -/
def recLevels (r : List Byte) : List Level := (List.range (imgField r 6 1)).map fun i => readLevel (imgField r (0x10 + 8 * i) 8)

/-- Stride S of a level; 0 for a kind that has none (R308). -/
def Level.stride (l : Level) : Nat :=
  match l.kind with
  | 1 => 1
  | 2 => 2 ^ l.grp
  | 3 => 16
  | 4 => 128
  | _ => 0

/-- Barrier class of a kind (R308). -/
def barOfKind : Nat → Nat
  | 0 | 1 => 0
  | 2 | 3 => 1
  | 4 => 2
  | 5 => 3
  | _ => 4

/-- Rules of R307 and R308 on one level alone; its RSV bits are ignored (R6). -/
def Level.ok (l : Level) (z : Nat) (ftt : Bool) : Bool :=
  l.kind ≤ 6 && l.mscope ≤ 6 && (if l.kind = 2 then 1 ≤ l.grp && l.grp ≤ 3 else l.grp == 0) &&
    (l.bar == 7 || l.bar == barOfKind l.kind) && (l.mscope != 2 || z != 0) && (l.mscope != 5 || ftt) &&
    (l.kind != 5 || (1 ≤ l.ext && l.ext ≤ 1024 && (l.ext == 1 || ftt))) && (l.kind != 6 || (l.ext == 1 && ftt))

/-- Rules of R308 between a level and the one above it. -/
def levelsRise : List Level → Bool
  | [] => true
  | [l] => l.stride == 0 || l.ext * l.stride ≤ 512
  | l :: u :: r =>
    l.kind < u.kind && l.mscope ≤ u.mscope &&
      (l.stride == 0 || l.ext * l.stride ≤ (if u.stride = 0 then 512 else u.stride)) && levelsRise (u :: r)

/-- The levels of a record are valid (R308). -/
def levelsOk (r : List Byte) : Bool :=
  let ls := recLevels r
  let z := imgField r 0x84 2
  let ftt := imgField r 0xD0 8 != 0
  (match ls with
    | [] => false
    | l0 :: rest => l0.kind == 0 && 1 ≤ l0.ext && l0.ext ≤ 2 && (match rest with | [] => true | l1 :: _ => l1.kind == 1)) &&
    ls.all (fun l => l.ok z ftt) && levelsRise ls

/-- The logical spire indices of a launch, in order (R309). -/
def recSpires (r : List Byte) : List Nat :=
  (recLevels r).foldl (fun js l =>
    if l.stride = 0 then js else (List.range l.ext).flatMap fun i => js.map fun j => j + i * l.stride) [0]

/-- Halves bound in each spire: EXT of LEV0 (R308). -/
def recHalves (r : List Byte) : Nat := ((recLevels r).head?.map Level.ext).getD 0

/-- True for all-zero bytes. -/
def zeroBytes (r : List Byte) (off n : Nat) : Bool := ((r.drop off).take n).all (· == 0)

/-- The fields of R305 and R306 are valid, with the RSV bits of FLAGS ignored (R6); `fromTask` says that the record comes by `lnch`. -/
def recordOk (r : List Byte) (fromTask : Bool) : Bool :=
  let f := recFlags r
  let nlev := imgField r 6 1
  let q := imgField r 0x86 1
  imgField r 0 4 == 0x4C434E4B && imgField r 4 2 == 1 && 1 ≤ nlev && nlev ≤ 8 && imgField r 7 1 ≤ 7 &&
    f / 2 ^ 5 % 4 != 3 && f / 2 ^ 3 % 4 != 3 && zeroBytes r (0x10 + 8 * nlev) (8 * (8 - nlev)) &&
    imgField r 0x50 8 < 2 ^ 15 && imgField r 0x58 8 / 2 ^ 24 % 2 ^ 8 == 0 && zeroBytes r 0x5E 2 &&
    (f % 2 == 1 || imgField r 0x70 8 == 0) && imgField r 0x78 8 % 4096 == 0 && imgField r 0x78 8 < 2 ^ 49 &&
    17 ≤ imgField r 0x82 2 && imgField r 0x82 2 ≤ 768 && imgField r 0x84 2 ≤ 1024 && (!fromTask || (12 ≤ q && q ≤ 15)) &&
    zeroBytes r 0x87 1 && imgField r 0xA0 4 ≤ 4096 && zeroBytes r 0xA4 4 && zeroBytes r 0xD8 8 &&
    (List.range 4).all (fun k => zeroBytes r (0x134 + 24 * k) 4) && zeroBytes r 0x180 128

/-! The residency set (R310). -/

def readResid (bs : List Byte) : Option Resid :=
  let va := imgField bs 0 8
  let w := imgField bs 8 8
  if va % 4096 ≠ 0 ∨ w / 2 ^ 36 ≠ 0 then none else some ⟨va, w % 2 ^ 32, w / 2 ^ 32 % 8, w / 2 ^ 35 % 2 == 1⟩

/-- The entries of a residency set, or none where R310 refuses it. -/
def State.residOf (s : State) (r : List Byte) (sp : Space) : Option (List Resid) :=
  let n := imgField r 0xA0 4
  match s.readAt sp devRead (imgField r 0x98 8) (16 * n) with
  | none => none
  | some bs =>
    let es := (List.range n).map fun i => readResid ((bs.drop (16 * i)).take 16)
    if es.any (·.isNone) then none else some (es.filterMap id)

/-! The HBM slot table (R268, R269). -/

def readGrant (w per : Nat) : Grant :=
  ⟨w / 2 ^ 55, w / 2 ^ 54 % 2, w / 2 ^ 53 % 2, w / 2 ^ 16 % 2 ^ 16, if w % 2 ^ 16 = 0 then (if per = 65536 then 65536 else 0) else w % 2 ^ 16⟩

/-- A grant covers cycle `c` (R268). -/
def Grant.covers (g : Grant) (per c : Nat) : Bool := (c + (per - g.first % per)) % per < g.count

/-- Tasks that hold a grant of a kind in cycle `c`, once each (R269). -/
def holders (gs : List Grant) (per c kind : Nat) (p : Grant → Bool) : Nat :=
  ((gs.filter fun g => g.kind == kind && g.covers per c && p g).map fun g => (g.spire, g.half)).eraseDups.length

/-- Period and grants of a slot table, or none where R268 or R269 refuses it. -/
def State.slotsOf (s : State) (r : List Byte) (sp : Space) : Option (Nat × List Grant) :=
  let va := imgField r 0x90 8
  if va = 0 then some (1, [])
  else match s.readAt sp devRead va 16 with
    | none => none
    | some h =>
      let per := imgField h 4 4
      let n := imgField h 8 4
      if imgField h 0 4 ≠ 0x534D4248 ∨ !((List.range 11).any fun i => per == 64 * 2 ^ i) ∨ 4096 < n ∨ imgField h 12 4 ≠ 0 then none
      else match s.readAt sp devRead (va + 16) (8 * n) with
        | none => none
        | some bs =>
          let ws := (List.range n).map fun i => imgField bs (8 * i) 8
          let gs := ws.map fun w => readGrant w per
          let js := recSpires r
          let named := gs.all fun g => js.contains g.spire && g.half < recHalves r && 1 ≤ g.count && g.count ≤ per
          let zero := ws.all fun w => w / 2 ^ 32 % 2 ^ 21 == 0
          let full := (List.range per).any fun c =>
            64 < holders gs per c 1 (fun _ => true) || (List.range 4).any fun t => 28 < holders gs per c 0 fun g => g.spire / 128 == t
          if named && zero && !full then some (per, gs) else none

/-! The fabric timetable (R369 to R372). -/

def readCircuit (bs : List Byte) : Circuit :=
  let w0 := imgField bs 0 8
  let w1 := imgField bs 8 8
  { spkg := w0 / 2 ^ 54, dpkg := w0 / 2 ^ 44 % 2 ^ 10, sport := w0 / 2 ^ 38 % 64, dport := w0 / 2 ^ 32 % 64,
    stask := w0 / 2 ^ 21 % 2 ^ 11, dtask := w0 / 2 ^ 10 % 2 ^ 11, first := w1 / 2 ^ 48, cnt := w1 / 2 ^ 32 % 2 ^ 16,
    k := w1 / 2 ^ 29 % 8, fpos := w1 / 2 ^ 26 % 8, rqd := w1 / 2 ^ 15 % 2 ^ 11 }

def readStream (w : Nat) : StreamDef := ⟨w / 2 ^ 60, w / 2 ^ 48 % 2 ^ 10, w / 2 ^ 40 % 64, w / 2 ^ 24 % 2 ^ 16⟩

/-- One circuit's own fields are valid; a grant leaves the slack frames out by its definition (R370, R372; log 45). -/
def Circuit.ok (c : Circuit) (npkg perf : Nat) : Bool :=
  c.spkg < npkg && c.dpkg < npkg && c.dpkg != c.spkg && c.sport ≤ 47 && c.dport ≤ 47 && 1 ≤ c.k && c.k ≤ 6 && c.fpos + c.k ≤ 6 &&
    1 ≤ c.rqd && c.rqd ≤ 1536 && (if c.cnt = 0 then perf == 65536 else c.cnt ≤ perf)

/-- Two circuits of one port and direction share a position of some frame (R372). -/
def Circuit.shares (a b : Circuit) (perf self : Nat) : Bool :=
  ((a.spkg == self && b.spkg == self && a.sport == b.sport) || (a.dpkg == self && b.dpkg == self && a.dport == b.dport)) &&
    a.fpos < b.fpos + b.k && b.fpos < a.fpos + a.k && (List.range perf).any fun n => a.granted perf n && b.granted perf n

/-- A page of a timetable: readable and device-owned (R277, R369). -/
def fttPage (p : Word) : Bool := pteR p && pteOwn p && !pteCtl p

/-- Reads a timetable at its address, or none where it cannot be read or a field is invalid (R369 to R371). -/
def State.readFtt (s : State) (va : Nat) (sp : Space) : Option Ftt :=
  match s.readAt sp fttPage va 0x40 with
  | none => none
  | some h =>
    let npkg := imgField h 6 2
    let ncir := imgField h 8 2
    let nstr := imgField h 0xA 2
    let hop := imgField h 0xC 2
    let perf := imgField h 0x10 4
    let ok := imgField h 0 4 == 0x5446424B && imgField h 4 2 == 1 && 1 ≤ npkg && npkg ≤ 1024 && ncir ≤ 4096 && nstr ≤ 64 && 64 ≤ hop &&
      hop ≤ 2047 && zeroBytes h 0xE 2 && 16 ≤ perf && perf ≤ 65536 && perf % 16 == 0 && zeroBytes h 0x14 4 && zeroBytes h 0x30 16
    if !ok then none
    else match s.readAt sp fttPage (va + imgField h 0x18 8) (8 * npkg), s.readAt sp fttPage (va + imgField h 0x20 8) (16 * ncir),
        s.readAt sp fttPage (va + imgField h 0x28 8) (16 * nstr) with
      | some pk, some cr, some st =>
        let pkgs := (List.range npkg).map fun i => BitVec.ofNat 64 (imgField pk (8 * i) 8)
        let cs := (List.range ncir).map fun i => readCircuit ((cr.drop (16 * i)).take 16)
        let zc := (List.range ncir).all fun i => imgField cr (16 * i) 8 % 2 ^ 10 == 0 && imgField cr (16 * i + 8) 8 % 2 ^ 15 == 0
        let ss := (List.range nstr).map fun i => readStream (imgField st (16 * i) 8)
        let zs := (List.range nstr).all fun i =>
          let w := imgField st (16 * i) 8
          w / 2 ^ 58 % 4 == 0 && w / 2 ^ 46 % 4 == 0 && w % 2 ^ 24 == 0 && imgField st (16 * i + 8) 8 == 0
        let zp := pkgs.all fun w => w &&& 0x0C00FFFFFFFFFFFF#64 == 0
        let dom := field s.host.ptpcfg 44 4
        let self := (List.range npkg).find? fun i => field (pkgs.getD i 0) 48 10 == Config.packageId && field (pkgs.getD i 0) 60 4 == dom
        match self with
        | none => none
        | some me => if zc && zs && zp then some ⟨npkg, hop, perf, me, pkgs, cs, ss⟩ else none
      | _, _, _ => none

/-- The checks of R372. -/
def State.fttOk (s : State) (f : Ftt) (r : List Byte) : Bool :=
  let js := recSpires r
  let tasks := js.flatMap fun j => (List.range (recHalves r)).map fun h => 2 * j + h
  let pkg := fun (i : Nat) => field (f.pkgs.getD i 0) 48 10
  let dom := field s.host.ptpcfg 44 4
  let cs := f.circuits
  let idx := List.range cs.length
  let at_ := fun (i : Nat) => cs.getD i default
  let named := fun (p : Nat) => cs.any fun c => (c.spkg == f.self && c.sport == p) || (c.dpkg == f.self && c.dport == p)
  cs.all (fun c => c.ok f.npkg f.perf && tasks.contains c.stask && tasks.contains c.dtask &&
      Config.cabled (pkg c.spkg) c.sport (pkg c.dpkg) c.dport && decide (Config.linkLatency (pkg c.spkg) c.sport (pkg c.dpkg) c.dport ≤ f.hopmax)) &&
    idx.all (fun i => idx.all fun j => i == j || !((at_ i).shares (at_ j) f.perf f.self)) &&
    (List.range 48).all (fun p => ((cs.filter fun c => c.dpkg == f.self && c.dport == p).foldl (fun n c => n + c.rqd) 0) ≤ 1536) &&
    f.streams.all (fun d => d.port ≤ 47 && !named d.port &&
      (d.domain == dom || Config.bridged d.port d.domain d.package)) &&
    f.pkgs.all (fun w => field w 60 4 == dom || (List.range 48).any fun p => !named p && Config.bridged p (field w 60 4) (field w 48 10))

/-! Code objects (R330 to R336). -/

/-- A section of an image: its type, count, offset and size. -/
structure Section where
  type : Nat
  count : Nat
  off : Nat
  size : Nat
  deriving DecidableEq, Repr, Inhabited

/-- A code-object image's header. -/
structure Kco where
  va : Nat
  space : Space
  header : List Byte
  sects : List Section
  deriving DecidableEq, Repr, Inhabited

def Kco.fld (k : Kco) (off n : Nat) : Nat := imgField k.header off n
def Kco.sect (k : Kco) (type : Nat) : Option Section := k.sects.find? fun x => x.type == type
/-- Recorded TTDIG (R330). -/
def Kco.ttdig (k : Kco) : Nat := k.fld 0x10 8
/-- Length of the image: the signature is its last section (R331). -/
def Kco.size (k : Kco) : Nat := ((k.sect 9).map fun x => x.off + x.size).getD 0

/-- A page of an image: device-owned, readable and of PFMT 0 (R332). -/
def kcoPage (p : Word) : Bool := fttPage p && pteFmt p == 0

/-- Reads the header and the section table of an image. -/
def State.readKco (s : State) (va : Nat) (sp : Space) : Option Kco :=
  match s.readAt sp kcoPage va 0x40 with
  | none => none
  | some h =>
    let n := imgField h 6 2
    if imgField h 0 4 ≠ 0x4F434B4B ∨ n < 1 ∨ 16 < n then none
    else (s.readAt sp kcoPage (va + 0x40) (24 * n)).map fun t =>
      ⟨va, sp, h, (List.range n).map fun i =>
        ⟨imgField t (24 * i) 4, imgField t (24 * i + 4) 4, imgField t (24 * i + 8) 8, imgField t (24 * i + 16) 8⟩⟩

/-- The image keeps R330 and R331. -/
def Kco.ok (k : Kco) : Bool :=
  let types := k.sects.map Section.type
  k.fld 4 2 == 1 && k.fld 8 1 == 0 && k.fld 0xE 2 ≤ 7 && k.fld 0x18 8 % 4096 == 0 && k.fld 0x20 4 ≤ 15 && k.fld 0x24 4 == 0 &&
    k.fld 0x28 8 % 4096 == 0 && zeroBytes k.header 0x30 16 && types.all (fun t => 1 ≤ t && t ≤ 9) && types.eraseDups.length == types.length &&
    k.sects.all (fun x => x.off % 64 == 0) && types.contains 1 && types.contains 2 && types.contains 9 &&
    ((k.sect 9).map Section.size).getD 0 == 4627 && k.sects.all (fun x => x.off + x.size ≤ k.size)

/-! Section records (R331, R334, R337, R340). -/

/-- Bytes of the image directory at the head of the linkage section, up to the first linkage record, which is 32-byte aligned (R339, R340). -/
def Kco.dirSize (k : Kco) : Nat := cdiv (16 * (k.fld 0x20 4 + 1)) 32 * 32

/-- A record of the dependence sidecar (R337). -/
structure SideRec where
  cb : Nat
  cs : Nat
  fld : Nat
  old : Bool
  pb : Nat
  ps : Nat
  dist : Nat
  ptask : Nat
  deriving DecidableEq, Repr, Inhabited

/-- The fields of a sidecar record's word. -/
def sideRec (w : Nat) : SideRec :=
  { cb := w / 2 ^ 52 % 2 ^ 12, cs := w / 2 ^ 49 % 8, fld := w / 2 ^ 46 % 8, old := w / 2 ^ 45 % 2 == 1, pb := w / 2 ^ 33 % 2 ^ 12,
    ps := w / 2 ^ 30 % 8, dist := w / 2 ^ 22 % 2 ^ 8, ptask := w / 2 ^ 16 % 2 ^ 6 }

/-- The blocks of a sidecar, each an overlay id with its records; none where a block passes the section's end or a zero field is not zero. -/
def sideBlocks : Nat → List Byte → Option (List (Nat × List SideRec))
  | 0, _ => some []
  | n + 1, bs =>
    let c := imgField bs 0 4
    if bs.length < 8 + 8 * c then none
    else
      let ws := (List.range c).map fun i => imgField bs (8 + 8 * i) 8
      if ws.any fun w => w % 2 ^ 16 != 0 || ((sideRec w).fld == 7 && (sideRec w).pb != 0) then none
      else (sideBlocks n (bs.drop (8 + 8 * c))).map fun r => (imgField bs 6 2, ws.map sideRec) :: r

/-- An overlay-table entry within the ISP (R334). -/
def overlayFits (e : List Byte) : Bool := imgField e 4 2 ≤ imgField e 6 2 && imgField e 2 2 + imgField e 6 2 ≤ 4095

/-- Every record of section `type`, of `n` bytes behind `skip` bytes of the section, passes a test. -/
def State.recordsOk (s : State) (k : Kco) (type n skip : Nat) (p : List Byte → Bool) : Bool :=
  match k.sect type with
  | none => true
  | some x =>
    if x.size < skip + n * x.count then false
    else match s.readAt k.space kcoPage (k.va + x.off + skip) (n * x.count) with
      | none => false
      | some bs => (List.range x.count).all fun i => p ((bs.drop (n * i)).take n)

/-- The records of an image's sections keep R331, R334, R337 and R340: their zero fields, valid destinations of initialisers, and overlays
within the ISP. -/
def State.kcoRecords (s : State) (k : Kco) : Bool :=
  s.recordsOk k 2 64 0 overlayFits && s.recordsOk k 4 32 k.dirSize (fun e => zeroBytes e 0xE 2) &&
    s.recordsOk k 5 16 0 (fun e => zeroBytes e 0xC 4) &&
    s.recordsOk k 6 24 0 (fun e => imgField e 0 8 / 2 ^ 62 != 3 && imgField e 0 8 / 2 ^ 40 % 2 ^ 22 == 0) &&
    s.recordsOk k 8 24 0 (fun e => imgField e 8 1 == 1 && zeroBytes e 9 3) &&
    (match k.sect 3 with
      | none => true
      | some x => match s.readAt k.space kcoPage (k.va + x.off) x.size with
        | none => false
        | some bs => (sideBlocks x.count bs).isSome)

/-- FMTSET of the device: bits 0 to 12 and each installed format (R333). -/
def State.fmtSet (s : State) : Nat := s.bel.decoders.foldl (fun n d => n ||| 2 ^ d.1) (2 ^ 13 - 1)

/-- The device reports every profile version and format the image declares: versions 1, 1 and 1 (R333). -/
def State.profileOk (s : State) (k : Kco) : Bool :=
  k.fld 0xB 1 ≤ 1 && k.fld 0xA 1 ≤ 1 && k.fld 9 1 ≤ 1 && k.fld 0xC 2 ||| s.fmtSet == s.fmtSet

/-- The signed bytes of an image, with the ENTRY words of its linkage records taken as zero, and so the directory's entries of retimed images,
which the belfry writes (R332, R336, R339, R340; log 86). -/
def State.signedBytes (s : State) (k : Kco) : Option (List Byte) :=
  match k.sect 9, s.readAt k.space kcoPage k.va (((k.sect 9).map Section.off).getD 0) with
  | some _, some bs =>
    match k.sect 4 with
    | none => some bs
    | some l =>
      let first := l.off + k.dirSize
      some (((List.range bs.length).zip bs).map fun (i, b) =>
        if (first ≤ i ∧ i < first + 32 * l.count ∧ (i - first) % 32 < 8) ∨ (l.off + 16 ≤ i ∧ i < l.off + 16 * (k.fld 0x20 4 + 1)) then 0 else b)
  | _, _ => none

/-- The signature verifies under the key of the image's slot (R336). -/
def State.kcoSigned (s : State) (k : Kco) : Bool :=
  match s.bel.keys.find? (·.1 == k.fld 0xE 2), s.signedBytes k, s.readAt k.space kcoPage (k.va + ((k.sect 9).map Section.off).getD 0) 4627 with
  | some key, some msg, some sig => !key.2.isEmpty && Config.signatureOk msg sig key.2
  | _, _, _ => false

/-- The entry of an overlay id in a table of 64-byte entries (R334). -/
def overlayOf (t : List Byte) (n id : Nat) : Option (List Byte) :=
  ((List.range n).map fun i => (t.drop (64 * i)).take 64).find? fun e => imgField e 0 2 == id

/-- The overlay table of an image. -/
def State.overlayTable (s : State) (k : Kco) : Option (List Byte × Nat) :=
  match k.sect 2 with
  | none => none
  | some x => (s.readAt k.space kcoPage (k.va + x.off) (64 * x.count)).map fun t => (t, x.count)

/-- A registered object's image. -/
def State.kcoOf (s : State) (code : Nat) : Option Kco :=
  match s.seq.objects.find? (·.1 == code) with
  | none => none
  | some o => s.readKco o.2.va (o.2.asid, o.2.asroot)

/-- Initial overlay id of a record (R305). -/
def recOverlay (r : List Byte) : Nat := imgField r 0x5C 2

/-! The spire count (R318). -/

/-- Spires of a physical cupola that are not dropped. -/
def State.usable (s : State) (cup : Nat) : Nat := ((List.range 16).filter fun i => !(s.spire (16 * cup + i)).dropped).length

/-- Inserts a pair behind those whose first number is no smaller. -/
def insertDesc (x : Nat × Nat) : List (Nat × Nat) → List (Nat × Nat)
  | [] => [x]
  | y :: r => if y.1 < x.1 then x :: y :: r else y :: insertDesc x r

/-- Pairs by falling first number. -/
def sortDesc (l : List (Nat × Nat)) : List (Nat × Nat) := l.foldl (fun acc x => insertDesc x acc) []

/-- The used logical cupolas of a logical tower with their spire counts, largest first. -/
def needs (js : List Nat) (tower : Nat) : List (Nat × Nat) :=
  sortDesc (((List.range 8).map fun c => ((js.filter fun j => j / 16 == 8 * tower + c).length, 8 * tower + c)).filter (·.1 ≠ 0))

/-- The physical cupolas of a physical tower with their room, largest first. -/
def offers (room : Nat → Nat) (tower : Nat) : List (Nat × Nat) :=
  sortDesc ((List.range 8).map fun c => (room (8 * tower + c), 8 * tower + c))

/-- Largest first, each need is met by its offer. -/
def meets : List (Nat × Nat) → List (Nat × Nat) → Bool
  | [], _ => true
  | _ :: _, [] => false
  | n :: ns, m :: ms => n.1 ≤ m.1 && meets ns ms

/-- Every way to give distinct physical towers to logical ones. -/
def towerMaps : Nat → List Nat → List (List Nat)
  | 0, _ => [[]]
  | n + 1, ts => ts.flatMap fun t => (towerMaps n (ts.erase t)).map fun r => t :: r

/-- The logical towers of a launch. -/
def towersOf (js : List Nat) : List Nat := (List.range 4).filter fun t => js.any fun j => j / 128 == t

/-- An assignment of towers gives every logical cupola a physical cupola with `room` for it. -/
def assignable (js : List Nat) (room : Nat → Nat) (map : List Nat) : Bool :=
  ((towersOf js).zip map).all fun (lt, pt) =>
    meets (needs js lt) (offers room pt)

/-- A launch of these logical spires is placeable with every spire free (R318). -/
def State.everPlaceable (s : State) (js : List Nat) : Bool :=
  js.all (· < 512) && (towerMaps (towersOf js).length (List.range 4)).any (assignable js s.usable)

/-! Submission (R312). -/

/-- What a submission works out: the checks' reason, 0 for none, and the launch's derived fields. -/
structure Checked where
  reason : Nat
  /-- The failure is that of the STATUS address: no status record is written. -/
  noStatus : Bool
  resid : List Resid
  per : Nat
  grants : List Grant
  ftt : Option Ftt
  deriving DecidableEq, Repr

/-- STATUS is 64-byte aligned and translates to a writable control page. -/
def State.statusOk (s : State) (r : List Byte) (sp : Space) : Bool :=
  imgField r 0xC8 8 % 64 == 0 && (match s.pageOf sp (imgField r 0xC8 8) with | some p => pteCtl p && pteW p | none => false)

/-- The PARENT of a host SUBMIT (R311). -/
def State.parentOk (s : State) (parent : Nat) (sp : Space) : Bool :=
  parent == 0 || (parent % 8 == 0 && (match s.pageOf sp parent with | some p => devWrite p | none => false))

/-- The checks of a submission, in the order of R312. -/
def State.submitCheck (s : State) (r : List Byte) (parent : Nat) (fromTask : Bool) : Checked :=
  let sp : Space := (imgField r 0x80 2, imgField r 0x78 8 / 4096)
  let stop := fun n => (⟨n, !s.statusOk r sp, [], 1, [], none⟩ : Checked)
  let amode := recFlags r / 2 ^ 3 % 4
  let fttVa := imgField r 0xD0 8
  if !recordOk r fromTask || !levelsOk r then stop 1
  else match s.residOf r sp, s.kcoOf (imgField r 0x50 8) with
    | some resid, some k =>
      let ovl := match s.overlayTable k with | some (t, n) => (overlayOf t n (recOverlay r)).isSome | none => false
      if !ovl || !s.statusOk r sp || (!fromTask && !s.parentOk parent sp) then stop 1
      else match s.slotsOf r sp with
        | none => stop 4
        | some (per, gs) =>
          let ftt := if fttVa = 0 then some none else (s.readFtt fttVa sp).map some
          match ftt with
          | none => stop 4
          | some f =>
            let failed := match s.seq.objects.find? (·.1 == imgField r 0x50 8) with | some o => o.2.failed | none => true
            if !(match f with | some t => s.fttOk t r | none => true) then stop 4
            else if amode = 1 ∧ recHalves r = 1 then stop 1
            else if !s.profileOk k then stop 3
            else if failed || !k.ok || !s.kcoSigned k then stop 11
            else if !s.everPlaceable (recSpires r) then stop 2
            else ⟨0, false, resid, per, gs, f⟩
    | _, _ => stop 1

end Sys2Proof.Machine
end

