-- ==== Sys2Proof/Machine/Retime.lean ====
section
/-! DEFINITION. The dependence sidecar and what a retimed image keeps (14_code_objects.md R337, R338; log 86). -/

namespace Sys2Proof.Machine

/-! Syllables of an image. -/

/-- The syllable of a slot in bundle `b` of an overlay's bytes. -/
def imgWord (code : List Byte) (b t : Nat) : BitVec 32 := BitVec.ofNat 32 (imgField code (32 * b + 4 * t) 4)

/-- Bundle `b` of an overlay is a `ploop`'s stage map (R104). -/
def isStageMap (code : List Byte) (b : Nat) : Bool := b != 0 && bits (imgWord code (b - 1) 0) 26 6 == 15

/-- The syllables of an overlay other than `nop` and stage maps: bundle, slot and word. -/
def syllablesOf (code : List Byte) : List (Nat × Nat × BitVec 32) :=
  (List.range (code.length / 32)).flatMap fun b =>
    if isStageMap code b then []
    else (List.range 8).filterMap fun t => let w := imgWord code b t; if w = 0 then none else some (b, t, w)

/-- The bits of a syllable that a retimer may change: bundle distances of control transfers and of a `zloop`, S and II, the operands of
`waitt`, and `dly` (R338). -/
def retimeMask (t : Nat) (w : BitVec 32) : BitVec 32 :=
  let op := bits w 26 6
  if t = 0 then
    if (1 ≤ op ∧ op ≤ 10) ∨ op = 17 then 0x1FFFFF#32
    else if op = 14 then 0xFFF#32
    else if op = 15 then 0xFE00#32
    else 0
  else if (t = 2 ∧ op = 35) ∨ (t = 6 ∧ 8 ≤ op ∧ op ≤ 18) then 0x7FF#32
  else 0

/-- The timing class of a syllable whose register result lands at a fixed latency (R111, R146, R218). -/
def resultClass (t : Nat) (w : BitVec 32) : Option Nat :=
  let op := bits w 26 6
  let fn := bits w 0 4
  let tag := if fn = 3 then 17 else if fn = 2 ∨ fn = 4 then 15 else 12
  match t with
  | 0 => if op = 23 then some 4 else none
  | 1 | 2 =>
    if op = 2 then some (if fn < 3 ∨ fn = 8 then 1 else if fn < 8 then 3 else 2)
    else if op = 0 ∨ (32 ≤ op ∧ op ≤ 35) then none else some 0
  | 4 | 5 => [none, some 12, some 13, some 13, some 14, some 14, some 14, some 14, some 18, some 15, some 15, some 12, some 12, some 16,
      some 16, some 16, some 16, some 16, some 16, some 17, some 15, some tag].getD op none
  | 7 => [none, some 19, some 19, some 19, some 20, some 19, some tag].getD op none
  | _ => none

/-- Bundle `b` of an overlay stands in the kernel of a `ploop` (R127). -/
def inKernel (code : List Byte) (b : Nat) : Bool :=
  (List.range b).any fun p => let w := imgWord code p 0; bits w 26 6 == 15 && p + 2 ≤ b && b ≤ p + 2 + bits w 9 3

/-- Places of the 5-bit register fields of a kernel's syllable (R93 to R100). -/
def registerFields (t op : Nat) : List Nat :=
  if t = 0 then (if op = 23 then [21] else if op = 16 ∨ op = 24 ∨ op = 27 then [16] else [])
  else if t ≤ 2 then (if op = 4 then [21, 16, 11, 6] else if op ≤ 5 then [21, 16, 11] else [21, 16])
  else if t = 3 then (if op = 17 then [21, 16, 11, 6] else if op = 11 ∨ op = 12 ∨ op = 18 then [21, 16, 11] else [21, 16])
  else if t ≤ 5 then
    (if op = 21 then [21, 16] else if [3, 5, 6, 7, 12, 14, 15].contains op then [21, 16, 11, 6] else [21, 16, 11])
  else if t = 6 then (if op = 7 then [21, 16] else if 8 ≤ op ∧ op ≤ 18 then [16, 11] else [])
  else if op = 2 ∨ op = 5 then [21, 16, 11] else [21, 16]

/-- Register fields of a kernel's syllable that name another register of the same rotating file: its stage has moved by as many rotations
(R38, R398). -/
def rotatedMask (t : Nat) (w v : BitVec 32) : BitVec 32 :=
  (registerFields t (bits w 26 6)).foldl (fun m f =>
    if 2 ≤ bits w f 5 / 8 ∧ bits w f 5 / 8 = bits v f 5 / 8 then m ||| 0x1F#32 <<< f else m) 0

/-! What the retimer keeps (R338). -/

/-- The bundle of the retimed overlay that holds a recorded syllable. -/
def movedTo (r : Retimed) (b t : Nat) : Option Nat := (r.moves.find? fun m => m.1 == b && m.2.1 == t).map fun m => m.2.2

/-- Every recorded syllable stands once in the retimed overlay, in its slot, and nothing else does (R338). -/
def keepsSlots (old : List Byte) (r : Retimed) : Bool :=
  let new := syllablesOf r.code
  let olds := syllablesOf old
  let at_ := olds.map fun x => (movedTo r x.1 x.2.1, x.2.1)
  new.length == olds.length && at_.eraseDups.length == at_.length && olds.all fun x =>
    match movedTo r x.1 x.2.1 with
    | none => false
    | some b =>
      let v := imgWord r.code b x.2.1
      let keep := ~~~(retimeMask x.2.1 x.2.2 ||| if inKernel old x.1 then rotatedMask x.2.1 x.2.2 v else 0)
      v &&& keep == x.2.2 &&& keep

/-- A bundle that a record pins keeps its index in the ISP (R337). -/
def keepsPin (first : Nat) (old : List Byte) (r : Retimed) (x : SideRec) : Bool :=
  x.fld != 7 || (first ≤ x.cb && (syllablesOf old).all fun y => y.1 + first != x.cb || movedTo r y.1 y.2.1 == some y.1)

/-- From one bundle to a later one the overlay only falls through, a bundle a cycle. -/
def straight (code : List Byte) (lo hi : Nat) : Bool :=
  (List.range (hi - lo)).all fun i => [0, 23, 24, 25, 27].contains (bits (imgWord code (lo + i) 0) 26 6)

/-- A relation of one task on a register operand or an engine start, where both bundles stand in one straight stretch and the producer's class
is fixed: the consumer comes at or after the producer's landing, or with OLD strictly before it (R338). The other relations are the retimer's
own promise (log 86). -/
def keepsRelation (first : Nat) (tt : List TimeEntry) (old : List Byte) (r : Retimed) (x : SideRec) : Bool :=
  if x.ptask ≠ 0 ∨ x.dist ≠ 0 ∨ !(x.fld ≤ 3 || x.fld == 5) ∨ x.cb < first ∨ x.pb < first then true
  else match movedTo r (x.cb - first) x.cs, movedTo r (x.pb - first) x.ps, resultClass x.ps (imgWord old (x.pb - first) x.ps) with
    | some c, some p, some cls =>
      if c < p ∨ !straight r.code p c then true
      else
        let read := c + (if x.fld = 5 then bits (imgWord r.code c x.cs) 0 11 else 0)
        let land := p + (tt.getD cls ⟨0, 0, 0, 0⟩).lat
        if x.old then decide (read < land) else decide (land ≤ read)
    | _, _, _ => true

/-- The retimed overlay of a recorded one: within NMAX, in its slots, at its pinned indices and with its relations (R338, R339). -/
def keepsOverlay (tt : List TimeEntry) (entry old : List Byte) (recs : List SideRec) (r : Retimed) : Bool :=
  let first := imgField entry 2 2
  let n := r.code.length / 32
  r.code.length % 32 == 0 && 1 ≤ n && n ≤ imgField entry 6 2 + 1 && keepsSlots old r &&
    recs.all fun x => keepsPin first old r x && keepsRelation first tt old r x

/-- A retimed overlay's entry: ID, FIRST and NMAX as recorded, its own length, address and digest (R334, R338). -/
def retimedEntry (entry : List Byte) (r : Retimed) (va : Nat) : List Byte :=
  entry.take 4 ++ leBytes (r.code.length / 32 - 1) 2 ++ (entry.drop 6).take 2 ++ leBytes va 8 ++ sha384 r.code

/-- A retime slot: the retimed overlays end to end from its base, and their table behind them at a multiple of 64 bytes, with its offset
(R339; log 86). -/
def retimeSlot (base : Nat) (es : List (List Byte × Retimed)) : List Byte × Nat :=
  let code := es.flatMap fun e => e.2.code
  let pad := (64 - code.length % 64) % 64
  let t := es.foldl (fun (a : List Byte × Nat) e => (a.1 ++ retimedEntry e.1 e.2 a.2, a.2 + e.2.code.length)) ([], base)
  (code ++ List.replicate pad 0 ++ t.1, code.length + pad)

/-- The sidecar of an image, where it has one. -/
def State.sidecar (s : State) (k : Kco) : Option (List (Nat × List SideRec)) :=
  match k.sect 3 with
  | none => none
  | some x => match s.readAt k.space kcoPage (k.va + x.off) x.size with
    | none => none
    | some bs => sideBlocks x.count bs

/-- The overlays of an image that the retimer's output replaces, each with its entry, where the output keeps everything that R338 says. -/
def State.retimeOf (s : State) (k : Kco) (tt : List TimeEntry) : Option (List (List Byte × Retimed)) :=
  match s.sidecar k, s.overlayTable k, s.signedBytes k with
  | some blocks, some (tab, n), some img => match Config.retimed img (ttImage tt) with
    | none => none
    | some rs =>
      let es := (List.range n).map fun i => (tab.drop (64 * i)).take 64
      let kept := fun (e : List Byte) (r : Retimed) =>
        match s.readAt k.space kcoPage (imgField e 8 8) (32 * (imgField e 4 2 + 1)) with
        | none => false
        | some old => keepsOverlay tt e old ((blocks.filter fun b => b.1 == imgField e 0 2).flatMap Prod.snd) r
      if rs.length = n ∧ (es.zip rs).all (fun x => kept x.1 x.2) = true then some (es.zip rs) else none
  | _, _, _ => none

end Sys2Proof.Machine
end

