-- ==== Sys2Proof/Machine/Place.lean ====
section
/-! DEFINITION. Placement, the timed image of a launch, and what ends a launch (10_cupola.md R246, R253, 13_launch.md R317 to R320,
R329, 14_code_objects.md R339; log 35). -/

namespace Sys2Proof.Machine

/-! Which spires a launch may be given (R246, R253, R258, R317, R319, R372). -/

/-- A launch holds its place: it is admitted or runs. -/
def Launch.holds (l : Launch) : Bool := l.phase == .admitted || l.phase == .running

/-- The launches that hold a place beside `l`, with `but` counted as gone. -/
def State.holders (s : State) (l : Nat) (but : Option Nat) : List Launch :=
  (s.launches.filter fun x => x.2.holds && x.1 != l && some x.1 != but).map Prod.snd

/-- The physical spires a launch may be given. -/
def State.freeSpires (s : State) (l : Nat) (but : Option Nat) : List Nat :=
  let hs := s.holders l but
  let held := hs.flatMap fun x => x.place.map Prod.snd
  let waits := ((s.bel.units.filter fun u => u.2.awaiting).map fun u => ruidSpire u.1) ++ s.bel.upsets.filterMap fun u => match u.2 with
    | .block n => if u.1 ≤ s.wall then some n else none
    | _ => none
  let kept := match s.seq.reserved with | some (t, sps) => if t = l then [] else sps | none => []
  let cups := if (s.launch l).zUnits = 0 then [] else
    (hs.filter fun x => x.zUnits != 0).flatMap fun x => x.place.map fun y => y.2 / 16
  (List.range 512).filter fun p =>
    !(s.spire p).dropped && !waits.contains p && !held.contains p && !kept.contains p && !cups.contains (p / 16)

/-- The ports of this package that a timetable names. -/
def Ftt.ports (f : Ftt) : List Nat :=
  (f.circuits.filterMap fun c => if c.spkg = f.self then some c.sport else if c.dpkg = f.self then some c.dport else none) ++
    f.streams.map StreamDef.port

/-- No other launch on the package holds a port that the launch's timetable names (R372). -/
def State.portsFree (s : State) (l : Nat) : Bool :=
  match (s.launch l).ftt with
  | none => true
  | some f => s.launches.all fun x => x.1 == l || !(x.2.holds || x.2.phase == .saved) ||
      (match x.2.ftt with | some g => f.ports.all fun p => !g.ports.contains p | none => true)

/-! The map (R317). -/

/-- First fit of logical spires into free physical ones. -/
def firstFit (js free : List Nat) : Option (List (Nat × Nat)) :=
  let room := fun c => (free.filter fun p => p / 16 == c).length
  ((towerMaps (towersOf js).length (List.range 4)).find? (assignable js room)).map fun m =>
    ((towersOf js).zip m).flatMap fun (lt, pt) =>
      ((needs js lt).zip (offers room pt)).flatMap fun (n, o) =>
        (js.filter fun j => j / 16 == n.2).zip (free.filter fun p => p / 16 == o.2)

/-- A map that keeps the guarantees of R317 with spires of a free set. -/
def placementOk (js free : List Nat) (m : List (Nat × Nat)) : Bool :=
  m.map Prod.fst == js && m.all (fun a => free.contains a.2) &&
    m.all fun a => m.all fun b =>
      ((a.1 == b.1) == (a.2 == b.2)) && ((a.1 / 16 == b.1 / 16) == (a.2 / 16 == b.2 / 16)) &&
        ((a.1 / 128 == b.1 / 128) == (a.2 / 128 == b.2 / 128))

/-- The timing tables a launch may run on among free spires: the recorded digest's first, and only the saved one's for a resume
(R256, R317, R323). -/
def State.tables (s : State) (l : Nat) (free : List Nat) : List (List TimeEntry) :=
  let ts := (free.map fun p => (s.spire p).tt).eraseDups
  match (s.launch l).saved with
  | some v => ts.filter fun t => ttdig t == v.ttdig
  | none =>
    let own := ((s.kcoOf (s.launch l).code).map Kco.ttdig).getD 0
    ts.filter (fun t => (ttdig t).toNat == own) ++ ts.filter (fun t => (ttdig t).toNat != own)

/-- The launch's own spires. -/
def Launch.spires (l : Launch) : List Nat := recSpires l.record

/-- Where the launch can be placed now, with `but` counted as gone: the placer's choice where it keeps R317, else first fit on the
preferred table. -/
def State.placeLaunch (s : State) (l : Nat) (but : Option Nat) : Option (List (Nat × Nat)) :=
  if !s.portsFree l then none
  else
    let js := (s.launch l).spires
    let free := s.freeSpires l but
    let fits := fun t => firstFit js (free.filter fun p => (s.spire p).tt == t)
    match (s.tables l free).find? fun t => (fits t).isSome with
    | none => none
    | some t =>
      let m := Config.placed s.free js
      let own := ((s.kcoOf (s.launch l).code).map Kco.ttdig).getD 0
      let alike := fun u => u == t || ((ttdig t).toNat != own && (ttdig u).toNat != own)
      if (s.tables l free).any fun u => alike u && placementOk js (free.filter fun p => (s.spire p).tt == u) m then some m else fits t

/-! The timed image (R320, R339). -/

/-- The address of a code object's image directory. -/
def Kco.dirVa (k : Kco) : Option Nat := (k.sect 4).map fun x => k.va + x.off

/-- Retime slots, and the bytes of each. -/
def Kco.rtn (k : Kco) : Nat := k.fld 0x20 4
def Kco.rtsz (k : Kco) : Nat := k.fld 0x28 8
def Kco.rtva (k : Kco) : Nat := k.fld 0x18 8

/-- A page that the sequencer may write for a code object: it is the device's (R332). -/
def devOwned (p : Word) : Bool := pteOwn p || pteCtl p

/-- The overlay table of a launch's timed image: its address, its number of overlays and its retime slot. -/
structure Timed where
  va : Nat
  n : Nat
  slot : Nat
  deriving DecidableEq, Repr, Inhabited

/-- Marks a retime slot of an object as used most recently. -/
def State.touchSlot (s : State) (code slot : Nat) : State :=
  { s with seq := { s.seq with objects := s.seq.objects.map fun x =>
      if x.1 = code then (x.1, { x.2 with lru := slot :: x.2.lru.filter (· ≠ slot) }) else x } }

/-- A slot for a new image: a free one, else the least recently used that no queued, running or saved launch uses (R339). -/
def State.slotFor (s : State) (code : Nat) (free : List Nat) (rtn : Nat) : Option Nat :=
  match free with
  | f :: _ => some f
  | [] =>
    let used := (s.launches.filter fun x => x.2.phase != .ended && x.2.code == code).map fun x => x.2.slot
    let lru := ((s.seq.objects.find? (·.1 == code)).map fun x => x.2.lru).getD []
    let order := ((List.range rtn).map (· + 1)).filter (fun i => !lru.contains i) ++ lru.reverse
    order.find? fun i => !used.contains i && 1 ≤ i && i ≤ rtn

/-- Retimes an image for a table into a slot and writes its directory entry last (R338, R339). -/
def State.retime (s : State) (code : Nat) (k : Kco) (dir : Nat) (free : List Nat) (tt : List TimeEntry) : State × Option Timed :=
  match s.retimeOf k tt, s.slotFor code free k.rtn with
  | some es, some i =>
    let base := k.rtva + (i - 1) * k.rtsz
    let (bs, off) := retimeSlot base es
    if k.rtsz < bs.length ∨ k.rtva = 0 then (s, none)
    else match s.writeAt k.space devOwned base bs with
      | (_, false) => (s, none)
      | (t, true) => match t.writeAt k.space devOwned (dir + 16 * i) (leBytes (ttdig tt).toNat 8 ++ leBytes (base + off) 8) with
        | (_, false) => (s, none)
        | (t, true) => (t.touchSlot code i, some ⟨base + off, ((k.sect 2).map Section.count).getD 0, i⟩)
  | _, _ => (s, none)

/-- The timed image of a launch for the table of its spires, or none for reason 6: also where the image has no sidecar (R320, R331, R339,
R374). -/
def State.timedImage (s : State) (l : Nat) (k : Kco) (tt : List TimeEntry) : State × Option Timed :=
  let x := s.launch l
  let n := ((k.sect 2).map Section.count).getD 0
  if (ttdig tt).toNat = k.ttdig then (s, some ⟨k.va + ((k.sect 2).map Section.off).getD 0, n, 0⟩)
  else if 1 < ((x.ftt.map Ftt.npkg).getD 1) ∨ k.sect 3 = none then (s, none)
  else match k.dirVa with
    | none => (s, none)
    | some dir => match s.readAt k.space kcoPage dir (16 * (k.rtn + 1)) with
      | none => (s, none)
      | some d =>
        let ent := fun i => (imgField d (16 * i) 8, imgField d (16 * i + 8) 8)
        let is := (List.range k.rtn).map (· + 1)
        match is.find? fun i => ent i == ((ttdig tt).toNat, (ent i).2) && (ent i).2 != 0 with
        | some i => (s.touchSlot x.code i, some ⟨(ent i).2, n, i⟩)
        | none => s.retime x.code k dir (is.filter fun i => ent i == (0, 0)) tt

/-! Status records and ends (R144, R329). -/

/-- The 64 bytes of a status record. -/
def Launch.statusBytes (l : Launch) (digest : Word) : List Byte :=
  leBytes l.corr 4 ++ leBytes l.status 1 ++ leBytes l.reason 1 ++ leBytes 0 2 ++ leBytes l.xcause.toNat 8 ++ leBytes l.garr.toNat 8 ++
    leBytes l.gadm.toNat 8 ++ leBytes l.gstart.toNat 8 ++ leBytes l.gend.toNat 8 ++ leBytes digest.toNat 8 ++ leBytes l.dumpSeq 8

/-- Lands a status record where its page is still a writable control page. -/
def State.putStatus (s : State) (l : Launch) (digest : Word) : State :=
  if l.statusVa % 64 ≠ 0 then s
  else (s.writeAt l.space (fun p => pteCtl p && pteW p) l.statusVa (l.statusBytes digest)).1

/-- Lands the sequencer's increment on a launch's parent object, unless it is misaligned or its page no longer takes it (R144, R311). -/
def State.incrementParent (s : State) (l : Launch) : State :=
  if l.parent = 0 then s
  else match s.pageOf l.parentSp l.parent with
    | some p => if devWrite p && l.parent % 8 == 0 then s.increment (pteFrame p * 4096 + l.parent % 4096) else s
    | none => s

/-- A change of a launch's state: its status record, with the digest only at completion, and a lantern event (R329, R345). -/
def State.announce (s : State) (l sub : Nat) : State := (s.putStatus (s.launch l) 0).launchEvent l sub (s.launch l).status (s.launch l).reason

/-- An evaluation is due: after a free number of wall cycles of the sequencer's work (R314). -/
def State.needEval (s : State) : State :=
  if s.seq.evalDue then s
  else { s with seq := { s.seq with evalDue := true, evalWall := s.wall + Config.admitCycles s.free }, free := s.free + 1 }

/-- Cores without a launch's tasks: an idle core keeps only an armed XINJ (R53). -/
def freeCores (l : Nat) (cs : List (Nat × Core)) : List (Nat × Core) :=
  cs.filterMap fun x =>
    if x.2.f.mode = .idle ∨ x.2.f.task.launch ≠ l then some x
    else if x.2.x.xinj = 0 then none
    else some (x.1, { Core.zero with x := { SysRegs.zero with xinj := x.2.x.xinj } })

/-- Ends a launch: its status record, then its parent's increment; its tiles are free (R144, R324, R329). -/
def State.endLaunch (s : State) (l st reason : Nat) (digest : Word) : State :=
  let x := { s.launch l with phase := LPhase.ended, status := st, reason := reason, gend := s.gtime, causes := [], pre := PrePhase.none,
                             steps := none, dbg := false, thawAt := none, thaws := [], saved := none }
  let s := { s.setLaunch l x with cores := freeCores l s.cores }
  let s := if st = 8 then { s with ports := s.ports.map fun p =>
      (p.1, { p.2 with tx := p.2.tx.filter (·.launch ≠ l), resend := p.2.resend.filter (·.launch ≠ l) }) } else s
  let s := { s with seq := { s.seq with reserved := s.seq.reserved.filter fun r => r.1 != l, dumps := s.seq.dumps.filter fun d => d.launch != l } }
  (((s.putStatus x digest).incrementParent x).launchEvent l 5 st reason).needEval

end Sys2Proof.Machine
end

