-- ==== Sys2Proof/Machine/Save.lean ====
section
/-! DEFINITION. The save area, the dump area and what the context-save and dump engines write there, and the saved context itself
(13_launch.md R321 to R328; log 36). The order of the sections is the specification's; the places inside a record are the model's. -/

namespace Sys2Proof.Machine

/-! Areas (R321, R326). -/

/-- Bound tasks, spires and logical cupolas of a launch's part. -/
def Launch.ncore (l : Launch) : Nat := l.spires.length * l.halves
def Launch.cups (l : Launch) : List Nat := (l.spires.map (· / 16)).eraseDups

/-- Cupola records: one for each cupola of the launch, whose barrier instances it holds also with Z = 0 (R325). -/
def Launch.ncup (l : Launch) : Nat := l.cups.length

/-- Bytes of a cupola record (R326). -/
def Launch.cupBytes (l : Launch) : Nat := l.zcup + l.zcup / 4 * 5 / 8 + l.zcup / 4096 + 64

/-- Offsets of the first spire record, of the first cupola record and of the overlay maps (R325). -/
def Launch.offSpire (l : Launch) : Nat := 4096 + 327680 * l.ncore
def Launch.offCup (l : Launch) : Nat := l.offSpire + 5242880 * l.spires.length
def Launch.offOvl (l : Launch) : Nat := l.offCup + l.ncup * l.cupBytes

/-- The least SAVESZ (R326). -/
def Launch.saveNeed (l : Launch) : Nat := l.offOvl + 2048 * l.ncore

/-- A page of a save area: readable, writable, device-owned, PFMT 0, CTL 0 (R321). -/
def savePage (p : Word) : Bool := pteR p && pteW p && pteOwn p && pteFmt p == 0 && !pteCtl p

/-- A page of a dump area: readable, writable, PFMT 0, a control page (R321). -/
def dumpPage (p : Word) : Bool := pteR p && pteW p && pteFmt p == 0 && pteCtl p

/-- The save and dump areas pass the checks of R321. -/
def State.areasOk (s : State) (l : Launch) : Bool :=
  (l.saveVa == 0 || (l.saveVa % 4096 == 0 && l.saveNeed ≤ l.saveSize && (s.pagesOf l.space savePage l.saveVa l.saveSize).isSome)) &&
    (l.dumpVa == 0 || (l.dumpVa % 4096 == 0 && (s.pagesOf l.space dumpPage l.dumpVa l.dumpSize).isSome))

/-! Packing. -/

/-- Bytes padded with zeros, or cut, to a length. -/
def padTo (n : Nat) (bs : List Byte) : List Byte := (bs ++ List.replicate (n - bs.length) 0).take n

/-- 8-byte words. -/
def words (ws : List Nat) : List Byte := ws.flatMap fun w => leBytes w 8

/-- Bytes from an address on, by one walk over cells in rising order. -/
def denseFrom : Nat → Nat → Memory → List Byte
  | _, 0, _ => []
  | a, n + 1, [] => blank a :: denseFrom (a + 1) n []
  | a, n + 1, x :: r => if x.1 = a then x.2 :: denseFrom (a + 1) n r else blank a :: denseFrom (a + 1) n (x :: r)

/-- The bytes of a 4 KiB piece of a region. -/
def State.piece (s : State) (flat : Nat) : List Byte := denseFrom flat 4096 (s.mem.filter fun c => flat ≤ c.1 && c.1 < flat + 4096)

/-- Contents of a region. -/
def State.flatBytes (s : State) (flat n : Nat) : List Byte :=
  ((List.range (cdiv n 4096)).flatMap fun i => s.piece (flat + 4096 * i)).take n

/-- Tags of a region's words, 5 bits each, word 0 lowest, eight to five bytes. -/
def State.tagBytes (s : State) (flat n : Nat) : List Byte :=
  (List.range (n / 32)).flatMap fun i => leBytes (packTags ((List.range 8).map fun j => s.tagAt (flat + 32 * i + 4 * j))) 5

/-- FMT and BLK of a region's granules, a byte each. -/
def State.granBytes (s : State) (flat n : Nat) : List Byte :=
  (List.range (n / 4096)).map fun i => let g := s.granule (flat + 4096 * i); BitVec.ofNat 8 (g.1 + 16 * g.2)

/-! Core records (R325). -/

/-- An address-generator set as its eight WRAG words (R43). -/
def AgSet.words (g : AgSet) : List Nat :=
  [g.base.toNat, g.str0.toNat, g.str1.toNat, g.str2.toNat, g.cnt0.toNat, g.cnt1.toNat, g.cnt2.toNat, g.fmt.toNat]

/-- The state of a generator. -/
def Rng.bytes (r : Rng) : List Byte := leBytes r.s0.toNat 4 ++ leBytes r.s1.toNat 4 ++ leBytes r.s2.toNat 4 ++ leBytes r.s3.toNat 4

/-- A queue of vectors: its length, then four places. -/
def queueBytes (q : List Vec) : List Byte :=
  words [q.length] ++ (List.range 4).flatMap fun i => vecRecord ((q.getD i Vec.zero).map some)

/-- An integer as a 64-bit two's complement number. -/
def intWord (i : Int) : Nat := (BitVec.ofInt 64 i).toNat

/-- Captured operands of a command. -/
def CmdKind.saveWords : CmdKind → List Nat
  | .copy p c => [p.cls + 256 * p.rate + 2 ^ 20 * p.ch + 2 ^ 28 * p.order, c.dst, c.src, c.len0, c.cnt1, c.cnt2, intWord c.ss1, intWord c.ss2,
      intWord c.ds1, intWord c.ds2, (if c.fill.isSome then 1 else 0) + 16 * c.ffmt + 256 * c.fblk + 4096 * c.decSrc + 65536 * c.decDst, (c.fill.getD 0).toNat]
  | .gather p g => [p.cls + 256 * p.rate + 2 ^ 20 * p.ch, g.idxBase, g.base, g.esz, g.n, g.list, g.g, if g.scatter then 1 else 0]
  | .ovl p o => [p.cls, o.first.toNat, o.n, o.src, o.man]
  | .gen port ag set => [port + 16 * ag] ++ set.words
  | .mx m => [m.op + 16 * m.par + 32 * m.typ + 256 * m.a + 65536 * m.b + (if m.chk then 2 ^ 24 else 0) + (if m.za then 2 ^ 25 else 0), m.m, m.n,
      m.acc, m.ad.1.toNat, m.ad.2.toNat, m.bd.1.toNat, m.bd.2.toNat, m.scale.toNat]
  | .gamo g => [opCode g.op + (if g.w64 then 8 else 0) + 16 * g.order, g.addr, g.operand.toNat, g.cmp.toNat, g.gdst.toNat]
  | .fab f => [(if f.recv then 1 else 0) + 2 * f.op, f.sa.toNat, f.sb.toNat, f.desc.toNat, f.slt.toNat, f.skw.toNat]
  | .lnch r p => [r.toNat, p.toNat]
  | .rel o x => [o.toNat, x]
  | .acq o x => [o.toNat, x]

/-- The 128 bytes of an unstarted command: queue, slot, bundle and syllable, its remaining start offset, its operands (R322). -/
def Cmd.record (now : Nat) (m : Cmd) : List Byte :=
  padTo 128 (words ([m.queue + 8 * m.slot + 64 * m.bundle + 2 ^ 32 * m.syll.toNat, m.start - now] ++ m.kind.saveWords))

/-- A fault recorded by the drain: 64 bytes (R322). -/
def Due.record (d : Due) : List Byte :=
  padTo 64 (words [d.cause * 2 ^ 32 + d.sub + (if d.eng then 2 ^ 37 else 0), d.bundle, d.slot, d.issue, d.lane, d.addr.toNat, d.prio])

/-- The 327,680 bytes of a core record (R325). -/
def Core.saveRecord (c : Core) : List Byte :=
  let sys := (List.range 36).map fun n => if n = 2 ∨ n = 8 then 0 else (c.sysRead 0 0 n).toNat
  let es := sortEntries c.p.prb
  let h := frameHeader c ⟨0, 0, true, false, false, 0, 0, 0, 0, 0, none⟩ 0 0 Bank.zero c.f.pc.toNat 0 (idxEntries 0 es)
  let gens := c.e.cmds.filter fun m => m.queue == 6 && m.started
  let todo := c.e.cmds.filter fun m => !m.started
  padTo 327680
    (words (c.r.s.map BitVec.toNat) ++ (c.r.v.flatMap fun v => vecRecord (v.map some)) ++ words (c.r.p.map BitVec.toNat) ++
      words (c.r.ag.flatMap AgSet.words) ++ words (c.r.mp.map BitVec.toNat) ++ words sys ++ c.r.rng.bytes ++
      (c.r.rngQ.flatMap fun w => leBytes w.toNat 4) ++ words [c.r.rngPops] ++ words (c.r.eng.map BitVec.toNat) ++
      words [c.r.bind.length] ++ padTo 384 (c.r.bind.flatMap fun b => words [b.obj.toNat, b.base.toNat, b.len.toNat]) ++
      c.r.q.flatMap queueBytes ++ c.r.wq.flatMap queueBytes ++ words [gens.length] ++
      padTo 1024 ((gens.take 8).flatMap fun m => padTo 128 (words ([m.sPos, m.lPos] ++ m.kind.saveWords))) ++
      words [c.f.pc.toNat, h.shadow, h.wait, h.waitv, h.occ, h.idx0, h.idx1, c.p.prb.length] ++
      padTo 512 (((idxEntries 0 es).take 2).flatMap fun x => x.2.idxOffs.2.flatMap fun o => leBytes o 4) ++
      padTo 29184 (es.flatMap fun e => entryBytes c.now e) ++ words [c.p.dues.length] ++ c.p.dues.flatMap Due.record ++
      words [todo.length] ++ (todo.take 2048).flatMap fun m => m.record c.clk)

/-- The 2 KiB of an overlay map (R215, R325). -/
def Core.ovlRecord (c : Core) : List Byte := padTo 2048 (c.e.ovl.flatMap fun e => words [e.first, e.n, e.src, e.man])

/-! Spire and cupola records (R325). -/

/-- An operand buffer's fields, rows and sideband. -/
def OpBuf.bytes (b : OpBuf) : List Byte := words [b.fmt + 16 * b.blk] ++ b.rows.flatten ++ b.scales.flatten

/-- The 5 MiB of a spire record; held landings are those its cores' array kept. -/
def State.spireRecord (s : State) (p : Nat) : List Byte :=
  let held := [2 * p, 2 * p + 1].flatMap fun k => (s.core k).p.held
  padTo 5242880
    (s.flatBytes (tileBase p) 3145728 ++ s.tagBytes (tileBase p) 3145728 ++ s.granBytes (tileBase p) 3145728 ++
      s.flatBytes (accBase p) 1048576 ++ s.tagBytes (accBase p) 1048576 ++ (s.spire p).ob.flatMap OpBuf.bytes ++
      s.flatBytes (codebookBase p) 1024 ++ s.flatBytes (microBase p) 32768 ++ words [held.length] ++
      held.flatMap fun h => words [h.slot, h.runs.length, h.poison] ++ (h.runs.flatMap fun r => words [r.1, r.2.1.length] ++ r.2.1) ++
        h.ob.toList.flatMap fun o => words [o.buf, o.fmt, o.blk, o.rows.length] ++ o.rows.flatMap fun r => words [r.1] ++ r.2.1 ++ r.2.2)

/-- A cupola record: the held range, and the arrivals at each level's barrier of the launch's tasks there (R325). -/
def State.cupRecord (s : State) (l : Nat) (lcup : Nat) : List Byte :=
  let x := s.launch l
  let phys := ((x.place.find? fun y => y.1 / 16 == lcup).map fun y => y.2 / 16).getD 0
  let at_ := (List.range 5).map fun lev => (s.cores.filter fun y =>
    y.2.f.task.launch == l && y.2.f.task.lsp / 16 == lcup && y.2.waitsAt lev).length
  padTo x.cupBytes (s.flatBytes (cupolaBase phys) x.zcup ++ s.tagBytes (cupolaBase phys) x.zcup ++ s.granBytes (cupolaBase phys) x.zcup ++ words at_)

/-! Reading records back (R323, R325). -/

/-- Clears a region: bytes as after reset, tags 24, no poison, FMT 0 (R198, R247). -/
def State.wipe (s : State) (flat n : Nat) : State :=
  let out : {α : Type} → Nat → List (Nat × α) → List (Nat × α) := fun u l => l.filter fun x => !(flat ≤ x.1 * u && x.1 * u < flat + n)
  { s with mem := out 1 s.mem, tags := out 4 s.tags, poison := out 4 s.poison, gran := out 4096 s.gran }

/-- A little-endian word of a record. -/
def recWord (bs : List Byte) (off : Nat) : Nat := leValue ((bs.drop off).take 8)

/-- `n` words of a record from an offset. -/
def recWords (bs : List Byte) (off n : Nat) : List Word := (List.range n).map fun i => BitVec.ofNat 64 (recWord bs (off + 8 * i))

/-- Packed tags, eight to five bytes: codes 25 to 31 read as 24 (R81). -/
def tagsOf : List Byte → List Nat
  | a :: b :: c :: d :: e :: r =>
    let v := leValue [a, b, c, d, e]
    (List.range 8).map (fun j => clampTag (v / 32 ^ j % 32)) ++ tagsOf r
  | _ => []

/-- A vector of a register or port record: a lane's tag code 25 to 31 reads as 24 (R36, R81). -/
def vecOfRecord (bs : List Byte) : Vec :=
  let tags := leValue ((bs.drop 256).take 40)
  (List.range 64).map fun l => ⟨BitVec.ofNat 32 (leValue ((bs.drop (4 * l)).take 4)), clampTag (tags / 32 ^ l % 32)⟩

/-- Vectors of a record from an offset. -/
def recVecs (bs : List Byte) (off n : Nat) : List Vec := (List.range n).map fun i => vecOfRecord ((bs.drop (off + 296 * i)).take 296)

/-- Four queues of a record. -/
def recQueues (bs : List Byte) (off : Nat) : List (List Vec) :=
  (List.range 4).map fun i => recVecs bs (off + 1192 * i + 8) (min 4 (recWord bs (off + 1192 * i)))

/-- An address-generator set of eight WRAG words. -/
def AgSet.ofWords (w : List Word) : AgSet :=
  let f := fun (i n : Nat) => BitVec.ofNat n (w.getD i 0).toNat
  ⟨f 0 40, f 1 24, f 2 24, f 3 24, f 4 16, f 5 16, f 6 16, f 7 4⟩

/-- The system registers and the loop state of the words of R56; SCHC, SPLB and XINJ with them. -/
def Core.withSys (c : Core) (w : Nat → Word) : Core :=
  let bank := fun (b : Bank) (n : Nat) => (List.range 8).foldl (fun (x : Bank) i => x.set i (w (n + i))) b
  let levels := ((List.range 4).zip c.l.levels).map fun (i, l) => { l.ofWord (w (0x0C + i)) with lpc := w (0x20 + i) }
  { c with x := { sstat := w 0, schc := w 1, xvec := w 3, ovp := w 4, splb := w 5, xinj := w 9, bank1 := bank c.x.bank1 0x10,
                  bank2 := bank c.x.bank2 0x18 }
           l := { c.l with levels := levels, rrb := (w 6).setWidth 3, sen := (w 7).setWidth 16 } }

/-- A saved core as its record holds it: registers, ports, control words and the values of its pending entries; the rest is what the core was
(R323, R325; log 36). -/
def Core.ofRecord (c : Core) (bs : List Byte) : Core :=
  let es := sortEntries c.p.prb
  let idx := [recWord bs 19600, recWord bs 19608]
  let entry := fun (i : Nat) (e : Entry) =>
    let at_ := 20136 + 304 * i
    let j := ((List.range 2).find? fun j => idx.getD j 0 / 2 ^ 63 == 1 && idx.getD j 0 / 2 ^ 55 % 128 == i).getD 0
    let offs := (List.range 64).map fun l => leValue ((bs.drop (19624 + 256 * j + 4 * l)).take 4)
    { e with kind := entryKind (recWord bs at_) ((bs.drop (at_ + 8)).take 296) (idx.getD j 0 % 2 ^ 40) offs e.groups }
  let nbind := min 16 (recWord bs 8600)
  let r := { c.r with
    s := recWords bs 0 32, v := recVecs bs 256 24, p := recWords bs 7360 8
    ag := (List.range 8).map fun i => AgSet.ofWords (recWords bs (7424 + 64 * i) 8), mp := recWords bs 7936 8
    rng := (let f := fun i => BitVec.ofNat 32 (leValue ((bs.drop (8288 + 4 * i)).take 4)); ⟨f 0, f 1, f 2, f 3⟩)
    rngQ := (List.range 16).map fun i => BitVec.ofNat 32 (leValue ((bs.drop (8304 + 4 * i)).take 4)), rngPops := recWord bs 8368
    eng := recWords bs 8376 28
    bind := (List.range nbind).map fun i => (let w := recWords bs (8608 + 24 * i) 3; ⟨w.getD 0 0, w.getD 1 0, w.getD 2 0⟩)
    q := recQueues bs 8992, wq := recQueues bs 13760 }
  let sys := recWords bs 8000 36
  (({ c with r := r }.withSys fun n => sys.getD n 0).modP fun p => { p with prb := ((List.range es.length).zip es).map fun (x : Nat × Entry) => entry x.1 x.2 }).modF
    fun f => { f with pc := BitVec.ofNat 12 (recWord bs 19560), shadow := shadowOf (recWord bs 19568),
                      wait := (waitOf (recWord bs 19576) (recWord bs 19584)).resumed f.wait }

/-- The overlay map of its 2 KiB, in order, up to the first empty entry. -/
def ovlOfRecord (bs : List Byte) : List OvlEntry :=
  (((List.range 64).map fun i => recWords bs (32 * i) 4).takeWhile fun w => w.getD 1 0 != 0).map fun w =>
    ⟨(w.getD 0 0).toNat, (w.getD 1 0).toNat, (w.getD 2 0).toNat, (w.getD 3 0).toNat⟩

/-- An operand buffer of its 4,616 bytes. -/
def OpBuf.ofRecord (bs : List Byte) : OpBuf :=
  let w := recWord bs 0
  ⟨(List.range 32).map fun i => (bs.drop (8 + 128 * i)).take 128, (List.range 32).map fun i => (bs.drop (4104 + 16 * i)).take 16, w % 16, w / 16 % 4⟩

/-- Puts bytes, tags and granule fields into a region of memory. -/
def State.putRegion (s : State) (flat : Nat) (bs : List Byte) (tags : List Nat) (gran : List Byte) : State :=
  let s := s.wipe flat bs.length
  { s with mem := s.mem.write flat bs, tags := alWrite 24 s.tags (flat / 4) tags,
           gran := alWrite (0, 0) s.gran (flat / 4096) (gran.map fun g => (g.toNat % 16, g.toNat / 16 % 4)) }

/-- `n` bytes of a save area from an offset, through its pages. -/
def State.areaBytes (s : State) (ps : List (Nat × Word)) (va n : Nat) : List Byte :=
  (((List.range (cdiv (va % 4096 + n) 4096)).flatMap fun i => s.piece (pteFrame (alGet 0 ps (va / 4096 + i)) * 4096)).drop (va % 4096)).take n

/-! The saved context. -/

/-- The cores of a launch by requester number. -/
def State.coresOf (s : State) (l : Nat) : List (Nat × Core) :=
  (s.cores.filter fun x => x.2.f.task.launch == l && x.2.f.mode != .idle).foldl (fun acc x => alSet acc x.2.taskNo x.2) []

/-- What a save keeps of a launch beside its save area. -/
def State.contextOf (s : State) (l : Nat) : Saved :=
  let x := s.launch l
  { cores := s.coresOf l, ttdig := ttdig (s.spire ((x.place.head?.map Prod.snd).getD 0)).tt, lclk := x.lclk }

/-- The pages of a launch's save area, where all that a save writes can be read. -/
def State.savedPages (s : State) (l : Launch) : Option (List (Nat × Word)) := s.pagesOf l.space devRead l.saveVa l.saveNeed

/-- Restores the spire records and then the cupola records of a save area under a new placement (R323). -/
def State.restoreMemories (s : State) (l : Nat) (ps : List (Nat × Word)) : State :=
  let x := s.launch l
  let s := ((List.range x.spires.length).zip x.spires).foldl (fun s (y : Nat × Nat) =>
    match x.physOf y.2 with
    | none => s
    | some p =>
      let at_ := x.saveVa + x.offSpire + 5242880 * y.1
      let part := fun (off n : Nat) => s.areaBytes ps (at_ + off) n
      let t := s.putRegion (tileBase p) (part 0 3145728) (tagsOf (part 3145728 491520)) (part 3637248 768)
      let t := t.putRegion (accBase p) (part 3638016 1048576) (tagsOf (part 4686592 163840)) []
      let ob := (List.range 4).map fun i => OpBuf.ofRecord (part (4850432 + 4616 * i) 4616)
      let t := (t.putRegion (codebookBase p) (part 4868896 1024) [] []).putRegion (microBase p) (part 4869920 32768) [] []
      t.setSpire p { t.spire p with ob := ob }) s
  ((List.range x.cups.length).zip x.cups).foldl (fun s (y : Nat × Nat) =>
    match x.place.find? fun z => z.1 / 16 == y.2 with
    | none => s
    | some z =>
      let at_ := x.saveVa + x.offCup + x.cupBytes * y.1
      let n := x.zcup / 4 * 5 / 8
      s.putRegion (cupolaBase (z.2 / 16)) (s.areaBytes ps at_ x.zcup) (tagsOf (s.areaBytes ps (at_ + x.zcup) n))
        (s.areaBytes ps (at_ + x.zcup + n) (x.zcup / 4096))) s

/-- The cores of a saved launch as its core records and its overlay maps hold them (R323). -/
def State.savedCores (s : State) (l : Nat) (ps : List (Nat × Word)) (v : Saved) : List Core :=
  let x := s.launch l
  ((List.range v.cores.length).zip v.cores).map fun ((i, y) : Nat × (Nat × Core)) =>
    let c := y.2.ofRecord (s.areaBytes ps (x.saveVa + 4096 + 327680 * i) 327680)
    c.modE fun e => { e with ovl := ovlOfRecord (s.areaBytes ps (x.saveVa + x.offOvl + 2048 * i) 2048) }

/-! Writing the save area (R325 to R327). -/

/-- The save area's header. -/
def State.saveHeader (s : State) (l : Nat) (complete : Nat) : List Byte :=
  let x := s.launch l
  padTo 4096 (words [0x564153454B430001, complete, (ttdig (s.spire ((x.place.head?.map Prod.snd).getD 0)).tt).toNat, x.gsave.toNat] ++
    leBytes x.ncore 4 ++ leBytes x.spires.length 4 ++ leBytes x.ncup 4 ++ leBytes 0 4 ++ words [x.offSpire, x.offCup, x.offOvl])

/-- COMPLETE of a whole save. -/
def Launch.complete (l : Launch) : Nat := 0x53564543 * 2 ^ 32 + l.corr

/-- Everything the save engines write, in the order of R326, with COMPLETE zero. -/
def State.saveBytes (s : State) (l : Nat) : List Byte :=
  let x := s.launch l
  let cs := s.coresOf l
  s.saveHeader l 0 ++ cs.flatMap (fun y => y.2.saveRecord) ++ x.place.flatMap (fun y => s.spireRecord y.2) ++
    (x.cups.flatMap fun c => s.cupRecord l c) ++ cs.flatMap fun y => y.2.ovlRecord

/-- The first poisoned word of a region that a save reads, with its sub-cause. -/
def State.poisonedIn (s : State) (flat n : Nat) : Option (Nat × Nat) := s.poison.find? fun x => flat ≤ 4 * x.1 && 4 * x.1 < flat + n

/-- The ECC fault that a save of the launch meets in the memories it reads: its sub-cause and the window address of the word (R286, R327). -/
def State.saveEcc (s : State) (l : Launch) : Option (Nat × Nat) :=
  let spire := l.place.findSome? fun y =>
    [(tileBase y.2, 3145728, 0), (accBase y.2, 1048576, 1), (codebookBase y.2, 1024, 6), (microBase y.2, 32768, 7)].findSome? fun x =>
      (s.poisonedIn x.1 x.2.1).map fun w => (w.2, windowOf y.1 (x.2.2 * 2 ^ 26 + (4 * w.1 - x.1)))
  match spire with
  | some x => some x
  | none => l.place.findSome? fun y => (s.poisonedIn (cupolaBase (y.2 / 16)) l.zcup).map fun w =>
      (w.2, windowOf (y.1 / 16 * 16) (8 * 2 ^ 26 + (4 * w.1 - cupolaBase (y.2 / 16))))

/-- Class, sub-cause and address of the fault that a save meets: the first page of its area that does not pass, a poisoned word, else PROT at
its end, where the area is too small (R327). -/
def State.saveFault (s : State) (l : Launch) : Nat × Nat × Nat :=
  let vas := (List.range (cdiv l.saveNeed 4096)).map fun i => l.saveVa + 4096 * i
  match vas.find? fun va => match s.pageOf l.space va with | some p => !savePage p | none => true with
  | none => match s.saveEcc l with
    | some e => (18, e)
    | none => (12, akOther, l.saveVa + l.saveSize)
  | some va => match s.walk l.asid l.asroot va with
    | .error c => (c, akOther, va)
    | .ok e => (if pteOwn (e.leaf va) then 12 else 13, akOther, va)

/-- Writes the save area: zero to COMPLETE first, then all its sections; `whole` writes COMPLETE at the end. False where the save is abandoned:
SAVESZ is too small, a page does not pass, or a memory holds a poisoned word (R326, R327). -/
def State.writeSave (s : State) (l : Nat) (whole : Bool) : State × Bool :=
  let x := s.launch l
  let s := (s.writeAt x.space savePage (x.saveVa + 8) (List.replicate 8 0)).1
  if x.saveSize < x.saveNeed ∨ (s.saveEcc x).isSome then (s, false)
  else match s.writeAt x.space savePage x.saveVa (s.saveBytes l) with
    | (t, false) => (t, false)
    | (t, true) => if whole then t.writeAt x.space savePage (x.saveVa + 8) (leBytes x.complete 8) else (t, true)

/-- COMPLETE of a launch's save area stands there, and the area can be read (R326). -/
def State.saveWhole (s : State) (l : Launch) : Bool :=
  s.readAt l.space devRead (l.saveVa + 8) 8 == some (leBytes l.complete 8) && (s.savedPages l).isSome

/-! Dumps (R328). -/

/-- A 64-byte entry of a dump header. -/
def dumpEntry (cause : Word) (bundle slot : Nat) (schc addr : Word) (lane req : Nat) (gtime : Word) (corr : Nat) : List Byte :=
  words [cause.toNat, bundle, slot, schc.toNat, addr.toNat, lane] ++ leBytes req 4 ++ leBytes gtime.toNat 8 ++ leBytes corr 4

/-- The requester number of a core's task. -/
def State.reqOf (s : State) (k : Nat) : Nat := (s.core k).f.task.req

/-- The dump header. -/
def State.dumpHeader (s : State) (l : Nat) (i : KillInfo) (cut : Bool) : List Byte :=
  let corr := (s.launch l).corr
  let more := (i.more.take 7).flatMap fun f => dumpEntry f.cause f.bundle f.slot f.schc f.addr f.lane (s.reqOf f.core) f.gtime corr
  let head := padTo 512 (dumpEntry i.cause i.bundle i.slot i.schc i.addr i.lane (s.reqOf i.core) i.gtime corr ++ more)
  padTo 4096 (padTo 0x3F8 (head ++ words [i.more.length]) ++ words [if cut then 1 else 0])

/-- Writes a dump: its header, core records and spire records, as far as DUMPSZ holds them. -/
def State.writeDump (s : State) (l : Nat) (i : KillInfo) : State :=
  let x := s.launch l
  let body := (s.coresOf l).flatMap (fun y => y.2.saveRecord) ++ x.place.flatMap fun y => s.spireRecord y.2
  let cut := x.dumpSize < 4096 + body.length
  (s.writeAt x.space dumpPage x.dumpVa ((s.dumpHeader l i cut ++ body).take x.dumpSize)).1

end Sys2Proof.Machine
end

