-- ==== Sys2Proof/Machine/Admit.lean ====
section
/-! DEFINITION. Admission: the work between a launch's selection and its start, and the resume of a saved launch (10_cupola.md R247,
11_tower_memory.md R276, 13_launch.md R312, R320 to R323, 14_code_objects.md R331, R334, R335; log 37). -/

namespace Sys2Proof.Machine

/-! Clearing and initialisers (R198, R247, R331). -/

/-- Clears what a launch finds zero at its start: tile scratchpad, accumulators and operand buffers of its spires, with the carve-out's
granules FP32+TAG, and its held cupola ranges (R49, R54, R198, R247). -/
def State.clearFor (s : State) (l : Nat) : State :=
  let x := s.launch l
  let s := x.place.foldl (fun s y =>
    let s := (s.wipe (tileBase y.2) (3 * 2 ^ 20)).wipe (accBase y.2) (2 ^ 20)
    let s := s.setGran (tileBase y.2 + (768 - x.carve) * 4096) (x.carve * 4096) 12 0
    s.setSpire y.2 { s.spire y.2 with ob := List.replicate 4 OpBuf.zero }) s
  if x.zUnits = 0 then s
  else ((x.place.map fun y => y.2 / 16).eraseDups).foldl (fun s c => s.wipe (cupolaBase c) x.zcup) s

/-- One data initialiser: the tile scratchpad of every bound spire, every held cupola scratchpad, or global memory. Poisoned data lands
poisoned (R286). -/
def State.initialise (s : State) (l : Nat) (dest len : Nat) (bs : List Byte) (psn : List Nat) : State :=
  let x := s.launch l
  let put := fun (s : State) (flat : Nat) => (s.landBytes flat bs [] true 0).poisonBytes flat psn
  let off := dest % 2 ^ 40
  let n := len % 2 ^ 47
  match dest / 2 ^ 62 with
  | 0 => if 3 * 2 ^ 20 < off + n then s else x.place.foldl (fun s y => put s (tileBase y.2 + off)) s
  | 1 => if x.zcup < off + n then s
    else ((x.place.map fun y => y.2 / 16).eraseDups).foldl (fun s c => put s (cupolaBase c + off)) s
  | 2 =>
    let va := off + len / 2 ^ 47 * 2 ^ 40
    match s.pagesOf x.space devWrite va bs.length with
    | none => s
    | some ps => ((List.range psn.length).zip psn).foldl (fun s y => if y.2 = 0 then s else s.poisonBytes (flatOf ps (va + y.1)) [y.2])
        (s.landPages va bs ps)
  | _ => s

/-- Every data initialiser of the launch's code object, in order. -/
def State.initialisers (s : State) (l : Nat) (k : Kco) : State :=
  match k.sect 6 with
  | none => s
  | some x => match s.readAt k.space kcoPage (k.va + x.off) x.size with
    | none => s
    | some bs =>
      let psn := s.poisonOfPages k.space kcoPage (k.va + x.off) x.size
      (List.range x.count).foldl (fun s i =>
        let n := imgField bs (24 * i + 8) 8 % 2 ^ 47
        let src := imgField bs (24 * i + 16) 8
        s.initialise l (imgField bs (24 * i) 8) (imgField bs (24 * i + 8) 8) ((bs.drop src).take n) ((psn.drop src).take n)) s

/-! Overlays (R215, R334, R335). -/

/-- A page that an overlay is sampled from: readable, executable, and device-owned or a control page, whose OWN is ignored (R215, R263). -/
def codePage (p : Word) : Bool := pteR p && pteX p && (pteOwn p || pteCtl p)

/-- The bundles of an overlay where they can be sampled and hash to a digest. -/
def State.overlayBytes (s : State) (sp : Space) (src n : Nat) (digest : List Byte) : Option (List Byte) :=
  match s.readAt sp codePage src (32 * n) with
  | some bs => if sha384 bs = digest then some bs else none
  | none => none

/-- Lands an overlay's bundles in a core's ISP; only words that were poisoned in memory are poisoned behind it (R199, R215, R286). -/
def State.landOverlay (s : State) (sp : Space) (k first n src : Nat) (bs : List Byte) : State :=
  let psn := s.poisonOfPages sp codePage src (32 * n)
  ((s.landBytes (ispBase k + 32 * first) bs [] false 0).markBundles k first n false).poisonBytes (ispBase k + 32 * first) psn

/-- The physical cores of a launch's tasks. -/
def Launch.coreKeys (l : Launch) : List Nat := l.place.flatMap fun y => (List.range l.halves).map fun h => 2 * y.2 + h

/-- The initial overlay's entry and bytes, or none where its hash check fails (R312, R335). -/
def State.initialOverlay (s : State) (l : Nat) (k : Kco) (t : Timed) : Option (OvlEntry × List Byte) :=
  let x := s.launch l
  match s.readAt k.space devRead t.va (64 * t.n) with
  | none => none
  | some tab =>
    let id := recOverlay x.record
    match (List.range t.n).find? fun i => imgField tab (64 * i) 2 == id with
    | none => none
    | some i =>
      let f := fun o n => imgField tab (64 * i + o) n
      match s.overlayBytes x.space (f 8 8) (f 4 2 + 1) ((tab.drop (64 * i + 0x10)).take 48) with
      | some bs => some (⟨f 2 2, f 4 2 + 1, f 8 8, t.va + 64 * i + 0x10⟩, bs)
      | none => none

/-! The residency set (R276). -/

/-- Fills the L2 of every cupola of the launch with a page's translation; a failed walk leaves the page out. -/
def State.preloadPage (s : State) (l : Nat) (va : Nat) : State :=
  let x := s.launch l
  match s.walk x.asid x.asroot va with
  | .error _ => s
  | .ok e => ((x.place.map fun y => y.2 / 16).eraseDups).foldl (fun s c => s.fillL2 (l2Key (32 * c) va) e) s

/-- Preloads every page of the residency set, in its order. -/
def State.preload (s : State) (l : Nat) : State :=
  (s.launch l).resid.foldl (fun s r => (List.range r.pages).foldl (fun s i => s.preloadPage l (r.va + 4096 * i)) s) s

/-! Admission (R312). -/

/-- Refuses a launch at admission: its placement is released. A mismatch of the table is SLIP/TTMISMATCH (R320). -/
def State.refuse (s : State) (l reason : Nat) : State :=
  let cause : Word := if reason = 6 then 0x0000000800000008#64 else 0
  (s.modLaunch l fun x => { x with xcause := cause }).endLaunch l 6 reason 0

/-- The admission cycle is too late for STIME (R312). -/
def State.startPassed (s : State) (l : Launch) : Bool :=
  l.gstartFlag && decide (9 * l.stime < 9 * s.gtime.toNat + 4096 * gtimeNine)

/-- The admission cycle: the launch's status, its start and its event (R312, R329, R345). -/
def State.admitted (s : State) (l : Nat) : State :=
  let s := s.modLaunch l fun x => { x with status := 2, gadm := s.gtime, startAt := s.wall + 4096 }
  s.announce l 1

/-- The table of a launch's spires. -/
def State.tableOf (s : State) (l : Nat) : List TimeEntry := (s.spire (((s.launch l).place.head?.map Prod.snd).getD 0)).tt

/-- Gives a launch its place. -/
def State.takePlace (s : State) (l : Nat) (m : List (Nat × Nat)) : State :=
  let s := s.modLaunch l fun x => { x with phase := LPhase.admitted, place := m, admission := s.seq.nextAdmission }
  { s with seq := { s.seq with nextAdmission := s.seq.nextAdmission + 1 }, free := s.free + 1 }

/-- This part of a multi-package launch as its peers hear of it (R374). -/
def State.ownPart (s : State) (l : Nat) (admitted retime : Bool) : PartDigest :=
  let x := s.launch l
  let f := x.ftt.getD ⟨1, 0, 0, 0, [], [], []⟩
  let va := x.fld 0xD0 8
  let n := (s.readAt x.space devRead va 0x40).getD []
  let img := fun off cnt => (s.readAt x.space devRead (va + imgField n off 8) cnt).getD []
  let bytes := n ++ img 0x18 (8 * f.npkg) ++ img 0x20 (16 * f.circuits.length) ++ img 0x28 (16 * f.streams.length)
  { package := x.pkg, timetable := leValue (sha384 bytes), ttdig := BitVec.ofNat 64 (((s.kcoOf x.code).map Kco.ttdig).getD 0),
    admitted := admitted, needsRetime := retime, converged := s.host.conv }

/-- The work of admission for a launch that has not run (R312). -/
def State.admitFresh (s : State) (l : Nat) (m : List (Nat × Nat)) : State :=
  let x := s.launch l
  let s := s.takePlace l m
  match s.kcoOf (s.launch l).code with
  | none => s.refuse l 11
  | some k =>
    match s.timedImage l k (s.tableOf l) with
      | (s, none) => (s.toPeers l (.digest (s.ownPart l false true))).refuse l 6
      | (s, some t) =>
        if !s.areasOk (s.launch l) then s.refuse l 12
        else
          let s := (s.clearFor l).initialisers l k
          match s.initialOverlay l k t with
          | none =>
            ((s.failCode (s.launch l).code).modLaunch l fun x => { x with xcause := 0x0000000F00000000#64 }).endLaunch l 8 11 0
          | some (e, bs) =>
            let s := (s.launch l).coreKeys.foldl (fun s c => s.landOverlay x.space c e.first e.n e.src bs) s
            let s := (s.modLaunch l fun x => { x with slot := t.slot, ovl0 := e }).preload l
            if s.startPassed (s.launch l) then s.refuse l 5
            else (s.admitted l).toPeers l (.digest (s.ownPart l true false))

/-! Resume (R323). -/

/-- Lands a core's overlays again from its map; false where a hash check fails. -/
def State.relandOverlays (s : State) (l k : Nat) : List OvlEntry → State × Bool
  | [] => (s, true)
  | e :: r =>
    let sp := (s.launch l).space
    match s.readAt sp devRead e.man 48 with
    | none => (s, false)
    | some d => match s.overlayBytes sp e.src e.n d with
      | none => (s, false)
      | some bs => (s.landOverlay sp k e.first e.n e.src bs).relandOverlays l k r

/-- Puts the saved cores on the spires of the new place; L1 TLBs start empty. A core whose cycle is ahead of the slot clock runs ahead of it
(R323). -/
def State.restoreCores (s : State) (l lclk : Nat) (cs : List Core) : State :=
  cs.foldl (fun s c =>
    match (s.launch l).physOf c.f.task.lsp with
    | none => s
    | some p => s.setCore (2 * p + c.f.task.half) ((c.modE fun e => { e with tlb := [] }).modF fun f => { f with lead := c.clk - lclk })) s

/-- Re-reads the stage maps of a launch's cores behind the landing of their overlays (R104). -/
def State.restageCores (s : State) (l : Nat) : State :=
  (s.launch l).coreKeys.foldl (fun s k => s.modCore k fun c => c.modL fun x => { x with smap := s.stageMap k x }) s

/-- A CODEINT of a launch that is not running a command: its context is killed, and its dump queued (R323, R328, R335). -/
def State.codeKill (s : State) (l : Nat) : State :=
  let k := (((s.launch l).coreKeys).head?).getD 0
  let s := s.failCode (s.launch l).code
  let i : KillInfo := ⟨k, 0x0000000F00000000#64, 0, 0, 0, 0, (s.core k).x.schc, s.gtime, (s.launch l).lclk, 11, []⟩
  ((s.fatal l i).freeze l .kill).toPeers l (.kill 11)

/-- The resume of a saved launch: spire, cupola and core records of its save area, overlays, and then every task thaws in one wall cycle (R322,
R323). A part of a launch of several packages thaws at an announced GTIME (R374). -/
def State.admitSaved (s : State) (l : Nat) (m : List (Nat × Nat)) (v : Saved) : State :=
  let s := s.takePlace l m
  let ps := (s.savedPages (s.launch l)).getD []
  let cs := s.savedCores l ps v
  let lclk := v.cores.foldl (fun n y => min n y.2.clk) v.lclk
  let s := ((s.restoreMemories l ps).restoreCores l lclk cs).preload l
  let s := s.admitted l
  let s := s.modLaunch l fun x =>
    { x with phase := LPhase.running, status := 3, saved := none, pre := PrePhase.none, causes := [], kill := none, lclk := lclk }
  let r := cs.foldl (fun (a : State × Bool) c =>
    match (a.1.launch l).physOf c.f.task.lsp with
    | none => a
    | some p =>
      let b := a.1.relandOverlays l (2 * p + c.f.task.half) c.e.ovl
      (b.1, a.2 && b.2)) (s, true)
  let s := (r.1.restageCores l).announce l 4
  if !r.2 then s.codeKill l
  else match (s.launch l).ftt with
    | none => s
    | some f =>
      if f.npkg ≤ 1 then s
      else
        let g := s.gtimeIn f.fdom
        (s.modLaunch l fun x => { x with causes := [Cause.remote x.lclk 7], thaws := x.thaws.foldl (fun ts h => ts.map fun t => if t < h then h else t) [g] }).toPeers l (.resume g.toNat)

/-- Verifies a launch's image again where the key slots have changed; false where it fails (R336). -/
def State.reverify (s : State) (l : Nat) : State × Bool :=
  let code := (s.launch l).code
  if !(s.seq.objects.any fun o => o.1 == code && o.2.rekeyed) then (s, true)
  else match s.kcoOf code with
    | none => (s, false)
    | some k =>
      if !s.kcoSigned k then (s, false)
      else ({ s with seq := { s.seq with objects := s.seq.objects.map fun o =>
        if o.1 = code then (o.1, { o.2 with rekeyed := false }) else o } }, true)

/-- Admits a launch at a place; one whose image no longer verifies is refused (R336). -/
def State.admitOne (s : State) (l : Nat) (m : List (Nat × Nat)) : State :=
  match s.reverify l with
  | (s, false) => s.refuse l 11
  | (s, true) => match (s.launch l).saved with
    | none => s.admitFresh l m
    | some v => s.admitSaved l m v

end Sys2Proof.Machine
end

