-- ==== Sys2Proof/Machine/Due.lean ====
section
/-! DEFINITION. Which event of the cores and ports is due next in a stage of a wall cycle (01_tile_task.md R12 to R18, R40,
07_task_traps.md R181, 08_spire.md R207, R214, 17_fabric.md R377 to R381; log 32). An event that is due changes the state so that it is
due no longer. -/

namespace Sys2Proof.Machine

/-! What arrives and ends in wall time. -/

/-- The change of a core's mode that is due: a handler starts, a `tret` completes, a `cwait` ends. -/
def State.modeDue (s : State) (k : Nat) (c : Core) : Option Event :=
  if s.pkgFreeze ≠ [] then none
  else match c.f.mode with
    | .entry w => if w ≤ s.wall then some (.handlerStart k) else none
    | .tret => if c.f.latch.isEmpty && c.handlerIdle && !(c.p.dues.any fun d => d.lvl == c.tl) then some (.tretComplete k) else none
    | .cwait => if c.f.latch.isEmpty && c.e.cmds.all (fun m => m.queue != 1) then some (.cwaitEnd k) else none
    | _ => none

/-- The wall-time events of one core. -/
def State.coreInput (s : State) (k : Nat) (c : Core) : Option Event :=
  match s.modeDue k c with
  | some i => some i
  | none =>
    if s.runsOn k && ((s.stopNow k && !(s.launchOf k).debugOnly) || s.heldBack k) then some (.freezeStaggerStop k)
    else if (s.skewExpired k).isSome then some (.skewBudgetExpiry k)
    else none

/-- The wall-time events of one launch's freezes (R24, R191, R273, R382). -/
def State.freezeInput (s : State) (l : Nat) (x : Launch) : Option Event :=
  let walk := x.causes.findSome? fun z => match z with
    | .walk k u _ =>
      let ended := x.causes.all fun y => match y with | .walk k' u' w => k' != k || u' != u || decide (w ≤ s.wall) | _ => true
      if ended then some (Event.pageWalkComplete k u) else none
    | _ => none
  let thaw := (match x.thawAt with | some g => decide (g ≤ s.gtime) | none => false) || x.thaws.any fun g => decide (g ≤ s.gtime)
  match walk with
  | some i => some i
  | none =>
    if x.phase ≠ .running then none
    else if thaw then some (.skewThaw l)
    else if x.ftt.isSome && !x.skews.isEmpty && x.thawAt.isNone && x.skews.all (fun w => s.skewMet w.1 w.2) then
      some (.skewFlitArrival l)
    else if s.cores.any fun y => y.2.f.task.launch == l && s.resumes y.1 then some (.thaw l)
    else match x.kill with
      | some i => if !x.causes.contains .kill && decide (i.stop + 4096 ≤ x.lclk) then some (.killFreeze l) else none
      | none => none

/-! Landings. -/

/-- The first of two entries in landing order: the lower slot, then the earlier issue (R14). -/
def Entry.before (a b : Entry) : Bool := if a.slot ≠ b.slot then a.slot < b.slot else a.issue < b.issue

/-- The first entry, in landing order, that a test takes. -/
def Core.firstEntry (c : Core) (p : Entry → Bool) : Option Entry :=
  (c.p.prb.filter p).foldl (fun b e => match b with
    | none => some e
    | some x => if e.before x then some e else some x) none

/-- The result that lands next (R13, R14). -/
def State.resultDue (s : State) (k : Nat) (c : Core) : Option Event :=
  if !s.active k then none
  else (c.firstEntry fun e => e.result && decide (e.due ≤ c.now) && !c.checked e).map fun e => .resultLanding k e.uid

/-- A store that lands now. -/
def Core.storeNow (c : Core) (e : Entry) : Bool :=
  match e.kind with
  | .store .. | .vstore .. => e.due ≤ c.now && !c.checked e
  | .spillStore .. | .spillVStore .. => e.due ≤ c.now && !c.spillFaulted e && !c.checked e
  | .vstx _ _ _ _ g => e.samp + g ≤ c.now && !c.checked e
  | _ => false

/-- The event of a matrix run's landing. -/
def MxRun.landing (r : MxRun) (k uid : Nat) : Event :=
  match r.op with
  | 1 | 2 => .passLanding k uid
  | 3 => .mzeroBlockLanding k uid
  | 4 => .mrdStepLanding k uid
  | 5 => .mwrStepLanding k uid
  | _ => .mldLanding k uid

/-- The event of a matrix run's samples. -/
def MxRun.sample (r : MxRun) (k uid : Nat) : Event :=
  match r.op with
  | 1 | 2 => .passSample k uid
  | 4 => .mrdStepSample k uid
  | 5 => .mwrStepSample k uid
  | _ => .mldSample k uid

/-- A generator's delivery would meet a full port, or its take an empty one. -/
def State.genBlocked (s : State) (k : Nat) (m : Cmd) (port : Nat) (set : AgSet) : Bool :=
  let c := s.core k
  if port < 4 then
    4 ≤ (c.r.q.getD port []).length && (m.flights.head?.map fun f => decide (f.due ≤ c.clk)).getD false
  else
    m.flights.isEmpty && decide (m.sPos < set.total) && (c.r.wq.getD (port - 4) []).isEmpty &&
      decide (m.start + (s.tt k 22).lat + m.sPos ≤ c.clk)

/-- The landing of an engine command that is due. A delivery to a full port waits until the bundle has popped (R40). -/
def State.cmdLand (s : State) (k : Nat) (m : Cmd) : Option Event :=
  let c := s.core k
  let flight := (m.flights.head?.map fun f => decide (f.due ≤ c.clk)).getD false
  if !m.started || m.queue == 1 || (c.fabHeld m && m.runs.isEmpty) then none
  else match m.kind with
    | .copy .. => if flight then some (.chunkLanding k m.uid) else none
    | .gather .. => if flight then some (.gatherElementLanding k m.uid) else none
    | .ovl .. => if m.land ≤ c.clk then some (.overlayLanding k m.uid) else none
    | .gen port _ set =>
      if !flight then none
      else if 4 ≤ port then some (.generatorLanding k m.uid)
      else if s.genBlocked k m port set then none else some (.generatorDelivery k m.uid)
    | .mx _ => (m.runs.find? fun r => match s.mxLandAt k m r with | some t => decide (t ≤ c.clk) | none => false).map
        fun r => r.landing k m.uid
    | .gamo _ => if m.sPos ≠ 0 ∧ m.land ≤ c.clk then some (.gamoOldValueLanding k m.uid) else none
    | .fab f => if f.recv && flight then some (.flitReceive k m.uid) else none
    | _ => none

/-- Stores and engine landings. -/
def State.storeDue (s : State) (k : Nat) (c : Core) : Option Event :=
  match if s.active k then c.firstEntry c.storeNow else none with
  | some e => some (.storeLanding k e.uid)
  | none => (s.liveCmds k).findSome? (s.cmdLand k)

/-- The atomics of a core that apply now (R141, R143, R283). -/
def State.atomicDue (s : State) (k : Nat) (c : Core) : Option Event :=
  let amo := if !s.active k then none
    else (c.firstEntry fun e => (match e.kind with | .amo .. => true | _ => false) && decide (e.samp ≤ c.now)).map fun e => Event.amoApply k e.uid
  match amo with
  | some i => some i
  | none => (s.liveCmds k).findSome? fun m =>
    if c.faulted m.uid || m.cut || c.fabHeld m then none
    else match m.kind with
      | .gamo _ => if m.started ∧ m.sPos = 0 ∧ m.start + (s.tt k 23).lat ≤ c.clk then some (.gamoApply k m.uid) else none
      | .rel .. => if m.land ≤ c.clk then some (.relIncrement k m.uid) else none
      | _ => none

/-- The atomic that applies next: the order of admission, then of requester numbers (R19, R281). -/
def State.nextAtomic (s : State) : Option Event :=
  let all := s.cores.filterMap fun x => (s.atomicDue x.1 x.2).map fun i => ((s.launchOf x.1).admission, x.2.f.task.req, i)
  (all.foldl (fun (b : Option (Nat × Nat × Event)) a => match b with
    | none => some a
    | some y => if a.1 < y.1 ∨ (a.1 = y.1 ∧ a.2.1 < y.2.1) then some a else some y) none).map fun a => a.2.2

/-- The handler-channel transfer of a core that ends now (R216). -/
def State.channelDue (s : State) (k : Nat) (c : Core) : Option Event :=
  (c.e.cmds.find? (s.channelEnds k)).map fun m => .handlerChannelLanding k m.uid

/-- The arrival of a core's `lnch` at the sequencer that is due (R144). -/
def State.lnchDue (s : State) (k : Nat) (c : Core) : Option Event :=
  if !s.ticks k then none
  else (c.e.cmds.find? fun m => m.started && decide (m.land ≤ c.clk) && !c.fabHeld m && (match m.kind with | .lnch .. => true | _ => false)).map fun m =>
    .lnchArrival k m.uid

/-- What the tasks land next: results, then stores and engine landings, then the handler channel's transfers. -/
def State.landDue (s : State) : Option Event :=
  match s.cores.findSome? fun x => s.resultDue x.1 x.2 with
  | some i => some i
  | none => match s.cores.findSome? fun x => s.storeDue x.1 x.2 with
    | some i => some i
    | none => s.cores.findSome? fun x => s.channelDue x.1 x.2

/-! Starts and samples of engine commands. -/

/-- The start of a timed command (R202, R206). -/
def State.startDue (s : State) (k : Nat) (m : Cmd) : Option Event :=
  let c := s.core k
  if m.started || m.queue == 1 || m.queue == 7 || decide (c.clk < m.start) || c.faulted m.uid then none
  else match m.kind with
    | .copy .. | .gather .. | .ovl .. => some (.copyStart k m.uid)
    | .gen .. => some (.queueGeneratorStart k m.uid)
    | .mx a => some (if a.op = 7 then .mcallStart k m.uid else .matrixCommandStart k m.uid)
    | .gamo _ => some (.gamoStart k m.uid)
    | .fab f => some (if f.recv then .flitReceive k m.uid else if f.stream then .streamFlitSample k m.uid else .flitSample k m.uid)
    | .lnch .. => some (.lnchStart k m.uid)
    | _ => none

/-- What a started command does at its cycles before the boundary: indices and elements, generator vectors, sync objects, stream
flits, and the head of a receive queue. -/
def State.progressDue (s : State) (k : Nat) (m : Cmd) : Option Event :=
  let c := s.core k
  let run := s.ticks k
  if m.cut || c.faulted m.uid || m.queue == 1 then none
  else match m.kind with
    | .gather _ g =>
      if !m.started then none
      else if m.lPos < g.idx.length ∧ m.start + g.g * (m.lPos + 1) ≤ c.clk then some (.gatherElementSample k m.uid)
      else if g.idx.length < g.n ∧ m.start + g.g * g.idx.length ≤ c.clk then some (.gatherIndexSample k m.uid)
      else none
    | .gen port _ set =>
      if !m.started || decide (set.total ≤ m.sPos) || (!run && s.genBlocked k m port set) then none
      else if port < 4 then (if m.start + (s.tt k 22).aux + m.sPos ≤ c.clk then some (.generatorSample k m.uid) else none)
      else if m.start + (s.tt k 22).lat + m.sPos ≤ c.clk then some (.generatorTake k m.uid) else none
    | .acq .. => if m.land ≤ c.clk ∧ !c.fabHeld m then some (.acqSample k m.uid) else none
    | .fab f =>
      if !m.started then none
      else if f.recv then
        if m.sPos < f.nfl ∧ s.flitCycle k m f ≤ c.clk ∧ (run = true ∨ s.skewMet k m.uid = true) then some (.flitReceive k m.uid) else none
      else if f.stream then
        if (m.sPos < max 1 f.nfl ∧ m.start + 8 * m.sPos ≤ c.clk) ∨ (max 1 f.nfl ≤ m.sPos ∧ m.land ≤ c.clk) then some (.streamFlitSample k m.uid)
        else none
      else none
    | _ => none

/-- A redirected spill load that samples now (R55). -/
def State.spillDue (s : State) (k : Nat) (c : Core) : Option Event :=
  if !s.active k then none
  else (c.firstEntry fun e => decide (e.samp ≤ c.now) && !c.spillFaulted e && (match e.kind with
    | .load ldk .. => ldk == 8
    | .vload ldk .. => ldk == 9
    | _ => false)).map fun e => .loadSample k e.uid

/-- The starts of a core, and what its started commands do before the boundary. -/
def State.coreStart (s : State) (k : Nat) (c : Core) : Option Event :=
  match if s.ticks k then c.e.cmds.findSome? (s.startDue k) else none with
  | some i => some i
  | none => match (s.liveCmds k).findSome? (s.progressDue k) with
    | some i => some i
    | none => s.spillDue k c

/-- The chunks, matrix rows and circuit flits that sample now. -/
def State.sampleCmd (s : State) (k : Nat) (m : Cmd) : Option Event :=
  let c := s.core k
  let gone := match m.kind with
    | .mx _ => false
    | _ => m.cut
  if !m.started || m.queue == 1 || gone || c.faulted m.uid then none
  else match m.kind with
    | .copy p a =>
      let g := a.dstGeo
      if m.sPos < g.total ∧ m.start + cdiv (m.sPos + g.chunk m.sPos) p.rate ≤ c.clk then some (.chunkSample k m.uid) else none
    | .ovl _ o =>
      if m.sPos < 32 * o.n ∧ m.start + cdiv (min (32 * o.n) (m.sPos + 64)) 64 ≤ c.clk then some (.chunkSample k m.uid) else none
    | .mx _ => (m.runs.find? fun r => match s.mxSampleAt k m r with | some t => decide (t ≤ c.clk) | none => false).map
        fun r => r.sample k m.uid
    | .fab f =>
      if f.recv || f.stream then none
      else if (m.sPos < f.nfl ∧ s.flitCycle k m f ≤ c.clk) ∨ (f.nfl ≤ m.sPos ∧ m.land ≤ c.clk) then some (.flitSample k m.uid)
      else none
    | _ => none

/-- A load or a group of a gather that samples now (R17, R154). -/
def Core.loadNow (c : Core) (e : Entry) : Bool :=
  match e.kind with
  | .load ldk .. => ldk != 8 && decide (e.samp ≤ c.now)
  | .vload ldk .. => ldk != 9 && decide (e.samp ≤ c.now)
  | .vldx _ _ _ _ _ _ g => decide (e.samp + g ≤ c.now)
  | _ => false

/-- The samples of a core behind its boundary; a load that samples in its landing cycle lands behind it. -/
def State.coreSample (s : State) (k : Nat) (c : Core) : Option Event :=
  match (s.liveCmds k).findSome? (s.sampleCmd k) with
  | some i => some i
  | none => match if s.active k then c.firstEntry c.loadNow else none with
    | some e => some (.loadSample k e.uid)
    | none => s.resultDue k c

/-! Boundaries (R26, R29, R30, R181). -/

/-- The release of a barrier that a waiting core may take now. -/
def State.barrierAt (s : State) (k : Nat) (c : Core) : Option Event :=
  let go := fun (level : Nat) => Event.barrierRelease c.f.task.launch level (c.f.task.lsp / levelSpan level)
  if !s.releases k then none
  else match c.f.wait with
    | .syncb level => some (go level)
    | .leave level _ _ => some (go level)
    | _ => none

/-- The end of a core's wait. -/
def State.waitDue (s : State) (k : Nat) (c : Core) : Option Event :=
  if !s.ticks k || !s.waitOver k then none
  else match c.f.wait with
    | .waitt _ => some (.waittExpiry k)
    | .waitg _ => some (.waitgExpiry k)
    | _ => none

/-- A core stops for the debugger at its boundary, behind the landings due (R351). -/
def State.debugStops (s : State) (k : Nat) : Bool := s.ticks k && (s.launchOf k).debugOnly && s.runsOn k && s.stopNow k

/-- Waits end, barriers release, cores stop for the debugger, and then every running core evaluates its boundary. -/
def State.boundaryDue (s : State) : Option Event :=
  match s.cores.findSome? fun x => s.waitDue x.1 x.2 with
  | some i => some i
  | none => match s.cores.findSome? fun x => s.barrierAt x.1 x.2 with
    | some i => some i
    | none => match s.cores.find? fun x => s.debugStops x.1 with
      | some x => some (.freezeStaggerStop x.1)
      | none => (s.cores.find? fun x => s.active x.1 && !x.2.f.bnd).map fun x => .cycleBoundary x.1

/-! Behind the bundles. -/

/-- What follows the bundle of a core in its own cycle: starts with DLY 0 and their first samples, handler-channel starts, a delivery
that the bundle has not made room for, and the timer (R40, R87, R180, R216). -/
def State.coreLate (s : State) (k : Nat) (c : Core) : Option Event :=
  match s.coreStart k c with
  | some i => some i
  | none => match (s.liveCmds k).findSome? (s.sampleCmd k) with
    | some i => some i
    | none =>
      let chan := if c.handling && s.pkgFreeze.isEmpty then
          c.e.cmds.find? fun m => m.queue == 1 && !m.started && !c.faulted m.uid && c.handlerMayStart m
        else none
      match chan with
      | some m => some (.copyStart k m.uid)
      | none =>
        let work := if !s.ticks k then none else c.e.cmds.findSome? fun m => match m.kind with
          | .gen port _ set =>
            if decide (port < 4) && m.started && !c.fabHeld m && s.genBlocked k m port set then some (Event.generatorDelivery k m.uid) else none
          | _ => none
        match work with
        | some i => some i
        | none => if s.timerDue k then some (.timerInterrupt k) else none

/-- The frame and the arrival limit of a port (R366, R368). -/
def State.portLate (s : State) (p : Nat) (x : Port) : Option Event :=
  if x.trained && s.wall % 8 == 7 && x.sentAt != s.wall then some (.frameSend p)
  else if s.lateFlit p then some (.flitArrivalTimeout p) else none

end Sys2Proof.Machine
end

