-- ==== Sys2Proof/Machine/Sequencer.lean ====
section
/-! DEFINITION. The launch sequencer: queues and packets, submission, evaluation, pre-emption, kills, starts and ends (13_launch.md R311
to R329, 17_fabric.md R368, R374; log 34, log 38). -/

namespace Sys2Proof.Machine

/-! Queues (R311). -/

/-- A queue's descriptor. -/
structure QDesc where
  base : Nat
  en : Bool
  strict : Bool
  ceil : Nat
  slots : Nat
  tail : Nat
  head : Nat
  bad : Nat
  deriving DecidableEq, Repr, Inhabited

/-- Flat address of a word of a queue's descriptor. -/
def queueWord (frame q i : Nat) : Nat := frame * 4096 + 64 * q + 8 * i

/-- The descriptor of a queue as the descriptor page holds it; none is enabled without a page. -/
def State.queueDesc (s : State) (q : Nat) : QDesc :=
  match s.seq.desc with
  | none => ⟨0, false, false, 0, 1, 0, 0, 0⟩
  | some f =>
    let w := fun i => s.mem.value (queueWord f q i) 8
    ⟨w 0, w 1 / 2 ^ 20 % 2 == 1, w 1 / 2 ^ 19 % 2 == 1, w 1 / 2 ^ 16 % 8, w 1 % 2 ^ 16, w 2, w 3, w 4⟩

/-- Writes a word of a queue's descriptor. -/
def State.setQueueWord (s : State) (q i v : Nat) : State :=
  match s.seq.desc with
  | none => s
  | some f => s.landBytes (queueWord f q i) (leBytes v 8) [] false 0

/-- The packet at the head of a host queue, where there is one to read. -/
def State.packet (s : State) (q : Nat) : Option (List Byte) :=
  let d := s.queueDesc q
  if s.host.stage ≠ 5 ∨ 12 ≤ q ∨ d.en = false ∨ d.head = d.tail then none
  else some (s.mem.read (d.base + 256 * (d.head % max 1 d.slots)) 256)

/-- The kind of a packet, 0 where its KIND or a zero field is invalid. -/
def packetKind (bs : List Byte) : Nat :=
  let k := imgField bs 0 2
  let zeros := zeroBytes bs 2 2 && zeroBytes bs 0x18 232 && (k == 1 || zeroBytes bs 8 16)
  if 1 ≤ k ∧ k ≤ 3 ∧ zeros = true then k else 0

/-- HEAD advances past a packet. -/
def State.popPacket (s : State) (q : Nat) : State := s.setQueueWord q 3 ((s.queueDesc q).head + 1)

/-- The packet that a queue's event takes, if it is of the event's kind. -/
def State.packetOf (s : State) (q kind : Nat) : Option (List Byte) :=
  match s.packet q with
  | some bs => if packetKind bs = kind then some bs else none
  | none => none

/-- A malformed packet is skipped and counted. -/
def execMalformedPacket (q : Nat) (s : State) : Host.Outcome State Fault Refusal :=
  match s.packetOf q 0 with
  | none => .next s
  | some _ => .next ((s.popPacket q).setQueueWord q 4 ((s.queueDesc q).bad + 1))

/-! Submission (R311, R312, R374). -/

/-- A launch as its record describes it. -/
def State.newLaunch (s : State) (r : List Byte) (corr queue parent : Nat) (parentSp : Space) (c : Checked) : Launch :=
  let asid := imgField r 0x80 2
  let dcorr := (List.range 4).map fun k => imgField r (0x130 + 24 * k) 4
  { Launch.zero with
    phase := LPhase.queued, corr := corr, asid := asid, asroot := imgField r 0x78 8 / 4096, pkg := (c.ftt.map Ftt.self).getD 0,
    halves := recHalves r, stagger := (c.ftt.map Ftt.fdom).getD staggerF, record := r, queue := queue, parent := parent,
    parentSp := parentSp, ep := min (imgField r 7 1) (s.queueDesc queue).ceil, arrival := s.seq.nextArrival, warr := s.wall, garr := s.gtime,
    status := 1, deps := dcorr.map fun d => if d = 0 then 0 else (s.byCorr d).getD 0, per := c.per, grants := c.grants,
    resid := c.resid, ftt := c.ftt }

/-- A part's digests differ from this package's own (R374). -/
def State.partDiffers (s : State) (l : Nat) (p : PartDigest) : Bool :=
  let o := s.ownPart l false false
  p.timetable != o.timetable || p.ttdig != o.ttdig

/-- A report of another part reaches a launch of this package: kept, or the reason of its refusal (R374). -/
def State.takePart (s : State) (l : Nat) (p : PartDigest) : State :=
  let x := s.launch l
  if x.phase ≠ .queued ∧ x.phase ≠ .admitted then s
  else if s.partDiffers l p then s.refuse l 4
  else if p.needsRetime then s.refuse l 6
  else (s.modLaunch l fun x => { x with parts := x.parts.filter (·.package ≠ p.package) ++ [p] }).needEval

/-- A host SUBMIT's record lies in device-owned readable memory, 512-byte aligned: its page is such a page of the record's own address space
(R305, R312; log 34). -/
def State.recordPage (s : State) (a : Nat) (r : List Byte) : Bool :=
  a % 512 == 0 && (match s.leafOver (a / 4096) 5 (imgField r 0x78 8 / 4096) with | some p => fttPage p | none => false)

/-- A submission: refused with its reason, or queued; `sound` says that its record lies where R305 says. The record's STATUS page takes the
status record where it can. -/
def State.submission (s : State) (r : List Byte) (corr queue parent : Nat) (parentSp : Space) (fromTask sound : Bool) : State :=
  let full := (s.launches.filter fun x => (x.2.phase == .queued || x.2.phase == .saved) && x.2.queue == queue).length
  let stop := fun n => (⟨n, false, [], 1, [], none⟩ : Checked)
  let c := if (s.byCorr corr).isSome then stop 14
    else if fromTask ∧ 12 ≤ queue ∧ queue ≤ 15 ∧ 64 ≤ full then stop 13
    else if !sound then ⟨1, !s.statusOk r (imgField r 0x80 2, imgField r 0x78 8 / 4096), [], 1, [], none⟩
    else s.submitCheck r parent fromTask
  let x := s.newLaunch r corr queue parent parentSp c
  if c.reason ≠ 0 then
    let x := { x with status := 6, reason := c.reason, gend := s.gtime }
    let s := if c.noStatus then s else s.putStatus x 0
    let s := s.incrementParent x
    (if s.kindOn 0 3 then s.record 0 corr noReq (infoWord 3 5 0 (6 + 256 * c.reason)) 0 else s).needEval
  else
    let l := s.seq.nextLaunch
    let s := { s.setLaunch l x with seq := { s.seq with
      nextLaunch := l + 1, nextArrival := s.seq.nextArrival + 1, roots := alSet s.seq.roots x.asid x.asroot,
      early := s.seq.early.filter (·.1 ≠ corr) } }
    let early := s.seq.early.filter (·.1 == corr)
    let s := (s.putStatus x 0).toPeers l (.digest (s.ownPart l false false))
    (early.foldl (fun s p => s.takePart l p.2) s).needEval

/-- A SUBMIT packet (R311). The addresses of a packet are those of device frame space. -/
def execSubmit (q : Nat) (s : State) : Host.Outcome State Fault Refusal :=
  match s.packetOf q 1 with
  | none => .next s
  | some bs =>
    let a := imgField bs 8 8
    let r := s.mem.read a 512
    .next ((s.popPacket q).submission r (imgField bs 4 4) q (imgField bs 0x10 8) (imgField r 0x80 2, imgField r 0x78 8 / 4096) false
      (s.recordPage a r))

/-- A `lnch` arrives at the sequencer at its landing cycle (R144, R311). -/
def execLnchArrival (k uid : Nat) (s : State) : Host.Outcome State Fault Refusal :=
  match (s.core k).cmd uid with
  | none => .next s
  | some m => match m.kind with
    | .lnch _ parent =>
      if !m.started then .next s
      else viaUnit k uid s <|
        let r := (m.flights.head?.map Flight.data).getD []
        let sp := (s.launchOf k).space
        .next ((s.endCmd k m).submission r (imgField r 8 4) (imgField r 0x86 1) parent.toNat sp true true)
    | _ => .next s

/-- The digests of another part of a multi-package launch (R374). -/
def execSubmissionDigestExchange (corr : Nat) (p : PartDigest) (s : State) : Host.Outcome State Fault Refusal :=
  match s.byCorr corr with
  | some l => .next (s.takePart l p)
  | none => .next { s with seq := { s.seq with early := s.seq.early ++ [(corr, p)] } }

/-! Kills (R191, R324). -/

/-- Ends a launch that does not run, or freezes a running one for its end; the offending master of a kill is none of its tasks. -/
def State.killLaunch (s : State) (l reason : Nat) : State :=
  let x := s.launch l
  match x.phase with
  | .ended => s
  | .running =>
    if x.kill.isSome then s
    else
      let i : KillInfo := ⟨(x.coreKeys.head?).getD 0, 0, 0, 0, 0, 0, 0, s.gtime, x.lclk, reason, []⟩
      (s.modLaunch l fun x => { x with kill := some i }).beginKill l
  | _ => (s.endLaunch l 8 reason 0).toPeers l (.kill reason)

/-- A KILL packet (R311, R324). -/
def execKill (q : Nat) (s : State) : Host.Outcome State Fault Refusal :=
  match s.packetOf q 2 with
  | none => .next s
  | some bs =>
    let s := s.popPacket q
    match s.byCorr (imgField bs 4 4) with
    | none => .next s
    | some l => .next (s.killLaunch l 8)

/-! Pre-emption (R319, R322). -/

/-- Starts the pre-emption of a running launch with a save area. -/
def State.startPreempt (s : State) (l : Nat) : State :=
  let x := s.launch l
  if x.phase ≠ .running ∨ x.saveVa = 0 ∨ x.pre ≠ .none ∨ x.kill.isSome then s
  else (s.modLaunch l fun x => { x with pre := PrePhase.wait }).toPeers l .preempt

/-- A PREEMPT packet (R311). -/
def execPreempt (q : Nat) (s : State) : Host.Outcome State Fault Refusal :=
  match s.packetOf q 3 with
  | none => .next s
  | some bs =>
    let s := s.popPacket q
    match s.byCorr (imgField bs 4 4) with
    | none => .next s
    | some l => .next (s.startPreempt l)

/-- No task of a launch is at a trap level. -/
def State.noTraps (s : State) (l : Nat) : Bool :=
  s.cores.all fun x => x.2.f.task.launch != l || x.2.f.mode == .idle || x.2.tl == 0

/-- The pre-emption's freeze may begin: one at a time, at no trap level, and neither in a debugger's stop nor in a STEP (R319, R322, R351). -/
def State.preemptDue (s : State) (l : Nat) : Bool :=
  let x := s.launch l
  x.phase == .running && x.pre == .wait && x.kill.isNone && !x.causes.contains .preempt && !x.causes.any Cause.stops && x.steps.isNone && s.noTraps l &&
    !(s.launches.any fun y => y.2.causes.contains .preempt)

/-- The belfry freezes a launch for its pre-emption (R322 item 2). -/
def execPreemptionFreeze (l : Nat) (s : State) : Host.Outcome State Fault Refusal :=
  if !s.preemptDue l then .next s
  else .next (s.freeze l .preempt)

/-- A drained command that has something left to do without its core: a generator that needs the core, a receive without its flit, and a
withdrawn command do not (R322). -/
def State.drainLeft (s : State) (k : Nat) (m : Cmd) : Bool :=
  let c := s.core k
  m.drained &&
    (match m.kind with
      | .gen port _ set => !(m.flights.isEmpty && (m.cut || decide (set.total ≤ m.sPos))) && !s.genBlocked k m port set
      | .mx _ => m.runs.any fun r => (s.mxSampleAt k m r).isSome || (s.mxLandAt k m r).isSome
      | .fab f => !c.faulted m.uid && (!f.recv || !m.flights.isEmpty ||
          decide (s.flitCycle k m f > c.clk) || s.skewMet k m.uid)
      | _ => !(c.faulted m.uid && m.flights.isEmpty))

/-- The drain of a launch has ended. -/
def State.drainOver (s : State) (l : Nat) : Bool :=
  s.cores.all fun x => x.2.f.task.launch != l || x.2.e.cmds.all fun m => !s.drainLeft x.1 m

/-- A save is due: the drain begins, or it has ended (R322). -/
def State.saveDue (s : State) (l : Nat) : Bool :=
  let x := s.launch l
  x.phase == .running && x.kill.isNone && x.causes.contains .preempt && s.pkgFreeze.isEmpty && s.allStopped l &&
    x.causes.all (· == .preempt) && (match x.pre with | .wait => true | .drain _ => s.drainOver l | .none => false)

/-- An abandoned save: a fatal fault with the save fault as its primary entry (R327, R328). -/
def State.abandonSave (s : State) (l : Nat) : State :=
  let x := s.launch l
  let f := s.saveFault x
  let k := (x.coreKeys.head?).getD 0
  let i : KillInfo := ⟨k, BitVec.ofNat 64 (f.1 * 2 ^ 32 + f.2.1), 0, 0, 0, BitVec.ofNat 64 f.2.2, (s.core k).x.schc, s.gtime, x.lclk, 10, []⟩
  let s := s.fatal l i
  (s.modLaunch l fun x => { x with pre := PrePhase.none, causes := (x.causes.filter (· ≠ .preempt)) ++ [Cause.kill] }).toPeers l (.kill 10)

/-- The context of a launch leaves its tiles: saved, with its EP, its arrival and its slot clock (R313, R322 item 6, R325). -/
def State.saveContext (s : State) (l n : Nat) : State :=
  let s := { s with cores := s.cores.map fun (x : Nat × Core) =>
    if x.2.f.task.launch = l then (x.1, { x.2 with clk := x.2.clk - n }) else x }
  match s.writeSave l true with
  | (s, false) => s.abandonSave l
  | (s, true) =>
    let v := s.contextOf l
    let periods := (s.gtime.toNat - (s.launch l).garr.toNat) / (4 * 10 ^ 6 * 65536)
    let s := s.modLaunch l fun x =>
      { x with phase := LPhase.saved, saved := some v, place := [], causes := [], pre := PrePhase.none, status := 4, aged := max x.aged periods }
    let s := { s with cores := s.cores.filter fun (x : Nat × Core) => x.2.f.mode == Mode.idle || x.2.f.task.launch != l }
    (s.announce l 3).needEval

/-- The drain of a pre-empted launch begins, and after it the context-save engines write its save area (R322, R326). -/
def execContextSave (l : Nat) (s : State) : Host.Outcome State Fault Refusal :=
  if !s.saveDue l then .next s
  else match (s.launch l).pre with
    | .drain n => .next (s.saveContext l n)
    | _ => .next (s.modLaunch l fun x => { x with pre := PrePhase.drain 0 })

/-! Evaluation (R313 to R319). -/

/-- A launch waits in its queue: never admitted, or saved. -/
def Launch.waits (l : Launch) : Bool := l.phase == .queued || l.phase == .saved

/-- Dependence `k` is met (R316). -/
def State.depMet (s : State) (x : Launch) (k : Nat) : Bool :=
  let d := x.dep k
  d.1 == 0 || (d.1 % 8 == 0 && (match s.pageOf x.space d.1 with
    | some p => devRead p && decide (d.2.1 ≤ s.mem.value (pteFrame p * 4096 + d.1 % 4096) 8)
    | none => false))

/-- The end of a launch that another was expected to release a dependence of (R316). -/
def State.depEnded (s : State) (x : Launch) : Bool :=
  x.deps.any fun d => d != 0 && (s.launch d).phase == .ended && 6 ≤ (s.launch d).status

/-- Every other part has reported, and every package has converged (R374). -/
def State.partsReady (s : State) (x : Launch) : Bool :=
  match x.ftt with
  | none => true
  | some f => f.npkg ≤ 1 || (decide (f.npkg ≤ x.parts.length + 1) && x.parts.all PartDigest.converged && s.host.conv)

/-- A launch waits with its dependences met; a saved one has begun, and they hold for it (R316, R319). -/
def State.depsMet (s : State) (l : Nat) : Bool :=
  let x := s.launch l
  x.waits && (x.phase == .saved || (List.range 4).all (s.depMet x))

/-- A launch may be admitted but for its placement: its queue is enabled, it is the oldest of a STRICT queue, its dependences are met, and
a saved one has a whole save area (R314 to R316, R326). -/
def State.eligible (s : State) (l : Nat) : Bool :=
  let x := s.launch l
  let d := s.queueDesc x.queue
  s.depsMet l && d.en && (!d.strict || !(s.launches.any fun y => y.2.waits && y.2.queue == x.queue && y.2.arrival < x.arrival)) &&
    s.partsReady x && (x.phase == .queued || s.saveWhole x)

/-- The first of two launches in the order of R314: EP, the wall cycle of arrival, the queue; then the order in which the sequencer took them. -/
def Launch.before (a b : Launch) : Bool :=
  if a.ep ≠ b.ep then b.ep < a.ep else if a.warr ≠ b.warr then a.warr < b.warr
  else if a.queue ≠ b.queue then a.queue < b.queue else a.arrival < b.arrival

/-- The best of some launches. -/
def State.best (s : State) (ls : List Nat) : Option Nat :=
  ls.foldl (fun b l => match b with
    | none => some l
    | some m => if (s.launch l).before (s.launch m) then some l else b) none

/-- Admits candidates until none is left (R314). `fuel` is the number of launches. -/
def State.admitAll : Nat → State → State
  | 0, s => s
  | fuel + 1, s =>
    let cs := (s.launches.map Prod.fst).filter fun l => s.eligible l && (s.placeLaunch l none).isSome
    match s.best cs with
    | none => s
    | some l => match s.placeLaunch l none with
      | none => s
      | some m => admitAll fuel (s.admitOne l m)

/-- The victim of a launch that triggers a pre-emption: the lowest EP, then the latest admitted (R319). -/
def State.victim (s : State) (l : Nat) : Option Nat :=
  let x := s.launch l
  let vs := (s.launches.filter fun v => v.2.phase == .running && v.2.saveVa != 0 && v.2.kill.isNone && v.2.ep + 2 ≤ x.ep &&
    (s.placeLaunch l (some v.1)).isSome).map Prod.fst
  vs.foldl (fun b v => match b with
    | none => some v
    | some w =>
      let a := s.launch v
      let c := s.launch w
      if a.ep < c.ep ∨ (a.ep = c.ep ∧ c.admission < a.admission) then some v else b) none

/-- One pre-emption is triggered, where none is under way (R319). -/
def State.triggerPreempt (s : State) : State :=
  if (s.launches.any fun y => y.2.pre != .none) || s.seq.reserved.isSome then s
  else
    let cs := (s.launches.map Prod.fst).filter fun l =>
      s.depsMet l && (s.launch l).preRight && (s.placeLaunch l none).isNone && (s.victim l).isSome
    match s.best cs with
    | none => s
    | some l => match s.victim l with
      | none => s
      | some v =>
        let sps := (s.launch v).place.map Prod.snd
        ({ s with seq := { s.seq with reserved := some (l, sps) } } : State).startPreempt v

/-- A reservation lasts until the evaluation behind the victim's save (R319). -/
def State.dropReserve (s : State) : State :=
  match s.seq.reserved with
  | none => s
  | some (_, sps) =>
    if s.launches.any fun x => x.2.phase == .running && x.2.pre != .none && x.2.place.map Prod.snd == sps then s
    else { s with seq := { s.seq with reserved := none } }

/-- One evaluation of the queues: cancellations, admissions, a pre-emption (R314, R316, R319). -/
def State.evaluate (s : State) : State :=
  let s := ({ s with seq := { s.seq with evalDue := false, evalAt := s.gtime } } : State).dropReserve
  let gone := (s.launches.filter fun x => x.2.phase == .queued && s.depEnded x.2).map Prod.fst
  let s := gone.foldl (fun s l => s.endLaunch l 7 7 0) s
  (State.admitAll s.launches.length s).triggerPreempt

/-- An evaluation is due: the sequencer's work for an arrival, an end or a save, or 16 μs since the last (R314). -/
def State.evalNow (s : State) : Bool :=
  s.host.stage == 5 && ((s.seq.evalDue && decide (s.seq.evalWall ≤ s.wall)) ||
    (decide (s.seq.evalAt.toNat + 16000 * 65536 ≤ s.gtime.toNat) && s.launches.any fun x => x.2.waits))

def execQueueEvaluation (s : State) : Host.Outcome State Fault Refusal := .next (if s.evalNow then s.evaluate else s)

/-- Full periods of 4 ms that a launch has waited since its arrival (R313). -/
def State.periods (s : State) (x : Launch) : Nat := (s.gtime.toNat - x.garr.toNat) / (4 * 10 ^ 6 * 65536)

/-- A waiting launch ages (R313). -/
def State.ages (s : State) (x : Launch) : Bool :=
  x.waits && decide (x.aged < s.periods x) && decide (x.ep < (s.queueDesc x.queue).ceil)

/-- EP rises by 1 for each full 4 ms, up to CEIL (R313). -/
def execPriorityAging (l : Nat) (s : State) : Host.Outcome State Fault Refusal :=
  let x := s.launch l
  if !s.ages x then .next s
  else .next (s.modLaunch l fun x =>
    { x with ep := min (s.queueDesc x.queue).ceil (x.ep + (s.periods x - x.aged)), aged := s.periods x })

/-! The start tick (R31, R49, R312). -/

/-- A launch's start tick has come. -/
def State.startNow (s : State) (x : Launch) : Bool :=
  x.phase == .admitted && (if x.gstartFlag then decide (x.stime ≤ s.gtime.toNat) else decide (x.startAt ≤ s.wall))

/-- A task as R49 starts it, on its physical core. -/
def State.startCore (s : State) (l : Nat) (y : Nat × Nat) (h : Nat) : State :=
  let x := s.launch l
  let k := 2 * y.2 + h
  let f := recFlags x.record
  let req := 1024 * x.pkg + 2 * y.1 + h
  let seed := BitVec.ofNat 64 (x.fld 0x68 8)
  let entry := x.fld 0x58 8 / 2 ^ (12 * h) % 4096
  let c := Core.zero.modX fun r =>
    { r with sstat := BitVec.ofNat 64 (f / 8 % 4 * 2 ^ 38 + f / 32 % 4 * 2 ^ 36 + h * 2 ^ 20 + f / 4 % 2 * 2 ^ 19),
             splb := BitVec.ofNat 64 (768 - x.carve + 768 * 2 ^ 32), ovp := BitVec.ofNat 64 (x.fld 0x88 8) &&& 0x01FFFFFFFFFFF000#64 }
  let c := c.modR fun r =>
    { r with s := ((r.s.set 1 (BitVec.ofNat 64 req)).set 2 (BitVec.ofNat 64 (windowOf y.1 0))).set 3 (BitVec.ofNat 64 (x.fld 0x60 8)) }
  let c := c.modF fun r => { r with mode := .task, task := ⟨l, y.1, h, req, seed⟩, pc := BitVec.ofNat 12 entry }
  let c := (c.modE fun e => { e with ovl := [x.ovl0] }).reseed seed
  s.setCore k c

/-- All tasks of a launch start at one tick; a part whose launch is not admitted everywhere is refused (R31, R312, R374). -/
def execStartTick (l : Nat) (s : State) : Host.Outcome State Fault Refusal :=
  let x := s.launch l
  if !s.startNow x then .next s
  else if ((x.ftt.map Ftt.npkg).getD 1) > 1 ∧ !(s.partsReady x && x.parts.all PartDigest.admitted) then .next (s.refuse l 5)
  else
    let s := s.modLaunch l fun x => { x with phase := LPhase.running, status := 3, gstart := s.gtime, startAt := s.wall, lclk := 0 }
    let s := x.place.foldl (fun s y => (List.range x.halves).foldl (fun s h => s.startCore l y h) s) s
    .next (s.announce l 2)

/-! Ends (R134, R191, R328, R354). -/

/-- Every task has halted and all their work has landed. -/
def State.workDone (s : State) (l : Nat) : Bool :=
  (s.cores.all fun x => x.2.f.task.launch != l || x.2.f.mode == .idle || (x.2.f.mode == .halted && !x.2.work)) &&
    s.ports.all fun p => p.2.tx.all fun t => t.launch != l

/-- DIGEST: D_0, or the CRC over every package's D_k (R354). -/
def Launch.result (l : Launch) : Word :=
  match l.ftt with
  | none => l.digestOf
  | some f =>
    if f.npkg ≤ 1 then l.digestOf
    else crc64 0 ((List.range f.npkg).flatMap fun i => leBytes (if i = l.pkg then l.digestOf else Config.remoteDigest l.corr i).toNat 8)

/-- A killed launch has stopped everywhere on the package. -/
def State.killStopped (s : State) (l : Nat) : Bool :=
  let x := s.launch l
  x.phase == .running && x.kill.isSome && x.causes.contains .kill && s.allStopped l

/-- The end of a launch is due: it has completed, or its kill needs no dump or has none. -/
def State.endDue (s : State) (l : Nat) : Bool :=
  let x := s.launch l
  (x.phase == .running && x.kill.isNone && x.causes.isEmpty && s.workDone l) ||
    (s.killStopped l && !(s.seq.dumps.any fun d => d.launch == l))

/-- A launch ends: completed with its digest, or killed (R134, R324, R329). -/
def execLaunchComplete (l : Nat) (s : State) : Host.Outcome State Fault Refusal :=
  if !s.endDue l then .next s
  else match (s.launch l).kill with
    | none => .next (s.endLaunch l 5 0 (s.launch l).result)
    | some i => .next (s.endLaunch l 8 i.reason 0)

/-- The dump at the head of the queue is written, and its launch ends (R191, R328). -/
def execDumpWrite (s : State) : Host.Outcome State Fault Refusal :=
  match s.seq.dumps with
  | [] => .next s
  | d :: _ =>
    if !s.killStopped d.launch then .next s
    else match (s.launch d.launch).kill with
      | none => .next s
      | some i => .next ((s.writeDump d.launch i).endLaunch d.launch 8 i.reason 0)

/-! Messages of other parts (R368, R374, R382). -/

/-- What another part forwards: a freeze, an announced thaw, a pre-emption, an end, a resume, an arrival at a barrier, a `halt` or its digests. -/
def execFreezeMessage (corr : Nat) (m : PartMessage) (s : State) : Host.Outcome State Fault Refusal :=
  match m, s.byCorr corr with
  | .digest p, _ => execSubmissionDigestExchange corr p s
  | _, none => .next s
  | .arrival req schc, _ => execBarrierArrivalMessage corr req schc s
  | .halted req schc, some l => .next (s.modLaunch l fun x => { x with halts := x.halts ++ [(req, schc)] })
  | .freeze slot stop code, some l =>
    if (s.launch l).phase ≠ .running then .next s
    else
      let fresh := (s.launch l).causes == []
      .next ((s.freeze l (.remote stop code)).modLaunch l fun x => { x with lclk := if fresh then slot else x.lclk })
  | .thaw g, some l => .next (s.modLaunch l fun x => { x with thaws := x.thaws ++ [BitVec.ofNat 64 g] })
  | .preempt, some l => .next (s.startPreempt l)
  | .kill r, some l => .next (s.killLaunch l r)
  | .resume g, some l => .next (s.modLaunch l fun x =>
      { x with thaws := if x.thaws = [] then [BitVec.ofNat 64 g] else x.thaws.map fun h => if h.toNat < g then BitVec.ofNat 64 g else h })

/-- A port has not delivered its waiting flits within 10 ms of GTIME (R368). -/
def State.retrainDue (s : State) (p : Nat) : Bool :=
  match (s.port p).exhausted with
  | some g => decide (g.toNat + 10 * 10 ^ 6 * 65536 ≤ s.gtime.toNat)
  | none => false

/-- A port retrains: the launches that hold it are killed, and the domain thaws for every other (R368, R386). -/
def execPortRetrain (p : Nat) (s : State) : Host.Outcome State Fault Refusal :=
  if !s.retrainDue p then .next s
  else
    let ls := (s.launches.filter fun x => (x.2.holds || x.2.phase == .saved) &&
      (match x.2.ftt with | some f => f.ports.contains p | none => false)).map Prod.fst
    let s := s.linkRecord 3 p 0 0 0
    let s := (s.thawSlack p).modPort p fun x => { Port.zero with breach := x.breach }
    .next (ls.foldl (fun s l => s.killLaunch l 9) s)

/-! What is due (R311 to R329). -/

/-- The packet event of a host queue. -/
def State.packetDue (s : State) (q : Nat) : Option Event :=
  match s.packet q with
  | none => none
  | some bs => match packetKind bs with
    | 1 => some (.submit q)
    | 2 => some (.kill q)
    | 3 => some (.preempt q)
    | _ => some (.malformedPacket q)

/-- The sequencer's event for one launch. -/
def State.launchDue (s : State) (l : Nat) (x : Launch) : Option Event :=
  if s.startNow x then some (.startTick l)
  else if s.ages x then some (.priorityAging l)
  else if s.preemptDue l then some (.preemptionFreeze l)
  else if s.saveDue l then some (.contextSave l)
  else if s.endDue l then some (.launchComplete l)
  else none

/-- The sequencer's next event. -/
def State.seqDue (s : State) : Option Event :=
  match (List.range 12).findSome? s.packetDue with
  | some e => some e
  | none => match s.launches.findSome? fun x => s.launchDue x.1 x.2 with
    | some e => some e
    | none => match s.seq.dumps with
      | d :: _ => if s.killStopped d.launch then some .dumpWrite else if s.evalNow then some .queueEvaluation else none
      | [] => if s.evalNow then some .queueEvaluation else none

end Sys2Proof.Machine
end

