-- ==== Sys2Proof/Machine/Debug.lean ====
section
/-! DEFINITION. The debugger's commands and stops (15_lantern.md R343, R349 to R351; log 40). -/

namespace Sys2Proof.Machine

/-! Stops (R351). -/

/-- A launch has come to a stop for the debugger: every component has stopped, no handler runs, and the stop is not recorded yet. -/
def State.settles (s : State) (l : Nat) (x : Launch) : Bool :=
  x.phase == .running && x.causes.any Cause.stops && !x.dbg &&
    s.cores.all fun y => y.2.f.task.launch != l || y.2.f.mode == .idle || y.2.f.mode == .killed ||
      ((y.2.f.mode == .task || y.2.f.mode == .halted) && !s.runsOn y.1 && !s.resumes y.1)

/-- Records a stop: its event, sample and pending entries for each task, and DSTAT (R351). -/
def State.settle (s : State) (l : Nat) : State :=
  let ks := (s.coresOf l).filterMap fun y => (s.cores.find? fun z => z.2.f.task.launch == l && z.2.taskNo == y.1).map Prod.fst
  let s := ks.foldl (fun s k => s.stopRecords k) s
  (s.modLaunch l fun x => { x with dbg := true }).setDstat (s.launch l).corr 2

/-- Records the stops that this wall cycle has completed. -/
def State.settleAll (s : State) : State := s.launches.foldl (fun s x => if s.settles x.1 (s.launch x.1) then s.settle x.1 else s) s

/-! Commands (R343, R351). -/

/-- The command a lantern is to carry out: its launch, CMD and COUNT. -/
def State.debugCmd (s : State) (t : Nat) : Option (Option Nat × Nat × Nat) :=
  let l := s.lantern t
  if l.todo then some (s.byCorr (field l.datt 0 32), field l.dcmd 0 16, field l.dcmd 32 16) else none

/-- The command is taken. -/
def State.tookCmd (s : State) (t : Nat) : State := s.modLantern t fun l => { l with todo := false }

/-- DSTAT.CODE of the lanterns of a command's launch. -/
def State.setCode (s : State) (t code : Nat) : State := s.setDstat (field (s.lantern t).datt 0 32) code

/-- Carries out a command of a lantern where its state allows; in any other it is refused (R351). -/
def debugServe (t cmd : Nat) (ok : Launch → Bool) (go : State → Nat → State) (s : State) : Host.Outcome State Fault Refusal :=
  match s.debugCmd t with
  | none => .next s
  | some (target, c, _) =>
    if c ≠ cmd then .next s
    else match target with
      | some l => .next (if ok (s.launch l) then go (s.tookCmd t) l else (s.tookCmd t).setCode t 4)
      | none => .next ((s.tookCmd t).setCode t 4)

/-- A launch that runs: no debugger's stop and no pre-emption holds it. -/
def Launch.runsFree (l : Launch) : Bool :=
  l.phase == .running && !l.causes.any Cause.debugs && !l.causes.contains .kill && !l.causes.contains .preempt

/-- A launch that has stopped for the debugger. -/
def Launch.isStopped (l : Launch) : Bool := l.phase == .running && !l.causes.contains .kill && l.dbg

/-- STOP: a debugger stop with the belfry as initiator. -/
def execStop (t : Nat) (s : State) : Host.Outcome State Fault Refusal :=
  debugServe t 1 Launch.runsFree (fun s l => ((s.freeze l .stop).endSteps l).setCode t 3) s

/-- The debugger's freeze of a launch ends on this package (R24); one of another package ends when it announces its thaw. -/
def State.debugThaw (s : State) (l : Nat) : State :=
  (s.endCauses l Cause.debugs).modLaunch l fun x => { x with dbg := x.dbg && x.causes.any Cause.stops }

/-- RUN: the launch thaws. -/
def execRun (t : Nat) (s : State) : Host.Outcome State Fault Refusal :=
  debugServe t 2 Launch.isStopped (fun s l => ((s.debugThaw l).endSteps l).setCode t 1) s

/-- STEP: the launch thaws, and every component stops again behind COUNT of its own cycles. -/
def execStep (t : Nat) (s : State) : Host.Outcome State Fault Refusal :=
  debugServe t 3 Launch.isStopped (fun s l =>
    let n := max 1 (field (s.lantern t).dcmd 32 16)
    let cores := s.cores.map fun (x : Nat × Core) =>
      if x.2.f.task.launch = l then (x.1, x.2.modF fun f => { f with stepTo := some (x.2.clk + n) }) else x
    let s := ({ s with cores := cores } : State).modLaunch l fun x => { x with steps := some n }
    (s.debugThaw l).setCode t 3) s

/-- SNAP: the save area takes the stopped launch's state, with COMPLETE zero; the launch stays stopped (R325, R327). -/
def execSnap (t : Nat) (s : State) : Host.Outcome State Fault Refusal :=
  debugServe t 4 (fun l => l.isStopped && l.saveVa != 0) (fun s l => match s.writeSave l false with
    | (s, true) => s.setCode t 2
    | (s, false) => s.abandonSave l) s

/-- A STEP's cycles have passed on the launch's slot clock. -/
def Launch.stepOver (l : Launch) : Bool := l.phase == .running && l.steps == some 0 && !l.causes.any Cause.debugs

/-- The STEP ends: the launch freezes again, each component behind its own last cycle (R351). -/
def execStepEnd (l : Nat) (s : State) : Host.Outcome State Fault Refusal :=
  .next (if (s.launch l).stepOver then (s.freeze l .debug).modLaunch l fun x => { x with steps := none } else s)

/-- The command that a lantern carries out next. -/
def State.debugDue (s : State) (t : Nat) : Option Event :=
  match s.debugCmd t with
  | some (_, 1, _) => some (.stop t)
  | some (_, 2, _) => some (.run t)
  | some (_, 3, _) => some (.step t)
  | some (_, 4, _) => some (.snap t)
  | _ => none

end Sys2Proof.Machine
end

