-- ==== Sys2Proof/Machine/Host.lean ====
section
/-! DEFINITION. The host interface, power, memory health, reset and bring-up (11_tower_memory.md R266, R271, R276 to R278, R286, R287,
12_consistency.md R296, R304, 16_package.md R355 to R365, 17_fabric.md R385; log 39). -/

namespace Sys2Proof.Machine

/-! Register words with their writable bits (R5, R6, R343, R357, R361, R385). -/

/-- Keeps the bits of a mask from a written value and the others from the old one. -/
def maskIn (mask old v : Word) : Word := (v &&& mask) ||| (old &&& ~~~mask)

/-- A tower's capping word (R361). -/
def Cap.word (c : Cap) : Word :=
  BitVec.ofNat 64 ((BitVec.ofInt 16 c.margin).toNat * 2 ^ 48 + c.duty * 2 ^ 44 + c.minm * 2 ^ 32 + c.capw * 2 ^ 12 + c.pwr)

def State.cap (s : State) (t : Nat) : Cap := s.host.caps.getD t Cap.zero
def State.setCap (s : State) (t : Nat) (c : Cap) : State := { s with host := { s.host with caps := s.host.caps.set t c } }

/-- A word of a lantern's control block (R343). -/
def Lantern.read (l : Lantern) (off : Nat) : Word :=
  match off with
  | 0x00 => l.lctl
  | 0x08 => l.tbase
  | 0x10 => l.tsize
  | 0x18 => l.tprod
  | 0x20 => l.tcons
  | 0x28 => l.lost
  | 0x30 => l.datt
  | 0x38 => l.dcmd
  | 0x40 => BitVec.ofNat 64 l.dstat
  | _ => if 0x48 ≤ off ∧ off ≤ 0x80 then l.bp.getD ((off - 0x48) / 8) 0 else 0

/-- The towers that an attached launch occupies. -/
def State.towersOfLaunch (s : State) (corr : Nat) : List Nat :=
  match s.byCorr corr with
  | none => []
  | some l => ((s.launch l).place.map fun y => y.2 / 128).eraseDups

/-- The lantern that carries out an attached launch's commands: that of the lowest tower the launch occupies (R343; log 40). -/
def State.leads (s : State) (t : Nat) : Bool :=
  let corr := field (s.lantern t).datt 0 32
  (s.towersOfLaunch corr).all fun u => t ≤ u

/-- DSTAT of a lantern whose DATT is written: detached, stopped, or running (R343). -/
def State.attachCode (s : State) (v : Word) : Nat :=
  if field v 63 1 = 0 then 0
  else match s.byCorr (field v 0 32) with
    | some l => if (s.launch l).dbg then 2 else 1
    | none => 1

/-- A write to a lantern's control block (R343). Setting EN starts TPROD again. -/
def State.lanternWrite (s : State) (t off : Nat) (v : Word) : State :=
  s.modLantern t fun l =>
    match off with
    | 0x00 =>
      let w := v &&& 0xFF00FE03#64
      { l with lctl := w, tprod := if field l.lctl 0 1 = 0 ∧ field w 0 1 = 1 then 0 else l.tprod }
    | 0x08 => { l with tbase := v &&& 0x01FFFFFFFFFFF000#64 }
    | 0x10 => { l with tsize := v &&& 0x1F#64 }
    | 0x20 => { l with tcons := v }
    | 0x30 => { l with datt := v &&& 0x80000000FFFFFFFF#64, dstat := s.attachCode v }
    | 0x38 =>
      let cmd := field v 0 16
      let go := 1 ≤ cmd ∧ cmd ≤ 4 ∧ field l.datt 63 1 = 1
      { l with dcmd := v &&& 0x0000FFFF0000FFFF#64, todo := if go then s.leads t else false,
               dstat := if 1 ≤ cmd ∧ cmd ≤ 4 ∧ field l.datt 63 1 = 0 then 4 else l.dstat }
    | _ => if 0x48 ≤ off ∧ off ≤ 0x80 then { l with bp := l.bp.set ((off - 0x48) / 8) (v &&& 0xFFF8000000000FFF#64) } else l

/-- A launch with a fabric timetable runs on the package (R385). -/
def State.fabricRuns (s : State) : Bool := s.launches.any fun x => x.2.phase == .running && x.2.ftt.isSome

/-! Host commands (R357, R358). -/

/-- HRES changes: vector 0 is signalled (R358). -/
def State.setHres (s : State) (code : Nat) : State := ({ s with host := { s.host with hcode := code } } : State).signal 0

/-- The doorbell: ignored while a command is under way or bring-up is not complete, else accepted with the arguments as they stand
(R254, R357, R365). -/
def State.hostRing (s : State) (v : Word) : State :=
  let h := { s.host with hcmd := v }
  let s := { s with host := h }
  let cmd := field v 0 16
  if cmd = 0 ∨ h.hcode = 1 ∨ h.stage ≠ 5 then s
  else
    let s := { s with host := { h with hseq := field v 48 16 } }
    if 8 < cmd then s.setHres 6
    else
      let wait := 1 + Config.hostCycles s.free + (if cmd = 2 then staggerF else 0)
      ({ s with free := s.free + 1,
                host := { s.host with cargs := BitVec.ofNat 64 cmd :: h.harg, due := s.wall + wait } } : State).setHres 1

/-- A word of the package block (R357, R361, R385). -/
def State.packageRead (s : State) (off : Nat) : Word :=
  let h := s.host
  match off with
  | 0x00 => BitVec.ofNat 64 (h.fail * 256 + h.stage)
  | 0x08 => h.hcmd
  | 0x40 => BitVec.ofNat 64 (h.hseq % 65536 * 2 ^ 48 + h.hcode)
  | 0x48 => h.hval
  | 0x50 => h.mring
  | 0x58 => h.mprod
  | 0x60 => h.mcons
  | 0x68 => h.hviol
  | 0x90 => BitVec.ofNat 64 ((if h.conv then 2 ^ 63 else 0) + (if h.gm then 2 ^ 62 else 0) + (BitVec.ofInt 32 h.ofs).toNat)
  | 0x98 => h.ptpcfg
  | _ =>
    if 0x10 ≤ off ∧ off ≤ 0x38 then h.harg.getD ((off - 0x10) / 8) 0
    else if 0x70 ≤ off ∧ off ≤ 0x88 then (s.cap ((off - 0x70) / 8)).word
    else 0

/-- A write to a word of the package block: its RW fields take the value, and RO and RSV fields ignore it (R5). -/
def State.packageWrite (s : State) (off : Nat) (v : Word) : State :=
  let h := s.host
  match off with
  | 0x08 => s.hostRing v
  | 0x50 => { s with host := { h with mring := v &&& 0xFFFFFFFFFFFFF01F#64 } }
  | 0x60 => { s with host := { h with mcons := v } }
  | 0x98 => if s.fabricRuns then s else { s with host := { h with ptpcfg := v &&& 0xFFFFF00000000000#64 } }
  | _ =>
    if 0x10 ≤ off ∧ off ≤ 0x38 then { s with host := { h with harg := h.harg.set ((off - 0x10) / 8) v } }
    else if 0x70 ≤ off ∧ off ≤ 0x88 then
      let t := (off - 0x70) / 8
      s.setCap t { s.cap t with minm := field v 32 12, capw := field v 12 10 }
    else s

/-! BAR0 (R355, R356). -/

/-- The word at a BAR0 offset; reserved offsets read as zero. -/
def State.registerRead (s : State) (off : Nat) : Word :=
  let o := off % 4096
  if off < 0x1000 then s.packageRead o
  else if off < 0x5000 then (s.lantern ((off - 0x1000) / 4096)).read o
  else if off < 0x6000 then
    if o < 0x200 then s.host.telemetry.getD (o / 8) 0 else if o = 0x200 then s.host.telemetry.getD 64 0 else 0
  else if 0x200000 ≤ off ∧ off < 0x200000 + 514 * 4096 then s.boxWord ((off - 0x200000) / 4096) o
  else 0

/-- An aligned 8-byte write at a BAR0 offset. -/
def State.registerWrite (s : State) (off : Nat) (v : Word) : State :=
  let o := off % 4096
  if off < 0x1000 then s.packageWrite o v
  else if off < 0x5000 then s.lanternWrite ((off - 0x1000) / 4096) o v
  else if 0x200000 ≤ off ∧ off < 0x200000 + 514 * 4096 then s.mailStore ((off - 0x200000) / 4096) o v false
  else s

/-- A register write of the host (R5, R6, R356). -/
def execRegisterWrite (off : Nat) (v : Word) (s : State) : Host.Outcome State Fault Refusal :=
  .next (if s.linkUp && off % 8 == 0 && decide (off < 2 ^ 23) then s.registerWrite off v else s)

/-! BAR2 (R277, R296, R355, R358, R359). The offsets of events from 2^40 on stand for BAR0. -/

/-- What a read or an atomic completes with: 0 success, 1 Unsupported Request, 2 Completer Abort, 3 poisoned data. -/
def State.complete (s : State) (status : Nat) (bs : List Byte) : State := { s with host := { s.host with reply := (status, bs) } }

/-- A host DMA violation freezes the host port (R355, R359). -/
def State.violation (s : State) (off : Nat) : State :=
  ({ s with host := { s.host with hviol := (1#64 <<< 63) ||| BitVec.ofNat 64 (off / 4096 % 2 ^ 57) } } : State).signal 4

/-- A migration-ring record, dropped where the ring is full (R277, R358). -/
def State.migrationRecord (s : State) (off : Nat) (write : Bool) (asid : Nat) : State :=
  let h := s.host
  let log := field h.mring 0 5
  let slots := 2 ^ (if 4 ≤ log ∧ log ≤ 16 then log else 4)
  if slots ≤ (h.mprod - h.mcons).toNat then s
  else
    let flat := field h.mring 12 37 * 4096 + 16 * (h.mprod.toNat % slots)
    let bs := leBytes off 8 ++ leBytes ((if write then 2 ^ 63 else 0) + asid % 65536) 8
    let s := if hbmSize < flat + 16 then s else s.landBytes flat bs [] false 0
    ({ s with host := { s.host with mprod := h.mprod + 1 } } : State).signal 1

/-- A read of the host: bytes, poisoned where a line is, or what refuses it. -/
def State.hostReadAt (s : State) (off n : Nat) : State :=
  if 2 ^ 40 ≤ off then
    if n = 8 ∧ off % 8 = 0 ∧ s.host.powered = true then s.complete 0 (leBytes (s.registerRead (off - 2 ^ 40)).toNat 8) else s.complete 1 []
  else if !s.linkUp then s.complete 1 []
  else if s.host.hviol.msb then s.complete 2 []
  else if hbmSize < off + n then (s.violation off).complete 2 []
  else match s.ownerOf (off / 4096) with
    | .device a => (s.complete 1 []).migrationRecord off false a
    | _ =>
      let first := off / 64 * 64
      let bad := (s.poisonIn first ((off + n + 63) / 64 * 64 - first)).1 != 0
      s.complete (if bad then 3 else 0) (s.bytes off n)

def execHostRead (off n : Nat) (s : State) : Host.Outcome State Fault Refusal := .next (s.hostReadAt off n)

/-- The bits of byte `a` of device frame space that the host may set: in the queue descriptor page BASE, EN, STRICT, CEIL, SLOTS and TAIL of
each descriptor, everywhere else all (R5, R311). -/
def State.hostMask (s : State) (a : Nat) : Byte :=
  if s.seq.desc ≠ some (a / 4096) ∨ 1024 ≤ a % 4096 then 0xFF#8
  else match a % 64 / 8 with
    | 0 | 2 => 0xFF#8
    | 1 => if a % 8 < 2 then 0xFF#8 else if a % 8 = 2 then 0x1F#8 else 0
    | _ => 0

/-- Bytes of the host land; RO and RSV bits of a queue descriptor keep their values (R5). -/
def State.hostLand (s : State) (off : Nat) (bs : List Byte) : State :=
  let old := s.bytes off bs.length
  s.landBytes off ((List.range bs.length).map fun i =>
    let m := s.hostMask (off + i)
    (bs.getD i 0 &&& m) ||| (old.getD i 0 &&& ~~~m)) [] false 0

/-- A posted write of the host: BAR0 registers, or bytes of device frame space, a line in each wall cycle. The rest keeps the write's place
among the host's requests (R292, R296). What it holds of a page of the device is dropped, with one record (R277). -/
def execHostWrite (off : Nat) (bs : List Byte) (relaxed : Bool) (s : State) : Host.Outcome State Fault Refusal :=
  if 2 ^ 40 ≤ off then
    .next (if s.linkUp && bs.length == 8 && off % 8 == 0 then s.registerWrite (off - 2 ^ 40) (BitVec.ofNat 64 (leValue bs)) else s)
  else if !s.linkUp || s.host.hviol.msb then .next s
  else if hbmSize < off + bs.length then .next (s.violation off)
  else
    let t := match s.ownerOf (off / 4096) with
      | .device a => (s.migrationRecord off true a, 4096 - off % 4096)
      | _ => (s.hostLand off (hostPart off bs), (hostPart off bs).length)
    if bs.length ≤ t.2 then .next t.1
    else .next { t.1 with inputs := (s.wall, .hostWrite (off + t.2) (bs.drop t.2) relaxed) :: t.1.inputs }

/-- A host atomic on a control-page word; every other one is an Unsupported Request (R296, R304). -/
def execHostAtomic (op : HostAtomicOp) (off width : Nat) (v cmp : Word) (s : State) : Host.Outcome State Fault Refusal :=
  if 2 ^ 40 ≤ off ∨ s.linkUp = false then .next (s.complete 1 [])
  else if s.host.hviol.msb then .next (s.complete 2 [])
  else if hbmSize < off + width then .next ((s.violation off).complete 2 [])
  else if !s.hostAtomicOk op off width then .next (s.complete 1 [])
  else
    let o := match op with | .swap => AtomicOp.swap | .cas => AtomicOp.cas | _ => AtomicOp.add
    let r := s.atomicAt off o (width == 8) v cmp
    let t := { r.1 with mem := (s.hostLand off (r.1.bytes off width)).mem }
    .next (t.complete (if r.2.2 = 0 then 0 else 3) (leBytes r.2.1.toNat width))

/-! The commands of the package block (R358). -/

/-- Argument `i` of the command under way. -/
def State.harg (s : State) (i : Nat) : Nat := (s.host.cargs.getD (i + 1) 0).toNat

/-- Serves a host command that is due: code 6 where its arguments are out of range, else its effect. -/
def hostServe (cmd : Nat) (ok : State → Bool) (go : State → State) (s : State) : Host.Outcome State Fault Refusal :=
  if s.host.hcode ≠ 1 ∨ (s.host.cargs.headD 0).toNat ≠ cmd ∨ s.wall < s.host.due then .next s
  else if !ok s then .next (s.setHres 6)
  else .next (go s)

/-- Extents of device frame space (R266). -/
def extents : Nat := hbmSize / 2 ^ 21

/-- Some leaf of a table of `level` maps a frame of a range. -/
def State.mapsFrames (s : State) (lo hi : Nat) : Nat → Nat → Bool
  | 0, _ => false
  | level + 1, table =>
    decide (table < frameCount) && (List.range 512).any fun i =>
      match s.leafEntry table i level with
      | some (p, n) => decide (pteFrame p < hi) && decide (lo < pteFrame p + n)
      | none => level != 0 && tableEntry (s.pteAt table i) && s.mapsFrames lo hi level (pteFrame (s.pteAt table i))

/-- MARKTAG: tags or untags extents; the words of an extent then have tag 24 (R266). -/
def State.markTag (s : State) (first n : Nat) (tag : Bool) : State :=
  let es := (List.range n).map (first + ·)
  let used := s.launches.any fun x => x.2.holds && s.mapsFrames (512 * first) (512 * (first + n)) 5 x.2.asroot
  let now := if tag then s.seq.tagged ++ es.filter (fun e => !s.seq.tagged.contains e) else s.seq.tagged.filter fun e => !es.contains e
  if used || (tag && decide (Config.shadowExtents < now.length)) then s.setHres 8
  else
    let lo := first * 2 ^ 19
    let hi := (first + n) * 2 ^ 19
    ({ s with seq := { s.seq with tagged := now }, tags := s.tags.filter fun x => !(lo ≤ x.1 && x.1 < hi) } : State).setHres 2

def execMarktag (s : State) : Host.Outcome State Fault Refusal :=
  hostServe 1 (fun s => decide (s.harg 0 + s.harg 1 ≤ extents) && decide (s.harg 2 ≤ 1)) (fun s => s.markTag (s.harg 0) (s.harg 1) (s.harg 2 == 1)) s

/-- A TLB entry that an invalidation drops. -/
def TlbEntry.hit (e : TlbEntry) (asid va n : Nat) : Bool := e.asid == asid && e.va < va + 4096 * n && va < e.va + e.size

/-- Drops translations from every TLB (R276). -/
def State.dropTlb (s : State) (asid va n : Nat) : State :=
  { s with
    cores := s.cores.map fun x => (x.1, x.2.modE fun e => { e with tlb := e.tlb.filter fun t => !t.hit asid va n })
    l2 := s.l2.map fun x => (x.1, x.2.filter fun t => !t.hit asid va n) }

/-- Code of a package freeze's causes: 3 thermal bubble, 5 host stall (R344). -/
def stallCode : Nat := 5
def bubbleCode : Nat := 3

/-- Ends a package freeze of a code: the deviation records, and the scope goes on (R25). -/
def State.endFreeze (s : State) (code start : Nat) : State :=
  { s.packageDeviation code start with pkgFreeze := s.pkgFreeze.filter (· ≠ code) }

/-- INVAL: at once where no launch of the ASID runs, else inside a package-scope freeze, whose end ends the command (R276). -/
def execInval (s : State) : Host.Outcome State Fault Refusal :=
  match s.host.inval with
  | some (start, stop) =>
    if s.wall < stop then .next s
    else .next (({ s.endFreeze stallCode start with host := { s.host with inval := none } } : State).setHres 2)
  | none =>
    hostServe 2 (fun s => decide (s.harg 0 < 65536) && decide (s.harg 1 < 2 ^ 57) && s.harg 1 % 4096 == 0) (fun s =>
      let t := s.dropTlb (s.harg 0) (s.harg 1) (s.harg 2)
      if s.launches.any fun x => x.2.phase == .running && x.2.asid == s.harg 0 then
        let stop := s.wall + 1 + Config.invalCycles s.free
        { t with free := s.free + 1, pkgFreeze := s.pkgFreeze ++ [stallCode],
                 host := { t.host with inval := some (s.wall, stop), due := stop } }
      else t.setHres 2) s

/-- The number of a new registration: the device's choice among unused ones (R332). -/
def State.objectNumber (s : State) : Option Nat :=
  let used := s.seq.objects.map Prod.fst
  let n := Config.objectNumber s.free
  if 1 ≤ n ∧ n ≤ 32767 ∧ !used.contains n then some n
  else ((List.range 32767).map (· + 1)).find? fun i => !used.contains i

/-- REGOBJ: registers an image that keeps R330 to R336; an image registered before keeps its number (R332, R333, R335, R336). -/
def State.register (s : State) (va asid : Nat) : State :=
  let root := match s.seq.roots.find? (·.1 == asid) with | some x => x.2 | none => Config.asidRoot asid
  match s.readKco va (asid, root) with
  | none => s.setHres 8
  | some k =>
    if !k.ok || !s.kcoRecords k || !s.profileOk k || !s.kcoSigned k then s.setHres 8
    else
      let num := match s.seq.objects.find? fun o => o.2.va == va && o.2.asid == asid with
        | some o => some o.1
        | none => s.objectNumber
      match num with
      | none => s.setHres 8
      | some n =>
        ({ s with free := s.free + 1, seq := { s.seq with objects := alSet s.seq.objects n ⟨va, asid, root, false, [], false⟩ },
                  host := { s.host with hval := BitVec.ofNat 64 n } } : State).setHres 2

def execRegobj (s : State) : Host.Outcome State Fault Refusal :=
  hostServe 3 (fun s => decide (s.harg 0 < 2 ^ 57) && decide (s.harg 1 < 65536)) (fun s => s.register (s.harg 0) (s.harg 1)) s

/-- UNREG. -/
def execUnreg (s : State) : Host.Outcome State Fault Refusal :=
  hostServe 4 (fun s => s.seq.objects.any fun o => o.1 == s.harg 0) (fun s =>
    if s.launches.any fun x => x.2.phase != .ended && x.2.code == s.harg 0 then s.setHres 8
    else ({ s with seq := { s.seq with objects := s.seq.objects.filter fun o => o.1 != s.harg 0 } } : State).setHres 2) s

/-- SETDESC (R311). -/
def execSetdesc (s : State) : Host.Outcome State Fault Refusal :=
  hostServe 5 (fun s => decide (s.harg 0 < frameCount)) (fun s =>
    if (List.range 16).any fun q => (s.queueDesc q).en then s.setHres 8
    else ({ s with seq := { s.seq with desc := some (s.harg 0) } } : State).setHres 2) s

/-- SETTIMER: the comparator of a task that runs or is saved (R180); that of a halted task is not armed (R402). -/
def execSettimer (s : State) : Host.Outcome State Fault Refusal :=
  let mine := fun (l : Nat) (x : Nat × Core) => x.2.f.task.launch == l && x.2.f.mode != .idle && x.2.f.task.req == s.harg 0
  let arm := fun (c : Core) => if c.f.mode = .halted then c else c.modF fun f => { f with timer := some (BitVec.ofNat 64 (s.harg 2)) }
  let hasTask := fun (l : Nat) => s.cores.any (mine l) || (((s.launch l).saved.map Saved.cores).getD []).any (mine l)
  hostServe 6 (fun s => match s.byCorr (s.harg 1) with | some l => hasTask l | none => false) (fun s =>
    match s.byCorr (s.harg 1) with
    | none => s.setHres 6
    | some l =>
      let set := fun (x : Nat × Core) => if mine l x then (x.1, arm x.2) else x
      let s := { s with cores := s.cores.map set }
      (s.modLaunch l fun x => { x with saved := x.saved.map fun v => { v with cores := v.cores.map set } }).setHres 2) s

/-- RESUMEHOST (R359). -/
def execResumehost (s : State) : Host.Outcome State Fault Refusal :=
  hostServe 7 (fun _ => true) (fun s => ({ s with host := { s.host with hviol := s.host.hviol &&& ~~~(1#64 <<< 63) } } : State).setHres 2) s

/-- The bubble period the package is in: of wall cycles, or of GTIME where it has joined the domain's plan (R361, R362). -/
def State.periodNow (s : State) (joined : Bool) : Nat := if joined then s.gtime9 / (2 ^ 20 * gtimeNine) else s.wall / 2 ^ 20

/-- DOMBUBBLE (R362). -/
def execDombubble (s : State) : Host.Outcome State Fault Refusal :=
  hostServe 8 (fun s => decide (s.harg 0 ≤ 1)) (fun s =>
    ({ s with host := { s.host with joined := s.harg 0 == 1, period := s.periodNow (s.harg 0 == 1) } } : State).setHres 2) s

/-! Power and temperature (R271, R360 to R362). -/

/-- Begins a thermal bubble of `n` wall cycles, or lengthens one in force. -/
def State.bubbleFor (s : State) (n : Nat) : State :=
  match s.host.bubble with
  | none => { s with pkgFreeze := s.pkgFreeze ++ [bubbleCode], host := { s.host with bubble := some (s.wall, s.wall + n) } }
  | some (a, b) => { s with host := { s.host with bubble := some (a, max b (s.wall + n)) } }

/-- D: the largest duty of the package's towers, and of the joined packages of its domain (R361, R362). -/
def State.dutyNow (s : State) : Nat :=
  let own := s.host.caps.foldl (fun n c => max n c.duty) 0
  if s.host.joined then max own (min 15 (Config.domainDuty s.free)) else own

/-- A new bubble period has begun. -/
def State.bubbleDue (s : State) : Bool := s.linkUp && s.periodNow s.host.joined != s.host.period

/-- The start of a period: a package-scope freeze of D × 2^16 wall cycles (R361). -/
def execThermalBubble (s : State) : Host.Outcome State Fault Refusal :=
  if !s.bubbleDue then .next s
  else
    let d := s.dutyNow
    let t := { s with free := s.free + 1, host := { s.host with period := s.periodNow s.host.joined } }
    .next (if d = 0 then t else t.bubbleFor (d * 2 ^ 16))

/-- The bubble in force is over. -/
def State.bubbleOver (s : State) : Bool :=
  match s.host.bubble with
  | some (_, b) => decide (b ≤ s.wall)
  | none => false

/-- A bubble ends: one deviation record for each task, and the package thaws (R25, R361). -/
def execBubbleEnd (s : State) : Host.Outcome State Fault Refusal :=
  match s.host.bubble with
  | none => .next s
  | some (a, b) => .next (if s.wall < b then s else { s.endFreeze bubbleCode a with host := { s.host with bubble := none } })

/-- A stack above its maximum temperature: bubbles until it has cooled, after a free time (R271). -/
def execStackAboveMaximumTemperature (_stack : Nat) (s : State) : Host.Outcome State Fault Refusal :=
  .next (({ s with free := s.free + 1 } : State).bubbleFor (1 + Config.coolCycles s.free))

/-- Milliseconds of GTIME (R360, R361). -/
def State.msNow (s : State) : Nat := s.gtime.toNat / (65536 * 10 ^ 6)

/-- A millisecond of GTIME has begun whose telemetry is not written. -/
def State.msDue (s : State) : Bool := s.linkUp && decide (s.host.ms < s.msNow)

/-- The telemetry page of a millisecond: its records, then its GTIME; an alarm signals vector 3 (R358, R360). -/
def execTelemetryUpdate (rails : List RailSample) (s : State) : Host.Outcome State Fault Refusal :=
  if !s.msDue then .next s
  else
    let recs := (List.range 32).flatMap fun i =>
      let r := rails.getD i default
      [BitVec.ofNat 64 (r.millivolt % 2 ^ 16 * 2 ^ 48 + r.milliamp % 2 ^ 32 * 2 ^ 16 + r.temp % 2 ^ 16), 0]
    let t := { s with free := s.free + 1,
                      host := { s.host with ms := s.msNow, telemetry := recs ++ [BitVec.ofNat 64 (s.msNow * (65536 * 10 ^ 6))] } }
    .next (if Config.alarm rails then t.signal 3 else t)

/-- A tower's duty after a millisecond's power and margin (R361). -/
def Cap.step (c : Cap) (watts : Nat) (margin : Int) : Cap :=
  let cap := min 1000 c.capw
  let d := if cap < watts ∨ margin < c.minm then min 15 (c.duty + 1)
    else if watts + 50 < cap ∧ (c.minm : Int) + 128 ≤ margin then c.duty - 1
    else c.duty
  { c with duty := d, pwr := min 4095 watts, margin := margin }

/-- A millisecond of GTIME has begun whose power and margin tower `t` has not taken. -/
def State.capDue (s : State) (t : Nat) : Bool := s.linkUp && decide (t < 4) && decide ((s.cap t).ms < s.msNow)

/-- Each millisecond a tower sets its own duty (R361). -/
def execPowerCapUpdate (t watts : Nat) (margin : Int) (s : State) : Host.Outcome State Fault Refusal :=
  if !s.capDue t then .next s
  else .next { s.setCap t { (s.cap t).step watts margin with ms := s.msNow } with free := s.free + 1 }

/-- What a new millisecond brings: the telemetry page, then each tower's duty, and in a new second the link health (R360, R361, R386). -/
def State.sensorDue (s : State) : Option Event :=
  if s.msDue then some (.telemetryUpdate (Config.rails s.free))
  else match (List.range 4).find? s.capDue with
    | some t => some (.powerCapUpdate t (Config.watts s.free t) (Config.margin s.free t))
    | none => if s.secDue then some (.linkHealthTick s.lanesNow) else none

/-! Memory health (R286, R287, R363). -/

/-- The scrubber re-reads a line: a single error is corrected and counted, an uncorrectable one poisons its 16 words; poison stays
(R286, R287). -/
def execHbmScrub (line : Nat) (e : LineError) (s : State) : Host.Outcome State Fault Refusal :=
  if hbmSize ≤ 64 * line then .next s
  else match e with
    | .clean => .next s
    | .single =>
      let k := Config.stackOf (line / 64) % 12
      .next { s with bel := { s.bel with ecc := alSet s.bel.ecc k (alGet 0 s.bel.ecc k + 1) } }
    | .uncorrectable => .next { s with poison := alWrite 0 s.poison (16 * line) (List.replicate 16 4) }

/-- An uncorrectable error of a memory word: of HBM it poisons the line's 16 words, of an ISP the bundle (R199, R286). -/
def State.poisonWord (s : State) (flat : Nat) : State :=
  if flat < hbmSize then { s with poison := alWrite 0 s.poison (flat / 64 * 16) (List.replicate 16 4) }
  else if flat < 2 ^ 40 ∨ 2 ^ 46 ≤ flat then s
  else if 2 ^ 42 ≤ flat ∧ flat < 2 ^ 43 then
    let b := (flat - 2 ^ 42) / 32 % 8192
    let n := (flat - 2 ^ 42) / 2 ^ 18
    let sp := s.spire n
    if 512 ≤ n ∨ sp.badBundles.contains b then s else s.setSpire n { sp with badBundles := b :: sp.badBundles }
  else { s with poison := alWrite 0 s.poison (flat / 4) [if sourceOf flat = 2 then 2 else 1] }

/-- One failure of a memory (R286, R363), or of a logic block that no bypass port covers (R251). -/
def State.memoryUpset (s : State) : Upset → State
  | .unit .. => s
  | .block n => s.dropSpire n
  | .word flat => s.poisonWord flat
  | .corrected n => { s with bel := { s.bel with ecc := alSet s.bel.ecc n (alGet 0 s.bel.ecc n + 1) } }

/-- The failures of memories that have come by this wall cycle, and those of a logic block whose spire holds no launch; those of units stay
until a check meets them (R253; log 71). -/
def State.takeUpsets (s : State) : State :=
  let now := fun (x : Nat × Upset) => decide (x.1 ≤ s.wall) && match x.2 with
    | .unit .. => false
    | .block n => !s.spireHeld n
    | _ => true
  if s.bel.upsets.any now then
    (s.bel.upsets.filter now).foldl (fun s x => s.memoryUpset x.2)
      { s with bel := { s.bel with upsets := s.bel.upsets.filter fun x => !now x } }
  else s

/-! Reset and bring-up (R365). -/

/-- What flash keeps: images, keys, allocation maps, condemnation and drop records (R256 to R258, R336); failures to come stay too (log 71). -/
def Belfries.flashOnly (b : Belfries) : Belfries :=
  { Belfries.zero with flash := b.flash, keys := b.keys, maps := b.maps, condemnLog := b.condemnLog, upsets := b.upsets }

/-- The package at stage 0: every state at its reset value, flash as it stands. The model's own clock, inputs and counter go on. -/
def State.resetPackage (s : State) : State :=
  { State.reset with
    wall := s.wall, inputs := s.inputs, free := s.free + 1, bel := s.bel.flashOnly
    spires := s.spires.filterMap fun x => if x.2.dropped then some (x.1, { Spire.zero with dropped := true }) else none
    host := { HostIf.zero with stageAt := s.wall + 1 + Config.bringUpCycles s.free, period := s.wall / 2 ^ 20 } }

/-- The image of a fabric format in flash. -/
def State.formatImage (s : State) (pfmt : Nat) : Option Image :=
  s.bel.flash.findSome? fun x => match goodCopy x.2 with
    | some i => if i.kind = 2 ∧ i.target = pfmt then some i else none
    | none => none

/-- Puts the fabric formats in force again whose quanta the allocation maps in flash hold: their decoders and class values (R259, R365; log 55). -/
def State.applyFormats (s : State) : State :=
  [13, 14, 15].foldl (fun s f =>
    if (s.allocMap 0).quanta.any (fun q => q.state == 3 && q.owner == f) then
      match s.formatImage f with
      | none => s
      | some i =>
        let t := s.raiseClasses none i
        { t with bel := { t.bel with decoders := alSet t.bel.decoders f ⟨i.out, i.src, i.dst⟩ } }
    else s) s

/-- Puts the flash's condemnation records in force: switched units and class values (R256, R365). -/
def State.applyCondemned (s : State) : State :=
  s.bel.condemnLog.foldl (fun s x =>
    let sp := ruidSpire x.1
    let p := s.spire sp
    let s := s.setSpire sp { p with switched := p.switched.filter (· ≠ ruidLocal x.1) ++ [ruidLocal x.1] }
    let cls := x.2.2.map fun w => (w / 2 ^ 56, (w / 2 ^ 44 % 4096, w / 2 ^ 32 % 4096, w / 2 ^ 20 % 4096))
    s.raiseClasses (some sp) ⟨0, 0, 0, cls, 0, 0, 0⟩) s

/-- FAIL of a bring-up stage that fails: both firmware copies bad, flash unreadable or a digest mismatch, an HBM stack fault. -/
def bringUpFail (free stage : Nat) : Nat :=
  if !Config.bringUpFails free stage then 0
  else match stage with
    | 1 => 1
    | 2 => if Config.bringUpFails free 4 then 4 else 2
    | 3 => 3
    | _ => 0

/-- Bring-up at the end of a wall cycle: the present stage ends when its time has come, in the next stage or in a failure. -/
def State.bringUp (s : State) : State :=
  let h := s.host
  if 5 ≤ h.stage ∨ h.fail ≠ 0 ∨ s.wall < h.stageAt then s
  else
    let code := bringUpFail s.free h.stage
    let s := if h.stage = 1 ∧ code = 0 then s.applyCondemned.applyFormats else s
    { s with free := s.free + 1,
             host := { h with fail := code, stage := if code = 0 then h.stage + 1 else h.stage,
                              stageAt := s.wall + 1 + Config.bringUpCycles s.free } }

/-- The end of a wall cycle: bring-up goes on, and a package without power has no other time (R365). -/
def State.endCycle (s : State) : State :=
  if s.host.powered then s.bringUp.tick
  else { s with wall := s.wall + 1, stage := .inputs, inputs := s.inputs.filter fun x => decide (s.wall < x.1) || x.2 == .packageReset }

def execPackageReset (s : State) : Host.Outcome State Fault Refusal := .next s.resetPackage

/-- Power-off keeps only flash. -/
def execPowerOff (s : State) : Host.Outcome State Fault Refusal :=
  .next { s.resetPackage with host := { HostIf.zero with powered := false } }

end Sys2Proof.Machine
end

