-- ==== Sys2Proof/Machine/Sched.lean ====
section
/-! DEFINITION. Which syllable or event comes next, and how a wall cycle advances through its stages (00_scope.md R4, 01_tile_task.md
R9 to R18; log 32). -/

namespace Sys2Proof.Machine

/-- What the machine does next: a syllable, an undecodable word, an event of its own, or the first input that is due. -/
inductive Work where
  | syllable (i : Instr)
  | bad (w : BitVec 32)
  | event (e : Event)
  | input (e : Event)
  deriving DecidableEq, Repr

/-- The first input that is due in a phase. -/
def State.inputDue (s : State) (phase : Nat) : Option Work :=
  (s.inputs.find? fun x => decide (x.1 ≤ s.wall) && x.2.phase == phase && s.heard x.2).map fun x => .input x.2

/-- The first input that is due behind the bundles. A host read waits for the posted writes received before it (R296). -/
def State.lateInput (s : State) : Option Work :=
  let due := s.inputs.filter fun x => decide (x.1 ≤ s.wall) && s.heard x.2
  let free := due.takeWhile fun x => x.2.lane != some .host
  ((due.filter fun x => x.2.phase == 6 && (free.contains x || (match x.2 with | .hostRead .. => false | _ => true))).head?).map fun x => .input x.2

/-- The next arrival of a phase: a belfry's atomic by its belfry and queue, every other in its order (R304). -/
def State.arrivalDue (s : State) (phase : Nat) : Option Work :=
  let key := fun (e : Event) => match e with | .belfryIssuedAccess b q _ => if phase = 2 then (b, q) else (0, 0) | _ => (0, 0)
  ((s.arrivals.filter fun x => x.2.phase == phase).foldl (fun (m : Option Event) x => match m with
    | none => some x.2
    | some y => if (key x.2).1 < (key y).1 ∨ ((key x.2).1 = (key y).1 ∧ (key x.2).2 < (key y).2) then some x.2 else some y) none).map .input

/-- The state without an input that is taken: an arrival, or one of the inputs. -/
def State.dropInput (s : State) (e : Event) : State :=
  match s.arrivals.find? fun x => x.2 == e with
  | some x => { s with arrivals := s.arrivals.erase x }
  | none => match s.inputs.find? fun x => decide (x.1 ≤ s.wall) && x.2 == e with
    | some x => { s with inputs := s.inputs.erase x }
    | none => s

/-- The event of a mailbox command that is due (R254, R255, R259). -/
def State.mailDue (s : State) : Option Event :=
  match s.bel.mail.find? fun x => decide (x.2.due ≤ s.wall) && (x.2.cmd != 7 || x.2.task || decide (512 ≤ x.1) || s.installReady x.2) with
  | none => none
  | some x => match x.2.cmd with
    | 1 => some (.query x.1)
    | 2 => some (.readtt x.1)
    | 3 => some (.readunit x.1)
    | 4 => some (.condemn x.1)
    | 5 => some (.selftest x.1)
    | 6 => some (.setthr x.1)
    | 7 => some (.install x.1)
    | _ => some (.setresv x.1)

/-- The event of a host command that is due (R357, R358). -/
def State.hostDue (s : State) : Option Event :=
  if s.host.hcode ≠ 1 ∨ s.wall < s.host.due then none
  else match (s.host.cargs.headD 0).toNat with
    | 1 => some .marktag
    | 2 => some .inval
    | 3 => some .regobj
    | 4 => some .unreg
    | 5 => some .setdesc
    | 6 => some .settimer
    | 7 => some .resumehost
    | 8 => some .dombubble
    | _ => none

/-- The next interval of 1/128 s of GTIME has begun (R384). -/
def State.syncDue (s : State) : Bool := s.host.powered && decide (4 ≤ s.host.stage) && decide (s.host.sync < s.gtime.toNat / 65536 / 7812500)

/-- What the belfries, the host interface and power do in wall time. -/
def State.packageInput (s : State) : Option Event :=
  match s.mailDue with
  | some e => some e
  | none => match (List.range 4).find? fun t => (s.nextRepair t).isSome with
    | some t => some (.unitReplacement t)
    | none => match s.hostDue with
      | some e => some e
      | none =>
        if s.bubbleOver then some .bubbleEnd
        else if s.bubbleDue then some .thermalBubble
        else if s.syncDue then some .syncInterval
        else s.sensorDue

/-- The debugger's commands and the ends of its steps. -/
def State.debugInput (s : State) : Option Event :=
  match (List.range 4).findSome? s.debugDue with
  | some e => some e
  | none => (s.launches.find? fun x => x.2.stepOver).map fun x => .stepEnd x.1

/-- The events of a wall cycle's first stage. -/
def State.inputStage (s : State) : Option Work :=
  match s.inputDue 0 with
  | some w => some w
  | none => match s.packageInput with
    | some e => some (.event e)
    | none => match s.debugInput with
      | some e => some (.event e)
      | none => match s.cores.findSome? fun x => s.coreInput x.1 x.2 with
        | some e => some (.event e)
        | none => (s.launches.findSome? fun x => s.freezeInput x.1 x.2).map Work.event

/-- What lands next: the tasks' and the outside agents' plain landings, and then the atomics: the tasks', the belfries', the sequencer's work
with its increments, the host's, and the streams' releases (R304). -/
def State.landStage (s : State) : Option Work :=
  let seq := match s.inputDue 5 with
    | some w => some w
    | none => match s.cores.findSome? fun x => s.lnchDue x.1 x.2 with
      | some e => some (.event e)
      | none => match s.ports.find? fun x => s.retrainDue x.1 with
        | some x => some (.event (.portRetrain x.1))
        | none => s.seqDue.map Work.event
  [s.landDue.map Work.event, s.arrivalDue 1, s.nextAtomic.map Work.event, s.arrivalDue 2, seq, s.arrivalDue 3, s.arrivalDue 4].findSome? id

/-- The events behind the bundles of a wall cycle. -/
def State.lateStage (s : State) : Option Work :=
  match s.cores.findSome? fun x => s.coreLate x.1 x.2 with
  | some e => some (.event e)
  | none => match s.lateInput with
    | some w => some w
    | none => (s.ports.findSome? fun x => s.portLate x.1 x.2).map Work.event

/-- The syllable of a slot at the cursor (R83, R84, R103). -/
def State.slotWork (s : State) (q : Cursor) : Work :=
  let c := s.core q.core
  if c.masked q.slot then .syllable .nop
  else
    let w := s.fetch q.core c.f.pc.toNat q.slot
    match decodeSlot q.slot w with
    | some i => .syllable i
    | none => .bad w

/-- What is due now; none where the stage has no more work. -/
def State.due (s : State) : Option Work :=
  match s.stage with
  | .inputs => s.inputStage
  | .collide => none
  | .lands => s.landStage
  | .starts => (s.cores.findSome? fun x => s.coreStart x.1 x.2).map Work.event
  | .boundary => s.boundaryDue.map Work.event
  | .samples => (s.cores.findSome? fun x => s.coreSample x.1 x.2).map Work.event
  | .issue => s.cur.map s.slotWork
  | .late => s.lateStage

/-- The next core whose bundle issues in this wall cycle (R11, R184). -/
def State.nextIssuer (s : State) : Option Cursor :=
  (s.cores.find? fun x => !x.2.f.done && x.2.issues && (if x.2.f.mode = .task then s.ticks x.1 else s.pkgFreeze.isEmpty)).map
    fun x => ⟨x.1, x.2.f.slot0⟩

/-- The next stage, where nothing is due. -/
def State.advance (s : State) : State :=
  match s.stage with
  | .inputs => { s.takeUpsets with stage := .collide }
  | .collide => { s.collide with stage := .lands }
  | .lands => { s with stage := .starts }
  | .starts => { s with stage := .boundary }
  | .boundary => { s with stage := .samples }
  | .samples => { s with stage := .issue }
  | .issue => match s.nextIssuer with
    | some q => { s with cur := some q }
    | none => { s.collideLate with stage := .late }
  | .late => s.settleAll.endCycle

/-- Behind a syllable: the next slot of its bundle, or the end of the bundle; a trap has left no cursor (R9). -/
def State.nextSlot (s : State) : State :=
  match s.cur with
  | none => s
  | some q => if q.slot < 7 then { s with cur := some ⟨q.core, q.slot + 1⟩ } else s.finishBundle q.core

/-- The outcome of a syllable, with the cursor moved on. -/
def issued (o : Host.Outcome State Fault Refusal) : Host.Outcome State Fault Refusal :=
  match o with
  | .next t => .next t.nextSlot
  | .fault r => .fault r
  | .refused r => .refused r

/-! Placing a syllable to run (log 33). -/

/-- The package with a launch of one spire running, whose half-0 task is core 0's. -/
def State.withTask (s : State) : State :=
  let c := s.core 0
  let c := c.modF fun f => { f with mode := .task, task := ⟨1, 0, 0, 0, 0⟩, wait := .none, latch := [], slot0 := 0 }
  let l : Launch := { Launch.zero with phase := .running, corr := 1, place := [(0, 0)], lclk := c.clk, status := 3 }
  (s.setCore 0 c).setLaunch 1 l

/-- The word at a slot of the bundle that core 0 issues next, with the cursor at that slot. -/
def State.placeWord (s : State) (slot : Nat) (w : BitVec 32) : State :=
  let s := s.withTask
  { s with mem := s.mem.write (ispBase 0 + 32 * (s.core 0).f.pc.toNat + 4 * slot) (leBytes w.toNat 4),
           stage := .issue, cur := some ⟨0, slot⟩ }

end Sys2Proof.Machine
end

