-- ==== Sys2Proof/Machine/Events.lean ====
section
/-! DEFINITION. The meaning of a scheduled event: the meaning of the row of the opcode table it names. -/

namespace Sys2Proof.Machine

/-- Runs an event: the meaning that `exec` calls for the instruction of the same name. -/
def Event.exec : Event → State → Host.Outcome State Fault Refusal
  | .waittExpiry core, s => execWaittExpiry core s
  | .waitgExpiry core, s => execWaitgExpiry core s
  | .barrierRelease launch level unit, s => execBarrierRelease launch level unit s
  | .cycleBoundary core, s => execCycleBoundary core s
  | .resultLanding core uid, s => execResultLanding core uid s
  | .storeLanding core uid, s => execStoreLanding core uid s
  | .loadSample core uid, s => execLoadSample core uid s
  | .freezeStaggerStop core, s => execFreezeStaggerStop core s
  | .thaw launch, s => execThaw launch s
  | .handlerStart core, s => execHandlerStart core s
  | .tretComplete core, s => execTretComplete core s
  | .cwaitEnd core, s => execCwaitEnd core s
  | .killFreeze launch, s => execKillFreeze launch s
  | .dumpWrite, s => execDumpWrite s
  | .timerInterrupt core, s => execTimerInterrupt core s
  | .belfryInterruptRequest core, s => execBelfryInterruptRequest core s
  | .debugInterruptRequest core, s => execDebugInterruptRequest core s
  | .queueGeneratorStart core uid, s => execQueueGeneratorStart core uid s
  | .generatorSample core uid, s => execGeneratorSample core uid s
  | .generatorDelivery core uid, s => execGeneratorDelivery core uid s
  | .generatorTake core uid, s => execGeneratorTake core uid s
  | .generatorLanding core uid, s => execGeneratorLanding core uid s
  | .copyStart core uid, s => execCopyStart core uid s
  | .pageWalkComplete core uid, s => execPageWalkComplete core uid s
  | .chunkSample core uid, s => execChunkSample core uid s
  | .chunkLanding core uid, s => execChunkLanding core uid s
  | .gatherIndexSample core uid, s => execGatherIndexSample core uid s
  | .gatherElementSample core uid, s => execGatherElementSample core uid s
  | .gatherElementLanding core uid, s => execGatherElementLanding core uid s
  | .overlayLanding core uid, s => execOverlayLanding core uid s
  | .handlerChannelLanding core uid, s => execHandlerChannelLanding core uid s
  | .matrixCommandStart core uid, s => execMatrixCommandStart core uid s
  | .mcallStart core uid, s => execMcallStart core uid s
  | .passSample core uid, s => execPassSample core uid s
  | .passLanding core uid, s => execPassLanding core uid s
  | .mzeroBlockLanding core uid, s => execMzeroBlockLanding core uid s
  | .mrdStepSample core uid, s => execMrdStepSample core uid s
  | .mrdStepLanding core uid, s => execMrdStepLanding core uid s
  | .mwrStepSample core uid, s => execMwrStepSample core uid s
  | .mwrStepLanding core uid, s => execMwrStepLanding core uid s
  | .mldSample core uid, s => execMldSample core uid s
  | .mldLanding core uid, s => execMldLanding core uid s
  | .amoApply core uid, s => execAmoApply core uid s
  | .gamoStart core uid, s => execGamoStart core uid s
  | .gamoApply core uid, s => execGamoApply core uid s
  | .gamoOldValueLanding core uid, s => execGamoOldValueLanding core uid s
  | .relIncrement core uid, s => execRelIncrement core uid s
  | .acqSample core uid, s => execAcqSample core uid s
  | .lnchStart core uid, s => execLnchStart core uid s
  | .lnchArrival core uid, s => execLnchArrival core uid s
  | .flitSample core uid, s => execFlitSample core uid s
  | .streamFlitSample core uid, s => execStreamFlitSample core uid s
  | .streamPacketReceive pkt, s => execStreamPacketReceive pkt s
  | .flitReceive core uid, s => execFlitReceive core uid s
  | .skewFlitArrival launch, s => execSkewFlitArrival launch s
  | .skewBudgetExpiry core, s => execSkewBudgetExpiry core s
  | .skewThaw launch, s => execSkewThaw launch s
  | .frameSend port, s => execFrameSend port s
  | .frameReceive fr, s => execFrameReceive fr s
  | .retryRequest port fnum, s => execRetryRequest port fnum s
  | .flitArrivalTimeout port, s => execFlitArrivalTimeout port s
  | .portRetrain port, s => execPortRetrain port s
  | .portTrained port, s => execPortTrained port s
  | .barrierArrivalMessage corr req schc, s => execBarrierArrivalMessage corr req schc s
  | .freezeMessage corr kind, s => execFreezeMessage corr kind s
  | .ptpEventMessage msg, s => execPtpEventMessage msg s
  | .syncInterval, s => execSyncInterval s
  | .lossOfMaster, s => execLossOfMaster s
  | .linkHealthTick lanes, s => execLinkHealthTick lanes s
  | .submit queue, s => execSubmit queue s
  | .kill queue, s => execKill queue s
  | .preempt queue, s => execPreempt queue s
  | .queueEvaluation, s => execQueueEvaluation s
  | .priorityAging launch, s => execPriorityAging launch s
  | .startTick launch, s => execStartTick launch s
  | .preemptionFreeze launch, s => execPreemptionFreeze launch s
  | .contextSave launch, s => execContextSave launch s
  | .launchComplete launch, s => execLaunchComplete launch s
  | .query mailbox, s => execQuery mailbox s
  | .readtt mailbox, s => execReadtt mailbox s
  | .readunit mailbox, s => execReadunit mailbox s
  | .condemn mailbox, s => execCondemn mailbox s
  | .selftest mailbox, s => execSelftest mailbox s
  | .setthr mailbox, s => execSetthr mailbox s
  | .install mailbox, s => execInstall mailbox s
  | .setresv mailbox, s => execSetresv mailbox s
  | .unitReplacement tower, s => execUnitReplacement tower s
  | .marktag, s => execMarktag s
  | .inval, s => execInval s
  | .regobj, s => execRegobj s
  | .unreg, s => execUnreg s
  | .setdesc, s => execSetdesc s
  | .settimer, s => execSettimer s
  | .resumehost, s => execResumehost s
  | .dombubble, s => execDombubble s
  | .hostRead offset size, s => execHostRead offset size s
  | .hostWrite offset data relaxed, s => execHostWrite offset data relaxed s
  | .hostAtomic op offset width operand comparand, s => execHostAtomic op offset width operand comparand s
  | .stop tower, s => execStop tower s
  | .run tower, s => execRun tower s
  | .step tower, s => execStep tower s
  | .snap tower, s => execSnap tower s
  | .stepEnd launch, s => execStepEnd launch s
  | .thermalBubble, s => execThermalBubble s
  | .bubbleEnd, s => execBubbleEnd s
  | .telemetryUpdate rails, s => execTelemetryUpdate rails s
  | .powerCapUpdate tower watts margin, s => execPowerCapUpdate tower watts margin s
  | .hbmScrub line err, s => execHbmScrub line err s
  | .packageReset, s => execPackageReset s
  | .powerOff, s => execPowerOff s
  | .registerWrite offset value, s => execRegisterWrite offset value s
  | .illop w, s => execIllop w s
  | .belfryIssuedAccess belfry queue op, s => execBelfryIssuedAccess belfry queue op s
  | .malformedPacket queue, s => execMalformedPacket queue s
  | .submissionDigestExchange corr part, s => execSubmissionDigestExchange corr part s
  | .stackAboveMaximumTemperature stack, s => execStackAboveMaximumTemperature stack s

end Sys2Proof.Machine
end

