-- ==== Sys2Proof/Machine/Dispatch.lean ====
section
/-! DEFINITION. The meaning of every instruction: one arm for each row of spec/opcode_table.json, each one call of its meaning. -/

namespace Sys2Proof.Machine

def exec (i : Instr) (s : State) : Host.Outcome State Fault Refusal :=
  match i with
  | .nop => Sys2Proof.Machine.execNop s
  | .brZ c o => Sys2Proof.Machine.execBrZ c o s
  | .brNz c o => Sys2Proof.Machine.execBrNz c o s
  | .brLz c o => Sys2Proof.Machine.execBrLz c o s
  | .brGez c o => Sys2Proof.Machine.execBrGez c o s
  | .brP c o => Sys2Proof.Machine.execBrP c o s
  | .brAny c o => Sys2Proof.Machine.execBrAny c o s
  | .brAll c o => Sys2Proof.Machine.execBrAll c o s
  | .brNone c o => Sys2Proof.Machine.execBrNone c o s
  | .jmp o => Sys2Proof.Machine.execJmp o s
  | .call o => Sys2Proof.Machine.execCall o s
  | .jmpi a => Sys2Proof.Machine.execJmpi a s
  | .calli a => Sys2Proof.Machine.execCalli a s
  | .ret => Sys2Proof.Machine.execRet s
  | .zloop d a l => Sys2Proof.Machine.execZloop d a l s
  | .ploop d a s_ i_ => Sys2Proof.Machine.execPloop d a s_ i_ s
  | .lbrk a => Sys2Proof.Machine.execLbrk a s
  | .waitt a i_ => Sys2Proof.Machine.execWaitt a i_ s
  | .waitg a i_ => Sys2Proof.Machine.execWaitg a i_ s
  | .syncb l => Sys2Proof.Machine.execSyncb l s
  | .trap i_ => Sys2Proof.Machine.execTrap i_ s
  | .tret => Sys2Proof.Machine.execTret s
  | .halt => Sys2Proof.Machine.execHalt s
  | .rdsys d n => Sys2Proof.Machine.execRdsys d n s
  | .wrsys a n => Sys2Proof.Machine.execWrsys a n s
  | .fenceq m => Sys2Proof.Machine.execFenceq m s
  | .brk i_ => Sys2Proof.Machine.execBrk i_ s
  | .rngseed a => Sys2Proof.Machine.execRngseed a s
  | .add d a b => Sys2Proof.Machine.execAdd d a b s
  | .sub d a b => Sys2Proof.Machine.execSub d a b s
  | .and d a b => Sys2Proof.Machine.execAnd d a b s
  | .or d a b => Sys2Proof.Machine.execOr d a b s
  | .xor d a b => Sys2Proof.Machine.execXor d a b s
  | .shl d a b => Sys2Proof.Machine.execShl d a b s
  | .shr d a b => Sys2Proof.Machine.execShr d a b s
  | .sra d a b => Sys2Proof.Machine.execSra d a b s
  | .slt d a b => Sys2Proof.Machine.execSlt d a b s
  | .sltn d a b => Sys2Proof.Machine.execSltn d a b s
  | .min d a b => Sys2Proof.Machine.execMin d a b s
  | .max d a b => Sys2Proof.Machine.execMax d a b s
  | .minn d a b => Sys2Proof.Machine.execMinn d a b s
  | .maxn d a b => Sys2Proof.Machine.execMaxn d a b s
  | .addW d a b => Sys2Proof.Machine.execAddW d a b s
  | .subW d a b => Sys2Proof.Machine.execSubW d a b s
  | .mul d a b => Sys2Proof.Machine.execMul d a b s
  | .mulh d a b => Sys2Proof.Machine.execMulh d a b s
  | .mulhn d a b => Sys2Proof.Machine.execMulhn d a b s
  | .div d a b => Sys2Proof.Machine.execDiv d a b s
  | .divn d a b => Sys2Proof.Machine.execDivn d a b s
  | .rem d a b => Sys2Proof.Machine.execRem d a b s
  | .remn d a b => Sys2Proof.Machine.execRemn d a b s
  | .mulW d a b => Sys2Proof.Machine.execMulW d a b s
  | .divW d a b => Sys2Proof.Machine.execDivW d a b s
  | .divnW d a b => Sys2Proof.Machine.execDivnW d a b s
  | .remW d a b => Sys2Proof.Machine.execRemW d a b s
  | .remnW d a b => Sys2Proof.Machine.execRemnW d a b s
  | .clz d a => Sys2Proof.Machine.execClz d a s
  | .ctz d a => Sys2Proof.Machine.execCtz d a s
  | .popc d a => Sys2Proof.Machine.execPopc d a s
  | .sel d a b c => Sys2Proof.Machine.execSel d a b c s
  | .lea d a b h => Sys2Proof.Machine.execLea d a b h s
  | .addi d a i_ => Sys2Proof.Machine.execAddi d a i_ s
  | .andi d a i_ => Sys2Proof.Machine.execAndi d a i_ s
  | .ori d a i_ => Sys2Proof.Machine.execOri d a i_ s
  | .xori d a i_ => Sys2Proof.Machine.execXori d a i_ s
  | .slti d a i_ => Sys2Proof.Machine.execSlti d a i_ s
  | .shli d a h => Sys2Proof.Machine.execShli d a h s
  | .shri d a h => Sys2Proof.Machine.execShri d a h s
  | .srai d a h => Sys2Proof.Machine.execSrai d a h s
  | .movi d i_ => Sys2Proof.Machine.execMovi d i_ s
  | .movhi d k i_ => Sys2Proof.Machine.execMovhi d k i_ s
  | .ext d a l p => Sys2Proof.Machine.execExt d a l p s
  | .ins d a l p => Sys2Proof.Machine.execIns d a l p s
  | .wrag d a s_ => Sys2Proof.Machine.execWrag d a s_ s
  | .wrmp d a => Sys2Proof.Machine.execWrmp d a s
  | .wreng a n => Sys2Proof.Machine.execWreng a n s
  | .qgo p g l => Sys2Proof.Machine.execQgo p g l s
  | .rdsched d => Sys2Proof.Machine.execRdsched d s
  | .rdgtime d => Sys2Proof.Machine.execRdgtime d s
  | .ldB d a i_ => Sys2Proof.Machine.execLdB d a i_ s
  | .ldH d a i_ => Sys2Proof.Machine.execLdH d a i_ s
  | .ldW d a i_ => Sys2Proof.Machine.execLdW d a i_ s
  | .ldD d a i_ => Sys2Proof.Machine.execLdD d a i_ s
  | .stB d a i_ => Sys2Proof.Machine.execStB d a i_ s
  | .stH d a i_ => Sys2Proof.Machine.execStH d a i_ s
  | .stW d a i_ => Sys2Proof.Machine.execStW d a i_ s
  | .stD d a i_ => Sys2Proof.Machine.execStD d a i_ s
  | .vld d a i_ => Sys2Proof.Machine.execVld d a i_ s
  | .vst d a i_ => Sys2Proof.Machine.execVst d a i_ s
  | .vldx d a b p => Sys2Proof.Machine.execVldx d a b p s
  | .vstx d a b p => Sys2Proof.Machine.execVstx d a b p s
  | .spldScalar d a k => Sys2Proof.Machine.execSpldScalar d a k s
  | .spstScalar d a k => Sys2Proof.Machine.execSpstScalar d a k s
  | .spldVector d a k => Sys2Proof.Machine.execSpldVector d a k s
  | .spstVector d a k => Sys2Proof.Machine.execSpstVector d a k s
  | .amoAdd d a b w => Sys2Proof.Machine.execAmoAdd d a b w s
  | .amoAnd d a b w => Sys2Proof.Machine.execAmoAnd d a b w s
  | .amoOr d a b w => Sys2Proof.Machine.execAmoOr d a b w s
  | .amoXor d a b w => Sys2Proof.Machine.execAmoXor d a b w s
  | .amoMin d a b w => Sys2Proof.Machine.execAmoMin d a b w s
  | .amoMax d a b w => Sys2Proof.Machine.execAmoMax d a b w s
  | .amoSwap d a b w => Sys2Proof.Machine.execAmoSwap d a b w s
  | .amoCas d a b c w => Sys2Proof.Machine.execAmoCas d a b c w s
  | .bind d a b => Sys2Proof.Machine.execBind d a b s
  | .acq a s_ => Sys2Proof.Machine.execAcq a s_ s
  | .rel a s_ => Sys2Proof.Machine.execRel a s_ s
  | .vadd d a b p t => Sys2Proof.Machine.execVadd d a b p t s
  | .vsub d a b p t => Sys2Proof.Machine.execVsub d a b p t s
  | .vand d a b p t => Sys2Proof.Machine.execVand d a b p t s
  | .vor d a b p t => Sys2Proof.Machine.execVor d a b p t s
  | .vxor d a b p t => Sys2Proof.Machine.execVxor d a b p t s
  | .vshl d a b p t => Sys2Proof.Machine.execVshl d a b p t s
  | .vshr d a b p t => Sys2Proof.Machine.execVshr d a b p t s
  | .vsra d a b p t => Sys2Proof.Machine.execVsra d a b p t s
  | .vmin d a b p t => Sys2Proof.Machine.execVmin d a b p t s
  | .vmax d a b p t => Sys2Proof.Machine.execVmax d a b p t s
  | .vabs d a p t => Sys2Proof.Machine.execVabs d a p t s
  | .vmul d a b p t => Sys2Proof.Machine.execVmul d a b p t s
  | .vmulh d a b p t => Sys2Proof.Machine.execVmulh d a b p t s
  | .vmadd d a b c p t => Sys2Proof.Machine.execVmadd d a b c p t s
  | .vfadd d a b p t => Sys2Proof.Machine.execVfadd d a b p t s
  | .vfsub d a b p t => Sys2Proof.Machine.execVfsub d a b p t s
  | .vfmul d a b p t => Sys2Proof.Machine.execVfmul d a b p t s
  | .vfmin d a b p t => Sys2Proof.Machine.execVfmin d a b p t s
  | .vfmax d a b p t => Sys2Proof.Machine.execVfmax d a b p t s
  | .vfabs d a p t => Sys2Proof.Machine.execVfabs d a p t s
  | .vfneg d a p t => Sys2Proof.Machine.execVfneg d a p t s
  | .vfma d a b c p t => Sys2Proof.Machine.execVfma d a b c p t s
  | .vfms d a b c p t => Sys2Proof.Machine.execVfms d a b c p t s
  | .vfnma d a b c p t => Sys2Proof.Machine.execVfnma d a b c p t s
  | .vfrcp d a p => Sys2Proof.Machine.execVfrcp d a p s
  | .vfrsq d a p => Sys2Proof.Machine.execVfrsq d a p s
  | .vfexp2 d a p => Sys2Proof.Machine.execVfexp2 d a p s
  | .vflog2 d a p => Sys2Proof.Machine.execVflog2 d a p s
  | .vcmp d a b p t f => Sys2Proof.Machine.execVcmp d a b p t f s
  | .vfcmp d a b p f => Sys2Proof.Machine.execVfcmp d a b p f s
  | .vfclass d a p => Sys2Proof.Machine.execVfclass d a p s
  | .vsel d a b c p => Sys2Proof.Machine.execVsel d a b c p s
  | .vperm d a b p => Sys2Proof.Machine.execVperm d a b p s
  | .vslide d a b c p => Sys2Proof.Machine.execVslide d a b c p s
  | .vrot d a c p => Sys2Proof.Machine.execVrot d a c p s
  | .vbcast d a p => Sys2Proof.Machine.execVbcast d a p s
  | .vext d a b => Sys2Proof.Machine.execVext d a b s
  | .vins d a b => Sys2Proof.Machine.execVins d a b s
  | .vredadd d a p t => Sys2Proof.Machine.execVredadd d a p t s
  | .vredmin d a p t => Sys2Proof.Machine.execVredmin d a p t s
  | .vredmax d a p t => Sys2Proof.Machine.execVredmax d a p t s
  | .vfredadd d a p => Sys2Proof.Machine.execVfredadd d a p s
  | .pand d a b p => Sys2Proof.Machine.execPand d a b p s
  | .por d a b p => Sys2Proof.Machine.execPor d a b p s
  | .pxor d a b p => Sys2Proof.Machine.execPxor d a b p s
  | .pnot d a p => Sys2Proof.Machine.execPnot d a p s
  | .pset d p => Sys2Proof.Machine.execPset d p s
  | .pclr d p => Sys2Proof.Machine.execPclr d p s
  | .pcnt d a p => Sys2Proof.Machine.execPcnt d a p s
  | .pfirst d a p => Sys2Proof.Machine.execPfirst d a p s
  | .vsig d a p => Sys2Proof.Machine.execVsig d a p s
  | .vsigset d a n p t => Sys2Proof.Machine.execVsigset d a n p t s
  | .vsiglt d a n p => Sys2Proof.Machine.execVsiglt d a n p s
  | .sigmin d a p => Sys2Proof.Machine.execSigmin d a p s
  | .vzmask d a p => Sys2Proof.Machine.execVzmask d a p s
  | .vsigCv d a p => Sys2Proof.Machine.execVsigCv d a p s
  | .vsigsetCv d a n p t => Sys2Proof.Machine.execVsigsetCv d a n p t s
  | .vsigltCv d a n p => Sys2Proof.Machine.execVsigltCv d a n p s
  | .sigminCv d a p => Sys2Proof.Machine.execSigminCv d a p s
  | .vzmaskCv d a p => Sys2Proof.Machine.execVzmaskCv d a p s
  | .vcvt d a s_ p t r => Sys2Proof.Machine.execVcvt d a s_ p t r s
  | .vpack d a b p t r => Sys2Proof.Machine.execVpack d a b p t r s
  | .vunpack d a p t e => Sys2Proof.Machine.execVunpack d a p t e s
  | .vcbdec d a p t e => Sys2Proof.Machine.execVcbdec d a p t e s
  | .vscale d a b p t r => Sys2Proof.Machine.execVscale d a b p t r s
  | .mma m n c a b k z p => Sys2Proof.Machine.execMma m n c a b k z p s
  | .mmaBin m n c a b k z p => Sys2Proof.Machine.execMmaBin m n c a b k z p s
  | .mzero m n c => Sys2Proof.Machine.execMzero m n c s
  | .mrd m n c a b t => Sys2Proof.Machine.execMrd m n c a b t s
  | .mwr m n c a t => Sys2Proof.Machine.execMwr m n c a t s
  | .mld n k a => Sys2Proof.Machine.execMld n k a s
  | .mcall d a i_ => Sys2Proof.Machine.execMcall d a i_ s
  | .cpy h o n a b l => Sys2Proof.Machine.execCpy h o n a b l s
  | .cpyg h o a b l => Sys2Proof.Machine.execCpyg h o a b l s
  | .cpys h o a b l => Sys2Proof.Machine.execCpys h o a b l s
  | .cpyf h o n a l => Sys2Proof.Machine.execCpyf h o n a l s
  | .ovl h a b l => Sys2Proof.Machine.execOvl h a b l s
  | .gamoAdd w a b l => Sys2Proof.Machine.execGamoAdd w a b l s
  | .gamoAnd w a b l => Sys2Proof.Machine.execGamoAnd w a b l s
  | .gamoOr w a b l => Sys2Proof.Machine.execGamoOr w a b l s
  | .gamoXor w a b l => Sys2Proof.Machine.execGamoXor w a b l s
  | .gamoMin w a b l => Sys2Proof.Machine.execGamoMin w a b l s
  | .gamoMax w a b l => Sys2Proof.Machine.execGamoMax w a b l s
  | .gamoSwap w a b l => Sys2Proof.Machine.execGamoSwap w a b l s
  | .gamoCas w a b l => Sys2Proof.Machine.execGamoCas w a b l s
  | .gamoAcqAdd w a b l => Sys2Proof.Machine.execGamoAcqAdd w a b l s
  | .gamoAcqAnd w a b l => Sys2Proof.Machine.execGamoAcqAnd w a b l s
  | .gamoAcqOr w a b l => Sys2Proof.Machine.execGamoAcqOr w a b l s
  | .gamoAcqXor w a b l => Sys2Proof.Machine.execGamoAcqXor w a b l s
  | .gamoAcqMin w a b l => Sys2Proof.Machine.execGamoAcqMin w a b l s
  | .gamoAcqMax w a b l => Sys2Proof.Machine.execGamoAcqMax w a b l s
  | .gamoAcqSwap w a b l => Sys2Proof.Machine.execGamoAcqSwap w a b l s
  | .gamoAcqCas w a b l => Sys2Proof.Machine.execGamoAcqCas w a b l s
  | .gamoRelAdd w a b l => Sys2Proof.Machine.execGamoRelAdd w a b l s
  | .gamoRelAnd w a b l => Sys2Proof.Machine.execGamoRelAnd w a b l s
  | .gamoRelOr w a b l => Sys2Proof.Machine.execGamoRelOr w a b l s
  | .gamoRelXor w a b l => Sys2Proof.Machine.execGamoRelXor w a b l s
  | .gamoRelMin w a b l => Sys2Proof.Machine.execGamoRelMin w a b l s
  | .gamoRelMax w a b l => Sys2Proof.Machine.execGamoRelMax w a b l s
  | .gamoRelSwap w a b l => Sys2Proof.Machine.execGamoRelSwap w a b l s
  | .gamoRelCas w a b l => Sys2Proof.Machine.execGamoRelCas w a b l s
  | .fsend a b l => Sys2Proof.Machine.execFsend a b l s
  | .frecv a l => Sys2Proof.Machine.execFrecv a l s
  | .frecvAddF32 a b l => Sys2Proof.Machine.execFrecvAddF32 a b l s
  | .frecvAddBf16 a b l => Sys2Proof.Machine.execFrecvAddBf16 a b l s
  | .frecvMaxF32 a b l => Sys2Proof.Machine.execFrecvMaxF32 a b l s
  | .lnch a b l => Sys2Proof.Machine.execLnch a b l s
  | .cwait => Sys2Proof.Machine.execCwait s
  | .waittExpiry core => Sys2Proof.Machine.execWaittExpiry core s
  | .waitgExpiry core => Sys2Proof.Machine.execWaitgExpiry core s
  | .barrierRelease launch level unit => Sys2Proof.Machine.execBarrierRelease launch level unit s
  | .cycleBoundary core => Sys2Proof.Machine.execCycleBoundary core s
  | .resultLanding core uid => Sys2Proof.Machine.execResultLanding core uid s
  | .storeLanding core uid => Sys2Proof.Machine.execStoreLanding core uid s
  | .loadSample core uid => Sys2Proof.Machine.execLoadSample core uid s
  | .freezeStaggerStop core => Sys2Proof.Machine.execFreezeStaggerStop core s
  | .thaw launch => Sys2Proof.Machine.execThaw launch s
  | .handlerStart core => Sys2Proof.Machine.execHandlerStart core s
  | .tretComplete core => Sys2Proof.Machine.execTretComplete core s
  | .cwaitEnd core => Sys2Proof.Machine.execCwaitEnd core s
  | .killFreeze launch => Sys2Proof.Machine.execKillFreeze launch s
  | .dumpWrite => Sys2Proof.Machine.execDumpWrite s
  | .timerInterrupt core => Sys2Proof.Machine.execTimerInterrupt core s
  | .belfryInterruptRequest core => Sys2Proof.Machine.execBelfryInterruptRequest core s
  | .debugInterruptRequest core => Sys2Proof.Machine.execDebugInterruptRequest core s
  | .queueGeneratorStart core uid => Sys2Proof.Machine.execQueueGeneratorStart core uid s
  | .generatorSample core uid => Sys2Proof.Machine.execGeneratorSample core uid s
  | .generatorDelivery core uid => Sys2Proof.Machine.execGeneratorDelivery core uid s
  | .generatorTake core uid => Sys2Proof.Machine.execGeneratorTake core uid s
  | .generatorLanding core uid => Sys2Proof.Machine.execGeneratorLanding core uid s
  | .copyStart core uid => Sys2Proof.Machine.execCopyStart core uid s
  | .pageWalkComplete core uid => Sys2Proof.Machine.execPageWalkComplete core uid s
  | .chunkSample core uid => Sys2Proof.Machine.execChunkSample core uid s
  | .chunkLanding core uid => Sys2Proof.Machine.execChunkLanding core uid s
  | .gatherIndexSample core uid => Sys2Proof.Machine.execGatherIndexSample core uid s
  | .gatherElementSample core uid => Sys2Proof.Machine.execGatherElementSample core uid s
  | .gatherElementLanding core uid => Sys2Proof.Machine.execGatherElementLanding core uid s
  | .overlayLanding core uid => Sys2Proof.Machine.execOverlayLanding core uid s
  | .handlerChannelLanding core uid => Sys2Proof.Machine.execHandlerChannelLanding core uid s
  | .matrixCommandStart core uid => Sys2Proof.Machine.execMatrixCommandStart core uid s
  | .mcallStart core uid => Sys2Proof.Machine.execMcallStart core uid s
  | .passSample core uid => Sys2Proof.Machine.execPassSample core uid s
  | .passLanding core uid => Sys2Proof.Machine.execPassLanding core uid s
  | .mzeroBlockLanding core uid => Sys2Proof.Machine.execMzeroBlockLanding core uid s
  | .mrdStepSample core uid => Sys2Proof.Machine.execMrdStepSample core uid s
  | .mrdStepLanding core uid => Sys2Proof.Machine.execMrdStepLanding core uid s
  | .mwrStepSample core uid => Sys2Proof.Machine.execMwrStepSample core uid s
  | .mwrStepLanding core uid => Sys2Proof.Machine.execMwrStepLanding core uid s
  | .mldSample core uid => Sys2Proof.Machine.execMldSample core uid s
  | .mldLanding core uid => Sys2Proof.Machine.execMldLanding core uid s
  | .amoApply core uid => Sys2Proof.Machine.execAmoApply core uid s
  | .gamoStart core uid => Sys2Proof.Machine.execGamoStart core uid s
  | .gamoApply core uid => Sys2Proof.Machine.execGamoApply core uid s
  | .gamoOldValueLanding core uid => Sys2Proof.Machine.execGamoOldValueLanding core uid s
  | .relIncrement core uid => Sys2Proof.Machine.execRelIncrement core uid s
  | .acqSample core uid => Sys2Proof.Machine.execAcqSample core uid s
  | .lnchStart core uid => Sys2Proof.Machine.execLnchStart core uid s
  | .lnchArrival core uid => Sys2Proof.Machine.execLnchArrival core uid s
  | .flitSample core uid => Sys2Proof.Machine.execFlitSample core uid s
  | .streamFlitSample core uid => Sys2Proof.Machine.execStreamFlitSample core uid s
  | .streamPacketReceive pkt => Sys2Proof.Machine.execStreamPacketReceive pkt s
  | .flitReceive core uid => Sys2Proof.Machine.execFlitReceive core uid s
  | .skewFlitArrival launch => Sys2Proof.Machine.execSkewFlitArrival launch s
  | .skewBudgetExpiry core => Sys2Proof.Machine.execSkewBudgetExpiry core s
  | .skewThaw launch => Sys2Proof.Machine.execSkewThaw launch s
  | .frameSend port => Sys2Proof.Machine.execFrameSend port s
  | .frameReceive fr => Sys2Proof.Machine.execFrameReceive fr s
  | .retryRequest port fnum => Sys2Proof.Machine.execRetryRequest port fnum s
  | .flitArrivalTimeout port => Sys2Proof.Machine.execFlitArrivalTimeout port s
  | .portRetrain port => Sys2Proof.Machine.execPortRetrain port s
  | .portTrained port => Sys2Proof.Machine.execPortTrained port s
  | .barrierArrivalMessage corr req schc => Sys2Proof.Machine.execBarrierArrivalMessage corr req schc s
  | .freezeMessage corr kind => Sys2Proof.Machine.execFreezeMessage corr kind s
  | .ptpEventMessage msg => Sys2Proof.Machine.execPtpEventMessage msg s
  | .syncInterval => Sys2Proof.Machine.execSyncInterval s
  | .lossOfMaster => Sys2Proof.Machine.execLossOfMaster s
  | .linkHealthTick lanes => Sys2Proof.Machine.execLinkHealthTick lanes s
  | .submit queue => Sys2Proof.Machine.execSubmit queue s
  | .kill queue => Sys2Proof.Machine.execKill queue s
  | .preempt queue => Sys2Proof.Machine.execPreempt queue s
  | .queueEvaluation => Sys2Proof.Machine.execQueueEvaluation s
  | .priorityAging launch => Sys2Proof.Machine.execPriorityAging launch s
  | .startTick launch => Sys2Proof.Machine.execStartTick launch s
  | .preemptionFreeze launch => Sys2Proof.Machine.execPreemptionFreeze launch s
  | .contextSave launch => Sys2Proof.Machine.execContextSave launch s
  | .launchComplete launch => Sys2Proof.Machine.execLaunchComplete launch s
  | .query mailbox => Sys2Proof.Machine.execQuery mailbox s
  | .readtt mailbox => Sys2Proof.Machine.execReadtt mailbox s
  | .readunit mailbox => Sys2Proof.Machine.execReadunit mailbox s
  | .condemn mailbox => Sys2Proof.Machine.execCondemn mailbox s
  | .selftest mailbox => Sys2Proof.Machine.execSelftest mailbox s
  | .setthr mailbox => Sys2Proof.Machine.execSetthr mailbox s
  | .install mailbox => Sys2Proof.Machine.execInstall mailbox s
  | .setresv mailbox => Sys2Proof.Machine.execSetresv mailbox s
  | .unitReplacement tower => Sys2Proof.Machine.execUnitReplacement tower s
  | .marktag => Sys2Proof.Machine.execMarktag s
  | .inval => Sys2Proof.Machine.execInval s
  | .regobj => Sys2Proof.Machine.execRegobj s
  | .unreg => Sys2Proof.Machine.execUnreg s
  | .setdesc => Sys2Proof.Machine.execSetdesc s
  | .settimer => Sys2Proof.Machine.execSettimer s
  | .resumehost => Sys2Proof.Machine.execResumehost s
  | .dombubble => Sys2Proof.Machine.execDombubble s
  | .hostRead offset size => Sys2Proof.Machine.execHostRead offset size s
  | .hostWrite offset data relaxed => Sys2Proof.Machine.execHostWrite offset data relaxed s
  | .hostAtomic op offset width operand comparand => Sys2Proof.Machine.execHostAtomic op offset width operand comparand s
  | .stop tower => Sys2Proof.Machine.execStop tower s
  | .run tower => Sys2Proof.Machine.execRun tower s
  | .step tower => Sys2Proof.Machine.execStep tower s
  | .snap tower => Sys2Proof.Machine.execSnap tower s
  | .stepEnd launch => Sys2Proof.Machine.execStepEnd launch s
  | .thermalBubble => Sys2Proof.Machine.execThermalBubble s
  | .bubbleEnd => Sys2Proof.Machine.execBubbleEnd s
  | .telemetryUpdate rails => Sys2Proof.Machine.execTelemetryUpdate rails s
  | .powerCapUpdate tower watts margin => Sys2Proof.Machine.execPowerCapUpdate tower watts margin s
  | .hbmScrub line err => Sys2Proof.Machine.execHbmScrub line err s
  | .packageReset => Sys2Proof.Machine.execPackageReset s
  | .powerOff => Sys2Proof.Machine.execPowerOff s
  | .registerWrite offset value => Sys2Proof.Machine.execRegisterWrite offset value s
  | .illop w => Sys2Proof.Machine.execIllop w s
  | .belfryIssuedAccess belfry queue op => Sys2Proof.Machine.execBelfryIssuedAccess belfry queue op s
  | .malformedPacket queue => Sys2Proof.Machine.execMalformedPacket queue s
  | .submissionDigestExchange corr part => Sys2Proof.Machine.execSubmissionDigestExchange corr part s
  | .stackAboveMaximumTemperature stack => Sys2Proof.Machine.execStackAboveMaximumTemperature stack s

end Sys2Proof.Machine
end

