-- ==== Sys2Proof/Machine/Step.lean ====
section
/-! DEFINITION. One step: the next syllable or event, or the next stage of the wall cycle (log 32). -/

namespace Sys2Proof.Machine

/-- One step of the package. -/
def step (s : State) : Host.Outcome State Fault Refusal :=
  match s.due with
  | some (.syllable i) => issued (exec i s)
  | some (.bad w) => issued (execIllop w s)
  | some (.event e) => e.exec s
  | some (.input e) => e.exec (s.dropInput e)
  | none => .next s.advance

/-- The syllable of an opcode-table word placed where the next step issues it: a launch of one task runs on core 0, and the word stands in
the bundle at its pc, in the slot whose class decodes it (log 5, log 33). -/
def State.withFetchWord (s : State) (nbits w : Nat) : State :=
  match if nbits = 32 then firstDecode tableOrder (BitVec.ofNat 32 w) else none with
  | some (slot, _) => s.placeWord slot (BitVec.ofNat 32 w)
  | none => s

end Sys2Proof.Machine
end

