-- ==== Sys2Proof/Laws/PerInstr.lean ====
section
/-! SUPPORT. Decoding gives back every well-formed syllable that `encode` writes: one lemma for each constructor. -/

namespace Sys2Proof.Laws.RoundTrip

/-- In every slot whose class holds the instruction, its word decodes to it. -/
def Statement (i : Instr) : Prop :=
  ∀ w k, i.wellFormed = true → encode i = some w → k ∈ i.slots → decodeSlot k w = some i

theorem toNat_syl {m : Nat} {fs : List (Nat × Nat)} (h : sylValue m fs < 4294967296) : (syl m fs).toNat = sylValue m fs := by
  simp only [syl, BitVec.toNat_ofNat]
  exact Nat.mod_eq_of_lt h

theorem fld_eq {w : BitVec 32} {lo n : Nat} {v : BitVec n} (h : w.toNat / 2 ^ lo % 2 ^ n = v.toNat) : fld w lo n = v := by
  apply BitVec.eq_of_toNat_eq
  simpa only [fld, BitVec.toNat_ofNat] using h

/-- The lowest digit of a value in mixed radix. -/
theorem dig {x lo k v r : Nat} (h : x / 2 ^ lo = v + 2 ^ k * r) (hv : v < 2 ^ k) : x / 2 ^ lo % 2 ^ k = v := by
  rw [h, Nat.add_mul_mod_self_left, Nat.mod_eq_of_lt hv]

/-- The rest of a value above its lowest digit. -/
theorem nxt {x lo k v r : Nat} (h : x / 2 ^ lo = v + 2 ^ k * r) (hv : v < 2 ^ k) : x / 2 ^ (lo + k) = r := by
  rw [Nat.pow_add, ← Nat.div_div_eq_div_mul, h, Nat.add_mul_div_left _ _ (Nat.two_pow_pos k), Nat.div_eq_of_lt hv, Nat.zero_add]

theorem ne_zero {x : BitVec 32} {lo n v : Nat} (h : bits x lo n = v) (hv : v ≠ 0) : x.toNat ≠ 0 := by
  intro hx
  simp [bits, hx] at h
  exact hv h.symm

theorem mem_slots1 {i : Instr} {k a : Nat} (h : i.slots = [a]) (hk : k ∈ i.slots) : k = a := by simpa [h] using hk

theorem mem_slots2 {i : Instr} {k a b : Nat} (h : i.slots = [a, b]) (hk : k ∈ i.slots) : k = a ∨ k = b := by
  simpa [h] using hk

/-- What the map of each slot gives is what `decodeSlot` gives of a well-formed instruction. -/
theorem statement_of {i : Instr} {w : BitVec 32} (he : encode i = some w) (h : ∀ k, k ∈ i.slots → decodeMap k w = some i) :
    Statement i := by
  intro v k hwf hv hk
  cases he.symm.trans hv
  simp [decodeSlot, h k hk, hwf]

theorem nop : Statement .nop := by
  intro w k hwf he _
  cases he
  simp [decodeSlot, decodeMap, hwf]

theorem brZ (c : BitVec 5) (o : BitVec 21) : Statement (.brZ c o) := by
  have h0 := c.isLt
  have h1 := o.isLt
  have hv : (syl 0x04000000 [(c.toNat, 21), (o.toNat, 0)]).toNat = _ := toNat_syl (by simp only [sylValue]; omega)
  simp only [sylValue] at hv
  refine statement_of rfl ?_
  generalize syl 0x04000000 [(c.toNat, 21), (o.toNat, 0)] = x at hv ⊢
  have g0 : x.toNat / 2 ^ 0 = o.toNat + 2 ^ 21 * (c.toNat + 2 ^ 5 * (1 + 2 ^ 6 * 0)) := by rw [Nat.pow_zero, Nat.div_one, hv]; omega
  have g1 : x.toNat / 2 ^ 21 = c.toNat + 2 ^ 5 * (1 + 2 ^ 6 * 0) := nxt g0 o.isLt
  have g2 : x.toNat / 2 ^ 26 = 1 + 2 ^ 6 * 0 := nxt g1 c.isLt
  have q0 : bits x 26 6 = 1 := dig g2 (by decide)
  have f0 : fld x 21 5 = c := fld_eq (dig g1 c.isLt)
  have f1 : fld x 0 21 = o := fld_eq (dig g0 o.isLt)
  have hz : x.toNat ≠ 0 := ne_zero q0 (by decide)
  intro k hk
  replace hk := mem_slots1 rfl hk
  subst hk; simp [hz, decodeMap, decodeCtrl, q0, f0, f1]

theorem brNz (c : BitVec 5) (o : BitVec 21) : Statement (.brNz c o) := by
  have h0 := c.isLt
  have h1 := o.isLt
  have hv : (syl 0x08000000 [(c.toNat, 21), (o.toNat, 0)]).toNat = _ := toNat_syl (by simp only [sylValue]; omega)
  simp only [sylValue] at hv
  refine statement_of rfl ?_
  generalize syl 0x08000000 [(c.toNat, 21), (o.toNat, 0)] = x at hv ⊢
  have g0 : x.toNat / 2 ^ 0 = o.toNat + 2 ^ 21 * (c.toNat + 2 ^ 5 * (2 + 2 ^ 6 * 0)) := by rw [Nat.pow_zero, Nat.div_one, hv]; omega
  have g1 : x.toNat / 2 ^ 21 = c.toNat + 2 ^ 5 * (2 + 2 ^ 6 * 0) := nxt g0 o.isLt
  have g2 : x.toNat / 2 ^ 26 = 2 + 2 ^ 6 * 0 := nxt g1 c.isLt
  have q0 : bits x 26 6 = 2 := dig g2 (by decide)
  have f0 : fld x 21 5 = c := fld_eq (dig g1 c.isLt)
  have f1 : fld x 0 21 = o := fld_eq (dig g0 o.isLt)
  have hz : x.toNat ≠ 0 := ne_zero q0 (by decide)
  intro k hk
  replace hk := mem_slots1 rfl hk
  subst hk; simp [hz, decodeMap, decodeCtrl, q0, f0, f1]

theorem brLz (c : BitVec 5) (o : BitVec 21) : Statement (.brLz c o) := by
  have h0 := c.isLt
  have h1 := o.isLt
  have hv : (syl 0x0C000000 [(c.toNat, 21), (o.toNat, 0)]).toNat = _ := toNat_syl (by simp only [sylValue]; omega)
  simp only [sylValue] at hv
  refine statement_of rfl ?_
  generalize syl 0x0C000000 [(c.toNat, 21), (o.toNat, 0)] = x at hv ⊢
  have g0 : x.toNat / 2 ^ 0 = o.toNat + 2 ^ 21 * (c.toNat + 2 ^ 5 * (3 + 2 ^ 6 * 0)) := by rw [Nat.pow_zero, Nat.div_one, hv]; omega
  have g1 : x.toNat / 2 ^ 21 = c.toNat + 2 ^ 5 * (3 + 2 ^ 6 * 0) := nxt g0 o.isLt
  have g2 : x.toNat / 2 ^ 26 = 3 + 2 ^ 6 * 0 := nxt g1 c.isLt
  have q0 : bits x 26 6 = 3 := dig g2 (by decide)
  have f0 : fld x 21 5 = c := fld_eq (dig g1 c.isLt)
  have f1 : fld x 0 21 = o := fld_eq (dig g0 o.isLt)
  have hz : x.toNat ≠ 0 := ne_zero q0 (by decide)
  intro k hk
  replace hk := mem_slots1 rfl hk
  subst hk; simp [hz, decodeMap, decodeCtrl, q0, f0, f1]

theorem brGez (c : BitVec 5) (o : BitVec 21) : Statement (.brGez c o) := by
  have h0 := c.isLt
  have h1 := o.isLt
  have hv : (syl 0x10000000 [(c.toNat, 21), (o.toNat, 0)]).toNat = _ := toNat_syl (by simp only [sylValue]; omega)
  simp only [sylValue] at hv
  refine statement_of rfl ?_
  generalize syl 0x10000000 [(c.toNat, 21), (o.toNat, 0)] = x at hv ⊢
  have g0 : x.toNat / 2 ^ 0 = o.toNat + 2 ^ 21 * (c.toNat + 2 ^ 5 * (4 + 2 ^ 6 * 0)) := by rw [Nat.pow_zero, Nat.div_one, hv]; omega
  have g1 : x.toNat / 2 ^ 21 = c.toNat + 2 ^ 5 * (4 + 2 ^ 6 * 0) := nxt g0 o.isLt
  have g2 : x.toNat / 2 ^ 26 = 4 + 2 ^ 6 * 0 := nxt g1 c.isLt
  have q0 : bits x 26 6 = 4 := dig g2 (by decide)
  have f0 : fld x 21 5 = c := fld_eq (dig g1 c.isLt)
  have f1 : fld x 0 21 = o := fld_eq (dig g0 o.isLt)
  have hz : x.toNat ≠ 0 := ne_zero q0 (by decide)
  intro k hk
  replace hk := mem_slots1 rfl hk
  subst hk; simp [hz, decodeMap, decodeCtrl, q0, f0, f1]

theorem brP (c : BitVec 5) (o : BitVec 21) : Statement (.brP c o) := by
  have h0 := c.isLt
  have h1 := o.isLt
  have hv : (syl 0x14000000 [(c.toNat, 21), (o.toNat, 0)]).toNat = _ := toNat_syl (by simp only [sylValue]; omega)
  simp only [sylValue] at hv
  refine statement_of rfl ?_
  generalize syl 0x14000000 [(c.toNat, 21), (o.toNat, 0)] = x at hv ⊢
  have g0 : x.toNat / 2 ^ 0 = o.toNat + 2 ^ 21 * (c.toNat + 2 ^ 5 * (5 + 2 ^ 6 * 0)) := by rw [Nat.pow_zero, Nat.div_one, hv]; omega
  have g1 : x.toNat / 2 ^ 21 = c.toNat + 2 ^ 5 * (5 + 2 ^ 6 * 0) := nxt g0 o.isLt
  have g2 : x.toNat / 2 ^ 26 = 5 + 2 ^ 6 * 0 := nxt g1 c.isLt
  have q0 : bits x 26 6 = 5 := dig g2 (by decide)
  have f0 : fld x 21 5 = c := fld_eq (dig g1 c.isLt)
  have f1 : fld x 0 21 = o := fld_eq (dig g0 o.isLt)
  have hz : x.toNat ≠ 0 := ne_zero q0 (by decide)
  intro k hk
  replace hk := mem_slots1 rfl hk
  subst hk; simp [hz, decodeMap, decodeCtrl, q0, f0, f1]

theorem brAny (c : BitVec 5) (o : BitVec 21) : Statement (.brAny c o) := by
  have h0 := c.isLt
  have h1 := o.isLt
  have hv : (syl 0x18000000 [(c.toNat, 21), (o.toNat, 0)]).toNat = _ := toNat_syl (by simp only [sylValue]; omega)
  simp only [sylValue] at hv
  refine statement_of rfl ?_
  generalize syl 0x18000000 [(c.toNat, 21), (o.toNat, 0)] = x at hv ⊢
  have g0 : x.toNat / 2 ^ 0 = o.toNat + 2 ^ 21 * (c.toNat + 2 ^ 5 * (6 + 2 ^ 6 * 0)) := by rw [Nat.pow_zero, Nat.div_one, hv]; omega
  have g1 : x.toNat / 2 ^ 21 = c.toNat + 2 ^ 5 * (6 + 2 ^ 6 * 0) := nxt g0 o.isLt
  have g2 : x.toNat / 2 ^ 26 = 6 + 2 ^ 6 * 0 := nxt g1 c.isLt
  have q0 : bits x 26 6 = 6 := dig g2 (by decide)
  have f0 : fld x 21 5 = c := fld_eq (dig g1 c.isLt)
  have f1 : fld x 0 21 = o := fld_eq (dig g0 o.isLt)
  have hz : x.toNat ≠ 0 := ne_zero q0 (by decide)
  intro k hk
  replace hk := mem_slots1 rfl hk
  subst hk; simp [hz, decodeMap, decodeCtrl, q0, f0, f1]

theorem brAll (c : BitVec 5) (o : BitVec 21) : Statement (.brAll c o) := by
  have h0 := c.isLt
  have h1 := o.isLt
  have hv : (syl 0x1C000000 [(c.toNat, 21), (o.toNat, 0)]).toNat = _ := toNat_syl (by simp only [sylValue]; omega)
  simp only [sylValue] at hv
  refine statement_of rfl ?_
  generalize syl 0x1C000000 [(c.toNat, 21), (o.toNat, 0)] = x at hv ⊢
  have g0 : x.toNat / 2 ^ 0 = o.toNat + 2 ^ 21 * (c.toNat + 2 ^ 5 * (7 + 2 ^ 6 * 0)) := by rw [Nat.pow_zero, Nat.div_one, hv]; omega
  have g1 : x.toNat / 2 ^ 21 = c.toNat + 2 ^ 5 * (7 + 2 ^ 6 * 0) := nxt g0 o.isLt
  have g2 : x.toNat / 2 ^ 26 = 7 + 2 ^ 6 * 0 := nxt g1 c.isLt
  have q0 : bits x 26 6 = 7 := dig g2 (by decide)
  have f0 : fld x 21 5 = c := fld_eq (dig g1 c.isLt)
  have f1 : fld x 0 21 = o := fld_eq (dig g0 o.isLt)
  have hz : x.toNat ≠ 0 := ne_zero q0 (by decide)
  intro k hk
  replace hk := mem_slots1 rfl hk
  subst hk; simp [hz, decodeMap, decodeCtrl, q0, f0, f1]

theorem brNone (c : BitVec 5) (o : BitVec 21) : Statement (.brNone c o) := by
  have h0 := c.isLt
  have h1 := o.isLt
  have hv : (syl 0x20000000 [(c.toNat, 21), (o.toNat, 0)]).toNat = _ := toNat_syl (by simp only [sylValue]; omega)
  simp only [sylValue] at hv
  refine statement_of rfl ?_
  generalize syl 0x20000000 [(c.toNat, 21), (o.toNat, 0)] = x at hv ⊢
  have g0 : x.toNat / 2 ^ 0 = o.toNat + 2 ^ 21 * (c.toNat + 2 ^ 5 * (8 + 2 ^ 6 * 0)) := by rw [Nat.pow_zero, Nat.div_one, hv]; omega
  have g1 : x.toNat / 2 ^ 21 = c.toNat + 2 ^ 5 * (8 + 2 ^ 6 * 0) := nxt g0 o.isLt
  have g2 : x.toNat / 2 ^ 26 = 8 + 2 ^ 6 * 0 := nxt g1 c.isLt
  have q0 : bits x 26 6 = 8 := dig g2 (by decide)
  have f0 : fld x 21 5 = c := fld_eq (dig g1 c.isLt)
  have f1 : fld x 0 21 = o := fld_eq (dig g0 o.isLt)
  have hz : x.toNat ≠ 0 := ne_zero q0 (by decide)
  intro k hk
  replace hk := mem_slots1 rfl hk
  subst hk; simp [hz, decodeMap, decodeCtrl, q0, f0, f1]

theorem jmp (o : BitVec 21) : Statement (.jmp o) := by
  have h0 := o.isLt
  have hv : (syl 0x24000000 [(o.toNat, 0)]).toNat = _ := toNat_syl (by simp only [sylValue]; omega)
  simp only [sylValue] at hv
  refine statement_of rfl ?_
  generalize syl 0x24000000 [(o.toNat, 0)] = x at hv ⊢
  have g0 : x.toNat / 2 ^ 0 = o.toNat + 2 ^ 21 * (0 + 2 ^ 5 * (9 + 2 ^ 6 * 0)) := by rw [Nat.pow_zero, Nat.div_one, hv]; omega
  have g1 : x.toNat / 2 ^ 21 = 0 + 2 ^ 5 * (9 + 2 ^ 6 * 0) := nxt g0 o.isLt
  have g2 : x.toNat / 2 ^ 26 = 9 + 2 ^ 6 * 0 := nxt g1 (by decide)
  have q0 : bits x 26 6 = 9 := dig g2 (by decide)
  have q1 : bits x 21 5 = 0 := dig g1 (by decide)
  have f0 : fld x 0 21 = o := fld_eq (dig g0 o.isLt)
  have hz : x.toNat ≠ 0 := ne_zero q0 (by decide)
  intro k hk
  replace hk := mem_slots1 rfl hk
  subst hk; simp [hz, decodeMap, decodeCtrl, q0, q1, f0]

theorem call (o : BitVec 21) : Statement (.call o) := by
  have h0 := o.isLt
  have hv : (syl 0x28000000 [(o.toNat, 0)]).toNat = _ := toNat_syl (by simp only [sylValue]; omega)
  simp only [sylValue] at hv
  refine statement_of rfl ?_
  generalize syl 0x28000000 [(o.toNat, 0)] = x at hv ⊢
  have g0 : x.toNat / 2 ^ 0 = o.toNat + 2 ^ 21 * (0 + 2 ^ 5 * (10 + 2 ^ 6 * 0)) := by rw [Nat.pow_zero, Nat.div_one, hv]; omega
  have g1 : x.toNat / 2 ^ 21 = 0 + 2 ^ 5 * (10 + 2 ^ 6 * 0) := nxt g0 o.isLt
  have g2 : x.toNat / 2 ^ 26 = 10 + 2 ^ 6 * 0 := nxt g1 (by decide)
  have q0 : bits x 26 6 = 10 := dig g2 (by decide)
  have q1 : bits x 21 5 = 0 := dig g1 (by decide)
  have f0 : fld x 0 21 = o := fld_eq (dig g0 o.isLt)
  have hz : x.toNat ≠ 0 := ne_zero q0 (by decide)
  intro k hk
  replace hk := mem_slots1 rfl hk
  subst hk; simp [hz, decodeMap, decodeCtrl, q0, q1, f0]

theorem jmpi (a : BitVec 5) : Statement (.jmpi a) := by
  have h0 := a.isLt
  have hv : (syl 0x2C000000 [(a.toNat, 16)]).toNat = _ := toNat_syl (by simp only [sylValue]; omega)
  simp only [sylValue] at hv
  refine statement_of rfl ?_
  generalize syl 0x2C000000 [(a.toNat, 16)] = x at hv ⊢
  have g0 : x.toNat / 2 ^ 0 = 0 + 2 ^ 16 * (a.toNat + 2 ^ 5 * (0 + 2 ^ 5 * (11 + 2 ^ 6 * 0))) := by rw [Nat.pow_zero, Nat.div_one, hv]; omega
  have g1 : x.toNat / 2 ^ 16 = a.toNat + 2 ^ 5 * (0 + 2 ^ 5 * (11 + 2 ^ 6 * 0)) := nxt g0 (by decide)
  have g2 : x.toNat / 2 ^ 21 = 0 + 2 ^ 5 * (11 + 2 ^ 6 * 0) := nxt g1 a.isLt
  have g3 : x.toNat / 2 ^ 26 = 11 + 2 ^ 6 * 0 := nxt g2 (by decide)
  have q0 : bits x 26 6 = 11 := dig g3 (by decide)
  have q1 : bits x 21 5 = 0 := dig g2 (by decide)
  have q2 : bits x 0 16 = 0 := dig g0 (by decide)
  have f0 : fld x 16 5 = a := fld_eq (dig g1 a.isLt)
  have hz : x.toNat ≠ 0 := ne_zero q0 (by decide)
  intro k hk
  replace hk := mem_slots1 rfl hk
  subst hk; simp [hz, decodeMap, decodeCtrl, q0, q1, q2, f0]

theorem calli (a : BitVec 5) : Statement (.calli a) := by
  have h0 := a.isLt
  have hv : (syl 0x30000000 [(a.toNat, 16)]).toNat = _ := toNat_syl (by simp only [sylValue]; omega)
  simp only [sylValue] at hv
  refine statement_of rfl ?_
  generalize syl 0x30000000 [(a.toNat, 16)] = x at hv ⊢
  have g0 : x.toNat / 2 ^ 0 = 0 + 2 ^ 16 * (a.toNat + 2 ^ 5 * (0 + 2 ^ 5 * (12 + 2 ^ 6 * 0))) := by rw [Nat.pow_zero, Nat.div_one, hv]; omega
  have g1 : x.toNat / 2 ^ 16 = a.toNat + 2 ^ 5 * (0 + 2 ^ 5 * (12 + 2 ^ 6 * 0)) := nxt g0 (by decide)
  have g2 : x.toNat / 2 ^ 21 = 0 + 2 ^ 5 * (12 + 2 ^ 6 * 0) := nxt g1 a.isLt
  have g3 : x.toNat / 2 ^ 26 = 12 + 2 ^ 6 * 0 := nxt g2 (by decide)
  have q0 : bits x 26 6 = 12 := dig g3 (by decide)
  have q1 : bits x 21 5 = 0 := dig g2 (by decide)
  have q2 : bits x 0 16 = 0 := dig g0 (by decide)
  have f0 : fld x 16 5 = a := fld_eq (dig g1 a.isLt)
  have hz : x.toNat ≠ 0 := ne_zero q0 (by decide)
  intro k hk
  replace hk := mem_slots1 rfl hk
  subst hk; simp [hz, decodeMap, decodeCtrl, q0, q1, q2, f0]

theorem ret : Statement .ret := by
  have hv : (syl 0x34000000 []).toNat = 0x34000000 := rfl
  refine statement_of rfl ?_
  generalize syl 0x34000000 [] = x at hv ⊢
  have g0 : x.toNat / 2 ^ 0 = 0 + 2 ^ 26 * (13 + 2 ^ 6 * 0) := by rw [Nat.pow_zero, Nat.div_one]; exact hv
  have g1 : x.toNat / 2 ^ 26 = 13 + 2 ^ 6 * 0 := nxt g0 (by decide)
  have q0 : bits x 26 6 = 13 := dig g1 (by decide)
  have q1 : bits x 0 26 = 0 := dig g0 (by decide)
  have hz : x.toNat ≠ 0 := ne_zero q0 (by decide)
  intro k hk
  replace hk := mem_slots1 rfl hk
  subst hk; simp [hz, decodeMap, decodeCtrl, q0, q1]

theorem zloop (d : BitVec 5) (a : BitVec 5) (l : BitVec 12) : Statement (.zloop d a l) := by
  have h0 := d.isLt
  have h1 := a.isLt
  have h2 := l.isLt
  have hv : (syl 0x38000000 [(d.toNat, 21), (a.toNat, 16), (l.toNat, 0)]).toNat = _ := toNat_syl (by simp only [sylValue]; omega)
  simp only [sylValue] at hv
  refine statement_of rfl ?_
  generalize syl 0x38000000 [(d.toNat, 21), (a.toNat, 16), (l.toNat, 0)] = x at hv ⊢
  have g0 : x.toNat / 2 ^ 0 = l.toNat + 2 ^ 12 * (0 + 2 ^ 4 * (a.toNat + 2 ^ 5 * (d.toNat + 2 ^ 5 * (14 + 2 ^ 6 * 0)))) := by rw [Nat.pow_zero, Nat.div_one, hv]; omega
  have g1 : x.toNat / 2 ^ 12 = 0 + 2 ^ 4 * (a.toNat + 2 ^ 5 * (d.toNat + 2 ^ 5 * (14 + 2 ^ 6 * 0))) := nxt g0 l.isLt
  have g2 : x.toNat / 2 ^ 16 = a.toNat + 2 ^ 5 * (d.toNat + 2 ^ 5 * (14 + 2 ^ 6 * 0)) := nxt g1 (by decide)
  have g3 : x.toNat / 2 ^ 21 = d.toNat + 2 ^ 5 * (14 + 2 ^ 6 * 0) := nxt g2 a.isLt
  have g4 : x.toNat / 2 ^ 26 = 14 + 2 ^ 6 * 0 := nxt g3 d.isLt
  have q0 : bits x 26 6 = 14 := dig g4 (by decide)
  have q1 : bits x 12 4 = 0 := dig g1 (by decide)
  have f0 : fld x 21 5 = d := fld_eq (dig g3 d.isLt)
  have f1 : fld x 16 5 = a := fld_eq (dig g2 a.isLt)
  have f2 : fld x 0 12 = l := fld_eq (dig g0 l.isLt)
  have hz : x.toNat ≠ 0 := ne_zero q0 (by decide)
  intro k hk
  replace hk := mem_slots1 rfl hk
  subst hk; simp [hz, decodeMap, decodeCtrl, q0, q1, f0, f1, f2]

theorem ploop (d : BitVec 5) (a : BitVec 5) (s : BitVec 4) (i : BitVec 3) : Statement (.ploop d a s i) := by
  have h0 := d.isLt
  have h1 := a.isLt
  have h2 := s.isLt
  have h3 := i.isLt
  have hv : (syl 0x3C000000 [(d.toNat, 21), (a.toNat, 16), (s.toNat, 12), (i.toNat, 9)]).toNat = _ := toNat_syl (by simp only [sylValue]; omega)
  simp only [sylValue] at hv
  refine statement_of rfl ?_
  generalize syl 0x3C000000 [(d.toNat, 21), (a.toNat, 16), (s.toNat, 12), (i.toNat, 9)] = x at hv ⊢
  have g0 : x.toNat / 2 ^ 0 = 0 + 2 ^ 9 * (i.toNat + 2 ^ 3 * (s.toNat + 2 ^ 4 * (a.toNat + 2 ^ 5 * (d.toNat + 2 ^ 5 * (15 + 2 ^ 6 * 0))))) := by rw [Nat.pow_zero, Nat.div_one, hv]; omega
  have g1 : x.toNat / 2 ^ 9 = i.toNat + 2 ^ 3 * (s.toNat + 2 ^ 4 * (a.toNat + 2 ^ 5 * (d.toNat + 2 ^ 5 * (15 + 2 ^ 6 * 0)))) := nxt g0 (by decide)
  have g2 : x.toNat / 2 ^ 12 = s.toNat + 2 ^ 4 * (a.toNat + 2 ^ 5 * (d.toNat + 2 ^ 5 * (15 + 2 ^ 6 * 0))) := nxt g1 i.isLt
  have g3 : x.toNat / 2 ^ 16 = a.toNat + 2 ^ 5 * (d.toNat + 2 ^ 5 * (15 + 2 ^ 6 * 0)) := nxt g2 s.isLt
  have g4 : x.toNat / 2 ^ 21 = d.toNat + 2 ^ 5 * (15 + 2 ^ 6 * 0) := nxt g3 a.isLt
  have g5 : x.toNat / 2 ^ 26 = 15 + 2 ^ 6 * 0 := nxt g4 d.isLt
  have q0 : bits x 26 6 = 15 := dig g5 (by decide)
  have q1 : bits x 0 9 = 0 := dig g0 (by decide)
  have f0 : fld x 21 5 = d := fld_eq (dig g4 d.isLt)
  have f1 : fld x 16 5 = a := fld_eq (dig g3 a.isLt)
  have f2 : fld x 12 4 = s := fld_eq (dig g2 s.isLt)
  have f3 : fld x 9 3 = i := fld_eq (dig g1 i.isLt)
  have hz : x.toNat ≠ 0 := ne_zero q0 (by decide)
  intro k hk
  replace hk := mem_slots1 rfl hk
  subst hk; simp [hz, decodeMap, decodeCtrl, q0, q1, f0, f1, f2, f3]

theorem lbrk (a : BitVec 5) : Statement (.lbrk a) := by
  have h0 := a.isLt
  have hv : (syl 0x40000000 [(a.toNat, 16)]).toNat = _ := toNat_syl (by simp only [sylValue]; omega)
  simp only [sylValue] at hv
  refine statement_of rfl ?_
  generalize syl 0x40000000 [(a.toNat, 16)] = x at hv ⊢
  have g0 : x.toNat / 2 ^ 0 = 0 + 2 ^ 16 * (a.toNat + 2 ^ 5 * (0 + 2 ^ 5 * (16 + 2 ^ 6 * 0))) := by rw [Nat.pow_zero, Nat.div_one, hv]; omega
  have g1 : x.toNat / 2 ^ 16 = a.toNat + 2 ^ 5 * (0 + 2 ^ 5 * (16 + 2 ^ 6 * 0)) := nxt g0 (by decide)
  have g2 : x.toNat / 2 ^ 21 = 0 + 2 ^ 5 * (16 + 2 ^ 6 * 0) := nxt g1 a.isLt
  have g3 : x.toNat / 2 ^ 26 = 16 + 2 ^ 6 * 0 := nxt g2 (by decide)
  have q0 : bits x 26 6 = 16 := dig g3 (by decide)
  have q1 : bits x 21 5 = 0 := dig g2 (by decide)
  have q2 : bits x 0 16 = 0 := dig g0 (by decide)
  have f0 : fld x 16 5 = a := fld_eq (dig g1 a.isLt)
  have hz : x.toNat ≠ 0 := ne_zero q0 (by decide)
  intro k hk
  replace hk := mem_slots1 rfl hk
  subst hk; simp [hz, decodeMap, decodeCtrl, q0, q1, q2, f0]

theorem waitt (a : BitVec 5) (i : BitVec 16) : Statement (.waitt a i) := by
  have h0 := a.isLt
  have h1 := i.isLt
  have hv : (syl 0x44000000 [(a.toNat, 16), (i.toNat, 0)]).toNat = _ := toNat_syl (by simp only [sylValue]; omega)
  simp only [sylValue] at hv
  refine statement_of rfl ?_
  generalize syl 0x44000000 [(a.toNat, 16), (i.toNat, 0)] = x at hv ⊢
  have g0 : x.toNat / 2 ^ 0 = i.toNat + 2 ^ 16 * (a.toNat + 2 ^ 5 * (0 + 2 ^ 5 * (17 + 2 ^ 6 * 0))) := by rw [Nat.pow_zero, Nat.div_one, hv]; omega
  have g1 : x.toNat / 2 ^ 16 = a.toNat + 2 ^ 5 * (0 + 2 ^ 5 * (17 + 2 ^ 6 * 0)) := nxt g0 i.isLt
  have g2 : x.toNat / 2 ^ 21 = 0 + 2 ^ 5 * (17 + 2 ^ 6 * 0) := nxt g1 a.isLt
  have g3 : x.toNat / 2 ^ 26 = 17 + 2 ^ 6 * 0 := nxt g2 (by decide)
  have q0 : bits x 26 6 = 17 := dig g3 (by decide)
  have q1 : bits x 21 5 = 0 := dig g2 (by decide)
  have f0 : fld x 16 5 = a := fld_eq (dig g1 a.isLt)
  have f1 : fld x 0 16 = i := fld_eq (dig g0 i.isLt)
  have hz : x.toNat ≠ 0 := ne_zero q0 (by decide)
  intro k hk
  replace hk := mem_slots1 rfl hk
  subst hk; simp [hz, decodeMap, decodeCtrl, q0, q1, f0, f1]

theorem waitg (a : BitVec 5) (i : BitVec 16) : Statement (.waitg a i) := by
  have h0 := a.isLt
  have h1 := i.isLt
  have hv : (syl 0x48000000 [(a.toNat, 16), (i.toNat, 0)]).toNat = _ := toNat_syl (by simp only [sylValue]; omega)
  simp only [sylValue] at hv
  refine statement_of rfl ?_
  generalize syl 0x48000000 [(a.toNat, 16), (i.toNat, 0)] = x at hv ⊢
  have g0 : x.toNat / 2 ^ 0 = i.toNat + 2 ^ 16 * (a.toNat + 2 ^ 5 * (0 + 2 ^ 5 * (18 + 2 ^ 6 * 0))) := by rw [Nat.pow_zero, Nat.div_one, hv]; omega
  have g1 : x.toNat / 2 ^ 16 = a.toNat + 2 ^ 5 * (0 + 2 ^ 5 * (18 + 2 ^ 6 * 0)) := nxt g0 i.isLt
  have g2 : x.toNat / 2 ^ 21 = 0 + 2 ^ 5 * (18 + 2 ^ 6 * 0) := nxt g1 a.isLt
  have g3 : x.toNat / 2 ^ 26 = 18 + 2 ^ 6 * 0 := nxt g2 (by decide)
  have q0 : bits x 26 6 = 18 := dig g3 (by decide)
  have q1 : bits x 21 5 = 0 := dig g2 (by decide)
  have f0 : fld x 16 5 = a := fld_eq (dig g1 a.isLt)
  have f1 : fld x 0 16 = i := fld_eq (dig g0 i.isLt)
  have hz : x.toNat ≠ 0 := ne_zero q0 (by decide)
  intro k hk
  replace hk := mem_slots1 rfl hk
  subst hk; simp [hz, decodeMap, decodeCtrl, q0, q1, f0, f1]

theorem syncb (l : BitVec 3) : Statement (.syncb l) := by
  have h0 := l.isLt
  have hv : (syl 0x4C000000 [(l.toNat, 0)]).toNat = _ := toNat_syl (by simp only [sylValue]; omega)
  simp only [sylValue] at hv
  refine statement_of rfl ?_
  generalize syl 0x4C000000 [(l.toNat, 0)] = x at hv ⊢
  have g0 : x.toNat / 2 ^ 0 = l.toNat + 2 ^ 3 * (0 + 2 ^ 23 * (19 + 2 ^ 6 * 0)) := by rw [Nat.pow_zero, Nat.div_one, hv]; omega
  have g1 : x.toNat / 2 ^ 3 = 0 + 2 ^ 23 * (19 + 2 ^ 6 * 0) := nxt g0 l.isLt
  have g2 : x.toNat / 2 ^ 26 = 19 + 2 ^ 6 * 0 := nxt g1 (by decide)
  have q0 : bits x 26 6 = 19 := dig g2 (by decide)
  have q1 : bits x 3 23 = 0 := dig g1 (by decide)
  have f0 : fld x 0 3 = l := fld_eq (dig g0 l.isLt)
  have hz : x.toNat ≠ 0 := ne_zero q0 (by decide)
  intro k hk
  replace hk := mem_slots1 rfl hk
  subst hk; simp [hz, decodeMap, decodeCtrl, q0, q1, f0]

theorem trap (i : BitVec 16) : Statement (.trap i) := by
  have h0 := i.isLt
  have hv : (syl 0x50000000 [(i.toNat, 0)]).toNat = _ := toNat_syl (by simp only [sylValue]; omega)
  simp only [sylValue] at hv
  refine statement_of rfl ?_
  generalize syl 0x50000000 [(i.toNat, 0)] = x at hv ⊢
  have g0 : x.toNat / 2 ^ 0 = i.toNat + 2 ^ 16 * (0 + 2 ^ 10 * (20 + 2 ^ 6 * 0)) := by rw [Nat.pow_zero, Nat.div_one, hv]; omega
  have g1 : x.toNat / 2 ^ 16 = 0 + 2 ^ 10 * (20 + 2 ^ 6 * 0) := nxt g0 i.isLt
  have g2 : x.toNat / 2 ^ 26 = 20 + 2 ^ 6 * 0 := nxt g1 (by decide)
  have q0 : bits x 26 6 = 20 := dig g2 (by decide)
  have q1 : bits x 16 10 = 0 := dig g1 (by decide)
  have f0 : fld x 0 16 = i := fld_eq (dig g0 i.isLt)
  have hz : x.toNat ≠ 0 := ne_zero q0 (by decide)
  intro k hk
  replace hk := mem_slots1 rfl hk
  subst hk; simp [hz, decodeMap, decodeCtrl, q0, q1, f0]

theorem tret : Statement .tret := by
  have hv : (syl 0x54000000 []).toNat = 0x54000000 := rfl
  refine statement_of rfl ?_
  generalize syl 0x54000000 [] = x at hv ⊢
  have g0 : x.toNat / 2 ^ 0 = 0 + 2 ^ 26 * (21 + 2 ^ 6 * 0) := by rw [Nat.pow_zero, Nat.div_one]; exact hv
  have g1 : x.toNat / 2 ^ 26 = 21 + 2 ^ 6 * 0 := nxt g0 (by decide)
  have q0 : bits x 26 6 = 21 := dig g1 (by decide)
  have q1 : bits x 0 26 = 0 := dig g0 (by decide)
  have hz : x.toNat ≠ 0 := ne_zero q0 (by decide)
  intro k hk
  replace hk := mem_slots1 rfl hk
  subst hk; simp [hz, decodeMap, decodeCtrl, q0, q1]

theorem halt : Statement .halt := by
  have hv : (syl 0x58000000 []).toNat = 0x58000000 := rfl
  refine statement_of rfl ?_
  generalize syl 0x58000000 [] = x at hv ⊢
  have g0 : x.toNat / 2 ^ 0 = 0 + 2 ^ 26 * (22 + 2 ^ 6 * 0) := by rw [Nat.pow_zero, Nat.div_one]; exact hv
  have g1 : x.toNat / 2 ^ 26 = 22 + 2 ^ 6 * 0 := nxt g0 (by decide)
  have q0 : bits x 26 6 = 22 := dig g1 (by decide)
  have q1 : bits x 0 26 = 0 := dig g0 (by decide)
  have hz : x.toNat ≠ 0 := ne_zero q0 (by decide)
  intro k hk
  replace hk := mem_slots1 rfl hk
  subst hk; simp [hz, decodeMap, decodeCtrl, q0, q1]

theorem rdsys (d : BitVec 5) (n : BitVec 8) : Statement (.rdsys d n) := by
  have h0 := d.isLt
  have h1 := n.isLt
  have hv : (syl 0x5C000000 [(d.toNat, 21), (n.toNat, 0)]).toNat = _ := toNat_syl (by simp only [sylValue]; omega)
  simp only [sylValue] at hv
  refine statement_of rfl ?_
  generalize syl 0x5C000000 [(d.toNat, 21), (n.toNat, 0)] = x at hv ⊢
  have g0 : x.toNat / 2 ^ 0 = n.toNat + 2 ^ 8 * (0 + 2 ^ 13 * (d.toNat + 2 ^ 5 * (23 + 2 ^ 6 * 0))) := by rw [Nat.pow_zero, Nat.div_one, hv]; omega
  have g1 : x.toNat / 2 ^ 8 = 0 + 2 ^ 13 * (d.toNat + 2 ^ 5 * (23 + 2 ^ 6 * 0)) := nxt g0 n.isLt
  have g2 : x.toNat / 2 ^ 21 = d.toNat + 2 ^ 5 * (23 + 2 ^ 6 * 0) := nxt g1 (by decide)
  have g3 : x.toNat / 2 ^ 26 = 23 + 2 ^ 6 * 0 := nxt g2 d.isLt
  have q0 : bits x 26 6 = 23 := dig g3 (by decide)
  have q1 : bits x 8 13 = 0 := dig g1 (by decide)
  have f0 : fld x 21 5 = d := fld_eq (dig g2 d.isLt)
  have f1 : fld x 0 8 = n := fld_eq (dig g0 n.isLt)
  have hz : x.toNat ≠ 0 := ne_zero q0 (by decide)
  intro k hk
  replace hk := mem_slots1 rfl hk
  subst hk; simp [hz, decodeMap, decodeCtrl, q0, q1, f0, f1]

theorem wrsys (a : BitVec 5) (n : BitVec 8) : Statement (.wrsys a n) := by
  have h0 := a.isLt
  have h1 := n.isLt
  have hv : (syl 0x60000000 [(a.toNat, 16), (n.toNat, 0)]).toNat = _ := toNat_syl (by simp only [sylValue]; omega)
  simp only [sylValue] at hv
  refine statement_of rfl ?_
  generalize syl 0x60000000 [(a.toNat, 16), (n.toNat, 0)] = x at hv ⊢
  have g0 : x.toNat / 2 ^ 0 = n.toNat + 2 ^ 8 * (0 + 2 ^ 8 * (a.toNat + 2 ^ 5 * (0 + 2 ^ 5 * (24 + 2 ^ 6 * 0)))) := by rw [Nat.pow_zero, Nat.div_one, hv]; omega
  have g1 : x.toNat / 2 ^ 8 = 0 + 2 ^ 8 * (a.toNat + 2 ^ 5 * (0 + 2 ^ 5 * (24 + 2 ^ 6 * 0))) := nxt g0 n.isLt
  have g2 : x.toNat / 2 ^ 16 = a.toNat + 2 ^ 5 * (0 + 2 ^ 5 * (24 + 2 ^ 6 * 0)) := nxt g1 (by decide)
  have g3 : x.toNat / 2 ^ 21 = 0 + 2 ^ 5 * (24 + 2 ^ 6 * 0) := nxt g2 a.isLt
  have g4 : x.toNat / 2 ^ 26 = 24 + 2 ^ 6 * 0 := nxt g3 (by decide)
  have q0 : bits x 26 6 = 24 := dig g4 (by decide)
  have q1 : bits x 21 5 = 0 := dig g3 (by decide)
  have q2 : bits x 8 8 = 0 := dig g1 (by decide)
  have f0 : fld x 16 5 = a := fld_eq (dig g2 a.isLt)
  have f1 : fld x 0 8 = n := fld_eq (dig g0 n.isLt)
  have hz : x.toNat ≠ 0 := ne_zero q0 (by decide)
  intro k hk
  replace hk := mem_slots1 rfl hk
  subst hk; simp [hz, decodeMap, decodeCtrl, q0, q1, q2, f0, f1]

theorem fenceq (m : BitVec 6) : Statement (.fenceq m) := by
  have h0 := m.isLt
  have hv : (syl 0x64000000 [(m.toNat, 0)]).toNat = _ := toNat_syl (by simp only [sylValue]; omega)
  simp only [sylValue] at hv
  refine statement_of rfl ?_
  generalize syl 0x64000000 [(m.toNat, 0)] = x at hv ⊢
  have g0 : x.toNat / 2 ^ 0 = m.toNat + 2 ^ 6 * (0 + 2 ^ 20 * (25 + 2 ^ 6 * 0)) := by rw [Nat.pow_zero, Nat.div_one, hv]; omega
  have g1 : x.toNat / 2 ^ 6 = 0 + 2 ^ 20 * (25 + 2 ^ 6 * 0) := nxt g0 m.isLt
  have g2 : x.toNat / 2 ^ 26 = 25 + 2 ^ 6 * 0 := nxt g1 (by decide)
  have q0 : bits x 26 6 = 25 := dig g2 (by decide)
  have q1 : bits x 6 20 = 0 := dig g1 (by decide)
  have f0 : fld x 0 6 = m := fld_eq (dig g0 m.isLt)
  have hz : x.toNat ≠ 0 := ne_zero q0 (by decide)
  intro k hk
  replace hk := mem_slots1 rfl hk
  subst hk; simp [hz, decodeMap, decodeCtrl, q0, q1, f0]

theorem brk (i : BitVec 16) : Statement (.brk i) := by
  have h0 := i.isLt
  have hv : (syl 0x68000000 [(i.toNat, 0)]).toNat = _ := toNat_syl (by simp only [sylValue]; omega)
  simp only [sylValue] at hv
  refine statement_of rfl ?_
  generalize syl 0x68000000 [(i.toNat, 0)] = x at hv ⊢
  have g0 : x.toNat / 2 ^ 0 = i.toNat + 2 ^ 16 * (0 + 2 ^ 10 * (26 + 2 ^ 6 * 0)) := by rw [Nat.pow_zero, Nat.div_one, hv]; omega
  have g1 : x.toNat / 2 ^ 16 = 0 + 2 ^ 10 * (26 + 2 ^ 6 * 0) := nxt g0 i.isLt
  have g2 : x.toNat / 2 ^ 26 = 26 + 2 ^ 6 * 0 := nxt g1 (by decide)
  have q0 : bits x 26 6 = 26 := dig g2 (by decide)
  have q1 : bits x 16 10 = 0 := dig g1 (by decide)
  have f0 : fld x 0 16 = i := fld_eq (dig g0 i.isLt)
  have hz : x.toNat ≠ 0 := ne_zero q0 (by decide)
  intro k hk
  replace hk := mem_slots1 rfl hk
  subst hk; simp [hz, decodeMap, decodeCtrl, q0, q1, f0]

theorem rngseed (a : BitVec 5) : Statement (.rngseed a) := by
  have h0 := a.isLt
  have hv : (syl 0x6C000000 [(a.toNat, 16)]).toNat = _ := toNat_syl (by simp only [sylValue]; omega)
  simp only [sylValue] at hv
  refine statement_of rfl ?_
  generalize syl 0x6C000000 [(a.toNat, 16)] = x at hv ⊢
  have g0 : x.toNat / 2 ^ 0 = 0 + 2 ^ 16 * (a.toNat + 2 ^ 5 * (0 + 2 ^ 5 * (27 + 2 ^ 6 * 0))) := by rw [Nat.pow_zero, Nat.div_one, hv]; omega
  have g1 : x.toNat / 2 ^ 16 = a.toNat + 2 ^ 5 * (0 + 2 ^ 5 * (27 + 2 ^ 6 * 0)) := nxt g0 (by decide)
  have g2 : x.toNat / 2 ^ 21 = 0 + 2 ^ 5 * (27 + 2 ^ 6 * 0) := nxt g1 a.isLt
  have g3 : x.toNat / 2 ^ 26 = 27 + 2 ^ 6 * 0 := nxt g2 (by decide)
  have q0 : bits x 26 6 = 27 := dig g3 (by decide)
  have q1 : bits x 21 5 = 0 := dig g2 (by decide)
  have q2 : bits x 0 16 = 0 := dig g0 (by decide)
  have f0 : fld x 16 5 = a := fld_eq (dig g1 a.isLt)
  have hz : x.toNat ≠ 0 := ne_zero q0 (by decide)
  intro k hk
  replace hk := mem_slots1 rfl hk
  subst hk; simp [hz, decodeMap, decodeCtrl, q0, q1, q2, f0]

theorem add (d : BitVec 5) (a : BitVec 5) (b : BitVec 5) : Statement (.add d a b) := by
  have h0 := d.isLt
  have h1 := a.isLt
  have h2 := b.isLt
  have hv : (syl 0x04000000 [(d.toNat, 21), (a.toNat, 16), (b.toNat, 11)]).toNat = _ := toNat_syl (by simp only [sylValue]; omega)
  simp only [sylValue] at hv
  refine statement_of rfl ?_
  generalize syl 0x04000000 [(d.toNat, 21), (a.toNat, 16), (b.toNat, 11)] = x at hv ⊢
  have g0 : x.toNat / 2 ^ 0 = 0 + 2 ^ 11 * (b.toNat + 2 ^ 5 * (a.toNat + 2 ^ 5 * (d.toNat + 2 ^ 5 * (1 + 2 ^ 6 * 0)))) := by rw [Nat.pow_zero, Nat.div_one, hv]; omega
  have g1 : x.toNat / 2 ^ 11 = b.toNat + 2 ^ 5 * (a.toNat + 2 ^ 5 * (d.toNat + 2 ^ 5 * (1 + 2 ^ 6 * 0))) := nxt g0 (by decide)
  have g2 : x.toNat / 2 ^ 16 = a.toNat + 2 ^ 5 * (d.toNat + 2 ^ 5 * (1 + 2 ^ 6 * 0)) := nxt g1 b.isLt
  have g3 : x.toNat / 2 ^ 21 = d.toNat + 2 ^ 5 * (1 + 2 ^ 6 * 0) := nxt g2 a.isLt
  have g4 : x.toNat / 2 ^ 26 = 1 + 2 ^ 6 * 0 := nxt g3 d.isLt
  have q0 : bits x 26 6 = 1 := dig g4 (by decide)
  have q1 : bits x 0 11 = 0 := dig g0 (by decide)
  have f0 : fld x 21 5 = d := fld_eq (dig g3 d.isLt)
  have f1 : fld x 16 5 = a := fld_eq (dig g2 a.isLt)
  have f2 : fld x 11 5 = b := fld_eq (dig g1 b.isLt)
  have hz : x.toNat ≠ 0 := ne_zero q0 (by decide)
  intro k hk
  replace hk := mem_slots2 rfl hk
  rcases hk with rfl | rfl <;> simp [hz, decodeMap, decodeSb, decodeSa, q0, q1, f0, f1, f2]

theorem sub (d : BitVec 5) (a : BitVec 5) (b : BitVec 5) : Statement (.sub d a b) := by
  have h0 := d.isLt
  have h1 := a.isLt
  have h2 := b.isLt
  have hv : (syl 0x04000001 [(d.toNat, 21), (a.toNat, 16), (b.toNat, 11)]).toNat = _ := toNat_syl (by simp only [sylValue]; omega)
  simp only [sylValue] at hv
  refine statement_of rfl ?_
  generalize syl 0x04000001 [(d.toNat, 21), (a.toNat, 16), (b.toNat, 11)] = x at hv ⊢
  have g0 : x.toNat / 2 ^ 0 = 1 + 2 ^ 11 * (b.toNat + 2 ^ 5 * (a.toNat + 2 ^ 5 * (d.toNat + 2 ^ 5 * (1 + 2 ^ 6 * 0)))) := by rw [Nat.pow_zero, Nat.div_one, hv]; omega
  have g1 : x.toNat / 2 ^ 11 = b.toNat + 2 ^ 5 * (a.toNat + 2 ^ 5 * (d.toNat + 2 ^ 5 * (1 + 2 ^ 6 * 0))) := nxt g0 (by decide)
  have g2 : x.toNat / 2 ^ 16 = a.toNat + 2 ^ 5 * (d.toNat + 2 ^ 5 * (1 + 2 ^ 6 * 0)) := nxt g1 b.isLt
  have g3 : x.toNat / 2 ^ 21 = d.toNat + 2 ^ 5 * (1 + 2 ^ 6 * 0) := nxt g2 a.isLt
  have g4 : x.toNat / 2 ^ 26 = 1 + 2 ^ 6 * 0 := nxt g3 d.isLt
  have q0 : bits x 26 6 = 1 := dig g4 (by decide)
  have q1 : bits x 0 11 = 1 := dig g0 (by decide)
  have f0 : fld x 21 5 = d := fld_eq (dig g3 d.isLt)
  have f1 : fld x 16 5 = a := fld_eq (dig g2 a.isLt)
  have f2 : fld x 11 5 = b := fld_eq (dig g1 b.isLt)
  have hz : x.toNat ≠ 0 := ne_zero q0 (by decide)
  intro k hk
  replace hk := mem_slots2 rfl hk
  rcases hk with rfl | rfl <;> simp [hz, decodeMap, decodeSb, decodeSa, q0, q1, f0, f1, f2]

theorem and (d : BitVec 5) (a : BitVec 5) (b : BitVec 5) : Statement (.and d a b) := by
  have h0 := d.isLt
  have h1 := a.isLt
  have h2 := b.isLt
  have hv : (syl 0x04000002 [(d.toNat, 21), (a.toNat, 16), (b.toNat, 11)]).toNat = _ := toNat_syl (by simp only [sylValue]; omega)
  simp only [sylValue] at hv
  refine statement_of rfl ?_
  generalize syl 0x04000002 [(d.toNat, 21), (a.toNat, 16), (b.toNat, 11)] = x at hv ⊢
  have g0 : x.toNat / 2 ^ 0 = 2 + 2 ^ 11 * (b.toNat + 2 ^ 5 * (a.toNat + 2 ^ 5 * (d.toNat + 2 ^ 5 * (1 + 2 ^ 6 * 0)))) := by rw [Nat.pow_zero, Nat.div_one, hv]; omega
  have g1 : x.toNat / 2 ^ 11 = b.toNat + 2 ^ 5 * (a.toNat + 2 ^ 5 * (d.toNat + 2 ^ 5 * (1 + 2 ^ 6 * 0))) := nxt g0 (by decide)
  have g2 : x.toNat / 2 ^ 16 = a.toNat + 2 ^ 5 * (d.toNat + 2 ^ 5 * (1 + 2 ^ 6 * 0)) := nxt g1 b.isLt
  have g3 : x.toNat / 2 ^ 21 = d.toNat + 2 ^ 5 * (1 + 2 ^ 6 * 0) := nxt g2 a.isLt
  have g4 : x.toNat / 2 ^ 26 = 1 + 2 ^ 6 * 0 := nxt g3 d.isLt
  have q0 : bits x 26 6 = 1 := dig g4 (by decide)
  have q1 : bits x 0 11 = 2 := dig g0 (by decide)
  have f0 : fld x 21 5 = d := fld_eq (dig g3 d.isLt)
  have f1 : fld x 16 5 = a := fld_eq (dig g2 a.isLt)
  have f2 : fld x 11 5 = b := fld_eq (dig g1 b.isLt)
  have hz : x.toNat ≠ 0 := ne_zero q0 (by decide)
  intro k hk
  replace hk := mem_slots2 rfl hk
  rcases hk with rfl | rfl <;> simp [hz, decodeMap, decodeSb, decodeSa, q0, q1, f0, f1, f2]

theorem or (d : BitVec 5) (a : BitVec 5) (b : BitVec 5) : Statement (.or d a b) := by
  have h0 := d.isLt
  have h1 := a.isLt
  have h2 := b.isLt
  have hv : (syl 0x04000003 [(d.toNat, 21), (a.toNat, 16), (b.toNat, 11)]).toNat = _ := toNat_syl (by simp only [sylValue]; omega)
  simp only [sylValue] at hv
  refine statement_of rfl ?_
  generalize syl 0x04000003 [(d.toNat, 21), (a.toNat, 16), (b.toNat, 11)] = x at hv ⊢
  have g0 : x.toNat / 2 ^ 0 = 3 + 2 ^ 11 * (b.toNat + 2 ^ 5 * (a.toNat + 2 ^ 5 * (d.toNat + 2 ^ 5 * (1 + 2 ^ 6 * 0)))) := by rw [Nat.pow_zero, Nat.div_one, hv]; omega
  have g1 : x.toNat / 2 ^ 11 = b.toNat + 2 ^ 5 * (a.toNat + 2 ^ 5 * (d.toNat + 2 ^ 5 * (1 + 2 ^ 6 * 0))) := nxt g0 (by decide)
  have g2 : x.toNat / 2 ^ 16 = a.toNat + 2 ^ 5 * (d.toNat + 2 ^ 5 * (1 + 2 ^ 6 * 0)) := nxt g1 b.isLt
  have g3 : x.toNat / 2 ^ 21 = d.toNat + 2 ^ 5 * (1 + 2 ^ 6 * 0) := nxt g2 a.isLt
  have g4 : x.toNat / 2 ^ 26 = 1 + 2 ^ 6 * 0 := nxt g3 d.isLt
  have q0 : bits x 26 6 = 1 := dig g4 (by decide)
  have q1 : bits x 0 11 = 3 := dig g0 (by decide)
  have f0 : fld x 21 5 = d := fld_eq (dig g3 d.isLt)
  have f1 : fld x 16 5 = a := fld_eq (dig g2 a.isLt)
  have f2 : fld x 11 5 = b := fld_eq (dig g1 b.isLt)
  have hz : x.toNat ≠ 0 := ne_zero q0 (by decide)
  intro k hk
  replace hk := mem_slots2 rfl hk
  rcases hk with rfl | rfl <;> simp [hz, decodeMap, decodeSb, decodeSa, q0, q1, f0, f1, f2]

theorem xor (d : BitVec 5) (a : BitVec 5) (b : BitVec 5) : Statement (.xor d a b) := by
  have h0 := d.isLt
  have h1 := a.isLt
  have h2 := b.isLt
  have hv : (syl 0x04000004 [(d.toNat, 21), (a.toNat, 16), (b.toNat, 11)]).toNat = _ := toNat_syl (by simp only [sylValue]; omega)
  simp only [sylValue] at hv
  refine statement_of rfl ?_
  generalize syl 0x04000004 [(d.toNat, 21), (a.toNat, 16), (b.toNat, 11)] = x at hv ⊢
  have g0 : x.toNat / 2 ^ 0 = 4 + 2 ^ 11 * (b.toNat + 2 ^ 5 * (a.toNat + 2 ^ 5 * (d.toNat + 2 ^ 5 * (1 + 2 ^ 6 * 0)))) := by rw [Nat.pow_zero, Nat.div_one, hv]; omega
  have g1 : x.toNat / 2 ^ 11 = b.toNat + 2 ^ 5 * (a.toNat + 2 ^ 5 * (d.toNat + 2 ^ 5 * (1 + 2 ^ 6 * 0))) := nxt g0 (by decide)
  have g2 : x.toNat / 2 ^ 16 = a.toNat + 2 ^ 5 * (d.toNat + 2 ^ 5 * (1 + 2 ^ 6 * 0)) := nxt g1 b.isLt
  have g3 : x.toNat / 2 ^ 21 = d.toNat + 2 ^ 5 * (1 + 2 ^ 6 * 0) := nxt g2 a.isLt
  have g4 : x.toNat / 2 ^ 26 = 1 + 2 ^ 6 * 0 := nxt g3 d.isLt
  have q0 : bits x 26 6 = 1 := dig g4 (by decide)
  have q1 : bits x 0 11 = 4 := dig g0 (by decide)
  have f0 : fld x 21 5 = d := fld_eq (dig g3 d.isLt)
  have f1 : fld x 16 5 = a := fld_eq (dig g2 a.isLt)
  have f2 : fld x 11 5 = b := fld_eq (dig g1 b.isLt)
  have hz : x.toNat ≠ 0 := ne_zero q0 (by decide)
  intro k hk
  replace hk := mem_slots2 rfl hk
  rcases hk with rfl | rfl <;> simp [hz, decodeMap, decodeSb, decodeSa, q0, q1, f0, f1, f2]

theorem shl (d : BitVec 5) (a : BitVec 5) (b : BitVec 5) : Statement (.shl d a b) := by
  have h0 := d.isLt
  have h1 := a.isLt
  have h2 := b.isLt
  have hv : (syl 0x04000005 [(d.toNat, 21), (a.toNat, 16), (b.toNat, 11)]).toNat = _ := toNat_syl (by simp only [sylValue]; omega)
  simp only [sylValue] at hv
  refine statement_of rfl ?_
  generalize syl 0x04000005 [(d.toNat, 21), (a.toNat, 16), (b.toNat, 11)] = x at hv ⊢
  have g0 : x.toNat / 2 ^ 0 = 5 + 2 ^ 11 * (b.toNat + 2 ^ 5 * (a.toNat + 2 ^ 5 * (d.toNat + 2 ^ 5 * (1 + 2 ^ 6 * 0)))) := by rw [Nat.pow_zero, Nat.div_one, hv]; omega
  have g1 : x.toNat / 2 ^ 11 = b.toNat + 2 ^ 5 * (a.toNat + 2 ^ 5 * (d.toNat + 2 ^ 5 * (1 + 2 ^ 6 * 0))) := nxt g0 (by decide)
  have g2 : x.toNat / 2 ^ 16 = a.toNat + 2 ^ 5 * (d.toNat + 2 ^ 5 * (1 + 2 ^ 6 * 0)) := nxt g1 b.isLt
  have g3 : x.toNat / 2 ^ 21 = d.toNat + 2 ^ 5 * (1 + 2 ^ 6 * 0) := nxt g2 a.isLt
  have g4 : x.toNat / 2 ^ 26 = 1 + 2 ^ 6 * 0 := nxt g3 d.isLt
  have q0 : bits x 26 6 = 1 := dig g4 (by decide)
  have q1 : bits x 0 11 = 5 := dig g0 (by decide)
  have f0 : fld x 21 5 = d := fld_eq (dig g3 d.isLt)
  have f1 : fld x 16 5 = a := fld_eq (dig g2 a.isLt)
  have f2 : fld x 11 5 = b := fld_eq (dig g1 b.isLt)
  have hz : x.toNat ≠ 0 := ne_zero q0 (by decide)
  intro k hk
  replace hk := mem_slots2 rfl hk
  rcases hk with rfl | rfl <;> simp [hz, decodeMap, decodeSb, decodeSa, q0, q1, f0, f1, f2]

theorem shr (d : BitVec 5) (a : BitVec 5) (b : BitVec 5) : Statement (.shr d a b) := by
  have h0 := d.isLt
  have h1 := a.isLt
  have h2 := b.isLt
  have hv : (syl 0x04000006 [(d.toNat, 21), (a.toNat, 16), (b.toNat, 11)]).toNat = _ := toNat_syl (by simp only [sylValue]; omega)
  simp only [sylValue] at hv
  refine statement_of rfl ?_
  generalize syl 0x04000006 [(d.toNat, 21), (a.toNat, 16), (b.toNat, 11)] = x at hv ⊢
  have g0 : x.toNat / 2 ^ 0 = 6 + 2 ^ 11 * (b.toNat + 2 ^ 5 * (a.toNat + 2 ^ 5 * (d.toNat + 2 ^ 5 * (1 + 2 ^ 6 * 0)))) := by rw [Nat.pow_zero, Nat.div_one, hv]; omega
  have g1 : x.toNat / 2 ^ 11 = b.toNat + 2 ^ 5 * (a.toNat + 2 ^ 5 * (d.toNat + 2 ^ 5 * (1 + 2 ^ 6 * 0))) := nxt g0 (by decide)
  have g2 : x.toNat / 2 ^ 16 = a.toNat + 2 ^ 5 * (d.toNat + 2 ^ 5 * (1 + 2 ^ 6 * 0)) := nxt g1 b.isLt
  have g3 : x.toNat / 2 ^ 21 = d.toNat + 2 ^ 5 * (1 + 2 ^ 6 * 0) := nxt g2 a.isLt
  have g4 : x.toNat / 2 ^ 26 = 1 + 2 ^ 6 * 0 := nxt g3 d.isLt
  have q0 : bits x 26 6 = 1 := dig g4 (by decide)
  have q1 : bits x 0 11 = 6 := dig g0 (by decide)
  have f0 : fld x 21 5 = d := fld_eq (dig g3 d.isLt)
  have f1 : fld x 16 5 = a := fld_eq (dig g2 a.isLt)
  have f2 : fld x 11 5 = b := fld_eq (dig g1 b.isLt)
  have hz : x.toNat ≠ 0 := ne_zero q0 (by decide)
  intro k hk
  replace hk := mem_slots2 rfl hk
  rcases hk with rfl | rfl <;> simp [hz, decodeMap, decodeSb, decodeSa, q0, q1, f0, f1, f2]

theorem sra (d : BitVec 5) (a : BitVec 5) (b : BitVec 5) : Statement (.sra d a b) := by
  have h0 := d.isLt
  have h1 := a.isLt
  have h2 := b.isLt
  have hv : (syl 0x04000007 [(d.toNat, 21), (a.toNat, 16), (b.toNat, 11)]).toNat = _ := toNat_syl (by simp only [sylValue]; omega)
  simp only [sylValue] at hv
  refine statement_of rfl ?_
  generalize syl 0x04000007 [(d.toNat, 21), (a.toNat, 16), (b.toNat, 11)] = x at hv ⊢
  have g0 : x.toNat / 2 ^ 0 = 7 + 2 ^ 11 * (b.toNat + 2 ^ 5 * (a.toNat + 2 ^ 5 * (d.toNat + 2 ^ 5 * (1 + 2 ^ 6 * 0)))) := by rw [Nat.pow_zero, Nat.div_one, hv]; omega
  have g1 : x.toNat / 2 ^ 11 = b.toNat + 2 ^ 5 * (a.toNat + 2 ^ 5 * (d.toNat + 2 ^ 5 * (1 + 2 ^ 6 * 0))) := nxt g0 (by decide)
  have g2 : x.toNat / 2 ^ 16 = a.toNat + 2 ^ 5 * (d.toNat + 2 ^ 5 * (1 + 2 ^ 6 * 0)) := nxt g1 b.isLt
  have g3 : x.toNat / 2 ^ 21 = d.toNat + 2 ^ 5 * (1 + 2 ^ 6 * 0) := nxt g2 a.isLt
  have g4 : x.toNat / 2 ^ 26 = 1 + 2 ^ 6 * 0 := nxt g3 d.isLt
  have q0 : bits x 26 6 = 1 := dig g4 (by decide)
  have q1 : bits x 0 11 = 7 := dig g0 (by decide)
  have f0 : fld x 21 5 = d := fld_eq (dig g3 d.isLt)
  have f1 : fld x 16 5 = a := fld_eq (dig g2 a.isLt)
  have f2 : fld x 11 5 = b := fld_eq (dig g1 b.isLt)
  have hz : x.toNat ≠ 0 := ne_zero q0 (by decide)
  intro k hk
  replace hk := mem_slots2 rfl hk
  rcases hk with rfl | rfl <;> simp [hz, decodeMap, decodeSb, decodeSa, q0, q1, f0, f1, f2]

theorem slt (d : BitVec 5) (a : BitVec 5) (b : BitVec 5) : Statement (.slt d a b) := by
  have h0 := d.isLt
  have h1 := a.isLt
  have h2 := b.isLt
  have hv : (syl 0x04000008 [(d.toNat, 21), (a.toNat, 16), (b.toNat, 11)]).toNat = _ := toNat_syl (by simp only [sylValue]; omega)
  simp only [sylValue] at hv
  refine statement_of rfl ?_
  generalize syl 0x04000008 [(d.toNat, 21), (a.toNat, 16), (b.toNat, 11)] = x at hv ⊢
  have g0 : x.toNat / 2 ^ 0 = 8 + 2 ^ 11 * (b.toNat + 2 ^ 5 * (a.toNat + 2 ^ 5 * (d.toNat + 2 ^ 5 * (1 + 2 ^ 6 * 0)))) := by rw [Nat.pow_zero, Nat.div_one, hv]; omega
  have g1 : x.toNat / 2 ^ 11 = b.toNat + 2 ^ 5 * (a.toNat + 2 ^ 5 * (d.toNat + 2 ^ 5 * (1 + 2 ^ 6 * 0))) := nxt g0 (by decide)
  have g2 : x.toNat / 2 ^ 16 = a.toNat + 2 ^ 5 * (d.toNat + 2 ^ 5 * (1 + 2 ^ 6 * 0)) := nxt g1 b.isLt
  have g3 : x.toNat / 2 ^ 21 = d.toNat + 2 ^ 5 * (1 + 2 ^ 6 * 0) := nxt g2 a.isLt
  have g4 : x.toNat / 2 ^ 26 = 1 + 2 ^ 6 * 0 := nxt g3 d.isLt
  have q0 : bits x 26 6 = 1 := dig g4 (by decide)
  have q1 : bits x 0 11 = 8 := dig g0 (by decide)
  have f0 : fld x 21 5 = d := fld_eq (dig g3 d.isLt)
  have f1 : fld x 16 5 = a := fld_eq (dig g2 a.isLt)
  have f2 : fld x 11 5 = b := fld_eq (dig g1 b.isLt)
  have hz : x.toNat ≠ 0 := ne_zero q0 (by decide)
  intro k hk
  replace hk := mem_slots2 rfl hk
  rcases hk with rfl | rfl <;> simp [hz, decodeMap, decodeSb, decodeSa, q0, q1, f0, f1, f2]

theorem sltn (d : BitVec 5) (a : BitVec 5) (b : BitVec 5) : Statement (.sltn d a b) := by
  have h0 := d.isLt
  have h1 := a.isLt
  have h2 := b.isLt
  have hv : (syl 0x04000009 [(d.toNat, 21), (a.toNat, 16), (b.toNat, 11)]).toNat = _ := toNat_syl (by simp only [sylValue]; omega)
  simp only [sylValue] at hv
  refine statement_of rfl ?_
  generalize syl 0x04000009 [(d.toNat, 21), (a.toNat, 16), (b.toNat, 11)] = x at hv ⊢
  have g0 : x.toNat / 2 ^ 0 = 9 + 2 ^ 11 * (b.toNat + 2 ^ 5 * (a.toNat + 2 ^ 5 * (d.toNat + 2 ^ 5 * (1 + 2 ^ 6 * 0)))) := by rw [Nat.pow_zero, Nat.div_one, hv]; omega
  have g1 : x.toNat / 2 ^ 11 = b.toNat + 2 ^ 5 * (a.toNat + 2 ^ 5 * (d.toNat + 2 ^ 5 * (1 + 2 ^ 6 * 0))) := nxt g0 (by decide)
  have g2 : x.toNat / 2 ^ 16 = a.toNat + 2 ^ 5 * (d.toNat + 2 ^ 5 * (1 + 2 ^ 6 * 0)) := nxt g1 b.isLt
  have g3 : x.toNat / 2 ^ 21 = d.toNat + 2 ^ 5 * (1 + 2 ^ 6 * 0) := nxt g2 a.isLt
  have g4 : x.toNat / 2 ^ 26 = 1 + 2 ^ 6 * 0 := nxt g3 d.isLt
  have q0 : bits x 26 6 = 1 := dig g4 (by decide)
  have q1 : bits x 0 11 = 9 := dig g0 (by decide)
  have f0 : fld x 21 5 = d := fld_eq (dig g3 d.isLt)
  have f1 : fld x 16 5 = a := fld_eq (dig g2 a.isLt)
  have f2 : fld x 11 5 = b := fld_eq (dig g1 b.isLt)
  have hz : x.toNat ≠ 0 := ne_zero q0 (by decide)
  intro k hk
  replace hk := mem_slots2 rfl hk
  rcases hk with rfl | rfl <;> simp [hz, decodeMap, decodeSb, decodeSa, q0, q1, f0, f1, f2]

theorem min (d : BitVec 5) (a : BitVec 5) (b : BitVec 5) : Statement (.min d a b) := by
  have h0 := d.isLt
  have h1 := a.isLt
  have h2 := b.isLt
  have hv : (syl 0x0400000A [(d.toNat, 21), (a.toNat, 16), (b.toNat, 11)]).toNat = _ := toNat_syl (by simp only [sylValue]; omega)
  simp only [sylValue] at hv
  refine statement_of rfl ?_
  generalize syl 0x0400000A [(d.toNat, 21), (a.toNat, 16), (b.toNat, 11)] = x at hv ⊢
  have g0 : x.toNat / 2 ^ 0 = 10 + 2 ^ 11 * (b.toNat + 2 ^ 5 * (a.toNat + 2 ^ 5 * (d.toNat + 2 ^ 5 * (1 + 2 ^ 6 * 0)))) := by rw [Nat.pow_zero, Nat.div_one, hv]; omega
  have g1 : x.toNat / 2 ^ 11 = b.toNat + 2 ^ 5 * (a.toNat + 2 ^ 5 * (d.toNat + 2 ^ 5 * (1 + 2 ^ 6 * 0))) := nxt g0 (by decide)
  have g2 : x.toNat / 2 ^ 16 = a.toNat + 2 ^ 5 * (d.toNat + 2 ^ 5 * (1 + 2 ^ 6 * 0)) := nxt g1 b.isLt
  have g3 : x.toNat / 2 ^ 21 = d.toNat + 2 ^ 5 * (1 + 2 ^ 6 * 0) := nxt g2 a.isLt
  have g4 : x.toNat / 2 ^ 26 = 1 + 2 ^ 6 * 0 := nxt g3 d.isLt
  have q0 : bits x 26 6 = 1 := dig g4 (by decide)
  have q1 : bits x 0 11 = 10 := dig g0 (by decide)
  have f0 : fld x 21 5 = d := fld_eq (dig g3 d.isLt)
  have f1 : fld x 16 5 = a := fld_eq (dig g2 a.isLt)
  have f2 : fld x 11 5 = b := fld_eq (dig g1 b.isLt)
  have hz : x.toNat ≠ 0 := ne_zero q0 (by decide)
  intro k hk
  replace hk := mem_slots2 rfl hk
  rcases hk with rfl | rfl <;> simp [hz, decodeMap, decodeSb, decodeSa, q0, q1, f0, f1, f2]

theorem max (d : BitVec 5) (a : BitVec 5) (b : BitVec 5) : Statement (.max d a b) := by
  have h0 := d.isLt
  have h1 := a.isLt
  have h2 := b.isLt
  have hv : (syl 0x0400000B [(d.toNat, 21), (a.toNat, 16), (b.toNat, 11)]).toNat = _ := toNat_syl (by simp only [sylValue]; omega)
  simp only [sylValue] at hv
  refine statement_of rfl ?_
  generalize syl 0x0400000B [(d.toNat, 21), (a.toNat, 16), (b.toNat, 11)] = x at hv ⊢
  have g0 : x.toNat / 2 ^ 0 = 11 + 2 ^ 11 * (b.toNat + 2 ^ 5 * (a.toNat + 2 ^ 5 * (d.toNat + 2 ^ 5 * (1 + 2 ^ 6 * 0)))) := by rw [Nat.pow_zero, Nat.div_one, hv]; omega
  have g1 : x.toNat / 2 ^ 11 = b.toNat + 2 ^ 5 * (a.toNat + 2 ^ 5 * (d.toNat + 2 ^ 5 * (1 + 2 ^ 6 * 0))) := nxt g0 (by decide)
  have g2 : x.toNat / 2 ^ 16 = a.toNat + 2 ^ 5 * (d.toNat + 2 ^ 5 * (1 + 2 ^ 6 * 0)) := nxt g1 b.isLt
  have g3 : x.toNat / 2 ^ 21 = d.toNat + 2 ^ 5 * (1 + 2 ^ 6 * 0) := nxt g2 a.isLt
  have g4 : x.toNat / 2 ^ 26 = 1 + 2 ^ 6 * 0 := nxt g3 d.isLt
  have q0 : bits x 26 6 = 1 := dig g4 (by decide)
  have q1 : bits x 0 11 = 11 := dig g0 (by decide)
  have f0 : fld x 21 5 = d := fld_eq (dig g3 d.isLt)
  have f1 : fld x 16 5 = a := fld_eq (dig g2 a.isLt)
  have f2 : fld x 11 5 = b := fld_eq (dig g1 b.isLt)
  have hz : x.toNat ≠ 0 := ne_zero q0 (by decide)
  intro k hk
  replace hk := mem_slots2 rfl hk
  rcases hk with rfl | rfl <;> simp [hz, decodeMap, decodeSb, decodeSa, q0, q1, f0, f1, f2]

theorem minn (d : BitVec 5) (a : BitVec 5) (b : BitVec 5) : Statement (.minn d a b) := by
  have h0 := d.isLt
  have h1 := a.isLt
  have h2 := b.isLt
  have hv : (syl 0x0400000C [(d.toNat, 21), (a.toNat, 16), (b.toNat, 11)]).toNat = _ := toNat_syl (by simp only [sylValue]; omega)
  simp only [sylValue] at hv
  refine statement_of rfl ?_
  generalize syl 0x0400000C [(d.toNat, 21), (a.toNat, 16), (b.toNat, 11)] = x at hv ⊢
  have g0 : x.toNat / 2 ^ 0 = 12 + 2 ^ 11 * (b.toNat + 2 ^ 5 * (a.toNat + 2 ^ 5 * (d.toNat + 2 ^ 5 * (1 + 2 ^ 6 * 0)))) := by rw [Nat.pow_zero, Nat.div_one, hv]; omega
  have g1 : x.toNat / 2 ^ 11 = b.toNat + 2 ^ 5 * (a.toNat + 2 ^ 5 * (d.toNat + 2 ^ 5 * (1 + 2 ^ 6 * 0))) := nxt g0 (by decide)
  have g2 : x.toNat / 2 ^ 16 = a.toNat + 2 ^ 5 * (d.toNat + 2 ^ 5 * (1 + 2 ^ 6 * 0)) := nxt g1 b.isLt
  have g3 : x.toNat / 2 ^ 21 = d.toNat + 2 ^ 5 * (1 + 2 ^ 6 * 0) := nxt g2 a.isLt
  have g4 : x.toNat / 2 ^ 26 = 1 + 2 ^ 6 * 0 := nxt g3 d.isLt
  have q0 : bits x 26 6 = 1 := dig g4 (by decide)
  have q1 : bits x 0 11 = 12 := dig g0 (by decide)
  have f0 : fld x 21 5 = d := fld_eq (dig g3 d.isLt)
  have f1 : fld x 16 5 = a := fld_eq (dig g2 a.isLt)
  have f2 : fld x 11 5 = b := fld_eq (dig g1 b.isLt)
  have hz : x.toNat ≠ 0 := ne_zero q0 (by decide)
  intro k hk
  replace hk := mem_slots2 rfl hk
  rcases hk with rfl | rfl <;> simp [hz, decodeMap, decodeSb, decodeSa, q0, q1, f0, f1, f2]

theorem maxn (d : BitVec 5) (a : BitVec 5) (b : BitVec 5) : Statement (.maxn d a b) := by
  have h0 := d.isLt
  have h1 := a.isLt
  have h2 := b.isLt
  have hv : (syl 0x0400000D [(d.toNat, 21), (a.toNat, 16), (b.toNat, 11)]).toNat = _ := toNat_syl (by simp only [sylValue]; omega)
  simp only [sylValue] at hv
  refine statement_of rfl ?_
  generalize syl 0x0400000D [(d.toNat, 21), (a.toNat, 16), (b.toNat, 11)] = x at hv ⊢
  have g0 : x.toNat / 2 ^ 0 = 13 + 2 ^ 11 * (b.toNat + 2 ^ 5 * (a.toNat + 2 ^ 5 * (d.toNat + 2 ^ 5 * (1 + 2 ^ 6 * 0)))) := by rw [Nat.pow_zero, Nat.div_one, hv]; omega
  have g1 : x.toNat / 2 ^ 11 = b.toNat + 2 ^ 5 * (a.toNat + 2 ^ 5 * (d.toNat + 2 ^ 5 * (1 + 2 ^ 6 * 0))) := nxt g0 (by decide)
  have g2 : x.toNat / 2 ^ 16 = a.toNat + 2 ^ 5 * (d.toNat + 2 ^ 5 * (1 + 2 ^ 6 * 0)) := nxt g1 b.isLt
  have g3 : x.toNat / 2 ^ 21 = d.toNat + 2 ^ 5 * (1 + 2 ^ 6 * 0) := nxt g2 a.isLt
  have g4 : x.toNat / 2 ^ 26 = 1 + 2 ^ 6 * 0 := nxt g3 d.isLt
  have q0 : bits x 26 6 = 1 := dig g4 (by decide)
  have q1 : bits x 0 11 = 13 := dig g0 (by decide)
  have f0 : fld x 21 5 = d := fld_eq (dig g3 d.isLt)
  have f1 : fld x 16 5 = a := fld_eq (dig g2 a.isLt)
  have f2 : fld x 11 5 = b := fld_eq (dig g1 b.isLt)
  have hz : x.toNat ≠ 0 := ne_zero q0 (by decide)
  intro k hk
  replace hk := mem_slots2 rfl hk
  rcases hk with rfl | rfl <;> simp [hz, decodeMap, decodeSb, decodeSa, q0, q1, f0, f1, f2]

theorem addW (d : BitVec 5) (a : BitVec 5) (b : BitVec 5) : Statement (.addW d a b) := by
  have h0 := d.isLt
  have h1 := a.isLt
  have h2 := b.isLt
  have hv : (syl 0x04000010 [(d.toNat, 21), (a.toNat, 16), (b.toNat, 11)]).toNat = _ := toNat_syl (by simp only [sylValue]; omega)
  simp only [sylValue] at hv
  refine statement_of rfl ?_
  generalize syl 0x04000010 [(d.toNat, 21), (a.toNat, 16), (b.toNat, 11)] = x at hv ⊢
  have g0 : x.toNat / 2 ^ 0 = 16 + 2 ^ 11 * (b.toNat + 2 ^ 5 * (a.toNat + 2 ^ 5 * (d.toNat + 2 ^ 5 * (1 + 2 ^ 6 * 0)))) := by rw [Nat.pow_zero, Nat.div_one, hv]; omega
  have g1 : x.toNat / 2 ^ 11 = b.toNat + 2 ^ 5 * (a.toNat + 2 ^ 5 * (d.toNat + 2 ^ 5 * (1 + 2 ^ 6 * 0))) := nxt g0 (by decide)
  have g2 : x.toNat / 2 ^ 16 = a.toNat + 2 ^ 5 * (d.toNat + 2 ^ 5 * (1 + 2 ^ 6 * 0)) := nxt g1 b.isLt
  have g3 : x.toNat / 2 ^ 21 = d.toNat + 2 ^ 5 * (1 + 2 ^ 6 * 0) := nxt g2 a.isLt
  have g4 : x.toNat / 2 ^ 26 = 1 + 2 ^ 6 * 0 := nxt g3 d.isLt
  have q0 : bits x 26 6 = 1 := dig g4 (by decide)
  have q1 : bits x 0 11 = 16 := dig g0 (by decide)
  have f0 : fld x 21 5 = d := fld_eq (dig g3 d.isLt)
  have f1 : fld x 16 5 = a := fld_eq (dig g2 a.isLt)
  have f2 : fld x 11 5 = b := fld_eq (dig g1 b.isLt)
  have hz : x.toNat ≠ 0 := ne_zero q0 (by decide)
  intro k hk
  replace hk := mem_slots2 rfl hk
  rcases hk with rfl | rfl <;> simp [hz, decodeMap, decodeSb, decodeSa, q0, q1, f0, f1, f2]

theorem subW (d : BitVec 5) (a : BitVec 5) (b : BitVec 5) : Statement (.subW d a b) := by
  have h0 := d.isLt
  have h1 := a.isLt
  have h2 := b.isLt
  have hv : (syl 0x04000011 [(d.toNat, 21), (a.toNat, 16), (b.toNat, 11)]).toNat = _ := toNat_syl (by simp only [sylValue]; omega)
  simp only [sylValue] at hv
  refine statement_of rfl ?_
  generalize syl 0x04000011 [(d.toNat, 21), (a.toNat, 16), (b.toNat, 11)] = x at hv ⊢
  have g0 : x.toNat / 2 ^ 0 = 17 + 2 ^ 11 * (b.toNat + 2 ^ 5 * (a.toNat + 2 ^ 5 * (d.toNat + 2 ^ 5 * (1 + 2 ^ 6 * 0)))) := by rw [Nat.pow_zero, Nat.div_one, hv]; omega
  have g1 : x.toNat / 2 ^ 11 = b.toNat + 2 ^ 5 * (a.toNat + 2 ^ 5 * (d.toNat + 2 ^ 5 * (1 + 2 ^ 6 * 0))) := nxt g0 (by decide)
  have g2 : x.toNat / 2 ^ 16 = a.toNat + 2 ^ 5 * (d.toNat + 2 ^ 5 * (1 + 2 ^ 6 * 0)) := nxt g1 b.isLt
  have g3 : x.toNat / 2 ^ 21 = d.toNat + 2 ^ 5 * (1 + 2 ^ 6 * 0) := nxt g2 a.isLt
  have g4 : x.toNat / 2 ^ 26 = 1 + 2 ^ 6 * 0 := nxt g3 d.isLt
  have q0 : bits x 26 6 = 1 := dig g4 (by decide)
  have q1 : bits x 0 11 = 17 := dig g0 (by decide)
  have f0 : fld x 21 5 = d := fld_eq (dig g3 d.isLt)
  have f1 : fld x 16 5 = a := fld_eq (dig g2 a.isLt)
  have f2 : fld x 11 5 = b := fld_eq (dig g1 b.isLt)
  have hz : x.toNat ≠ 0 := ne_zero q0 (by decide)
  intro k hk
  replace hk := mem_slots2 rfl hk
  rcases hk with rfl | rfl <;> simp [hz, decodeMap, decodeSb, decodeSa, q0, q1, f0, f1, f2]

theorem mul (d : BitVec 5) (a : BitVec 5) (b : BitVec 5) : Statement (.mul d a b) := by
  have h0 := d.isLt
  have h1 := a.isLt
  have h2 := b.isLt
  have hv : (syl 0x08000000 [(d.toNat, 21), (a.toNat, 16), (b.toNat, 11)]).toNat = _ := toNat_syl (by simp only [sylValue]; omega)
  simp only [sylValue] at hv
  refine statement_of rfl ?_
  generalize syl 0x08000000 [(d.toNat, 21), (a.toNat, 16), (b.toNat, 11)] = x at hv ⊢
  have g0 : x.toNat / 2 ^ 0 = 0 + 2 ^ 11 * (b.toNat + 2 ^ 5 * (a.toNat + 2 ^ 5 * (d.toNat + 2 ^ 5 * (2 + 2 ^ 6 * 0)))) := by rw [Nat.pow_zero, Nat.div_one, hv]; omega
  have g1 : x.toNat / 2 ^ 11 = b.toNat + 2 ^ 5 * (a.toNat + 2 ^ 5 * (d.toNat + 2 ^ 5 * (2 + 2 ^ 6 * 0))) := nxt g0 (by decide)
  have g2 : x.toNat / 2 ^ 16 = a.toNat + 2 ^ 5 * (d.toNat + 2 ^ 5 * (2 + 2 ^ 6 * 0)) := nxt g1 b.isLt
  have g3 : x.toNat / 2 ^ 21 = d.toNat + 2 ^ 5 * (2 + 2 ^ 6 * 0) := nxt g2 a.isLt
  have g4 : x.toNat / 2 ^ 26 = 2 + 2 ^ 6 * 0 := nxt g3 d.isLt
  have q0 : bits x 26 6 = 2 := dig g4 (by decide)
  have q1 : bits x 0 11 = 0 := dig g0 (by decide)
  have f0 : fld x 21 5 = d := fld_eq (dig g3 d.isLt)
  have f1 : fld x 16 5 = a := fld_eq (dig g2 a.isLt)
  have f2 : fld x 11 5 = b := fld_eq (dig g1 b.isLt)
  have hz : x.toNat ≠ 0 := ne_zero q0 (by decide)
  intro k hk
  replace hk := mem_slots2 rfl hk
  rcases hk with rfl | rfl <;> simp [hz, decodeMap, decodeSb, decodeSa, q0, q1, f0, f1, f2]

theorem mulh (d : BitVec 5) (a : BitVec 5) (b : BitVec 5) : Statement (.mulh d a b) := by
  have h0 := d.isLt
  have h1 := a.isLt
  have h2 := b.isLt
  have hv : (syl 0x08000001 [(d.toNat, 21), (a.toNat, 16), (b.toNat, 11)]).toNat = _ := toNat_syl (by simp only [sylValue]; omega)
  simp only [sylValue] at hv
  refine statement_of rfl ?_
  generalize syl 0x08000001 [(d.toNat, 21), (a.toNat, 16), (b.toNat, 11)] = x at hv ⊢
  have g0 : x.toNat / 2 ^ 0 = 1 + 2 ^ 11 * (b.toNat + 2 ^ 5 * (a.toNat + 2 ^ 5 * (d.toNat + 2 ^ 5 * (2 + 2 ^ 6 * 0)))) := by rw [Nat.pow_zero, Nat.div_one, hv]; omega
  have g1 : x.toNat / 2 ^ 11 = b.toNat + 2 ^ 5 * (a.toNat + 2 ^ 5 * (d.toNat + 2 ^ 5 * (2 + 2 ^ 6 * 0))) := nxt g0 (by decide)
  have g2 : x.toNat / 2 ^ 16 = a.toNat + 2 ^ 5 * (d.toNat + 2 ^ 5 * (2 + 2 ^ 6 * 0)) := nxt g1 b.isLt
  have g3 : x.toNat / 2 ^ 21 = d.toNat + 2 ^ 5 * (2 + 2 ^ 6 * 0) := nxt g2 a.isLt
  have g4 : x.toNat / 2 ^ 26 = 2 + 2 ^ 6 * 0 := nxt g3 d.isLt
  have q0 : bits x 26 6 = 2 := dig g4 (by decide)
  have q1 : bits x 0 11 = 1 := dig g0 (by decide)
  have f0 : fld x 21 5 = d := fld_eq (dig g3 d.isLt)
  have f1 : fld x 16 5 = a := fld_eq (dig g2 a.isLt)
  have f2 : fld x 11 5 = b := fld_eq (dig g1 b.isLt)
  have hz : x.toNat ≠ 0 := ne_zero q0 (by decide)
  intro k hk
  replace hk := mem_slots2 rfl hk
  rcases hk with rfl | rfl <;> simp [hz, decodeMap, decodeSb, decodeSa, q0, q1, f0, f1, f2]

theorem mulhn (d : BitVec 5) (a : BitVec 5) (b : BitVec 5) : Statement (.mulhn d a b) := by
  have h0 := d.isLt
  have h1 := a.isLt
  have h2 := b.isLt
  have hv : (syl 0x08000002 [(d.toNat, 21), (a.toNat, 16), (b.toNat, 11)]).toNat = _ := toNat_syl (by simp only [sylValue]; omega)
  simp only [sylValue] at hv
  refine statement_of rfl ?_
  generalize syl 0x08000002 [(d.toNat, 21), (a.toNat, 16), (b.toNat, 11)] = x at hv ⊢
  have g0 : x.toNat / 2 ^ 0 = 2 + 2 ^ 11 * (b.toNat + 2 ^ 5 * (a.toNat + 2 ^ 5 * (d.toNat + 2 ^ 5 * (2 + 2 ^ 6 * 0)))) := by rw [Nat.pow_zero, Nat.div_one, hv]; omega
  have g1 : x.toNat / 2 ^ 11 = b.toNat + 2 ^ 5 * (a.toNat + 2 ^ 5 * (d.toNat + 2 ^ 5 * (2 + 2 ^ 6 * 0))) := nxt g0 (by decide)
  have g2 : x.toNat / 2 ^ 16 = a.toNat + 2 ^ 5 * (d.toNat + 2 ^ 5 * (2 + 2 ^ 6 * 0)) := nxt g1 b.isLt
  have g3 : x.toNat / 2 ^ 21 = d.toNat + 2 ^ 5 * (2 + 2 ^ 6 * 0) := nxt g2 a.isLt
  have g4 : x.toNat / 2 ^ 26 = 2 + 2 ^ 6 * 0 := nxt g3 d.isLt
  have q0 : bits x 26 6 = 2 := dig g4 (by decide)
  have q1 : bits x 0 11 = 2 := dig g0 (by decide)
  have f0 : fld x 21 5 = d := fld_eq (dig g3 d.isLt)
  have f1 : fld x 16 5 = a := fld_eq (dig g2 a.isLt)
  have f2 : fld x 11 5 = b := fld_eq (dig g1 b.isLt)
  have hz : x.toNat ≠ 0 := ne_zero q0 (by decide)
  intro k hk
  replace hk := mem_slots2 rfl hk
  rcases hk with rfl | rfl <;> simp [hz, decodeMap, decodeSb, decodeSa, q0, q1, f0, f1, f2]

theorem div (d : BitVec 5) (a : BitVec 5) (b : BitVec 5) : Statement (.div d a b) := by
  have h0 := d.isLt
  have h1 := a.isLt
  have h2 := b.isLt
  have hv : (syl 0x08000003 [(d.toNat, 21), (a.toNat, 16), (b.toNat, 11)]).toNat = _ := toNat_syl (by simp only [sylValue]; omega)
  simp only [sylValue] at hv
  refine statement_of rfl ?_
  generalize syl 0x08000003 [(d.toNat, 21), (a.toNat, 16), (b.toNat, 11)] = x at hv ⊢
  have g0 : x.toNat / 2 ^ 0 = 3 + 2 ^ 11 * (b.toNat + 2 ^ 5 * (a.toNat + 2 ^ 5 * (d.toNat + 2 ^ 5 * (2 + 2 ^ 6 * 0)))) := by rw [Nat.pow_zero, Nat.div_one, hv]; omega
  have g1 : x.toNat / 2 ^ 11 = b.toNat + 2 ^ 5 * (a.toNat + 2 ^ 5 * (d.toNat + 2 ^ 5 * (2 + 2 ^ 6 * 0))) := nxt g0 (by decide)
  have g2 : x.toNat / 2 ^ 16 = a.toNat + 2 ^ 5 * (d.toNat + 2 ^ 5 * (2 + 2 ^ 6 * 0)) := nxt g1 b.isLt
  have g3 : x.toNat / 2 ^ 21 = d.toNat + 2 ^ 5 * (2 + 2 ^ 6 * 0) := nxt g2 a.isLt
  have g4 : x.toNat / 2 ^ 26 = 2 + 2 ^ 6 * 0 := nxt g3 d.isLt
  have q0 : bits x 26 6 = 2 := dig g4 (by decide)
  have q1 : bits x 0 11 = 3 := dig g0 (by decide)
  have f0 : fld x 21 5 = d := fld_eq (dig g3 d.isLt)
  have f1 : fld x 16 5 = a := fld_eq (dig g2 a.isLt)
  have f2 : fld x 11 5 = b := fld_eq (dig g1 b.isLt)
  have hz : x.toNat ≠ 0 := ne_zero q0 (by decide)
  intro k hk
  replace hk := mem_slots2 rfl hk
  rcases hk with rfl | rfl <;> simp [hz, decodeMap, decodeSb, decodeSa, q0, q1, f0, f1, f2]

theorem divn (d : BitVec 5) (a : BitVec 5) (b : BitVec 5) : Statement (.divn d a b) := by
  have h0 := d.isLt
  have h1 := a.isLt
  have h2 := b.isLt
  have hv : (syl 0x08000004 [(d.toNat, 21), (a.toNat, 16), (b.toNat, 11)]).toNat = _ := toNat_syl (by simp only [sylValue]; omega)
  simp only [sylValue] at hv
  refine statement_of rfl ?_
  generalize syl 0x08000004 [(d.toNat, 21), (a.toNat, 16), (b.toNat, 11)] = x at hv ⊢
  have g0 : x.toNat / 2 ^ 0 = 4 + 2 ^ 11 * (b.toNat + 2 ^ 5 * (a.toNat + 2 ^ 5 * (d.toNat + 2 ^ 5 * (2 + 2 ^ 6 * 0)))) := by rw [Nat.pow_zero, Nat.div_one, hv]; omega
  have g1 : x.toNat / 2 ^ 11 = b.toNat + 2 ^ 5 * (a.toNat + 2 ^ 5 * (d.toNat + 2 ^ 5 * (2 + 2 ^ 6 * 0))) := nxt g0 (by decide)
  have g2 : x.toNat / 2 ^ 16 = a.toNat + 2 ^ 5 * (d.toNat + 2 ^ 5 * (2 + 2 ^ 6 * 0)) := nxt g1 b.isLt
  have g3 : x.toNat / 2 ^ 21 = d.toNat + 2 ^ 5 * (2 + 2 ^ 6 * 0) := nxt g2 a.isLt
  have g4 : x.toNat / 2 ^ 26 = 2 + 2 ^ 6 * 0 := nxt g3 d.isLt
  have q0 : bits x 26 6 = 2 := dig g4 (by decide)
  have q1 : bits x 0 11 = 4 := dig g0 (by decide)
  have f0 : fld x 21 5 = d := fld_eq (dig g3 d.isLt)
  have f1 : fld x 16 5 = a := fld_eq (dig g2 a.isLt)
  have f2 : fld x 11 5 = b := fld_eq (dig g1 b.isLt)
  have hz : x.toNat ≠ 0 := ne_zero q0 (by decide)
  intro k hk
  replace hk := mem_slots2 rfl hk
  rcases hk with rfl | rfl <;> simp [hz, decodeMap, decodeSb, decodeSa, q0, q1, f0, f1, f2]

theorem rem (d : BitVec 5) (a : BitVec 5) (b : BitVec 5) : Statement (.rem d a b) := by
  have h0 := d.isLt
  have h1 := a.isLt
  have h2 := b.isLt
  have hv : (syl 0x08000005 [(d.toNat, 21), (a.toNat, 16), (b.toNat, 11)]).toNat = _ := toNat_syl (by simp only [sylValue]; omega)
  simp only [sylValue] at hv
  refine statement_of rfl ?_
  generalize syl 0x08000005 [(d.toNat, 21), (a.toNat, 16), (b.toNat, 11)] = x at hv ⊢
  have g0 : x.toNat / 2 ^ 0 = 5 + 2 ^ 11 * (b.toNat + 2 ^ 5 * (a.toNat + 2 ^ 5 * (d.toNat + 2 ^ 5 * (2 + 2 ^ 6 * 0)))) := by rw [Nat.pow_zero, Nat.div_one, hv]; omega
  have g1 : x.toNat / 2 ^ 11 = b.toNat + 2 ^ 5 * (a.toNat + 2 ^ 5 * (d.toNat + 2 ^ 5 * (2 + 2 ^ 6 * 0))) := nxt g0 (by decide)
  have g2 : x.toNat / 2 ^ 16 = a.toNat + 2 ^ 5 * (d.toNat + 2 ^ 5 * (2 + 2 ^ 6 * 0)) := nxt g1 b.isLt
  have g3 : x.toNat / 2 ^ 21 = d.toNat + 2 ^ 5 * (2 + 2 ^ 6 * 0) := nxt g2 a.isLt
  have g4 : x.toNat / 2 ^ 26 = 2 + 2 ^ 6 * 0 := nxt g3 d.isLt
  have q0 : bits x 26 6 = 2 := dig g4 (by decide)
  have q1 : bits x 0 11 = 5 := dig g0 (by decide)
  have f0 : fld x 21 5 = d := fld_eq (dig g3 d.isLt)
  have f1 : fld x 16 5 = a := fld_eq (dig g2 a.isLt)
  have f2 : fld x 11 5 = b := fld_eq (dig g1 b.isLt)
  have hz : x.toNat ≠ 0 := ne_zero q0 (by decide)
  intro k hk
  replace hk := mem_slots2 rfl hk
  rcases hk with rfl | rfl <;> simp [hz, decodeMap, decodeSb, decodeSa, q0, q1, f0, f1, f2]

theorem remn (d : BitVec 5) (a : BitVec 5) (b : BitVec 5) : Statement (.remn d a b) := by
  have h0 := d.isLt
  have h1 := a.isLt
  have h2 := b.isLt
  have hv : (syl 0x08000006 [(d.toNat, 21), (a.toNat, 16), (b.toNat, 11)]).toNat = _ := toNat_syl (by simp only [sylValue]; omega)
  simp only [sylValue] at hv
  refine statement_of rfl ?_
  generalize syl 0x08000006 [(d.toNat, 21), (a.toNat, 16), (b.toNat, 11)] = x at hv ⊢
  have g0 : x.toNat / 2 ^ 0 = 6 + 2 ^ 11 * (b.toNat + 2 ^ 5 * (a.toNat + 2 ^ 5 * (d.toNat + 2 ^ 5 * (2 + 2 ^ 6 * 0)))) := by rw [Nat.pow_zero, Nat.div_one, hv]; omega
  have g1 : x.toNat / 2 ^ 11 = b.toNat + 2 ^ 5 * (a.toNat + 2 ^ 5 * (d.toNat + 2 ^ 5 * (2 + 2 ^ 6 * 0))) := nxt g0 (by decide)
  have g2 : x.toNat / 2 ^ 16 = a.toNat + 2 ^ 5 * (d.toNat + 2 ^ 5 * (2 + 2 ^ 6 * 0)) := nxt g1 b.isLt
  have g3 : x.toNat / 2 ^ 21 = d.toNat + 2 ^ 5 * (2 + 2 ^ 6 * 0) := nxt g2 a.isLt
  have g4 : x.toNat / 2 ^ 26 = 2 + 2 ^ 6 * 0 := nxt g3 d.isLt
  have q0 : bits x 26 6 = 2 := dig g4 (by decide)
  have q1 : bits x 0 11 = 6 := dig g0 (by decide)
  have f0 : fld x 21 5 = d := fld_eq (dig g3 d.isLt)
  have f1 : fld x 16 5 = a := fld_eq (dig g2 a.isLt)
  have f2 : fld x 11 5 = b := fld_eq (dig g1 b.isLt)
  have hz : x.toNat ≠ 0 := ne_zero q0 (by decide)
  intro k hk
  replace hk := mem_slots2 rfl hk
  rcases hk with rfl | rfl <;> simp [hz, decodeMap, decodeSb, decodeSa, q0, q1, f0, f1, f2]

theorem mulW (d : BitVec 5) (a : BitVec 5) (b : BitVec 5) : Statement (.mulW d a b) := by
  have h0 := d.isLt
  have h1 := a.isLt
  have h2 := b.isLt
  have hv : (syl 0x08000008 [(d.toNat, 21), (a.toNat, 16), (b.toNat, 11)]).toNat = _ := toNat_syl (by simp only [sylValue]; omega)
  simp only [sylValue] at hv
  refine statement_of rfl ?_
  generalize syl 0x08000008 [(d.toNat, 21), (a.toNat, 16), (b.toNat, 11)] = x at hv ⊢
  have g0 : x.toNat / 2 ^ 0 = 8 + 2 ^ 11 * (b.toNat + 2 ^ 5 * (a.toNat + 2 ^ 5 * (d.toNat + 2 ^ 5 * (2 + 2 ^ 6 * 0)))) := by rw [Nat.pow_zero, Nat.div_one, hv]; omega
  have g1 : x.toNat / 2 ^ 11 = b.toNat + 2 ^ 5 * (a.toNat + 2 ^ 5 * (d.toNat + 2 ^ 5 * (2 + 2 ^ 6 * 0))) := nxt g0 (by decide)
  have g2 : x.toNat / 2 ^ 16 = a.toNat + 2 ^ 5 * (d.toNat + 2 ^ 5 * (2 + 2 ^ 6 * 0)) := nxt g1 b.isLt
  have g3 : x.toNat / 2 ^ 21 = d.toNat + 2 ^ 5 * (2 + 2 ^ 6 * 0) := nxt g2 a.isLt
  have g4 : x.toNat / 2 ^ 26 = 2 + 2 ^ 6 * 0 := nxt g3 d.isLt
  have q0 : bits x 26 6 = 2 := dig g4 (by decide)
  have q1 : bits x 0 11 = 8 := dig g0 (by decide)
  have f0 : fld x 21 5 = d := fld_eq (dig g3 d.isLt)
  have f1 : fld x 16 5 = a := fld_eq (dig g2 a.isLt)
  have f2 : fld x 11 5 = b := fld_eq (dig g1 b.isLt)
  have hz : x.toNat ≠ 0 := ne_zero q0 (by decide)
  intro k hk
  replace hk := mem_slots2 rfl hk
  rcases hk with rfl | rfl <;> simp [hz, decodeMap, decodeSb, decodeSa, q0, q1, f0, f1, f2]

theorem divW (d : BitVec 5) (a : BitVec 5) (b : BitVec 5) : Statement (.divW d a b) := by
  have h0 := d.isLt
  have h1 := a.isLt
  have h2 := b.isLt
  have hv : (syl 0x0800000B [(d.toNat, 21), (a.toNat, 16), (b.toNat, 11)]).toNat = _ := toNat_syl (by simp only [sylValue]; omega)
  simp only [sylValue] at hv
  refine statement_of rfl ?_
  generalize syl 0x0800000B [(d.toNat, 21), (a.toNat, 16), (b.toNat, 11)] = x at hv ⊢
  have g0 : x.toNat / 2 ^ 0 = 11 + 2 ^ 11 * (b.toNat + 2 ^ 5 * (a.toNat + 2 ^ 5 * (d.toNat + 2 ^ 5 * (2 + 2 ^ 6 * 0)))) := by rw [Nat.pow_zero, Nat.div_one, hv]; omega
  have g1 : x.toNat / 2 ^ 11 = b.toNat + 2 ^ 5 * (a.toNat + 2 ^ 5 * (d.toNat + 2 ^ 5 * (2 + 2 ^ 6 * 0))) := nxt g0 (by decide)
  have g2 : x.toNat / 2 ^ 16 = a.toNat + 2 ^ 5 * (d.toNat + 2 ^ 5 * (2 + 2 ^ 6 * 0)) := nxt g1 b.isLt
  have g3 : x.toNat / 2 ^ 21 = d.toNat + 2 ^ 5 * (2 + 2 ^ 6 * 0) := nxt g2 a.isLt
  have g4 : x.toNat / 2 ^ 26 = 2 + 2 ^ 6 * 0 := nxt g3 d.isLt
  have q0 : bits x 26 6 = 2 := dig g4 (by decide)
  have q1 : bits x 0 11 = 11 := dig g0 (by decide)
  have f0 : fld x 21 5 = d := fld_eq (dig g3 d.isLt)
  have f1 : fld x 16 5 = a := fld_eq (dig g2 a.isLt)
  have f2 : fld x 11 5 = b := fld_eq (dig g1 b.isLt)
  have hz : x.toNat ≠ 0 := ne_zero q0 (by decide)
  intro k hk
  replace hk := mem_slots2 rfl hk
  rcases hk with rfl | rfl <;> simp [hz, decodeMap, decodeSb, decodeSa, q0, q1, f0, f1, f2]

theorem divnW (d : BitVec 5) (a : BitVec 5) (b : BitVec 5) : Statement (.divnW d a b) := by
  have h0 := d.isLt
  have h1 := a.isLt
  have h2 := b.isLt
  have hv : (syl 0x0800000C [(d.toNat, 21), (a.toNat, 16), (b.toNat, 11)]).toNat = _ := toNat_syl (by simp only [sylValue]; omega)
  simp only [sylValue] at hv
  refine statement_of rfl ?_
  generalize syl 0x0800000C [(d.toNat, 21), (a.toNat, 16), (b.toNat, 11)] = x at hv ⊢
  have g0 : x.toNat / 2 ^ 0 = 12 + 2 ^ 11 * (b.toNat + 2 ^ 5 * (a.toNat + 2 ^ 5 * (d.toNat + 2 ^ 5 * (2 + 2 ^ 6 * 0)))) := by rw [Nat.pow_zero, Nat.div_one, hv]; omega
  have g1 : x.toNat / 2 ^ 11 = b.toNat + 2 ^ 5 * (a.toNat + 2 ^ 5 * (d.toNat + 2 ^ 5 * (2 + 2 ^ 6 * 0))) := nxt g0 (by decide)
  have g2 : x.toNat / 2 ^ 16 = a.toNat + 2 ^ 5 * (d.toNat + 2 ^ 5 * (2 + 2 ^ 6 * 0)) := nxt g1 b.isLt
  have g3 : x.toNat / 2 ^ 21 = d.toNat + 2 ^ 5 * (2 + 2 ^ 6 * 0) := nxt g2 a.isLt
  have g4 : x.toNat / 2 ^ 26 = 2 + 2 ^ 6 * 0 := nxt g3 d.isLt
  have q0 : bits x 26 6 = 2 := dig g4 (by decide)
  have q1 : bits x 0 11 = 12 := dig g0 (by decide)
  have f0 : fld x 21 5 = d := fld_eq (dig g3 d.isLt)
  have f1 : fld x 16 5 = a := fld_eq (dig g2 a.isLt)
  have f2 : fld x 11 5 = b := fld_eq (dig g1 b.isLt)
  have hz : x.toNat ≠ 0 := ne_zero q0 (by decide)
  intro k hk
  replace hk := mem_slots2 rfl hk
  rcases hk with rfl | rfl <;> simp [hz, decodeMap, decodeSb, decodeSa, q0, q1, f0, f1, f2]

theorem remW (d : BitVec 5) (a : BitVec 5) (b : BitVec 5) : Statement (.remW d a b) := by
  have h0 := d.isLt
  have h1 := a.isLt
  have h2 := b.isLt
  have hv : (syl 0x0800000D [(d.toNat, 21), (a.toNat, 16), (b.toNat, 11)]).toNat = _ := toNat_syl (by simp only [sylValue]; omega)
  simp only [sylValue] at hv
  refine statement_of rfl ?_
  generalize syl 0x0800000D [(d.toNat, 21), (a.toNat, 16), (b.toNat, 11)] = x at hv ⊢
  have g0 : x.toNat / 2 ^ 0 = 13 + 2 ^ 11 * (b.toNat + 2 ^ 5 * (a.toNat + 2 ^ 5 * (d.toNat + 2 ^ 5 * (2 + 2 ^ 6 * 0)))) := by rw [Nat.pow_zero, Nat.div_one, hv]; omega
  have g1 : x.toNat / 2 ^ 11 = b.toNat + 2 ^ 5 * (a.toNat + 2 ^ 5 * (d.toNat + 2 ^ 5 * (2 + 2 ^ 6 * 0))) := nxt g0 (by decide)
  have g2 : x.toNat / 2 ^ 16 = a.toNat + 2 ^ 5 * (d.toNat + 2 ^ 5 * (2 + 2 ^ 6 * 0)) := nxt g1 b.isLt
  have g3 : x.toNat / 2 ^ 21 = d.toNat + 2 ^ 5 * (2 + 2 ^ 6 * 0) := nxt g2 a.isLt
  have g4 : x.toNat / 2 ^ 26 = 2 + 2 ^ 6 * 0 := nxt g3 d.isLt
  have q0 : bits x 26 6 = 2 := dig g4 (by decide)
  have q1 : bits x 0 11 = 13 := dig g0 (by decide)
  have f0 : fld x 21 5 = d := fld_eq (dig g3 d.isLt)
  have f1 : fld x 16 5 = a := fld_eq (dig g2 a.isLt)
  have f2 : fld x 11 5 = b := fld_eq (dig g1 b.isLt)
  have hz : x.toNat ≠ 0 := ne_zero q0 (by decide)
  intro k hk
  replace hk := mem_slots2 rfl hk
  rcases hk with rfl | rfl <;> simp [hz, decodeMap, decodeSb, decodeSa, q0, q1, f0, f1, f2]

theorem remnW (d : BitVec 5) (a : BitVec 5) (b : BitVec 5) : Statement (.remnW d a b) := by
  have h0 := d.isLt
  have h1 := a.isLt
  have h2 := b.isLt
  have hv : (syl 0x0800000E [(d.toNat, 21), (a.toNat, 16), (b.toNat, 11)]).toNat = _ := toNat_syl (by simp only [sylValue]; omega)
  simp only [sylValue] at hv
  refine statement_of rfl ?_
  generalize syl 0x0800000E [(d.toNat, 21), (a.toNat, 16), (b.toNat, 11)] = x at hv ⊢
  have g0 : x.toNat / 2 ^ 0 = 14 + 2 ^ 11 * (b.toNat + 2 ^ 5 * (a.toNat + 2 ^ 5 * (d.toNat + 2 ^ 5 * (2 + 2 ^ 6 * 0)))) := by rw [Nat.pow_zero, Nat.div_one, hv]; omega
  have g1 : x.toNat / 2 ^ 11 = b.toNat + 2 ^ 5 * (a.toNat + 2 ^ 5 * (d.toNat + 2 ^ 5 * (2 + 2 ^ 6 * 0))) := nxt g0 (by decide)
  have g2 : x.toNat / 2 ^ 16 = a.toNat + 2 ^ 5 * (d.toNat + 2 ^ 5 * (2 + 2 ^ 6 * 0)) := nxt g1 b.isLt
  have g3 : x.toNat / 2 ^ 21 = d.toNat + 2 ^ 5 * (2 + 2 ^ 6 * 0) := nxt g2 a.isLt
  have g4 : x.toNat / 2 ^ 26 = 2 + 2 ^ 6 * 0 := nxt g3 d.isLt
  have q0 : bits x 26 6 = 2 := dig g4 (by decide)
  have q1 : bits x 0 11 = 14 := dig g0 (by decide)
  have f0 : fld x 21 5 = d := fld_eq (dig g3 d.isLt)
  have f1 : fld x 16 5 = a := fld_eq (dig g2 a.isLt)
  have f2 : fld x 11 5 = b := fld_eq (dig g1 b.isLt)
  have hz : x.toNat ≠ 0 := ne_zero q0 (by decide)
  intro k hk
  replace hk := mem_slots2 rfl hk
  rcases hk with rfl | rfl <;> simp [hz, decodeMap, decodeSb, decodeSa, q0, q1, f0, f1, f2]

theorem clz (d : BitVec 5) (a : BitVec 5) : Statement (.clz d a) := by
  have h0 := d.isLt
  have h1 := a.isLt
  have hv : (syl 0x0C000000 [(d.toNat, 21), (a.toNat, 16)]).toNat = _ := toNat_syl (by simp only [sylValue]; omega)
  simp only [sylValue] at hv
  refine statement_of rfl ?_
  generalize syl 0x0C000000 [(d.toNat, 21), (a.toNat, 16)] = x at hv ⊢
  have g0 : x.toNat / 2 ^ 0 = 0 + 2 ^ 16 * (a.toNat + 2 ^ 5 * (d.toNat + 2 ^ 5 * (3 + 2 ^ 6 * 0))) := by rw [Nat.pow_zero, Nat.div_one, hv]; omega
  have g1 : x.toNat / 2 ^ 16 = a.toNat + 2 ^ 5 * (d.toNat + 2 ^ 5 * (3 + 2 ^ 6 * 0)) := nxt g0 (by decide)
  have g2 : x.toNat / 2 ^ 21 = d.toNat + 2 ^ 5 * (3 + 2 ^ 6 * 0) := nxt g1 a.isLt
  have g3 : x.toNat / 2 ^ 26 = 3 + 2 ^ 6 * 0 := nxt g2 d.isLt
  have q0 : bits x 26 6 = 3 := dig g3 (by decide)
  have q1 : bits x 0 16 = 0 := dig g0 (by decide)
  have f0 : fld x 21 5 = d := fld_eq (dig g2 d.isLt)
  have f1 : fld x 16 5 = a := fld_eq (dig g1 a.isLt)
  have hz : x.toNat ≠ 0 := ne_zero q0 (by decide)
  intro k hk
  replace hk := mem_slots2 rfl hk
  rcases hk with rfl | rfl <;> simp [hz, decodeMap, decodeSb, decodeSa, q0, q1, f0, f1]

theorem ctz (d : BitVec 5) (a : BitVec 5) : Statement (.ctz d a) := by
  have h0 := d.isLt
  have h1 := a.isLt
  have hv : (syl 0x0C000001 [(d.toNat, 21), (a.toNat, 16)]).toNat = _ := toNat_syl (by simp only [sylValue]; omega)
  simp only [sylValue] at hv
  refine statement_of rfl ?_
  generalize syl 0x0C000001 [(d.toNat, 21), (a.toNat, 16)] = x at hv ⊢
  have g0 : x.toNat / 2 ^ 0 = 1 + 2 ^ 16 * (a.toNat + 2 ^ 5 * (d.toNat + 2 ^ 5 * (3 + 2 ^ 6 * 0))) := by rw [Nat.pow_zero, Nat.div_one, hv]; omega
  have g1 : x.toNat / 2 ^ 16 = a.toNat + 2 ^ 5 * (d.toNat + 2 ^ 5 * (3 + 2 ^ 6 * 0)) := nxt g0 (by decide)
  have g2 : x.toNat / 2 ^ 21 = d.toNat + 2 ^ 5 * (3 + 2 ^ 6 * 0) := nxt g1 a.isLt
  have g3 : x.toNat / 2 ^ 26 = 3 + 2 ^ 6 * 0 := nxt g2 d.isLt
  have q0 : bits x 26 6 = 3 := dig g3 (by decide)
  have q1 : bits x 0 16 = 1 := dig g0 (by decide)
  have f0 : fld x 21 5 = d := fld_eq (dig g2 d.isLt)
  have f1 : fld x 16 5 = a := fld_eq (dig g1 a.isLt)
  have hz : x.toNat ≠ 0 := ne_zero q0 (by decide)
  intro k hk
  replace hk := mem_slots2 rfl hk
  rcases hk with rfl | rfl <;> simp [hz, decodeMap, decodeSb, decodeSa, q0, q1, f0, f1]

theorem popc (d : BitVec 5) (a : BitVec 5) : Statement (.popc d a) := by
  have h0 := d.isLt
  have h1 := a.isLt
  have hv : (syl 0x0C000002 [(d.toNat, 21), (a.toNat, 16)]).toNat = _ := toNat_syl (by simp only [sylValue]; omega)
  simp only [sylValue] at hv
  refine statement_of rfl ?_
  generalize syl 0x0C000002 [(d.toNat, 21), (a.toNat, 16)] = x at hv ⊢
  have g0 : x.toNat / 2 ^ 0 = 2 + 2 ^ 16 * (a.toNat + 2 ^ 5 * (d.toNat + 2 ^ 5 * (3 + 2 ^ 6 * 0))) := by rw [Nat.pow_zero, Nat.div_one, hv]; omega
  have g1 : x.toNat / 2 ^ 16 = a.toNat + 2 ^ 5 * (d.toNat + 2 ^ 5 * (3 + 2 ^ 6 * 0)) := nxt g0 (by decide)
  have g2 : x.toNat / 2 ^ 21 = d.toNat + 2 ^ 5 * (3 + 2 ^ 6 * 0) := nxt g1 a.isLt
  have g3 : x.toNat / 2 ^ 26 = 3 + 2 ^ 6 * 0 := nxt g2 d.isLt
  have q0 : bits x 26 6 = 3 := dig g3 (by decide)
  have q1 : bits x 0 16 = 2 := dig g0 (by decide)
  have f0 : fld x 21 5 = d := fld_eq (dig g2 d.isLt)
  have f1 : fld x 16 5 = a := fld_eq (dig g1 a.isLt)
  have hz : x.toNat ≠ 0 := ne_zero q0 (by decide)
  intro k hk
  replace hk := mem_slots2 rfl hk
  rcases hk with rfl | rfl <;> simp [hz, decodeMap, decodeSb, decodeSa, q0, q1, f0, f1]

theorem sel (d : BitVec 5) (a : BitVec 5) (b : BitVec 5) (c : BitVec 5) : Statement (.sel d a b c) := by
  have h0 := d.isLt
  have h1 := a.isLt
  have h2 := b.isLt
  have h3 := c.isLt
  have hv : (syl 0x10000000 [(d.toNat, 21), (a.toNat, 16), (b.toNat, 11), (c.toNat, 6)]).toNat = _ := toNat_syl (by simp only [sylValue]; omega)
  simp only [sylValue] at hv
  refine statement_of rfl ?_
  generalize syl 0x10000000 [(d.toNat, 21), (a.toNat, 16), (b.toNat, 11), (c.toNat, 6)] = x at hv ⊢
  have g0 : x.toNat / 2 ^ 0 = 0 + 2 ^ 6 * (c.toNat + 2 ^ 5 * (b.toNat + 2 ^ 5 * (a.toNat + 2 ^ 5 * (d.toNat + 2 ^ 5 * (4 + 2 ^ 6 * 0))))) := by rw [Nat.pow_zero, Nat.div_one, hv]; omega
  have g1 : x.toNat / 2 ^ 6 = c.toNat + 2 ^ 5 * (b.toNat + 2 ^ 5 * (a.toNat + 2 ^ 5 * (d.toNat + 2 ^ 5 * (4 + 2 ^ 6 * 0)))) := nxt g0 (by decide)
  have g2 : x.toNat / 2 ^ 11 = b.toNat + 2 ^ 5 * (a.toNat + 2 ^ 5 * (d.toNat + 2 ^ 5 * (4 + 2 ^ 6 * 0))) := nxt g1 c.isLt
  have g3 : x.toNat / 2 ^ 16 = a.toNat + 2 ^ 5 * (d.toNat + 2 ^ 5 * (4 + 2 ^ 6 * 0)) := nxt g2 b.isLt
  have g4 : x.toNat / 2 ^ 21 = d.toNat + 2 ^ 5 * (4 + 2 ^ 6 * 0) := nxt g3 a.isLt
  have g5 : x.toNat / 2 ^ 26 = 4 + 2 ^ 6 * 0 := nxt g4 d.isLt
  have q0 : bits x 26 6 = 4 := dig g5 (by decide)
  have q1 : bits x 0 6 = 0 := dig g0 (by decide)
  have f0 : fld x 21 5 = d := fld_eq (dig g4 d.isLt)
  have f1 : fld x 16 5 = a := fld_eq (dig g3 a.isLt)
  have f2 : fld x 11 5 = b := fld_eq (dig g2 b.isLt)
  have f3 : fld x 6 5 = c := fld_eq (dig g1 c.isLt)
  have hz : x.toNat ≠ 0 := ne_zero q0 (by decide)
  intro k hk
  replace hk := mem_slots2 rfl hk
  rcases hk with rfl | rfl <;> simp [hz, decodeMap, decodeSb, decodeSa, q0, q1, f0, f1, f2, f3]

theorem lea (d : BitVec 5) (a : BitVec 5) (b : BitVec 5) (h : BitVec 2) : Statement (.lea d a b h) := by
  have h0 := d.isLt
  have h1 := a.isLt
  have h2 := b.isLt
  have h3 := h.isLt
  have hv : (syl 0x14000000 [(d.toNat, 21), (a.toNat, 16), (b.toNat, 11), (h.toNat, 0)]).toNat = _ := toNat_syl (by simp only [sylValue]; omega)
  simp only [sylValue] at hv
  refine statement_of rfl ?_
  generalize syl 0x14000000 [(d.toNat, 21), (a.toNat, 16), (b.toNat, 11), (h.toNat, 0)] = x at hv ⊢
  have g0 : x.toNat / 2 ^ 0 = h.toNat + 2 ^ 2 * (0 + 2 ^ 9 * (b.toNat + 2 ^ 5 * (a.toNat + 2 ^ 5 * (d.toNat + 2 ^ 5 * (5 + 2 ^ 6 * 0))))) := by rw [Nat.pow_zero, Nat.div_one, hv]; omega
  have g1 : x.toNat / 2 ^ 2 = 0 + 2 ^ 9 * (b.toNat + 2 ^ 5 * (a.toNat + 2 ^ 5 * (d.toNat + 2 ^ 5 * (5 + 2 ^ 6 * 0)))) := nxt g0 h.isLt
  have g2 : x.toNat / 2 ^ 11 = b.toNat + 2 ^ 5 * (a.toNat + 2 ^ 5 * (d.toNat + 2 ^ 5 * (5 + 2 ^ 6 * 0))) := nxt g1 (by decide)
  have g3 : x.toNat / 2 ^ 16 = a.toNat + 2 ^ 5 * (d.toNat + 2 ^ 5 * (5 + 2 ^ 6 * 0)) := nxt g2 b.isLt
  have g4 : x.toNat / 2 ^ 21 = d.toNat + 2 ^ 5 * (5 + 2 ^ 6 * 0) := nxt g3 a.isLt
  have g5 : x.toNat / 2 ^ 26 = 5 + 2 ^ 6 * 0 := nxt g4 d.isLt
  have q0 : bits x 26 6 = 5 := dig g5 (by decide)
  have q1 : bits x 2 9 = 0 := dig g1 (by decide)
  have f0 : fld x 21 5 = d := fld_eq (dig g4 d.isLt)
  have f1 : fld x 16 5 = a := fld_eq (dig g3 a.isLt)
  have f2 : fld x 11 5 = b := fld_eq (dig g2 b.isLt)
  have f3 : fld x 0 2 = h := fld_eq (dig g0 h.isLt)
  have hz : x.toNat ≠ 0 := ne_zero q0 (by decide)
  intro k hk
  replace hk := mem_slots2 rfl hk
  rcases hk with rfl | rfl <;> simp [hz, decodeMap, decodeSb, decodeSa, q0, q1, f0, f1, f2, f3]

theorem addi (d : BitVec 5) (a : BitVec 5) (i : BitVec 16) : Statement (.addi d a i) := by
  have h0 := d.isLt
  have h1 := a.isLt
  have h2 := i.isLt
  have hv : (syl 0x20000000 [(d.toNat, 21), (a.toNat, 16), (i.toNat, 0)]).toNat = _ := toNat_syl (by simp only [sylValue]; omega)
  simp only [sylValue] at hv
  refine statement_of rfl ?_
  generalize syl 0x20000000 [(d.toNat, 21), (a.toNat, 16), (i.toNat, 0)] = x at hv ⊢
  have g0 : x.toNat / 2 ^ 0 = i.toNat + 2 ^ 16 * (a.toNat + 2 ^ 5 * (d.toNat + 2 ^ 5 * (8 + 2 ^ 6 * 0))) := by rw [Nat.pow_zero, Nat.div_one, hv]; omega
  have g1 : x.toNat / 2 ^ 16 = a.toNat + 2 ^ 5 * (d.toNat + 2 ^ 5 * (8 + 2 ^ 6 * 0)) := nxt g0 i.isLt
  have g2 : x.toNat / 2 ^ 21 = d.toNat + 2 ^ 5 * (8 + 2 ^ 6 * 0) := nxt g1 a.isLt
  have g3 : x.toNat / 2 ^ 26 = 8 + 2 ^ 6 * 0 := nxt g2 d.isLt
  have q0 : bits x 26 6 = 8 := dig g3 (by decide)
  have f0 : fld x 21 5 = d := fld_eq (dig g2 d.isLt)
  have f1 : fld x 16 5 = a := fld_eq (dig g1 a.isLt)
  have f2 : fld x 0 16 = i := fld_eq (dig g0 i.isLt)
  have hz : x.toNat ≠ 0 := ne_zero q0 (by decide)
  intro k hk
  replace hk := mem_slots2 rfl hk
  rcases hk with rfl | rfl <;> simp [hz, decodeMap, decodeSb, decodeSa, q0, f0, f1, f2]

theorem andi (d : BitVec 5) (a : BitVec 5) (i : BitVec 16) : Statement (.andi d a i) := by
  have h0 := d.isLt
  have h1 := a.isLt
  have h2 := i.isLt
  have hv : (syl 0x24000000 [(d.toNat, 21), (a.toNat, 16), (i.toNat, 0)]).toNat = _ := toNat_syl (by simp only [sylValue]; omega)
  simp only [sylValue] at hv
  refine statement_of rfl ?_
  generalize syl 0x24000000 [(d.toNat, 21), (a.toNat, 16), (i.toNat, 0)] = x at hv ⊢
  have g0 : x.toNat / 2 ^ 0 = i.toNat + 2 ^ 16 * (a.toNat + 2 ^ 5 * (d.toNat + 2 ^ 5 * (9 + 2 ^ 6 * 0))) := by rw [Nat.pow_zero, Nat.div_one, hv]; omega
  have g1 : x.toNat / 2 ^ 16 = a.toNat + 2 ^ 5 * (d.toNat + 2 ^ 5 * (9 + 2 ^ 6 * 0)) := nxt g0 i.isLt
  have g2 : x.toNat / 2 ^ 21 = d.toNat + 2 ^ 5 * (9 + 2 ^ 6 * 0) := nxt g1 a.isLt
  have g3 : x.toNat / 2 ^ 26 = 9 + 2 ^ 6 * 0 := nxt g2 d.isLt
  have q0 : bits x 26 6 = 9 := dig g3 (by decide)
  have f0 : fld x 21 5 = d := fld_eq (dig g2 d.isLt)
  have f1 : fld x 16 5 = a := fld_eq (dig g1 a.isLt)
  have f2 : fld x 0 16 = i := fld_eq (dig g0 i.isLt)
  have hz : x.toNat ≠ 0 := ne_zero q0 (by decide)
  intro k hk
  replace hk := mem_slots2 rfl hk
  rcases hk with rfl | rfl <;> simp [hz, decodeMap, decodeSb, decodeSa, q0, f0, f1, f2]

theorem ori (d : BitVec 5) (a : BitVec 5) (i : BitVec 16) : Statement (.ori d a i) := by
  have h0 := d.isLt
  have h1 := a.isLt
  have h2 := i.isLt
  have hv : (syl 0x28000000 [(d.toNat, 21), (a.toNat, 16), (i.toNat, 0)]).toNat = _ := toNat_syl (by simp only [sylValue]; omega)
  simp only [sylValue] at hv
  refine statement_of rfl ?_
  generalize syl 0x28000000 [(d.toNat, 21), (a.toNat, 16), (i.toNat, 0)] = x at hv ⊢
  have g0 : x.toNat / 2 ^ 0 = i.toNat + 2 ^ 16 * (a.toNat + 2 ^ 5 * (d.toNat + 2 ^ 5 * (10 + 2 ^ 6 * 0))) := by rw [Nat.pow_zero, Nat.div_one, hv]; omega
  have g1 : x.toNat / 2 ^ 16 = a.toNat + 2 ^ 5 * (d.toNat + 2 ^ 5 * (10 + 2 ^ 6 * 0)) := nxt g0 i.isLt
  have g2 : x.toNat / 2 ^ 21 = d.toNat + 2 ^ 5 * (10 + 2 ^ 6 * 0) := nxt g1 a.isLt
  have g3 : x.toNat / 2 ^ 26 = 10 + 2 ^ 6 * 0 := nxt g2 d.isLt
  have q0 : bits x 26 6 = 10 := dig g3 (by decide)
  have f0 : fld x 21 5 = d := fld_eq (dig g2 d.isLt)
  have f1 : fld x 16 5 = a := fld_eq (dig g1 a.isLt)
  have f2 : fld x 0 16 = i := fld_eq (dig g0 i.isLt)
  have hz : x.toNat ≠ 0 := ne_zero q0 (by decide)
  intro k hk
  replace hk := mem_slots2 rfl hk
  rcases hk with rfl | rfl <;> simp [hz, decodeMap, decodeSb, decodeSa, q0, f0, f1, f2]

theorem xori (d : BitVec 5) (a : BitVec 5) (i : BitVec 16) : Statement (.xori d a i) := by
  have h0 := d.isLt
  have h1 := a.isLt
  have h2 := i.isLt
  have hv : (syl 0x2C000000 [(d.toNat, 21), (a.toNat, 16), (i.toNat, 0)]).toNat = _ := toNat_syl (by simp only [sylValue]; omega)
  simp only [sylValue] at hv
  refine statement_of rfl ?_
  generalize syl 0x2C000000 [(d.toNat, 21), (a.toNat, 16), (i.toNat, 0)] = x at hv ⊢
  have g0 : x.toNat / 2 ^ 0 = i.toNat + 2 ^ 16 * (a.toNat + 2 ^ 5 * (d.toNat + 2 ^ 5 * (11 + 2 ^ 6 * 0))) := by rw [Nat.pow_zero, Nat.div_one, hv]; omega
  have g1 : x.toNat / 2 ^ 16 = a.toNat + 2 ^ 5 * (d.toNat + 2 ^ 5 * (11 + 2 ^ 6 * 0)) := nxt g0 i.isLt
  have g2 : x.toNat / 2 ^ 21 = d.toNat + 2 ^ 5 * (11 + 2 ^ 6 * 0) := nxt g1 a.isLt
  have g3 : x.toNat / 2 ^ 26 = 11 + 2 ^ 6 * 0 := nxt g2 d.isLt
  have q0 : bits x 26 6 = 11 := dig g3 (by decide)
  have f0 : fld x 21 5 = d := fld_eq (dig g2 d.isLt)
  have f1 : fld x 16 5 = a := fld_eq (dig g1 a.isLt)
  have f2 : fld x 0 16 = i := fld_eq (dig g0 i.isLt)
  have hz : x.toNat ≠ 0 := ne_zero q0 (by decide)
  intro k hk
  replace hk := mem_slots2 rfl hk
  rcases hk with rfl | rfl <;> simp [hz, decodeMap, decodeSb, decodeSa, q0, f0, f1, f2]

theorem slti (d : BitVec 5) (a : BitVec 5) (i : BitVec 16) : Statement (.slti d a i) := by
  have h0 := d.isLt
  have h1 := a.isLt
  have h2 := i.isLt
  have hv : (syl 0x30000000 [(d.toNat, 21), (a.toNat, 16), (i.toNat, 0)]).toNat = _ := toNat_syl (by simp only [sylValue]; omega)
  simp only [sylValue] at hv
  refine statement_of rfl ?_
  generalize syl 0x30000000 [(d.toNat, 21), (a.toNat, 16), (i.toNat, 0)] = x at hv ⊢
  have g0 : x.toNat / 2 ^ 0 = i.toNat + 2 ^ 16 * (a.toNat + 2 ^ 5 * (d.toNat + 2 ^ 5 * (12 + 2 ^ 6 * 0))) := by rw [Nat.pow_zero, Nat.div_one, hv]; omega
  have g1 : x.toNat / 2 ^ 16 = a.toNat + 2 ^ 5 * (d.toNat + 2 ^ 5 * (12 + 2 ^ 6 * 0)) := nxt g0 i.isLt
  have g2 : x.toNat / 2 ^ 21 = d.toNat + 2 ^ 5 * (12 + 2 ^ 6 * 0) := nxt g1 a.isLt
  have g3 : x.toNat / 2 ^ 26 = 12 + 2 ^ 6 * 0 := nxt g2 d.isLt
  have q0 : bits x 26 6 = 12 := dig g3 (by decide)
  have f0 : fld x 21 5 = d := fld_eq (dig g2 d.isLt)
  have f1 : fld x 16 5 = a := fld_eq (dig g1 a.isLt)
  have f2 : fld x 0 16 = i := fld_eq (dig g0 i.isLt)
  have hz : x.toNat ≠ 0 := ne_zero q0 (by decide)
  intro k hk
  replace hk := mem_slots2 rfl hk
  rcases hk with rfl | rfl <;> simp [hz, decodeMap, decodeSb, decodeSa, q0, f0, f1, f2]

theorem shli (d : BitVec 5) (a : BitVec 5) (h : BitVec 6) : Statement (.shli d a h) := by
  have h0 := d.isLt
  have h1 := a.isLt
  have h2 := h.isLt
  have hv : (syl 0x34000000 [(d.toNat, 21), (a.toNat, 16), (h.toNat, 0)]).toNat = _ := toNat_syl (by simp only [sylValue]; omega)
  simp only [sylValue] at hv
  refine statement_of rfl ?_
  generalize syl 0x34000000 [(d.toNat, 21), (a.toNat, 16), (h.toNat, 0)] = x at hv ⊢
  have g0 : x.toNat / 2 ^ 0 = h.toNat + 2 ^ 6 * (0 + 2 ^ 10 * (a.toNat + 2 ^ 5 * (d.toNat + 2 ^ 5 * (13 + 2 ^ 6 * 0)))) := by rw [Nat.pow_zero, Nat.div_one, hv]; omega
  have g1 : x.toNat / 2 ^ 6 = 0 + 2 ^ 10 * (a.toNat + 2 ^ 5 * (d.toNat + 2 ^ 5 * (13 + 2 ^ 6 * 0))) := nxt g0 h.isLt
  have g2 : x.toNat / 2 ^ 16 = a.toNat + 2 ^ 5 * (d.toNat + 2 ^ 5 * (13 + 2 ^ 6 * 0)) := nxt g1 (by decide)
  have g3 : x.toNat / 2 ^ 21 = d.toNat + 2 ^ 5 * (13 + 2 ^ 6 * 0) := nxt g2 a.isLt
  have g4 : x.toNat / 2 ^ 26 = 13 + 2 ^ 6 * 0 := nxt g3 d.isLt
  have q0 : bits x 26 6 = 13 := dig g4 (by decide)
  have q1 : bits x 6 10 = 0 := dig g1 (by decide)
  have f0 : fld x 21 5 = d := fld_eq (dig g3 d.isLt)
  have f1 : fld x 16 5 = a := fld_eq (dig g2 a.isLt)
  have f2 : fld x 0 6 = h := fld_eq (dig g0 h.isLt)
  have hz : x.toNat ≠ 0 := ne_zero q0 (by decide)
  intro k hk
  replace hk := mem_slots2 rfl hk
  rcases hk with rfl | rfl <;> simp [hz, decodeMap, decodeSb, decodeSa, q0, q1, f0, f1, f2]

theorem shri (d : BitVec 5) (a : BitVec 5) (h : BitVec 6) : Statement (.shri d a h) := by
  have h0 := d.isLt
  have h1 := a.isLt
  have h2 := h.isLt
  have hv : (syl 0x38000000 [(d.toNat, 21), (a.toNat, 16), (h.toNat, 0)]).toNat = _ := toNat_syl (by simp only [sylValue]; omega)
  simp only [sylValue] at hv
  refine statement_of rfl ?_
  generalize syl 0x38000000 [(d.toNat, 21), (a.toNat, 16), (h.toNat, 0)] = x at hv ⊢
  have g0 : x.toNat / 2 ^ 0 = h.toNat + 2 ^ 6 * (0 + 2 ^ 10 * (a.toNat + 2 ^ 5 * (d.toNat + 2 ^ 5 * (14 + 2 ^ 6 * 0)))) := by rw [Nat.pow_zero, Nat.div_one, hv]; omega
  have g1 : x.toNat / 2 ^ 6 = 0 + 2 ^ 10 * (a.toNat + 2 ^ 5 * (d.toNat + 2 ^ 5 * (14 + 2 ^ 6 * 0))) := nxt g0 h.isLt
  have g2 : x.toNat / 2 ^ 16 = a.toNat + 2 ^ 5 * (d.toNat + 2 ^ 5 * (14 + 2 ^ 6 * 0)) := nxt g1 (by decide)
  have g3 : x.toNat / 2 ^ 21 = d.toNat + 2 ^ 5 * (14 + 2 ^ 6 * 0) := nxt g2 a.isLt
  have g4 : x.toNat / 2 ^ 26 = 14 + 2 ^ 6 * 0 := nxt g3 d.isLt
  have q0 : bits x 26 6 = 14 := dig g4 (by decide)
  have q1 : bits x 6 10 = 0 := dig g1 (by decide)
  have f0 : fld x 21 5 = d := fld_eq (dig g3 d.isLt)
  have f1 : fld x 16 5 = a := fld_eq (dig g2 a.isLt)
  have f2 : fld x 0 6 = h := fld_eq (dig g0 h.isLt)
  have hz : x.toNat ≠ 0 := ne_zero q0 (by decide)
  intro k hk
  replace hk := mem_slots2 rfl hk
  rcases hk with rfl | rfl <;> simp [hz, decodeMap, decodeSb, decodeSa, q0, q1, f0, f1, f2]

theorem srai (d : BitVec 5) (a : BitVec 5) (h : BitVec 6) : Statement (.srai d a h) := by
  have h0 := d.isLt
  have h1 := a.isLt
  have h2 := h.isLt
  have hv : (syl 0x3C000000 [(d.toNat, 21), (a.toNat, 16), (h.toNat, 0)]).toNat = _ := toNat_syl (by simp only [sylValue]; omega)
  simp only [sylValue] at hv
  refine statement_of rfl ?_
  generalize syl 0x3C000000 [(d.toNat, 21), (a.toNat, 16), (h.toNat, 0)] = x at hv ⊢
  have g0 : x.toNat / 2 ^ 0 = h.toNat + 2 ^ 6 * (0 + 2 ^ 10 * (a.toNat + 2 ^ 5 * (d.toNat + 2 ^ 5 * (15 + 2 ^ 6 * 0)))) := by rw [Nat.pow_zero, Nat.div_one, hv]; omega
  have g1 : x.toNat / 2 ^ 6 = 0 + 2 ^ 10 * (a.toNat + 2 ^ 5 * (d.toNat + 2 ^ 5 * (15 + 2 ^ 6 * 0))) := nxt g0 h.isLt
  have g2 : x.toNat / 2 ^ 16 = a.toNat + 2 ^ 5 * (d.toNat + 2 ^ 5 * (15 + 2 ^ 6 * 0)) := nxt g1 (by decide)
  have g3 : x.toNat / 2 ^ 21 = d.toNat + 2 ^ 5 * (15 + 2 ^ 6 * 0) := nxt g2 a.isLt
  have g4 : x.toNat / 2 ^ 26 = 15 + 2 ^ 6 * 0 := nxt g3 d.isLt
  have q0 : bits x 26 6 = 15 := dig g4 (by decide)
  have q1 : bits x 6 10 = 0 := dig g1 (by decide)
  have f0 : fld x 21 5 = d := fld_eq (dig g3 d.isLt)
  have f1 : fld x 16 5 = a := fld_eq (dig g2 a.isLt)
  have f2 : fld x 0 6 = h := fld_eq (dig g0 h.isLt)
  have hz : x.toNat ≠ 0 := ne_zero q0 (by decide)
  intro k hk
  replace hk := mem_slots2 rfl hk
  rcases hk with rfl | rfl <;> simp [hz, decodeMap, decodeSb, decodeSa, q0, q1, f0, f1, f2]

theorem movi (d : BitVec 5) (i : BitVec 16) : Statement (.movi d i) := by
  have h0 := d.isLt
  have h1 := i.isLt
  have hv : (syl 0x40000000 [(d.toNat, 21), (i.toNat, 0)]).toNat = _ := toNat_syl (by simp only [sylValue]; omega)
  simp only [sylValue] at hv
  refine statement_of rfl ?_
  generalize syl 0x40000000 [(d.toNat, 21), (i.toNat, 0)] = x at hv ⊢
  have g0 : x.toNat / 2 ^ 0 = i.toNat + 2 ^ 16 * (0 + 2 ^ 5 * (d.toNat + 2 ^ 5 * (16 + 2 ^ 6 * 0))) := by rw [Nat.pow_zero, Nat.div_one, hv]; omega
  have g1 : x.toNat / 2 ^ 16 = 0 + 2 ^ 5 * (d.toNat + 2 ^ 5 * (16 + 2 ^ 6 * 0)) := nxt g0 i.isLt
  have g2 : x.toNat / 2 ^ 21 = d.toNat + 2 ^ 5 * (16 + 2 ^ 6 * 0) := nxt g1 (by decide)
  have g3 : x.toNat / 2 ^ 26 = 16 + 2 ^ 6 * 0 := nxt g2 d.isLt
  have q0 : bits x 26 6 = 16 := dig g3 (by decide)
  have q1 : bits x 16 5 = 0 := dig g1 (by decide)
  have f0 : fld x 21 5 = d := fld_eq (dig g2 d.isLt)
  have f1 : fld x 0 16 = i := fld_eq (dig g0 i.isLt)
  have hz : x.toNat ≠ 0 := ne_zero q0 (by decide)
  intro k hk
  replace hk := mem_slots2 rfl hk
  rcases hk with rfl | rfl <;> simp [hz, decodeMap, decodeSb, decodeSa, q0, q1, f0, f1]

theorem movhi (d : BitVec 5) (k : BitVec 2) (i : BitVec 16) : Statement (.movhi d k i) := by
  have h0 := d.isLt
  have h1 := k.isLt
  have h2 := i.isLt
  have hv : (syl 0x44000000 [(d.toNat, 21), (k.toNat, 16), (i.toNat, 0)]).toNat = _ := toNat_syl (by simp only [sylValue]; omega)
  simp only [sylValue] at hv
  refine statement_of rfl ?_
  generalize syl 0x44000000 [(d.toNat, 21), (k.toNat, 16), (i.toNat, 0)] = x at hv ⊢
  have g0 : x.toNat / 2 ^ 0 = i.toNat + 2 ^ 16 * (k.toNat + 2 ^ 2 * (0 + 2 ^ 3 * (d.toNat + 2 ^ 5 * (17 + 2 ^ 6 * 0)))) := by rw [Nat.pow_zero, Nat.div_one, hv]; omega
  have g1 : x.toNat / 2 ^ 16 = k.toNat + 2 ^ 2 * (0 + 2 ^ 3 * (d.toNat + 2 ^ 5 * (17 + 2 ^ 6 * 0))) := nxt g0 i.isLt
  have g2 : x.toNat / 2 ^ 18 = 0 + 2 ^ 3 * (d.toNat + 2 ^ 5 * (17 + 2 ^ 6 * 0)) := nxt g1 k.isLt
  have g3 : x.toNat / 2 ^ 21 = d.toNat + 2 ^ 5 * (17 + 2 ^ 6 * 0) := nxt g2 (by decide)
  have g4 : x.toNat / 2 ^ 26 = 17 + 2 ^ 6 * 0 := nxt g3 d.isLt
  have q0 : bits x 26 6 = 17 := dig g4 (by decide)
  have q1 : bits x 18 3 = 0 := dig g2 (by decide)
  have f0 : fld x 21 5 = d := fld_eq (dig g3 d.isLt)
  have f1 : fld x 16 2 = k := fld_eq (dig g1 k.isLt)
  have f2 : fld x 0 16 = i := fld_eq (dig g0 i.isLt)
  have hz : x.toNat ≠ 0 := ne_zero q0 (by decide)
  intro k hk
  replace hk := mem_slots2 rfl hk
  rcases hk with rfl | rfl <;> simp [hz, decodeMap, decodeSb, decodeSa, q0, q1, f0, f1, f2]

theorem ext (d : BitVec 5) (a : BitVec 5) (l : BitVec 6) (p : BitVec 6) : Statement (.ext d a l p) := by
  have h0 := d.isLt
  have h1 := a.isLt
  have h2 := l.isLt
  have h3 := p.isLt
  have hv : (syl 0x48000000 [(d.toNat, 21), (a.toNat, 16), (l.toNat, 6), (p.toNat, 0)]).toNat = _ := toNat_syl (by simp only [sylValue]; omega)
  simp only [sylValue] at hv
  refine statement_of rfl ?_
  generalize syl 0x48000000 [(d.toNat, 21), (a.toNat, 16), (l.toNat, 6), (p.toNat, 0)] = x at hv ⊢
  have g0 : x.toNat / 2 ^ 0 = p.toNat + 2 ^ 6 * (l.toNat + 2 ^ 6 * (0 + 2 ^ 4 * (a.toNat + 2 ^ 5 * (d.toNat + 2 ^ 5 * (18 + 2 ^ 6 * 0))))) := by rw [Nat.pow_zero, Nat.div_one, hv]; omega
  have g1 : x.toNat / 2 ^ 6 = l.toNat + 2 ^ 6 * (0 + 2 ^ 4 * (a.toNat + 2 ^ 5 * (d.toNat + 2 ^ 5 * (18 + 2 ^ 6 * 0)))) := nxt g0 p.isLt
  have g2 : x.toNat / 2 ^ 12 = 0 + 2 ^ 4 * (a.toNat + 2 ^ 5 * (d.toNat + 2 ^ 5 * (18 + 2 ^ 6 * 0))) := nxt g1 l.isLt
  have g3 : x.toNat / 2 ^ 16 = a.toNat + 2 ^ 5 * (d.toNat + 2 ^ 5 * (18 + 2 ^ 6 * 0)) := nxt g2 (by decide)
  have g4 : x.toNat / 2 ^ 21 = d.toNat + 2 ^ 5 * (18 + 2 ^ 6 * 0) := nxt g3 a.isLt
  have g5 : x.toNat / 2 ^ 26 = 18 + 2 ^ 6 * 0 := nxt g4 d.isLt
  have q0 : bits x 26 6 = 18 := dig g5 (by decide)
  have q1 : bits x 12 4 = 0 := dig g2 (by decide)
  have f0 : fld x 21 5 = d := fld_eq (dig g4 d.isLt)
  have f1 : fld x 16 5 = a := fld_eq (dig g3 a.isLt)
  have f2 : fld x 6 6 = l := fld_eq (dig g1 l.isLt)
  have f3 : fld x 0 6 = p := fld_eq (dig g0 p.isLt)
  have hz : x.toNat ≠ 0 := ne_zero q0 (by decide)
  intro k hk
  replace hk := mem_slots2 rfl hk
  rcases hk with rfl | rfl <;> simp [hz, decodeMap, decodeSb, decodeSa, q0, q1, f0, f1, f2, f3]

theorem ins (d : BitVec 5) (a : BitVec 5) (l : BitVec 6) (p : BitVec 6) : Statement (.ins d a l p) := by
  have h0 := d.isLt
  have h1 := a.isLt
  have h2 := l.isLt
  have h3 := p.isLt
  have hv : (syl 0x4C000000 [(d.toNat, 21), (a.toNat, 16), (l.toNat, 6), (p.toNat, 0)]).toNat = _ := toNat_syl (by simp only [sylValue]; omega)
  simp only [sylValue] at hv
  refine statement_of rfl ?_
  generalize syl 0x4C000000 [(d.toNat, 21), (a.toNat, 16), (l.toNat, 6), (p.toNat, 0)] = x at hv ⊢
  have g0 : x.toNat / 2 ^ 0 = p.toNat + 2 ^ 6 * (l.toNat + 2 ^ 6 * (0 + 2 ^ 4 * (a.toNat + 2 ^ 5 * (d.toNat + 2 ^ 5 * (19 + 2 ^ 6 * 0))))) := by rw [Nat.pow_zero, Nat.div_one, hv]; omega
  have g1 : x.toNat / 2 ^ 6 = l.toNat + 2 ^ 6 * (0 + 2 ^ 4 * (a.toNat + 2 ^ 5 * (d.toNat + 2 ^ 5 * (19 + 2 ^ 6 * 0)))) := nxt g0 p.isLt
  have g2 : x.toNat / 2 ^ 12 = 0 + 2 ^ 4 * (a.toNat + 2 ^ 5 * (d.toNat + 2 ^ 5 * (19 + 2 ^ 6 * 0))) := nxt g1 l.isLt
  have g3 : x.toNat / 2 ^ 16 = a.toNat + 2 ^ 5 * (d.toNat + 2 ^ 5 * (19 + 2 ^ 6 * 0)) := nxt g2 (by decide)
  have g4 : x.toNat / 2 ^ 21 = d.toNat + 2 ^ 5 * (19 + 2 ^ 6 * 0) := nxt g3 a.isLt
  have g5 : x.toNat / 2 ^ 26 = 19 + 2 ^ 6 * 0 := nxt g4 d.isLt
  have q0 : bits x 26 6 = 19 := dig g5 (by decide)
  have q1 : bits x 12 4 = 0 := dig g2 (by decide)
  have f0 : fld x 21 5 = d := fld_eq (dig g4 d.isLt)
  have f1 : fld x 16 5 = a := fld_eq (dig g3 a.isLt)
  have f2 : fld x 6 6 = l := fld_eq (dig g1 l.isLt)
  have f3 : fld x 0 6 = p := fld_eq (dig g0 p.isLt)
  have hz : x.toNat ≠ 0 := ne_zero q0 (by decide)
  intro k hk
  replace hk := mem_slots2 rfl hk
  rcases hk with rfl | rfl <;> simp [hz, decodeMap, decodeSb, decodeSa, q0, q1, f0, f1, f2, f3]

theorem wrag (d : BitVec 5) (a : BitVec 5) (s : BitVec 5) : Statement (.wrag d a s) := by
  have h0 := d.isLt
  have h1 := a.isLt
  have h2 := s.isLt
  have hv : (syl 0x80000000 [(d.toNat, 21), (a.toNat, 16), (s.toNat, 0)]).toNat = _ := toNat_syl (by simp only [sylValue]; omega)
  simp only [sylValue] at hv
  refine statement_of rfl ?_
  generalize syl 0x80000000 [(d.toNat, 21), (a.toNat, 16), (s.toNat, 0)] = x at hv ⊢
  have g0 : x.toNat / 2 ^ 0 = s.toNat + 2 ^ 5 * (0 + 2 ^ 11 * (a.toNat + 2 ^ 5 * (d.toNat + 2 ^ 5 * (32 + 2 ^ 6 * 0)))) := by rw [Nat.pow_zero, Nat.div_one, hv]; omega
  have g1 : x.toNat / 2 ^ 5 = 0 + 2 ^ 11 * (a.toNat + 2 ^ 5 * (d.toNat + 2 ^ 5 * (32 + 2 ^ 6 * 0))) := nxt g0 s.isLt
  have g2 : x.toNat / 2 ^ 16 = a.toNat + 2 ^ 5 * (d.toNat + 2 ^ 5 * (32 + 2 ^ 6 * 0)) := nxt g1 (by decide)
  have g3 : x.toNat / 2 ^ 21 = d.toNat + 2 ^ 5 * (32 + 2 ^ 6 * 0) := nxt g2 a.isLt
  have g4 : x.toNat / 2 ^ 26 = 32 + 2 ^ 6 * 0 := nxt g3 d.isLt
  have q0 : bits x 26 6 = 32 := dig g4 (by decide)
  have q1 : bits x 5 11 = 0 := dig g1 (by decide)
  have f0 : fld x 21 5 = d := fld_eq (dig g3 d.isLt)
  have f1 : fld x 16 5 = a := fld_eq (dig g2 a.isLt)
  have f2 : fld x 0 5 = s := fld_eq (dig g0 s.isLt)
  have hz : x.toNat ≠ 0 := ne_zero q0 (by decide)
  intro k hk
  replace hk := mem_slots1 rfl hk
  subst hk; simp [hz, decodeMap, decodeSb, q0, q1, f0, f1, f2]

theorem wrmp (d : BitVec 5) (a : BitVec 5) : Statement (.wrmp d a) := by
  have h0 := d.isLt
  have h1 := a.isLt
  have hv : (syl 0x84000000 [(d.toNat, 21), (a.toNat, 16)]).toNat = _ := toNat_syl (by simp only [sylValue]; omega)
  simp only [sylValue] at hv
  refine statement_of rfl ?_
  generalize syl 0x84000000 [(d.toNat, 21), (a.toNat, 16)] = x at hv ⊢
  have g0 : x.toNat / 2 ^ 0 = 0 + 2 ^ 16 * (a.toNat + 2 ^ 5 * (d.toNat + 2 ^ 5 * (33 + 2 ^ 6 * 0))) := by rw [Nat.pow_zero, Nat.div_one, hv]; omega
  have g1 : x.toNat / 2 ^ 16 = a.toNat + 2 ^ 5 * (d.toNat + 2 ^ 5 * (33 + 2 ^ 6 * 0)) := nxt g0 (by decide)
  have g2 : x.toNat / 2 ^ 21 = d.toNat + 2 ^ 5 * (33 + 2 ^ 6 * 0) := nxt g1 a.isLt
  have g3 : x.toNat / 2 ^ 26 = 33 + 2 ^ 6 * 0 := nxt g2 d.isLt
  have q0 : bits x 26 6 = 33 := dig g3 (by decide)
  have q1 : bits x 0 16 = 0 := dig g0 (by decide)
  have f0 : fld x 21 5 = d := fld_eq (dig g2 d.isLt)
  have f1 : fld x 16 5 = a := fld_eq (dig g1 a.isLt)
  have hz : x.toNat ≠ 0 := ne_zero q0 (by decide)
  intro k hk
  replace hk := mem_slots1 rfl hk
  subst hk; simp [hz, decodeMap, decodeSb, q0, q1, f0, f1]

theorem wreng (a : BitVec 5) (n : BitVec 8) : Statement (.wreng a n) := by
  have h0 := a.isLt
  have h1 := n.isLt
  have hv : (syl 0x88000000 [(a.toNat, 16), (n.toNat, 0)]).toNat = _ := toNat_syl (by simp only [sylValue]; omega)
  simp only [sylValue] at hv
  refine statement_of rfl ?_
  generalize syl 0x88000000 [(a.toNat, 16), (n.toNat, 0)] = x at hv ⊢
  have g0 : x.toNat / 2 ^ 0 = n.toNat + 2 ^ 8 * (0 + 2 ^ 8 * (a.toNat + 2 ^ 5 * (0 + 2 ^ 5 * (34 + 2 ^ 6 * 0)))) := by rw [Nat.pow_zero, Nat.div_one, hv]; omega
  have g1 : x.toNat / 2 ^ 8 = 0 + 2 ^ 8 * (a.toNat + 2 ^ 5 * (0 + 2 ^ 5 * (34 + 2 ^ 6 * 0))) := nxt g0 n.isLt
  have g2 : x.toNat / 2 ^ 16 = a.toNat + 2 ^ 5 * (0 + 2 ^ 5 * (34 + 2 ^ 6 * 0)) := nxt g1 (by decide)
  have g3 : x.toNat / 2 ^ 21 = 0 + 2 ^ 5 * (34 + 2 ^ 6 * 0) := nxt g2 a.isLt
  have g4 : x.toNat / 2 ^ 26 = 34 + 2 ^ 6 * 0 := nxt g3 (by decide)
  have q0 : bits x 26 6 = 34 := dig g4 (by decide)
  have q1 : bits x 21 5 = 0 := dig g3 (by decide)
  have q2 : bits x 8 8 = 0 := dig g1 (by decide)
  have f0 : fld x 16 5 = a := fld_eq (dig g2 a.isLt)
  have f1 : fld x 0 8 = n := fld_eq (dig g0 n.isLt)
  have hz : x.toNat ≠ 0 := ne_zero q0 (by decide)
  intro k hk
  replace hk := mem_slots1 rfl hk
  subst hk; simp [hz, decodeMap, decodeSb, q0, q1, q2, f0, f1]

theorem qgo (p : BitVec 3) (g : BitVec 3) (l : BitVec 11) : Statement (.qgo p g l) := by
  have h0 := p.isLt
  have h1 := g.isLt
  have h2 := l.isLt
  have hv : (syl 0x8C000000 [(p.toNat, 21), (g.toNat, 16), (l.toNat, 0)]).toNat = _ := toNat_syl (by simp only [sylValue]; omega)
  simp only [sylValue] at hv
  refine statement_of rfl ?_
  generalize syl 0x8C000000 [(p.toNat, 21), (g.toNat, 16), (l.toNat, 0)] = x at hv ⊢
  have g0 : x.toNat / 2 ^ 0 = l.toNat + 2 ^ 11 * (0 + 2 ^ 5 * (g.toNat + 2 ^ 3 * (0 + 2 ^ 2 * (p.toNat + 2 ^ 3 * (0 + 2 ^ 2 * (35 + 2 ^ 6 * 0)))))) := by rw [Nat.pow_zero, Nat.div_one, hv]; omega
  have g1 : x.toNat / 2 ^ 11 = 0 + 2 ^ 5 * (g.toNat + 2 ^ 3 * (0 + 2 ^ 2 * (p.toNat + 2 ^ 3 * (0 + 2 ^ 2 * (35 + 2 ^ 6 * 0))))) := nxt g0 l.isLt
  have g2 : x.toNat / 2 ^ 16 = g.toNat + 2 ^ 3 * (0 + 2 ^ 2 * (p.toNat + 2 ^ 3 * (0 + 2 ^ 2 * (35 + 2 ^ 6 * 0)))) := nxt g1 (by decide)
  have g3 : x.toNat / 2 ^ 19 = 0 + 2 ^ 2 * (p.toNat + 2 ^ 3 * (0 + 2 ^ 2 * (35 + 2 ^ 6 * 0))) := nxt g2 g.isLt
  have g4 : x.toNat / 2 ^ 21 = p.toNat + 2 ^ 3 * (0 + 2 ^ 2 * (35 + 2 ^ 6 * 0)) := nxt g3 (by decide)
  have g5 : x.toNat / 2 ^ 24 = 0 + 2 ^ 2 * (35 + 2 ^ 6 * 0) := nxt g4 p.isLt
  have g6 : x.toNat / 2 ^ 26 = 35 + 2 ^ 6 * 0 := nxt g5 (by decide)
  have q0 : bits x 26 6 = 35 := dig g6 (by decide)
  have q1 : bits x 24 2 = 0 := dig g5 (by decide)
  have q2 : bits x 19 2 = 0 := dig g3 (by decide)
  have q3 : bits x 11 5 = 0 := dig g1 (by decide)
  have f0 : fld x 21 3 = p := fld_eq (dig g4 p.isLt)
  have f1 : fld x 16 3 = g := fld_eq (dig g2 g.isLt)
  have f2 : fld x 0 11 = l := fld_eq (dig g0 l.isLt)
  have hz : x.toNat ≠ 0 := ne_zero q0 (by decide)
  intro k hk
  replace hk := mem_slots1 rfl hk
  subst hk; simp [hz, decodeMap, decodeSb, q0, q1, q2, q3, f0, f1, f2]

theorem rdsched (d : BitVec 5) : Statement (.rdsched d) := by
  have h0 := d.isLt
  have hv : (syl 0x90000000 [(d.toNat, 21)]).toNat = _ := toNat_syl (by simp only [sylValue]; omega)
  simp only [sylValue] at hv
  refine statement_of rfl ?_
  generalize syl 0x90000000 [(d.toNat, 21)] = x at hv ⊢
  have g0 : x.toNat / 2 ^ 0 = 0 + 2 ^ 21 * (d.toNat + 2 ^ 5 * (36 + 2 ^ 6 * 0)) := by rw [Nat.pow_zero, Nat.div_one, hv]; omega
  have g1 : x.toNat / 2 ^ 21 = d.toNat + 2 ^ 5 * (36 + 2 ^ 6 * 0) := nxt g0 (by decide)
  have g2 : x.toNat / 2 ^ 26 = 36 + 2 ^ 6 * 0 := nxt g1 d.isLt
  have q0 : bits x 26 6 = 36 := dig g2 (by decide)
  have q1 : bits x 0 21 = 0 := dig g0 (by decide)
  have f0 : fld x 21 5 = d := fld_eq (dig g1 d.isLt)
  have hz : x.toNat ≠ 0 := ne_zero q0 (by decide)
  intro k hk
  replace hk := mem_slots1 rfl hk
  subst hk; simp [hz, decodeMap, decodeSb, q0, q1, f0]

theorem rdgtime (d : BitVec 5) : Statement (.rdgtime d) := by
  have h0 := d.isLt
  have hv : (syl 0x94000000 [(d.toNat, 21)]).toNat = _ := toNat_syl (by simp only [sylValue]; omega)
  simp only [sylValue] at hv
  refine statement_of rfl ?_
  generalize syl 0x94000000 [(d.toNat, 21)] = x at hv ⊢
  have g0 : x.toNat / 2 ^ 0 = 0 + 2 ^ 21 * (d.toNat + 2 ^ 5 * (37 + 2 ^ 6 * 0)) := by rw [Nat.pow_zero, Nat.div_one, hv]; omega
  have g1 : x.toNat / 2 ^ 21 = d.toNat + 2 ^ 5 * (37 + 2 ^ 6 * 0) := nxt g0 (by decide)
  have g2 : x.toNat / 2 ^ 26 = 37 + 2 ^ 6 * 0 := nxt g1 d.isLt
  have q0 : bits x 26 6 = 37 := dig g2 (by decide)
  have q1 : bits x 0 21 = 0 := dig g0 (by decide)
  have f0 : fld x 21 5 = d := fld_eq (dig g1 d.isLt)
  have hz : x.toNat ≠ 0 := ne_zero q0 (by decide)
  intro k hk
  replace hk := mem_slots1 rfl hk
  subst hk; simp [hz, decodeMap, decodeSb, q0, q1, f0]

theorem ldB (d : BitVec 5) (a : BitVec 5) (i : BitVec 16) : Statement (.ldB d a i) := by
  have h0 := d.isLt
  have h1 := a.isLt
  have h2 := i.isLt
  have hv : (syl 0x04000000 [(d.toNat, 21), (a.toNat, 16), (i.toNat, 0)]).toNat = _ := toNat_syl (by simp only [sylValue]; omega)
  simp only [sylValue] at hv
  refine statement_of rfl ?_
  generalize syl 0x04000000 [(d.toNat, 21), (a.toNat, 16), (i.toNat, 0)] = x at hv ⊢
  have g0 : x.toNat / 2 ^ 0 = i.toNat + 2 ^ 16 * (a.toNat + 2 ^ 5 * (d.toNat + 2 ^ 5 * (1 + 2 ^ 6 * 0))) := by rw [Nat.pow_zero, Nat.div_one, hv]; omega
  have g1 : x.toNat / 2 ^ 16 = a.toNat + 2 ^ 5 * (d.toNat + 2 ^ 5 * (1 + 2 ^ 6 * 0)) := nxt g0 i.isLt
  have g2 : x.toNat / 2 ^ 21 = d.toNat + 2 ^ 5 * (1 + 2 ^ 6 * 0) := nxt g1 a.isLt
  have g3 : x.toNat / 2 ^ 26 = 1 + 2 ^ 6 * 0 := nxt g2 d.isLt
  have q0 : bits x 26 6 = 1 := dig g3 (by decide)
  have f0 : fld x 21 5 = d := fld_eq (dig g2 d.isLt)
  have f1 : fld x 16 5 = a := fld_eq (dig g1 a.isLt)
  have f2 : fld x 0 16 = i := fld_eq (dig g0 i.isLt)
  have hz : x.toNat ≠ 0 := ne_zero q0 (by decide)
  intro k hk
  replace hk := mem_slots1 rfl hk
  subst hk; simp [hz, decodeMap, decodeLs, q0, f0, f1, f2]

theorem ldH (d : BitVec 5) (a : BitVec 5) (i : BitVec 16) : Statement (.ldH d a i) := by
  have h0 := d.isLt
  have h1 := a.isLt
  have h2 := i.isLt
  have hv : (syl 0x08000000 [(d.toNat, 21), (a.toNat, 16), (i.toNat, 0)]).toNat = _ := toNat_syl (by simp only [sylValue]; omega)
  simp only [sylValue] at hv
  refine statement_of rfl ?_
  generalize syl 0x08000000 [(d.toNat, 21), (a.toNat, 16), (i.toNat, 0)] = x at hv ⊢
  have g0 : x.toNat / 2 ^ 0 = i.toNat + 2 ^ 16 * (a.toNat + 2 ^ 5 * (d.toNat + 2 ^ 5 * (2 + 2 ^ 6 * 0))) := by rw [Nat.pow_zero, Nat.div_one, hv]; omega
  have g1 : x.toNat / 2 ^ 16 = a.toNat + 2 ^ 5 * (d.toNat + 2 ^ 5 * (2 + 2 ^ 6 * 0)) := nxt g0 i.isLt
  have g2 : x.toNat / 2 ^ 21 = d.toNat + 2 ^ 5 * (2 + 2 ^ 6 * 0) := nxt g1 a.isLt
  have g3 : x.toNat / 2 ^ 26 = 2 + 2 ^ 6 * 0 := nxt g2 d.isLt
  have q0 : bits x 26 6 = 2 := dig g3 (by decide)
  have f0 : fld x 21 5 = d := fld_eq (dig g2 d.isLt)
  have f1 : fld x 16 5 = a := fld_eq (dig g1 a.isLt)
  have f2 : fld x 0 16 = i := fld_eq (dig g0 i.isLt)
  have hz : x.toNat ≠ 0 := ne_zero q0 (by decide)
  intro k hk
  replace hk := mem_slots1 rfl hk
  subst hk; simp [hz, decodeMap, decodeLs, q0, f0, f1, f2]

theorem ldW (d : BitVec 5) (a : BitVec 5) (i : BitVec 16) : Statement (.ldW d a i) := by
  have h0 := d.isLt
  have h1 := a.isLt
  have h2 := i.isLt
  have hv : (syl 0x0C000000 [(d.toNat, 21), (a.toNat, 16), (i.toNat, 0)]).toNat = _ := toNat_syl (by simp only [sylValue]; omega)
  simp only [sylValue] at hv
  refine statement_of rfl ?_
  generalize syl 0x0C000000 [(d.toNat, 21), (a.toNat, 16), (i.toNat, 0)] = x at hv ⊢
  have g0 : x.toNat / 2 ^ 0 = i.toNat + 2 ^ 16 * (a.toNat + 2 ^ 5 * (d.toNat + 2 ^ 5 * (3 + 2 ^ 6 * 0))) := by rw [Nat.pow_zero, Nat.div_one, hv]; omega
  have g1 : x.toNat / 2 ^ 16 = a.toNat + 2 ^ 5 * (d.toNat + 2 ^ 5 * (3 + 2 ^ 6 * 0)) := nxt g0 i.isLt
  have g2 : x.toNat / 2 ^ 21 = d.toNat + 2 ^ 5 * (3 + 2 ^ 6 * 0) := nxt g1 a.isLt
  have g3 : x.toNat / 2 ^ 26 = 3 + 2 ^ 6 * 0 := nxt g2 d.isLt
  have q0 : bits x 26 6 = 3 := dig g3 (by decide)
  have f0 : fld x 21 5 = d := fld_eq (dig g2 d.isLt)
  have f1 : fld x 16 5 = a := fld_eq (dig g1 a.isLt)
  have f2 : fld x 0 16 = i := fld_eq (dig g0 i.isLt)
  have hz : x.toNat ≠ 0 := ne_zero q0 (by decide)
  intro k hk
  replace hk := mem_slots1 rfl hk
  subst hk; simp [hz, decodeMap, decodeLs, q0, f0, f1, f2]

theorem ldD (d : BitVec 5) (a : BitVec 5) (i : BitVec 16) : Statement (.ldD d a i) := by
  have h0 := d.isLt
  have h1 := a.isLt
  have h2 := i.isLt
  have hv : (syl 0x10000000 [(d.toNat, 21), (a.toNat, 16), (i.toNat, 0)]).toNat = _ := toNat_syl (by simp only [sylValue]; omega)
  simp only [sylValue] at hv
  refine statement_of rfl ?_
  generalize syl 0x10000000 [(d.toNat, 21), (a.toNat, 16), (i.toNat, 0)] = x at hv ⊢
  have g0 : x.toNat / 2 ^ 0 = i.toNat + 2 ^ 16 * (a.toNat + 2 ^ 5 * (d.toNat + 2 ^ 5 * (4 + 2 ^ 6 * 0))) := by rw [Nat.pow_zero, Nat.div_one, hv]; omega
  have g1 : x.toNat / 2 ^ 16 = a.toNat + 2 ^ 5 * (d.toNat + 2 ^ 5 * (4 + 2 ^ 6 * 0)) := nxt g0 i.isLt
  have g2 : x.toNat / 2 ^ 21 = d.toNat + 2 ^ 5 * (4 + 2 ^ 6 * 0) := nxt g1 a.isLt
  have g3 : x.toNat / 2 ^ 26 = 4 + 2 ^ 6 * 0 := nxt g2 d.isLt
  have q0 : bits x 26 6 = 4 := dig g3 (by decide)
  have f0 : fld x 21 5 = d := fld_eq (dig g2 d.isLt)
  have f1 : fld x 16 5 = a := fld_eq (dig g1 a.isLt)
  have f2 : fld x 0 16 = i := fld_eq (dig g0 i.isLt)
  have hz : x.toNat ≠ 0 := ne_zero q0 (by decide)
  intro k hk
  replace hk := mem_slots1 rfl hk
  subst hk; simp [hz, decodeMap, decodeLs, q0, f0, f1, f2]

theorem stB (d : BitVec 5) (a : BitVec 5) (i : BitVec 16) : Statement (.stB d a i) := by
  have h0 := d.isLt
  have h1 := a.isLt
  have h2 := i.isLt
  have hv : (syl 0x14000000 [(d.toNat, 21), (a.toNat, 16), (i.toNat, 0)]).toNat = _ := toNat_syl (by simp only [sylValue]; omega)
  simp only [sylValue] at hv
  refine statement_of rfl ?_
  generalize syl 0x14000000 [(d.toNat, 21), (a.toNat, 16), (i.toNat, 0)] = x at hv ⊢
  have g0 : x.toNat / 2 ^ 0 = i.toNat + 2 ^ 16 * (a.toNat + 2 ^ 5 * (d.toNat + 2 ^ 5 * (5 + 2 ^ 6 * 0))) := by rw [Nat.pow_zero, Nat.div_one, hv]; omega
  have g1 : x.toNat / 2 ^ 16 = a.toNat + 2 ^ 5 * (d.toNat + 2 ^ 5 * (5 + 2 ^ 6 * 0)) := nxt g0 i.isLt
  have g2 : x.toNat / 2 ^ 21 = d.toNat + 2 ^ 5 * (5 + 2 ^ 6 * 0) := nxt g1 a.isLt
  have g3 : x.toNat / 2 ^ 26 = 5 + 2 ^ 6 * 0 := nxt g2 d.isLt
  have q0 : bits x 26 6 = 5 := dig g3 (by decide)
  have f0 : fld x 21 5 = d := fld_eq (dig g2 d.isLt)
  have f1 : fld x 16 5 = a := fld_eq (dig g1 a.isLt)
  have f2 : fld x 0 16 = i := fld_eq (dig g0 i.isLt)
  have hz : x.toNat ≠ 0 := ne_zero q0 (by decide)
  intro k hk
  replace hk := mem_slots1 rfl hk
  subst hk; simp [hz, decodeMap, decodeLs, q0, f0, f1, f2]

theorem stH (d : BitVec 5) (a : BitVec 5) (i : BitVec 16) : Statement (.stH d a i) := by
  have h0 := d.isLt
  have h1 := a.isLt
  have h2 := i.isLt
  have hv : (syl 0x18000000 [(d.toNat, 21), (a.toNat, 16), (i.toNat, 0)]).toNat = _ := toNat_syl (by simp only [sylValue]; omega)
  simp only [sylValue] at hv
  refine statement_of rfl ?_
  generalize syl 0x18000000 [(d.toNat, 21), (a.toNat, 16), (i.toNat, 0)] = x at hv ⊢
  have g0 : x.toNat / 2 ^ 0 = i.toNat + 2 ^ 16 * (a.toNat + 2 ^ 5 * (d.toNat + 2 ^ 5 * (6 + 2 ^ 6 * 0))) := by rw [Nat.pow_zero, Nat.div_one, hv]; omega
  have g1 : x.toNat / 2 ^ 16 = a.toNat + 2 ^ 5 * (d.toNat + 2 ^ 5 * (6 + 2 ^ 6 * 0)) := nxt g0 i.isLt
  have g2 : x.toNat / 2 ^ 21 = d.toNat + 2 ^ 5 * (6 + 2 ^ 6 * 0) := nxt g1 a.isLt
  have g3 : x.toNat / 2 ^ 26 = 6 + 2 ^ 6 * 0 := nxt g2 d.isLt
  have q0 : bits x 26 6 = 6 := dig g3 (by decide)
  have f0 : fld x 21 5 = d := fld_eq (dig g2 d.isLt)
  have f1 : fld x 16 5 = a := fld_eq (dig g1 a.isLt)
  have f2 : fld x 0 16 = i := fld_eq (dig g0 i.isLt)
  have hz : x.toNat ≠ 0 := ne_zero q0 (by decide)
  intro k hk
  replace hk := mem_slots1 rfl hk
  subst hk; simp [hz, decodeMap, decodeLs, q0, f0, f1, f2]

theorem stW (d : BitVec 5) (a : BitVec 5) (i : BitVec 16) : Statement (.stW d a i) := by
  have h0 := d.isLt
  have h1 := a.isLt
  have h2 := i.isLt
  have hv : (syl 0x1C000000 [(d.toNat, 21), (a.toNat, 16), (i.toNat, 0)]).toNat = _ := toNat_syl (by simp only [sylValue]; omega)
  simp only [sylValue] at hv
  refine statement_of rfl ?_
  generalize syl 0x1C000000 [(d.toNat, 21), (a.toNat, 16), (i.toNat, 0)] = x at hv ⊢
  have g0 : x.toNat / 2 ^ 0 = i.toNat + 2 ^ 16 * (a.toNat + 2 ^ 5 * (d.toNat + 2 ^ 5 * (7 + 2 ^ 6 * 0))) := by rw [Nat.pow_zero, Nat.div_one, hv]; omega
  have g1 : x.toNat / 2 ^ 16 = a.toNat + 2 ^ 5 * (d.toNat + 2 ^ 5 * (7 + 2 ^ 6 * 0)) := nxt g0 i.isLt
  have g2 : x.toNat / 2 ^ 21 = d.toNat + 2 ^ 5 * (7 + 2 ^ 6 * 0) := nxt g1 a.isLt
  have g3 : x.toNat / 2 ^ 26 = 7 + 2 ^ 6 * 0 := nxt g2 d.isLt
  have q0 : bits x 26 6 = 7 := dig g3 (by decide)
  have f0 : fld x 21 5 = d := fld_eq (dig g2 d.isLt)
  have f1 : fld x 16 5 = a := fld_eq (dig g1 a.isLt)
  have f2 : fld x 0 16 = i := fld_eq (dig g0 i.isLt)
  have hz : x.toNat ≠ 0 := ne_zero q0 (by decide)
  intro k hk
  replace hk := mem_slots1 rfl hk
  subst hk; simp [hz, decodeMap, decodeLs, q0, f0, f1, f2]

theorem stD (d : BitVec 5) (a : BitVec 5) (i : BitVec 16) : Statement (.stD d a i) := by
  have h0 := d.isLt
  have h1 := a.isLt
  have h2 := i.isLt
  have hv : (syl 0x20000000 [(d.toNat, 21), (a.toNat, 16), (i.toNat, 0)]).toNat = _ := toNat_syl (by simp only [sylValue]; omega)
  simp only [sylValue] at hv
  refine statement_of rfl ?_
  generalize syl 0x20000000 [(d.toNat, 21), (a.toNat, 16), (i.toNat, 0)] = x at hv ⊢
  have g0 : x.toNat / 2 ^ 0 = i.toNat + 2 ^ 16 * (a.toNat + 2 ^ 5 * (d.toNat + 2 ^ 5 * (8 + 2 ^ 6 * 0))) := by rw [Nat.pow_zero, Nat.div_one, hv]; omega
  have g1 : x.toNat / 2 ^ 16 = a.toNat + 2 ^ 5 * (d.toNat + 2 ^ 5 * (8 + 2 ^ 6 * 0)) := nxt g0 i.isLt
  have g2 : x.toNat / 2 ^ 21 = d.toNat + 2 ^ 5 * (8 + 2 ^ 6 * 0) := nxt g1 a.isLt
  have g3 : x.toNat / 2 ^ 26 = 8 + 2 ^ 6 * 0 := nxt g2 d.isLt
  have q0 : bits x 26 6 = 8 := dig g3 (by decide)
  have f0 : fld x 21 5 = d := fld_eq (dig g2 d.isLt)
  have f1 : fld x 16 5 = a := fld_eq (dig g1 a.isLt)
  have f2 : fld x 0 16 = i := fld_eq (dig g0 i.isLt)
  have hz : x.toNat ≠ 0 := ne_zero q0 (by decide)
  intro k hk
  replace hk := mem_slots1 rfl hk
  subst hk; simp [hz, decodeMap, decodeLs, q0, f0, f1, f2]

theorem vld (d : BitVec 5) (a : BitVec 5) (i : BitVec 16) : Statement (.vld d a i) := by
  have h0 := d.isLt
  have h1 := a.isLt
  have h2 := i.isLt
  have hv : (syl 0x24000000 [(d.toNat, 21), (a.toNat, 16), (i.toNat, 0)]).toNat = _ := toNat_syl (by simp only [sylValue]; omega)
  simp only [sylValue] at hv
  refine statement_of rfl ?_
  generalize syl 0x24000000 [(d.toNat, 21), (a.toNat, 16), (i.toNat, 0)] = x at hv ⊢
  have g0 : x.toNat / 2 ^ 0 = i.toNat + 2 ^ 16 * (a.toNat + 2 ^ 5 * (d.toNat + 2 ^ 5 * (9 + 2 ^ 6 * 0))) := by rw [Nat.pow_zero, Nat.div_one, hv]; omega
  have g1 : x.toNat / 2 ^ 16 = a.toNat + 2 ^ 5 * (d.toNat + 2 ^ 5 * (9 + 2 ^ 6 * 0)) := nxt g0 i.isLt
  have g2 : x.toNat / 2 ^ 21 = d.toNat + 2 ^ 5 * (9 + 2 ^ 6 * 0) := nxt g1 a.isLt
  have g3 : x.toNat / 2 ^ 26 = 9 + 2 ^ 6 * 0 := nxt g2 d.isLt
  have q0 : bits x 26 6 = 9 := dig g3 (by decide)
  have f0 : fld x 21 5 = d := fld_eq (dig g2 d.isLt)
  have f1 : fld x 16 5 = a := fld_eq (dig g1 a.isLt)
  have f2 : fld x 0 16 = i := fld_eq (dig g0 i.isLt)
  have hz : x.toNat ≠ 0 := ne_zero q0 (by decide)
  intro k hk
  replace hk := mem_slots1 rfl hk
  subst hk; simp [hz, decodeMap, decodeLs, q0, f0, f1, f2]

theorem vst (d : BitVec 5) (a : BitVec 5) (i : BitVec 16) : Statement (.vst d a i) := by
  have h0 := d.isLt
  have h1 := a.isLt
  have h2 := i.isLt
  have hv : (syl 0x28000000 [(d.toNat, 21), (a.toNat, 16), (i.toNat, 0)]).toNat = _ := toNat_syl (by simp only [sylValue]; omega)
  simp only [sylValue] at hv
  refine statement_of rfl ?_
  generalize syl 0x28000000 [(d.toNat, 21), (a.toNat, 16), (i.toNat, 0)] = x at hv ⊢
  have g0 : x.toNat / 2 ^ 0 = i.toNat + 2 ^ 16 * (a.toNat + 2 ^ 5 * (d.toNat + 2 ^ 5 * (10 + 2 ^ 6 * 0))) := by rw [Nat.pow_zero, Nat.div_one, hv]; omega
  have g1 : x.toNat / 2 ^ 16 = a.toNat + 2 ^ 5 * (d.toNat + 2 ^ 5 * (10 + 2 ^ 6 * 0)) := nxt g0 i.isLt
  have g2 : x.toNat / 2 ^ 21 = d.toNat + 2 ^ 5 * (10 + 2 ^ 6 * 0) := nxt g1 a.isLt
  have g3 : x.toNat / 2 ^ 26 = 10 + 2 ^ 6 * 0 := nxt g2 d.isLt
  have q0 : bits x 26 6 = 10 := dig g3 (by decide)
  have f0 : fld x 21 5 = d := fld_eq (dig g2 d.isLt)
  have f1 : fld x 16 5 = a := fld_eq (dig g1 a.isLt)
  have f2 : fld x 0 16 = i := fld_eq (dig g0 i.isLt)
  have hz : x.toNat ≠ 0 := ne_zero q0 (by decide)
  intro k hk
  replace hk := mem_slots1 rfl hk
  subst hk; simp [hz, decodeMap, decodeLs, q0, f0, f1, f2]

theorem vldx (d : BitVec 5) (a : BitVec 5) (b : BitVec 5) (p : BitVec 3) : Statement (.vldx d a b p) := by
  have h0 := d.isLt
  have h1 := a.isLt
  have h2 := b.isLt
  have h3 := p.isLt
  have hv : (syl 0x2C000000 [(d.toNat, 21), (a.toNat, 16), (b.toNat, 11), (p.toNat, 8)]).toNat = _ := toNat_syl (by simp only [sylValue]; omega)
  simp only [sylValue] at hv
  refine statement_of rfl ?_
  generalize syl 0x2C000000 [(d.toNat, 21), (a.toNat, 16), (b.toNat, 11), (p.toNat, 8)] = x at hv ⊢
  have g0 : x.toNat / 2 ^ 0 = 0 + 2 ^ 8 * (p.toNat + 2 ^ 3 * (b.toNat + 2 ^ 5 * (a.toNat + 2 ^ 5 * (d.toNat + 2 ^ 5 * (11 + 2 ^ 6 * 0))))) := by rw [Nat.pow_zero, Nat.div_one, hv]; omega
  have g1 : x.toNat / 2 ^ 8 = p.toNat + 2 ^ 3 * (b.toNat + 2 ^ 5 * (a.toNat + 2 ^ 5 * (d.toNat + 2 ^ 5 * (11 + 2 ^ 6 * 0)))) := nxt g0 (by decide)
  have g2 : x.toNat / 2 ^ 11 = b.toNat + 2 ^ 5 * (a.toNat + 2 ^ 5 * (d.toNat + 2 ^ 5 * (11 + 2 ^ 6 * 0))) := nxt g1 p.isLt
  have g3 : x.toNat / 2 ^ 16 = a.toNat + 2 ^ 5 * (d.toNat + 2 ^ 5 * (11 + 2 ^ 6 * 0)) := nxt g2 b.isLt
  have g4 : x.toNat / 2 ^ 21 = d.toNat + 2 ^ 5 * (11 + 2 ^ 6 * 0) := nxt g3 a.isLt
  have g5 : x.toNat / 2 ^ 26 = 11 + 2 ^ 6 * 0 := nxt g4 d.isLt
  have q0 : bits x 26 6 = 11 := dig g5 (by decide)
  have q1 : bits x 0 8 = 0 := dig g0 (by decide)
  have f0 : fld x 21 5 = d := fld_eq (dig g4 d.isLt)
  have f1 : fld x 16 5 = a := fld_eq (dig g3 a.isLt)
  have f2 : fld x 11 5 = b := fld_eq (dig g2 b.isLt)
  have f3 : fld x 8 3 = p := fld_eq (dig g1 p.isLt)
  have hz : x.toNat ≠ 0 := ne_zero q0 (by decide)
  intro k hk
  replace hk := mem_slots1 rfl hk
  subst hk; simp [hz, decodeMap, decodeLs, q0, q1, f0, f1, f2, f3]

theorem vstx (d : BitVec 5) (a : BitVec 5) (b : BitVec 5) (p : BitVec 3) : Statement (.vstx d a b p) := by
  have h0 := d.isLt
  have h1 := a.isLt
  have h2 := b.isLt
  have h3 := p.isLt
  have hv : (syl 0x30000000 [(d.toNat, 21), (a.toNat, 16), (b.toNat, 11), (p.toNat, 8)]).toNat = _ := toNat_syl (by simp only [sylValue]; omega)
  simp only [sylValue] at hv
  refine statement_of rfl ?_
  generalize syl 0x30000000 [(d.toNat, 21), (a.toNat, 16), (b.toNat, 11), (p.toNat, 8)] = x at hv ⊢
  have g0 : x.toNat / 2 ^ 0 = 0 + 2 ^ 8 * (p.toNat + 2 ^ 3 * (b.toNat + 2 ^ 5 * (a.toNat + 2 ^ 5 * (d.toNat + 2 ^ 5 * (12 + 2 ^ 6 * 0))))) := by rw [Nat.pow_zero, Nat.div_one, hv]; omega
  have g1 : x.toNat / 2 ^ 8 = p.toNat + 2 ^ 3 * (b.toNat + 2 ^ 5 * (a.toNat + 2 ^ 5 * (d.toNat + 2 ^ 5 * (12 + 2 ^ 6 * 0)))) := nxt g0 (by decide)
  have g2 : x.toNat / 2 ^ 11 = b.toNat + 2 ^ 5 * (a.toNat + 2 ^ 5 * (d.toNat + 2 ^ 5 * (12 + 2 ^ 6 * 0))) := nxt g1 p.isLt
  have g3 : x.toNat / 2 ^ 16 = a.toNat + 2 ^ 5 * (d.toNat + 2 ^ 5 * (12 + 2 ^ 6 * 0)) := nxt g2 b.isLt
  have g4 : x.toNat / 2 ^ 21 = d.toNat + 2 ^ 5 * (12 + 2 ^ 6 * 0) := nxt g3 a.isLt
  have g5 : x.toNat / 2 ^ 26 = 12 + 2 ^ 6 * 0 := nxt g4 d.isLt
  have q0 : bits x 26 6 = 12 := dig g5 (by decide)
  have q1 : bits x 0 8 = 0 := dig g0 (by decide)
  have f0 : fld x 21 5 = d := fld_eq (dig g4 d.isLt)
  have f1 : fld x 16 5 = a := fld_eq (dig g3 a.isLt)
  have f2 : fld x 11 5 = b := fld_eq (dig g2 b.isLt)
  have f3 : fld x 8 3 = p := fld_eq (dig g1 p.isLt)
  have hz : x.toNat ≠ 0 := ne_zero q0 (by decide)
  intro k hk
  replace hk := mem_slots1 rfl hk
  subst hk; simp [hz, decodeMap, decodeLs, q0, q1, f0, f1, f2, f3]

theorem spldScalar (d : BitVec 5) (a : BitVec 5) (k : BitVec 16) : Statement (.spldScalar d a k) := by
  have h0 := d.isLt
  have h1 := a.isLt
  have h2 := k.isLt
  have hv : (syl 0x34000000 [(d.toNat, 21), (a.toNat, 16), (k.toNat, 0)]).toNat = _ := toNat_syl (by simp only [sylValue]; omega)
  simp only [sylValue] at hv
  refine statement_of rfl ?_
  generalize syl 0x34000000 [(d.toNat, 21), (a.toNat, 16), (k.toNat, 0)] = x at hv ⊢
  have g0 : x.toNat / 2 ^ 0 = k.toNat + 2 ^ 16 * (a.toNat + 2 ^ 5 * (d.toNat + 2 ^ 5 * (13 + 2 ^ 6 * 0))) := by rw [Nat.pow_zero, Nat.div_one, hv]; omega
  have g1 : x.toNat / 2 ^ 16 = a.toNat + 2 ^ 5 * (d.toNat + 2 ^ 5 * (13 + 2 ^ 6 * 0)) := nxt g0 k.isLt
  have g2 : x.toNat / 2 ^ 21 = d.toNat + 2 ^ 5 * (13 + 2 ^ 6 * 0) := nxt g1 a.isLt
  have g3 : x.toNat / 2 ^ 26 = 13 + 2 ^ 6 * 0 := nxt g2 d.isLt
  have q0 : bits x 26 6 = 13 := dig g3 (by decide)
  have f0 : fld x 21 5 = d := fld_eq (dig g2 d.isLt)
  have f1 : fld x 16 5 = a := fld_eq (dig g1 a.isLt)
  have f2 : fld x 0 16 = k := fld_eq (dig g0 k.isLt)
  have hz : x.toNat ≠ 0 := ne_zero q0 (by decide)
  intro k hk
  replace hk := mem_slots1 rfl hk
  subst hk; simp [hz, decodeMap, decodeLs, q0, f0, f1, f2]

theorem spstScalar (d : BitVec 5) (a : BitVec 5) (k : BitVec 16) : Statement (.spstScalar d a k) := by
  have h0 := d.isLt
  have h1 := a.isLt
  have h2 := k.isLt
  have hv : (syl 0x38000000 [(d.toNat, 21), (a.toNat, 16), (k.toNat, 0)]).toNat = _ := toNat_syl (by simp only [sylValue]; omega)
  simp only [sylValue] at hv
  refine statement_of rfl ?_
  generalize syl 0x38000000 [(d.toNat, 21), (a.toNat, 16), (k.toNat, 0)] = x at hv ⊢
  have g0 : x.toNat / 2 ^ 0 = k.toNat + 2 ^ 16 * (a.toNat + 2 ^ 5 * (d.toNat + 2 ^ 5 * (14 + 2 ^ 6 * 0))) := by rw [Nat.pow_zero, Nat.div_one, hv]; omega
  have g1 : x.toNat / 2 ^ 16 = a.toNat + 2 ^ 5 * (d.toNat + 2 ^ 5 * (14 + 2 ^ 6 * 0)) := nxt g0 k.isLt
  have g2 : x.toNat / 2 ^ 21 = d.toNat + 2 ^ 5 * (14 + 2 ^ 6 * 0) := nxt g1 a.isLt
  have g3 : x.toNat / 2 ^ 26 = 14 + 2 ^ 6 * 0 := nxt g2 d.isLt
  have q0 : bits x 26 6 = 14 := dig g3 (by decide)
  have f0 : fld x 21 5 = d := fld_eq (dig g2 d.isLt)
  have f1 : fld x 16 5 = a := fld_eq (dig g1 a.isLt)
  have f2 : fld x 0 16 = k := fld_eq (dig g0 k.isLt)
  have hz : x.toNat ≠ 0 := ne_zero q0 (by decide)
  intro k hk
  replace hk := mem_slots1 rfl hk
  subst hk; simp [hz, decodeMap, decodeLs, q0, f0, f1, f2]

theorem spldVector (d : BitVec 5) (a : BitVec 5) (k : BitVec 16) : Statement (.spldVector d a k) := by
  have h0 := d.isLt
  have h1 := a.isLt
  have h2 := k.isLt
  have hv : (syl 0x3C000000 [(d.toNat, 21), (a.toNat, 16), (k.toNat, 0)]).toNat = _ := toNat_syl (by simp only [sylValue]; omega)
  simp only [sylValue] at hv
  refine statement_of rfl ?_
  generalize syl 0x3C000000 [(d.toNat, 21), (a.toNat, 16), (k.toNat, 0)] = x at hv ⊢
  have g0 : x.toNat / 2 ^ 0 = k.toNat + 2 ^ 16 * (a.toNat + 2 ^ 5 * (d.toNat + 2 ^ 5 * (15 + 2 ^ 6 * 0))) := by rw [Nat.pow_zero, Nat.div_one, hv]; omega
  have g1 : x.toNat / 2 ^ 16 = a.toNat + 2 ^ 5 * (d.toNat + 2 ^ 5 * (15 + 2 ^ 6 * 0)) := nxt g0 k.isLt
  have g2 : x.toNat / 2 ^ 21 = d.toNat + 2 ^ 5 * (15 + 2 ^ 6 * 0) := nxt g1 a.isLt
  have g3 : x.toNat / 2 ^ 26 = 15 + 2 ^ 6 * 0 := nxt g2 d.isLt
  have q0 : bits x 26 6 = 15 := dig g3 (by decide)
  have f0 : fld x 21 5 = d := fld_eq (dig g2 d.isLt)
  have f1 : fld x 16 5 = a := fld_eq (dig g1 a.isLt)
  have f2 : fld x 0 16 = k := fld_eq (dig g0 k.isLt)
  have hz : x.toNat ≠ 0 := ne_zero q0 (by decide)
  intro k hk
  replace hk := mem_slots1 rfl hk
  subst hk; simp [hz, decodeMap, decodeLs, q0, f0, f1, f2]

theorem spstVector (d : BitVec 5) (a : BitVec 5) (k : BitVec 16) : Statement (.spstVector d a k) := by
  have h0 := d.isLt
  have h1 := a.isLt
  have h2 := k.isLt
  have hv : (syl 0x40000000 [(d.toNat, 21), (a.toNat, 16), (k.toNat, 0)]).toNat = _ := toNat_syl (by simp only [sylValue]; omega)
  simp only [sylValue] at hv
  refine statement_of rfl ?_
  generalize syl 0x40000000 [(d.toNat, 21), (a.toNat, 16), (k.toNat, 0)] = x at hv ⊢
  have g0 : x.toNat / 2 ^ 0 = k.toNat + 2 ^ 16 * (a.toNat + 2 ^ 5 * (d.toNat + 2 ^ 5 * (16 + 2 ^ 6 * 0))) := by rw [Nat.pow_zero, Nat.div_one, hv]; omega
  have g1 : x.toNat / 2 ^ 16 = a.toNat + 2 ^ 5 * (d.toNat + 2 ^ 5 * (16 + 2 ^ 6 * 0)) := nxt g0 k.isLt
  have g2 : x.toNat / 2 ^ 21 = d.toNat + 2 ^ 5 * (16 + 2 ^ 6 * 0) := nxt g1 a.isLt
  have g3 : x.toNat / 2 ^ 26 = 16 + 2 ^ 6 * 0 := nxt g2 d.isLt
  have q0 : bits x 26 6 = 16 := dig g3 (by decide)
  have f0 : fld x 21 5 = d := fld_eq (dig g2 d.isLt)
  have f1 : fld x 16 5 = a := fld_eq (dig g1 a.isLt)
  have f2 : fld x 0 16 = k := fld_eq (dig g0 k.isLt)
  have hz : x.toNat ≠ 0 := ne_zero q0 (by decide)
  intro k hk
  replace hk := mem_slots1 rfl hk
  subst hk; simp [hz, decodeMap, decodeLs, q0, f0, f1, f2]

theorem amoAdd (d : BitVec 5) (a : BitVec 5) (b : BitVec 5) (w : BitVec 1) : Statement (.amoAdd d a b w) := by
  have h0 := d.isLt
  have h1 := a.isLt
  have h2 := b.isLt
  have h3 := w.isLt
  have hv : (syl 0x44000000 [(d.toNat, 21), (a.toNat, 16), (b.toNat, 11), (w.toNat, 3)]).toNat = _ := toNat_syl (by simp only [sylValue]; omega)
  simp only [sylValue] at hv
  refine statement_of rfl ?_
  generalize syl 0x44000000 [(d.toNat, 21), (a.toNat, 16), (b.toNat, 11), (w.toNat, 3)] = x at hv ⊢
  have g0 : x.toNat / 2 ^ 0 = 0 + 2 ^ 3 * (w.toNat + 2 ^ 1 * (0 + 2 ^ 7 * (b.toNat + 2 ^ 5 * (a.toNat + 2 ^ 5 * (d.toNat + 2 ^ 5 * (17 + 2 ^ 6 * 0)))))) := by rw [Nat.pow_zero, Nat.div_one, hv]; omega
  have g1 : x.toNat / 2 ^ 3 = w.toNat + 2 ^ 1 * (0 + 2 ^ 7 * (b.toNat + 2 ^ 5 * (a.toNat + 2 ^ 5 * (d.toNat + 2 ^ 5 * (17 + 2 ^ 6 * 0))))) := nxt g0 (by decide)
  have g2 : x.toNat / 2 ^ 4 = 0 + 2 ^ 7 * (b.toNat + 2 ^ 5 * (a.toNat + 2 ^ 5 * (d.toNat + 2 ^ 5 * (17 + 2 ^ 6 * 0)))) := nxt g1 w.isLt
  have g3 : x.toNat / 2 ^ 11 = b.toNat + 2 ^ 5 * (a.toNat + 2 ^ 5 * (d.toNat + 2 ^ 5 * (17 + 2 ^ 6 * 0))) := nxt g2 (by decide)
  have g4 : x.toNat / 2 ^ 16 = a.toNat + 2 ^ 5 * (d.toNat + 2 ^ 5 * (17 + 2 ^ 6 * 0)) := nxt g3 b.isLt
  have g5 : x.toNat / 2 ^ 21 = d.toNat + 2 ^ 5 * (17 + 2 ^ 6 * 0) := nxt g4 a.isLt
  have g6 : x.toNat / 2 ^ 26 = 17 + 2 ^ 6 * 0 := nxt g5 d.isLt
  have q0 : bits x 26 6 = 17 := dig g6 (by decide)
  have q1 : bits x 4 7 = 0 := dig g2 (by decide)
  have q2 : bits x 0 3 = 0 := dig g0 (by decide)
  have f0 : fld x 21 5 = d := fld_eq (dig g5 d.isLt)
  have f1 : fld x 16 5 = a := fld_eq (dig g4 a.isLt)
  have f2 : fld x 11 5 = b := fld_eq (dig g3 b.isLt)
  have f3 : fld x 3 1 = w := fld_eq (dig g1 w.isLt)
  have hz : x.toNat ≠ 0 := ne_zero q0 (by decide)
  intro k hk
  replace hk := mem_slots1 rfl hk
  subst hk; simp [hz, decodeMap, decodeLs, q0, q1, q2, f0, f1, f2, f3]

theorem amoAnd (d : BitVec 5) (a : BitVec 5) (b : BitVec 5) (w : BitVec 1) : Statement (.amoAnd d a b w) := by
  have h0 := d.isLt
  have h1 := a.isLt
  have h2 := b.isLt
  have h3 := w.isLt
  have hv : (syl 0x44000001 [(d.toNat, 21), (a.toNat, 16), (b.toNat, 11), (w.toNat, 3)]).toNat = _ := toNat_syl (by simp only [sylValue]; omega)
  simp only [sylValue] at hv
  refine statement_of rfl ?_
  generalize syl 0x44000001 [(d.toNat, 21), (a.toNat, 16), (b.toNat, 11), (w.toNat, 3)] = x at hv ⊢
  have g0 : x.toNat / 2 ^ 0 = 1 + 2 ^ 3 * (w.toNat + 2 ^ 1 * (0 + 2 ^ 7 * (b.toNat + 2 ^ 5 * (a.toNat + 2 ^ 5 * (d.toNat + 2 ^ 5 * (17 + 2 ^ 6 * 0)))))) := by rw [Nat.pow_zero, Nat.div_one, hv]; omega
  have g1 : x.toNat / 2 ^ 3 = w.toNat + 2 ^ 1 * (0 + 2 ^ 7 * (b.toNat + 2 ^ 5 * (a.toNat + 2 ^ 5 * (d.toNat + 2 ^ 5 * (17 + 2 ^ 6 * 0))))) := nxt g0 (by decide)
  have g2 : x.toNat / 2 ^ 4 = 0 + 2 ^ 7 * (b.toNat + 2 ^ 5 * (a.toNat + 2 ^ 5 * (d.toNat + 2 ^ 5 * (17 + 2 ^ 6 * 0)))) := nxt g1 w.isLt
  have g3 : x.toNat / 2 ^ 11 = b.toNat + 2 ^ 5 * (a.toNat + 2 ^ 5 * (d.toNat + 2 ^ 5 * (17 + 2 ^ 6 * 0))) := nxt g2 (by decide)
  have g4 : x.toNat / 2 ^ 16 = a.toNat + 2 ^ 5 * (d.toNat + 2 ^ 5 * (17 + 2 ^ 6 * 0)) := nxt g3 b.isLt
  have g5 : x.toNat / 2 ^ 21 = d.toNat + 2 ^ 5 * (17 + 2 ^ 6 * 0) := nxt g4 a.isLt
  have g6 : x.toNat / 2 ^ 26 = 17 + 2 ^ 6 * 0 := nxt g5 d.isLt
  have q0 : bits x 26 6 = 17 := dig g6 (by decide)
  have q1 : bits x 4 7 = 0 := dig g2 (by decide)
  have q2 : bits x 0 3 = 1 := dig g0 (by decide)
  have f0 : fld x 21 5 = d := fld_eq (dig g5 d.isLt)
  have f1 : fld x 16 5 = a := fld_eq (dig g4 a.isLt)
  have f2 : fld x 11 5 = b := fld_eq (dig g3 b.isLt)
  have f3 : fld x 3 1 = w := fld_eq (dig g1 w.isLt)
  have hz : x.toNat ≠ 0 := ne_zero q0 (by decide)
  intro k hk
  replace hk := mem_slots1 rfl hk
  subst hk; simp [hz, decodeMap, decodeLs, q0, q1, q2, f0, f1, f2, f3]

theorem amoOr (d : BitVec 5) (a : BitVec 5) (b : BitVec 5) (w : BitVec 1) : Statement (.amoOr d a b w) := by
  have h0 := d.isLt
  have h1 := a.isLt
  have h2 := b.isLt
  have h3 := w.isLt
  have hv : (syl 0x44000002 [(d.toNat, 21), (a.toNat, 16), (b.toNat, 11), (w.toNat, 3)]).toNat = _ := toNat_syl (by simp only [sylValue]; omega)
  simp only [sylValue] at hv
  refine statement_of rfl ?_
  generalize syl 0x44000002 [(d.toNat, 21), (a.toNat, 16), (b.toNat, 11), (w.toNat, 3)] = x at hv ⊢
  have g0 : x.toNat / 2 ^ 0 = 2 + 2 ^ 3 * (w.toNat + 2 ^ 1 * (0 + 2 ^ 7 * (b.toNat + 2 ^ 5 * (a.toNat + 2 ^ 5 * (d.toNat + 2 ^ 5 * (17 + 2 ^ 6 * 0)))))) := by rw [Nat.pow_zero, Nat.div_one, hv]; omega
  have g1 : x.toNat / 2 ^ 3 = w.toNat + 2 ^ 1 * (0 + 2 ^ 7 * (b.toNat + 2 ^ 5 * (a.toNat + 2 ^ 5 * (d.toNat + 2 ^ 5 * (17 + 2 ^ 6 * 0))))) := nxt g0 (by decide)
  have g2 : x.toNat / 2 ^ 4 = 0 + 2 ^ 7 * (b.toNat + 2 ^ 5 * (a.toNat + 2 ^ 5 * (d.toNat + 2 ^ 5 * (17 + 2 ^ 6 * 0)))) := nxt g1 w.isLt
  have g3 : x.toNat / 2 ^ 11 = b.toNat + 2 ^ 5 * (a.toNat + 2 ^ 5 * (d.toNat + 2 ^ 5 * (17 + 2 ^ 6 * 0))) := nxt g2 (by decide)
  have g4 : x.toNat / 2 ^ 16 = a.toNat + 2 ^ 5 * (d.toNat + 2 ^ 5 * (17 + 2 ^ 6 * 0)) := nxt g3 b.isLt
  have g5 : x.toNat / 2 ^ 21 = d.toNat + 2 ^ 5 * (17 + 2 ^ 6 * 0) := nxt g4 a.isLt
  have g6 : x.toNat / 2 ^ 26 = 17 + 2 ^ 6 * 0 := nxt g5 d.isLt
  have q0 : bits x 26 6 = 17 := dig g6 (by decide)
  have q1 : bits x 4 7 = 0 := dig g2 (by decide)
  have q2 : bits x 0 3 = 2 := dig g0 (by decide)
  have f0 : fld x 21 5 = d := fld_eq (dig g5 d.isLt)
  have f1 : fld x 16 5 = a := fld_eq (dig g4 a.isLt)
  have f2 : fld x 11 5 = b := fld_eq (dig g3 b.isLt)
  have f3 : fld x 3 1 = w := fld_eq (dig g1 w.isLt)
  have hz : x.toNat ≠ 0 := ne_zero q0 (by decide)
  intro k hk
  replace hk := mem_slots1 rfl hk
  subst hk; simp [hz, decodeMap, decodeLs, q0, q1, q2, f0, f1, f2, f3]

theorem amoXor (d : BitVec 5) (a : BitVec 5) (b : BitVec 5) (w : BitVec 1) : Statement (.amoXor d a b w) := by
  have h0 := d.isLt
  have h1 := a.isLt
  have h2 := b.isLt
  have h3 := w.isLt
  have hv : (syl 0x44000003 [(d.toNat, 21), (a.toNat, 16), (b.toNat, 11), (w.toNat, 3)]).toNat = _ := toNat_syl (by simp only [sylValue]; omega)
  simp only [sylValue] at hv
  refine statement_of rfl ?_
  generalize syl 0x44000003 [(d.toNat, 21), (a.toNat, 16), (b.toNat, 11), (w.toNat, 3)] = x at hv ⊢
  have g0 : x.toNat / 2 ^ 0 = 3 + 2 ^ 3 * (w.toNat + 2 ^ 1 * (0 + 2 ^ 7 * (b.toNat + 2 ^ 5 * (a.toNat + 2 ^ 5 * (d.toNat + 2 ^ 5 * (17 + 2 ^ 6 * 0)))))) := by rw [Nat.pow_zero, Nat.div_one, hv]; omega
  have g1 : x.toNat / 2 ^ 3 = w.toNat + 2 ^ 1 * (0 + 2 ^ 7 * (b.toNat + 2 ^ 5 * (a.toNat + 2 ^ 5 * (d.toNat + 2 ^ 5 * (17 + 2 ^ 6 * 0))))) := nxt g0 (by decide)
  have g2 : x.toNat / 2 ^ 4 = 0 + 2 ^ 7 * (b.toNat + 2 ^ 5 * (a.toNat + 2 ^ 5 * (d.toNat + 2 ^ 5 * (17 + 2 ^ 6 * 0)))) := nxt g1 w.isLt
  have g3 : x.toNat / 2 ^ 11 = b.toNat + 2 ^ 5 * (a.toNat + 2 ^ 5 * (d.toNat + 2 ^ 5 * (17 + 2 ^ 6 * 0))) := nxt g2 (by decide)
  have g4 : x.toNat / 2 ^ 16 = a.toNat + 2 ^ 5 * (d.toNat + 2 ^ 5 * (17 + 2 ^ 6 * 0)) := nxt g3 b.isLt
  have g5 : x.toNat / 2 ^ 21 = d.toNat + 2 ^ 5 * (17 + 2 ^ 6 * 0) := nxt g4 a.isLt
  have g6 : x.toNat / 2 ^ 26 = 17 + 2 ^ 6 * 0 := nxt g5 d.isLt
  have q0 : bits x 26 6 = 17 := dig g6 (by decide)
  have q1 : bits x 4 7 = 0 := dig g2 (by decide)
  have q2 : bits x 0 3 = 3 := dig g0 (by decide)
  have f0 : fld x 21 5 = d := fld_eq (dig g5 d.isLt)
  have f1 : fld x 16 5 = a := fld_eq (dig g4 a.isLt)
  have f2 : fld x 11 5 = b := fld_eq (dig g3 b.isLt)
  have f3 : fld x 3 1 = w := fld_eq (dig g1 w.isLt)
  have hz : x.toNat ≠ 0 := ne_zero q0 (by decide)
  intro k hk
  replace hk := mem_slots1 rfl hk
  subst hk; simp [hz, decodeMap, decodeLs, q0, q1, q2, f0, f1, f2, f3]

theorem amoMin (d : BitVec 5) (a : BitVec 5) (b : BitVec 5) (w : BitVec 1) : Statement (.amoMin d a b w) := by
  have h0 := d.isLt
  have h1 := a.isLt
  have h2 := b.isLt
  have h3 := w.isLt
  have hv : (syl 0x44000004 [(d.toNat, 21), (a.toNat, 16), (b.toNat, 11), (w.toNat, 3)]).toNat = _ := toNat_syl (by simp only [sylValue]; omega)
  simp only [sylValue] at hv
  refine statement_of rfl ?_
  generalize syl 0x44000004 [(d.toNat, 21), (a.toNat, 16), (b.toNat, 11), (w.toNat, 3)] = x at hv ⊢
  have g0 : x.toNat / 2 ^ 0 = 4 + 2 ^ 3 * (w.toNat + 2 ^ 1 * (0 + 2 ^ 7 * (b.toNat + 2 ^ 5 * (a.toNat + 2 ^ 5 * (d.toNat + 2 ^ 5 * (17 + 2 ^ 6 * 0)))))) := by rw [Nat.pow_zero, Nat.div_one, hv]; omega
  have g1 : x.toNat / 2 ^ 3 = w.toNat + 2 ^ 1 * (0 + 2 ^ 7 * (b.toNat + 2 ^ 5 * (a.toNat + 2 ^ 5 * (d.toNat + 2 ^ 5 * (17 + 2 ^ 6 * 0))))) := nxt g0 (by decide)
  have g2 : x.toNat / 2 ^ 4 = 0 + 2 ^ 7 * (b.toNat + 2 ^ 5 * (a.toNat + 2 ^ 5 * (d.toNat + 2 ^ 5 * (17 + 2 ^ 6 * 0)))) := nxt g1 w.isLt
  have g3 : x.toNat / 2 ^ 11 = b.toNat + 2 ^ 5 * (a.toNat + 2 ^ 5 * (d.toNat + 2 ^ 5 * (17 + 2 ^ 6 * 0))) := nxt g2 (by decide)
  have g4 : x.toNat / 2 ^ 16 = a.toNat + 2 ^ 5 * (d.toNat + 2 ^ 5 * (17 + 2 ^ 6 * 0)) := nxt g3 b.isLt
  have g5 : x.toNat / 2 ^ 21 = d.toNat + 2 ^ 5 * (17 + 2 ^ 6 * 0) := nxt g4 a.isLt
  have g6 : x.toNat / 2 ^ 26 = 17 + 2 ^ 6 * 0 := nxt g5 d.isLt
  have q0 : bits x 26 6 = 17 := dig g6 (by decide)
  have q1 : bits x 4 7 = 0 := dig g2 (by decide)
  have q2 : bits x 0 3 = 4 := dig g0 (by decide)
  have f0 : fld x 21 5 = d := fld_eq (dig g5 d.isLt)
  have f1 : fld x 16 5 = a := fld_eq (dig g4 a.isLt)
  have f2 : fld x 11 5 = b := fld_eq (dig g3 b.isLt)
  have f3 : fld x 3 1 = w := fld_eq (dig g1 w.isLt)
  have hz : x.toNat ≠ 0 := ne_zero q0 (by decide)
  intro k hk
  replace hk := mem_slots1 rfl hk
  subst hk; simp [hz, decodeMap, decodeLs, q0, q1, q2, f0, f1, f2, f3]

theorem amoMax (d : BitVec 5) (a : BitVec 5) (b : BitVec 5) (w : BitVec 1) : Statement (.amoMax d a b w) := by
  have h0 := d.isLt
  have h1 := a.isLt
  have h2 := b.isLt
  have h3 := w.isLt
  have hv : (syl 0x44000005 [(d.toNat, 21), (a.toNat, 16), (b.toNat, 11), (w.toNat, 3)]).toNat = _ := toNat_syl (by simp only [sylValue]; omega)
  simp only [sylValue] at hv
  refine statement_of rfl ?_
  generalize syl 0x44000005 [(d.toNat, 21), (a.toNat, 16), (b.toNat, 11), (w.toNat, 3)] = x at hv ⊢
  have g0 : x.toNat / 2 ^ 0 = 5 + 2 ^ 3 * (w.toNat + 2 ^ 1 * (0 + 2 ^ 7 * (b.toNat + 2 ^ 5 * (a.toNat + 2 ^ 5 * (d.toNat + 2 ^ 5 * (17 + 2 ^ 6 * 0)))))) := by rw [Nat.pow_zero, Nat.div_one, hv]; omega
  have g1 : x.toNat / 2 ^ 3 = w.toNat + 2 ^ 1 * (0 + 2 ^ 7 * (b.toNat + 2 ^ 5 * (a.toNat + 2 ^ 5 * (d.toNat + 2 ^ 5 * (17 + 2 ^ 6 * 0))))) := nxt g0 (by decide)
  have g2 : x.toNat / 2 ^ 4 = 0 + 2 ^ 7 * (b.toNat + 2 ^ 5 * (a.toNat + 2 ^ 5 * (d.toNat + 2 ^ 5 * (17 + 2 ^ 6 * 0)))) := nxt g1 w.isLt
  have g3 : x.toNat / 2 ^ 11 = b.toNat + 2 ^ 5 * (a.toNat + 2 ^ 5 * (d.toNat + 2 ^ 5 * (17 + 2 ^ 6 * 0))) := nxt g2 (by decide)
  have g4 : x.toNat / 2 ^ 16 = a.toNat + 2 ^ 5 * (d.toNat + 2 ^ 5 * (17 + 2 ^ 6 * 0)) := nxt g3 b.isLt
  have g5 : x.toNat / 2 ^ 21 = d.toNat + 2 ^ 5 * (17 + 2 ^ 6 * 0) := nxt g4 a.isLt
  have g6 : x.toNat / 2 ^ 26 = 17 + 2 ^ 6 * 0 := nxt g5 d.isLt
  have q0 : bits x 26 6 = 17 := dig g6 (by decide)
  have q1 : bits x 4 7 = 0 := dig g2 (by decide)
  have q2 : bits x 0 3 = 5 := dig g0 (by decide)
  have f0 : fld x 21 5 = d := fld_eq (dig g5 d.isLt)
  have f1 : fld x 16 5 = a := fld_eq (dig g4 a.isLt)
  have f2 : fld x 11 5 = b := fld_eq (dig g3 b.isLt)
  have f3 : fld x 3 1 = w := fld_eq (dig g1 w.isLt)
  have hz : x.toNat ≠ 0 := ne_zero q0 (by decide)
  intro k hk
  replace hk := mem_slots1 rfl hk
  subst hk; simp [hz, decodeMap, decodeLs, q0, q1, q2, f0, f1, f2, f3]

theorem amoSwap (d : BitVec 5) (a : BitVec 5) (b : BitVec 5) (w : BitVec 1) : Statement (.amoSwap d a b w) := by
  have h0 := d.isLt
  have h1 := a.isLt
  have h2 := b.isLt
  have h3 := w.isLt
  have hv : (syl 0x44000006 [(d.toNat, 21), (a.toNat, 16), (b.toNat, 11), (w.toNat, 3)]).toNat = _ := toNat_syl (by simp only [sylValue]; omega)
  simp only [sylValue] at hv
  refine statement_of rfl ?_
  generalize syl 0x44000006 [(d.toNat, 21), (a.toNat, 16), (b.toNat, 11), (w.toNat, 3)] = x at hv ⊢
  have g0 : x.toNat / 2 ^ 0 = 6 + 2 ^ 3 * (w.toNat + 2 ^ 1 * (0 + 2 ^ 7 * (b.toNat + 2 ^ 5 * (a.toNat + 2 ^ 5 * (d.toNat + 2 ^ 5 * (17 + 2 ^ 6 * 0)))))) := by rw [Nat.pow_zero, Nat.div_one, hv]; omega
  have g1 : x.toNat / 2 ^ 3 = w.toNat + 2 ^ 1 * (0 + 2 ^ 7 * (b.toNat + 2 ^ 5 * (a.toNat + 2 ^ 5 * (d.toNat + 2 ^ 5 * (17 + 2 ^ 6 * 0))))) := nxt g0 (by decide)
  have g2 : x.toNat / 2 ^ 4 = 0 + 2 ^ 7 * (b.toNat + 2 ^ 5 * (a.toNat + 2 ^ 5 * (d.toNat + 2 ^ 5 * (17 + 2 ^ 6 * 0)))) := nxt g1 w.isLt
  have g3 : x.toNat / 2 ^ 11 = b.toNat + 2 ^ 5 * (a.toNat + 2 ^ 5 * (d.toNat + 2 ^ 5 * (17 + 2 ^ 6 * 0))) := nxt g2 (by decide)
  have g4 : x.toNat / 2 ^ 16 = a.toNat + 2 ^ 5 * (d.toNat + 2 ^ 5 * (17 + 2 ^ 6 * 0)) := nxt g3 b.isLt
  have g5 : x.toNat / 2 ^ 21 = d.toNat + 2 ^ 5 * (17 + 2 ^ 6 * 0) := nxt g4 a.isLt
  have g6 : x.toNat / 2 ^ 26 = 17 + 2 ^ 6 * 0 := nxt g5 d.isLt
  have q0 : bits x 26 6 = 17 := dig g6 (by decide)
  have q1 : bits x 4 7 = 0 := dig g2 (by decide)
  have q2 : bits x 0 3 = 6 := dig g0 (by decide)
  have f0 : fld x 21 5 = d := fld_eq (dig g5 d.isLt)
  have f1 : fld x 16 5 = a := fld_eq (dig g4 a.isLt)
  have f2 : fld x 11 5 = b := fld_eq (dig g3 b.isLt)
  have f3 : fld x 3 1 = w := fld_eq (dig g1 w.isLt)
  have hz : x.toNat ≠ 0 := ne_zero q0 (by decide)
  intro k hk
  replace hk := mem_slots1 rfl hk
  subst hk; simp [hz, decodeMap, decodeLs, q0, q1, q2, f0, f1, f2, f3]

theorem amoCas (d : BitVec 5) (a : BitVec 5) (b : BitVec 5) (c : BitVec 5) (w : BitVec 1) : Statement (.amoCas d a b c w) := by
  have h0 := d.isLt
  have h1 := a.isLt
  have h2 := b.isLt
  have h3 := c.isLt
  have h4 := w.isLt
  have hv : (syl 0x44000007 [(d.toNat, 21), (a.toNat, 16), (b.toNat, 11), (c.toNat, 6), (w.toNat, 3)]).toNat = _ := toNat_syl (by simp only [sylValue]; omega)
  simp only [sylValue] at hv
  refine statement_of rfl ?_
  generalize syl 0x44000007 [(d.toNat, 21), (a.toNat, 16), (b.toNat, 11), (c.toNat, 6), (w.toNat, 3)] = x at hv ⊢
  have g0 : x.toNat / 2 ^ 0 = 7 + 2 ^ 3 * (w.toNat + 2 ^ 1 * (0 + 2 ^ 2 * (c.toNat + 2 ^ 5 * (b.toNat + 2 ^ 5 * (a.toNat + 2 ^ 5 * (d.toNat + 2 ^ 5 * (17 + 2 ^ 6 * 0))))))) := by rw [Nat.pow_zero, Nat.div_one, hv]; omega
  have g1 : x.toNat / 2 ^ 3 = w.toNat + 2 ^ 1 * (0 + 2 ^ 2 * (c.toNat + 2 ^ 5 * (b.toNat + 2 ^ 5 * (a.toNat + 2 ^ 5 * (d.toNat + 2 ^ 5 * (17 + 2 ^ 6 * 0)))))) := nxt g0 (by decide)
  have g2 : x.toNat / 2 ^ 4 = 0 + 2 ^ 2 * (c.toNat + 2 ^ 5 * (b.toNat + 2 ^ 5 * (a.toNat + 2 ^ 5 * (d.toNat + 2 ^ 5 * (17 + 2 ^ 6 * 0))))) := nxt g1 w.isLt
  have g3 : x.toNat / 2 ^ 6 = c.toNat + 2 ^ 5 * (b.toNat + 2 ^ 5 * (a.toNat + 2 ^ 5 * (d.toNat + 2 ^ 5 * (17 + 2 ^ 6 * 0)))) := nxt g2 (by decide)
  have g4 : x.toNat / 2 ^ 11 = b.toNat + 2 ^ 5 * (a.toNat + 2 ^ 5 * (d.toNat + 2 ^ 5 * (17 + 2 ^ 6 * 0))) := nxt g3 c.isLt
  have g5 : x.toNat / 2 ^ 16 = a.toNat + 2 ^ 5 * (d.toNat + 2 ^ 5 * (17 + 2 ^ 6 * 0)) := nxt g4 b.isLt
  have g6 : x.toNat / 2 ^ 21 = d.toNat + 2 ^ 5 * (17 + 2 ^ 6 * 0) := nxt g5 a.isLt
  have g7 : x.toNat / 2 ^ 26 = 17 + 2 ^ 6 * 0 := nxt g6 d.isLt
  have q0 : bits x 26 6 = 17 := dig g7 (by decide)
  have q1 : bits x 0 3 = 7 := dig g0 (by decide)
  have q2 : bits x 4 2 = 0 := dig g2 (by decide)
  have f0 : fld x 21 5 = d := fld_eq (dig g6 d.isLt)
  have f1 : fld x 16 5 = a := fld_eq (dig g5 a.isLt)
  have f2 : fld x 11 5 = b := fld_eq (dig g4 b.isLt)
  have f3 : fld x 6 5 = c := fld_eq (dig g3 c.isLt)
  have f4 : fld x 3 1 = w := fld_eq (dig g1 w.isLt)
  have hz : x.toNat ≠ 0 := ne_zero q0 (by decide)
  intro k hk
  replace hk := mem_slots1 rfl hk
  subst hk; simp [hz, decodeMap, decodeLs, q0, q1, q2, f0, f1, f2, f3, f4]

theorem bind (d : BitVec 5) (a : BitVec 5) (b : BitVec 5) : Statement (.bind d a b) := by
  have h0 := d.isLt
  have h1 := a.isLt
  have h2 := b.isLt
  have hv : (syl 0x48000000 [(d.toNat, 21), (a.toNat, 16), (b.toNat, 11)]).toNat = _ := toNat_syl (by simp only [sylValue]; omega)
  simp only [sylValue] at hv
  refine statement_of rfl ?_
  generalize syl 0x48000000 [(d.toNat, 21), (a.toNat, 16), (b.toNat, 11)] = x at hv ⊢
  have g0 : x.toNat / 2 ^ 0 = 0 + 2 ^ 11 * (b.toNat + 2 ^ 5 * (a.toNat + 2 ^ 5 * (d.toNat + 2 ^ 5 * (18 + 2 ^ 6 * 0)))) := by rw [Nat.pow_zero, Nat.div_one, hv]; omega
  have g1 : x.toNat / 2 ^ 11 = b.toNat + 2 ^ 5 * (a.toNat + 2 ^ 5 * (d.toNat + 2 ^ 5 * (18 + 2 ^ 6 * 0))) := nxt g0 (by decide)
  have g2 : x.toNat / 2 ^ 16 = a.toNat + 2 ^ 5 * (d.toNat + 2 ^ 5 * (18 + 2 ^ 6 * 0)) := nxt g1 b.isLt
  have g3 : x.toNat / 2 ^ 21 = d.toNat + 2 ^ 5 * (18 + 2 ^ 6 * 0) := nxt g2 a.isLt
  have g4 : x.toNat / 2 ^ 26 = 18 + 2 ^ 6 * 0 := nxt g3 d.isLt
  have q0 : bits x 26 6 = 18 := dig g4 (by decide)
  have q1 : bits x 0 11 = 0 := dig g0 (by decide)
  have f0 : fld x 21 5 = d := fld_eq (dig g3 d.isLt)
  have f1 : fld x 16 5 = a := fld_eq (dig g2 a.isLt)
  have f2 : fld x 11 5 = b := fld_eq (dig g1 b.isLt)
  have hz : x.toNat ≠ 0 := ne_zero q0 (by decide)
  intro k hk
  replace hk := mem_slots1 rfl hk
  subst hk; simp [hz, decodeMap, decodeLs, q0, q1, f0, f1, f2]

theorem acq (a : BitVec 5) (s : BitVec 3) : Statement (.acq a s) := by
  have h0 := a.isLt
  have h1 := s.isLt
  have hv : (syl 0x4C000000 [(a.toNat, 16), (s.toNat, 0)]).toNat = _ := toNat_syl (by simp only [sylValue]; omega)
  simp only [sylValue] at hv
  refine statement_of rfl ?_
  generalize syl 0x4C000000 [(a.toNat, 16), (s.toNat, 0)] = x at hv ⊢
  have g0 : x.toNat / 2 ^ 0 = s.toNat + 2 ^ 3 * (0 + 2 ^ 13 * (a.toNat + 2 ^ 5 * (0 + 2 ^ 5 * (19 + 2 ^ 6 * 0)))) := by rw [Nat.pow_zero, Nat.div_one, hv]; omega
  have g1 : x.toNat / 2 ^ 3 = 0 + 2 ^ 13 * (a.toNat + 2 ^ 5 * (0 + 2 ^ 5 * (19 + 2 ^ 6 * 0))) := nxt g0 s.isLt
  have g2 : x.toNat / 2 ^ 16 = a.toNat + 2 ^ 5 * (0 + 2 ^ 5 * (19 + 2 ^ 6 * 0)) := nxt g1 (by decide)
  have g3 : x.toNat / 2 ^ 21 = 0 + 2 ^ 5 * (19 + 2 ^ 6 * 0) := nxt g2 a.isLt
  have g4 : x.toNat / 2 ^ 26 = 19 + 2 ^ 6 * 0 := nxt g3 (by decide)
  have q0 : bits x 26 6 = 19 := dig g4 (by decide)
  have q1 : bits x 21 5 = 0 := dig g3 (by decide)
  have q2 : bits x 3 13 = 0 := dig g1 (by decide)
  have f0 : fld x 16 5 = a := fld_eq (dig g2 a.isLt)
  have f1 : fld x 0 3 = s := fld_eq (dig g0 s.isLt)
  have hz : x.toNat ≠ 0 := ne_zero q0 (by decide)
  intro k hk
  replace hk := mem_slots1 rfl hk
  subst hk; simp [hz, decodeMap, decodeLs, q0, q1, q2, f0, f1]

theorem rel (a : BitVec 5) (s : BitVec 3) : Statement (.rel a s) := by
  have h0 := a.isLt
  have h1 := s.isLt
  have hv : (syl 0x50000000 [(a.toNat, 16), (s.toNat, 0)]).toNat = _ := toNat_syl (by simp only [sylValue]; omega)
  simp only [sylValue] at hv
  refine statement_of rfl ?_
  generalize syl 0x50000000 [(a.toNat, 16), (s.toNat, 0)] = x at hv ⊢
  have g0 : x.toNat / 2 ^ 0 = s.toNat + 2 ^ 3 * (0 + 2 ^ 13 * (a.toNat + 2 ^ 5 * (0 + 2 ^ 5 * (20 + 2 ^ 6 * 0)))) := by rw [Nat.pow_zero, Nat.div_one, hv]; omega
  have g1 : x.toNat / 2 ^ 3 = 0 + 2 ^ 13 * (a.toNat + 2 ^ 5 * (0 + 2 ^ 5 * (20 + 2 ^ 6 * 0))) := nxt g0 s.isLt
  have g2 : x.toNat / 2 ^ 16 = a.toNat + 2 ^ 5 * (0 + 2 ^ 5 * (20 + 2 ^ 6 * 0)) := nxt g1 (by decide)
  have g3 : x.toNat / 2 ^ 21 = 0 + 2 ^ 5 * (20 + 2 ^ 6 * 0) := nxt g2 a.isLt
  have g4 : x.toNat / 2 ^ 26 = 20 + 2 ^ 6 * 0 := nxt g3 (by decide)
  have q0 : bits x 26 6 = 20 := dig g4 (by decide)
  have q1 : bits x 21 5 = 0 := dig g3 (by decide)
  have q2 : bits x 3 13 = 0 := dig g1 (by decide)
  have f0 : fld x 16 5 = a := fld_eq (dig g2 a.isLt)
  have f1 : fld x 0 3 = s := fld_eq (dig g0 s.isLt)
  have hz : x.toNat ≠ 0 := ne_zero q0 (by decide)
  intro k hk
  replace hk := mem_slots1 rfl hk
  subst hk; simp [hz, decodeMap, decodeLs, q0, q1, q2, f0, f1]

theorem vadd (d : BitVec 5) (a : BitVec 5) (b : BitVec 5) (p : BitVec 3) (t : BitVec 4) : Statement (.vadd d a b p t) := by
  have h0 := d.isLt
  have h1 := a.isLt
  have h2 := b.isLt
  have h3 := p.isLt
  have h4 := t.isLt
  have hv : (syl 0x04000000 [(d.toNat, 21), (a.toNat, 16), (b.toNat, 11), (p.toNat, 8), (t.toNat, 4)]).toNat = _ := toNat_syl (by simp only [sylValue]; omega)
  simp only [sylValue] at hv
  refine statement_of rfl ?_
  generalize syl 0x04000000 [(d.toNat, 21), (a.toNat, 16), (b.toNat, 11), (p.toNat, 8), (t.toNat, 4)] = x at hv ⊢
  have g0 : x.toNat / 2 ^ 0 = 0 + 2 ^ 4 * (t.toNat + 2 ^ 4 * (p.toNat + 2 ^ 3 * (b.toNat + 2 ^ 5 * (a.toNat + 2 ^ 5 * (d.toNat + 2 ^ 5 * (1 + 2 ^ 6 * 0)))))) := by rw [Nat.pow_zero, Nat.div_one, hv]; omega
  have g1 : x.toNat / 2 ^ 4 = t.toNat + 2 ^ 4 * (p.toNat + 2 ^ 3 * (b.toNat + 2 ^ 5 * (a.toNat + 2 ^ 5 * (d.toNat + 2 ^ 5 * (1 + 2 ^ 6 * 0))))) := nxt g0 (by decide)
  have g2 : x.toNat / 2 ^ 8 = p.toNat + 2 ^ 3 * (b.toNat + 2 ^ 5 * (a.toNat + 2 ^ 5 * (d.toNat + 2 ^ 5 * (1 + 2 ^ 6 * 0)))) := nxt g1 t.isLt
  have g3 : x.toNat / 2 ^ 11 = b.toNat + 2 ^ 5 * (a.toNat + 2 ^ 5 * (d.toNat + 2 ^ 5 * (1 + 2 ^ 6 * 0))) := nxt g2 p.isLt
  have g4 : x.toNat / 2 ^ 16 = a.toNat + 2 ^ 5 * (d.toNat + 2 ^ 5 * (1 + 2 ^ 6 * 0)) := nxt g3 b.isLt
  have g5 : x.toNat / 2 ^ 21 = d.toNat + 2 ^ 5 * (1 + 2 ^ 6 * 0) := nxt g4 a.isLt
  have g6 : x.toNat / 2 ^ 26 = 1 + 2 ^ 6 * 0 := nxt g5 d.isLt
  have q0 : bits x 26 6 = 1 := dig g6 (by decide)
  have q1 : bits x 0 4 = 0 := dig g0 (by decide)
  have f0 : fld x 21 5 = d := fld_eq (dig g5 d.isLt)
  have f1 : fld x 16 5 = a := fld_eq (dig g4 a.isLt)
  have f2 : fld x 11 5 = b := fld_eq (dig g3 b.isLt)
  have f3 : fld x 8 3 = p := fld_eq (dig g2 p.isLt)
  have f4 : fld x 4 4 = t := fld_eq (dig g1 t.isLt)
  have hz : x.toNat ≠ 0 := ne_zero q0 (by decide)
  intro k hk
  replace hk := mem_slots2 rfl hk
  rcases hk with rfl | rfl <;> simp [hz, decodeMap, decodeVb, decodeVa, q0, q1, f0, f1, f2, f3, f4]

theorem vsub (d : BitVec 5) (a : BitVec 5) (b : BitVec 5) (p : BitVec 3) (t : BitVec 4) : Statement (.vsub d a b p t) := by
  have h0 := d.isLt
  have h1 := a.isLt
  have h2 := b.isLt
  have h3 := p.isLt
  have h4 := t.isLt
  have hv : (syl 0x04000001 [(d.toNat, 21), (a.toNat, 16), (b.toNat, 11), (p.toNat, 8), (t.toNat, 4)]).toNat = _ := toNat_syl (by simp only [sylValue]; omega)
  simp only [sylValue] at hv
  refine statement_of rfl ?_
  generalize syl 0x04000001 [(d.toNat, 21), (a.toNat, 16), (b.toNat, 11), (p.toNat, 8), (t.toNat, 4)] = x at hv ⊢
  have g0 : x.toNat / 2 ^ 0 = 1 + 2 ^ 4 * (t.toNat + 2 ^ 4 * (p.toNat + 2 ^ 3 * (b.toNat + 2 ^ 5 * (a.toNat + 2 ^ 5 * (d.toNat + 2 ^ 5 * (1 + 2 ^ 6 * 0)))))) := by rw [Nat.pow_zero, Nat.div_one, hv]; omega
  have g1 : x.toNat / 2 ^ 4 = t.toNat + 2 ^ 4 * (p.toNat + 2 ^ 3 * (b.toNat + 2 ^ 5 * (a.toNat + 2 ^ 5 * (d.toNat + 2 ^ 5 * (1 + 2 ^ 6 * 0))))) := nxt g0 (by decide)
  have g2 : x.toNat / 2 ^ 8 = p.toNat + 2 ^ 3 * (b.toNat + 2 ^ 5 * (a.toNat + 2 ^ 5 * (d.toNat + 2 ^ 5 * (1 + 2 ^ 6 * 0)))) := nxt g1 t.isLt
  have g3 : x.toNat / 2 ^ 11 = b.toNat + 2 ^ 5 * (a.toNat + 2 ^ 5 * (d.toNat + 2 ^ 5 * (1 + 2 ^ 6 * 0))) := nxt g2 p.isLt
  have g4 : x.toNat / 2 ^ 16 = a.toNat + 2 ^ 5 * (d.toNat + 2 ^ 5 * (1 + 2 ^ 6 * 0)) := nxt g3 b.isLt
  have g5 : x.toNat / 2 ^ 21 = d.toNat + 2 ^ 5 * (1 + 2 ^ 6 * 0) := nxt g4 a.isLt
  have g6 : x.toNat / 2 ^ 26 = 1 + 2 ^ 6 * 0 := nxt g5 d.isLt
  have q0 : bits x 26 6 = 1 := dig g6 (by decide)
  have q1 : bits x 0 4 = 1 := dig g0 (by decide)
  have f0 : fld x 21 5 = d := fld_eq (dig g5 d.isLt)
  have f1 : fld x 16 5 = a := fld_eq (dig g4 a.isLt)
  have f2 : fld x 11 5 = b := fld_eq (dig g3 b.isLt)
  have f3 : fld x 8 3 = p := fld_eq (dig g2 p.isLt)
  have f4 : fld x 4 4 = t := fld_eq (dig g1 t.isLt)
  have hz : x.toNat ≠ 0 := ne_zero q0 (by decide)
  intro k hk
  replace hk := mem_slots2 rfl hk
  rcases hk with rfl | rfl <;> simp [hz, decodeMap, decodeVb, decodeVa, q0, q1, f0, f1, f2, f3, f4]

theorem vand (d : BitVec 5) (a : BitVec 5) (b : BitVec 5) (p : BitVec 3) (t : BitVec 4) : Statement (.vand d a b p t) := by
  have h0 := d.isLt
  have h1 := a.isLt
  have h2 := b.isLt
  have h3 := p.isLt
  have h4 := t.isLt
  have hv : (syl 0x04000002 [(d.toNat, 21), (a.toNat, 16), (b.toNat, 11), (p.toNat, 8), (t.toNat, 4)]).toNat = _ := toNat_syl (by simp only [sylValue]; omega)
  simp only [sylValue] at hv
  refine statement_of rfl ?_
  generalize syl 0x04000002 [(d.toNat, 21), (a.toNat, 16), (b.toNat, 11), (p.toNat, 8), (t.toNat, 4)] = x at hv ⊢
  have g0 : x.toNat / 2 ^ 0 = 2 + 2 ^ 4 * (t.toNat + 2 ^ 4 * (p.toNat + 2 ^ 3 * (b.toNat + 2 ^ 5 * (a.toNat + 2 ^ 5 * (d.toNat + 2 ^ 5 * (1 + 2 ^ 6 * 0)))))) := by rw [Nat.pow_zero, Nat.div_one, hv]; omega
  have g1 : x.toNat / 2 ^ 4 = t.toNat + 2 ^ 4 * (p.toNat + 2 ^ 3 * (b.toNat + 2 ^ 5 * (a.toNat + 2 ^ 5 * (d.toNat + 2 ^ 5 * (1 + 2 ^ 6 * 0))))) := nxt g0 (by decide)
  have g2 : x.toNat / 2 ^ 8 = p.toNat + 2 ^ 3 * (b.toNat + 2 ^ 5 * (a.toNat + 2 ^ 5 * (d.toNat + 2 ^ 5 * (1 + 2 ^ 6 * 0)))) := nxt g1 t.isLt
  have g3 : x.toNat / 2 ^ 11 = b.toNat + 2 ^ 5 * (a.toNat + 2 ^ 5 * (d.toNat + 2 ^ 5 * (1 + 2 ^ 6 * 0))) := nxt g2 p.isLt
  have g4 : x.toNat / 2 ^ 16 = a.toNat + 2 ^ 5 * (d.toNat + 2 ^ 5 * (1 + 2 ^ 6 * 0)) := nxt g3 b.isLt
  have g5 : x.toNat / 2 ^ 21 = d.toNat + 2 ^ 5 * (1 + 2 ^ 6 * 0) := nxt g4 a.isLt
  have g6 : x.toNat / 2 ^ 26 = 1 + 2 ^ 6 * 0 := nxt g5 d.isLt
  have q0 : bits x 26 6 = 1 := dig g6 (by decide)
  have q1 : bits x 0 4 = 2 := dig g0 (by decide)
  have f0 : fld x 21 5 = d := fld_eq (dig g5 d.isLt)
  have f1 : fld x 16 5 = a := fld_eq (dig g4 a.isLt)
  have f2 : fld x 11 5 = b := fld_eq (dig g3 b.isLt)
  have f3 : fld x 8 3 = p := fld_eq (dig g2 p.isLt)
  have f4 : fld x 4 4 = t := fld_eq (dig g1 t.isLt)
  have hz : x.toNat ≠ 0 := ne_zero q0 (by decide)
  intro k hk
  replace hk := mem_slots2 rfl hk
  rcases hk with rfl | rfl <;> simp [hz, decodeMap, decodeVb, decodeVa, q0, q1, f0, f1, f2, f3, f4]

theorem vor (d : BitVec 5) (a : BitVec 5) (b : BitVec 5) (p : BitVec 3) (t : BitVec 4) : Statement (.vor d a b p t) := by
  have h0 := d.isLt
  have h1 := a.isLt
  have h2 := b.isLt
  have h3 := p.isLt
  have h4 := t.isLt
  have hv : (syl 0x04000003 [(d.toNat, 21), (a.toNat, 16), (b.toNat, 11), (p.toNat, 8), (t.toNat, 4)]).toNat = _ := toNat_syl (by simp only [sylValue]; omega)
  simp only [sylValue] at hv
  refine statement_of rfl ?_
  generalize syl 0x04000003 [(d.toNat, 21), (a.toNat, 16), (b.toNat, 11), (p.toNat, 8), (t.toNat, 4)] = x at hv ⊢
  have g0 : x.toNat / 2 ^ 0 = 3 + 2 ^ 4 * (t.toNat + 2 ^ 4 * (p.toNat + 2 ^ 3 * (b.toNat + 2 ^ 5 * (a.toNat + 2 ^ 5 * (d.toNat + 2 ^ 5 * (1 + 2 ^ 6 * 0)))))) := by rw [Nat.pow_zero, Nat.div_one, hv]; omega
  have g1 : x.toNat / 2 ^ 4 = t.toNat + 2 ^ 4 * (p.toNat + 2 ^ 3 * (b.toNat + 2 ^ 5 * (a.toNat + 2 ^ 5 * (d.toNat + 2 ^ 5 * (1 + 2 ^ 6 * 0))))) := nxt g0 (by decide)
  have g2 : x.toNat / 2 ^ 8 = p.toNat + 2 ^ 3 * (b.toNat + 2 ^ 5 * (a.toNat + 2 ^ 5 * (d.toNat + 2 ^ 5 * (1 + 2 ^ 6 * 0)))) := nxt g1 t.isLt
  have g3 : x.toNat / 2 ^ 11 = b.toNat + 2 ^ 5 * (a.toNat + 2 ^ 5 * (d.toNat + 2 ^ 5 * (1 + 2 ^ 6 * 0))) := nxt g2 p.isLt
  have g4 : x.toNat / 2 ^ 16 = a.toNat + 2 ^ 5 * (d.toNat + 2 ^ 5 * (1 + 2 ^ 6 * 0)) := nxt g3 b.isLt
  have g5 : x.toNat / 2 ^ 21 = d.toNat + 2 ^ 5 * (1 + 2 ^ 6 * 0) := nxt g4 a.isLt
  have g6 : x.toNat / 2 ^ 26 = 1 + 2 ^ 6 * 0 := nxt g5 d.isLt
  have q0 : bits x 26 6 = 1 := dig g6 (by decide)
  have q1 : bits x 0 4 = 3 := dig g0 (by decide)
  have f0 : fld x 21 5 = d := fld_eq (dig g5 d.isLt)
  have f1 : fld x 16 5 = a := fld_eq (dig g4 a.isLt)
  have f2 : fld x 11 5 = b := fld_eq (dig g3 b.isLt)
  have f3 : fld x 8 3 = p := fld_eq (dig g2 p.isLt)
  have f4 : fld x 4 4 = t := fld_eq (dig g1 t.isLt)
  have hz : x.toNat ≠ 0 := ne_zero q0 (by decide)
  intro k hk
  replace hk := mem_slots2 rfl hk
  rcases hk with rfl | rfl <;> simp [hz, decodeMap, decodeVb, decodeVa, q0, q1, f0, f1, f2, f3, f4]

theorem vxor (d : BitVec 5) (a : BitVec 5) (b : BitVec 5) (p : BitVec 3) (t : BitVec 4) : Statement (.vxor d a b p t) := by
  have h0 := d.isLt
  have h1 := a.isLt
  have h2 := b.isLt
  have h3 := p.isLt
  have h4 := t.isLt
  have hv : (syl 0x04000004 [(d.toNat, 21), (a.toNat, 16), (b.toNat, 11), (p.toNat, 8), (t.toNat, 4)]).toNat = _ := toNat_syl (by simp only [sylValue]; omega)
  simp only [sylValue] at hv
  refine statement_of rfl ?_
  generalize syl 0x04000004 [(d.toNat, 21), (a.toNat, 16), (b.toNat, 11), (p.toNat, 8), (t.toNat, 4)] = x at hv ⊢
  have g0 : x.toNat / 2 ^ 0 = 4 + 2 ^ 4 * (t.toNat + 2 ^ 4 * (p.toNat + 2 ^ 3 * (b.toNat + 2 ^ 5 * (a.toNat + 2 ^ 5 * (d.toNat + 2 ^ 5 * (1 + 2 ^ 6 * 0)))))) := by rw [Nat.pow_zero, Nat.div_one, hv]; omega
  have g1 : x.toNat / 2 ^ 4 = t.toNat + 2 ^ 4 * (p.toNat + 2 ^ 3 * (b.toNat + 2 ^ 5 * (a.toNat + 2 ^ 5 * (d.toNat + 2 ^ 5 * (1 + 2 ^ 6 * 0))))) := nxt g0 (by decide)
  have g2 : x.toNat / 2 ^ 8 = p.toNat + 2 ^ 3 * (b.toNat + 2 ^ 5 * (a.toNat + 2 ^ 5 * (d.toNat + 2 ^ 5 * (1 + 2 ^ 6 * 0)))) := nxt g1 t.isLt
  have g3 : x.toNat / 2 ^ 11 = b.toNat + 2 ^ 5 * (a.toNat + 2 ^ 5 * (d.toNat + 2 ^ 5 * (1 + 2 ^ 6 * 0))) := nxt g2 p.isLt
  have g4 : x.toNat / 2 ^ 16 = a.toNat + 2 ^ 5 * (d.toNat + 2 ^ 5 * (1 + 2 ^ 6 * 0)) := nxt g3 b.isLt
  have g5 : x.toNat / 2 ^ 21 = d.toNat + 2 ^ 5 * (1 + 2 ^ 6 * 0) := nxt g4 a.isLt
  have g6 : x.toNat / 2 ^ 26 = 1 + 2 ^ 6 * 0 := nxt g5 d.isLt
  have q0 : bits x 26 6 = 1 := dig g6 (by decide)
  have q1 : bits x 0 4 = 4 := dig g0 (by decide)
  have f0 : fld x 21 5 = d := fld_eq (dig g5 d.isLt)
  have f1 : fld x 16 5 = a := fld_eq (dig g4 a.isLt)
  have f2 : fld x 11 5 = b := fld_eq (dig g3 b.isLt)
  have f3 : fld x 8 3 = p := fld_eq (dig g2 p.isLt)
  have f4 : fld x 4 4 = t := fld_eq (dig g1 t.isLt)
  have hz : x.toNat ≠ 0 := ne_zero q0 (by decide)
  intro k hk
  replace hk := mem_slots2 rfl hk
  rcases hk with rfl | rfl <;> simp [hz, decodeMap, decodeVb, decodeVa, q0, q1, f0, f1, f2, f3, f4]

theorem vshl (d : BitVec 5) (a : BitVec 5) (b : BitVec 5) (p : BitVec 3) (t : BitVec 4) : Statement (.vshl d a b p t) := by
  have h0 := d.isLt
  have h1 := a.isLt
  have h2 := b.isLt
  have h3 := p.isLt
  have h4 := t.isLt
  have hv : (syl 0x04000005 [(d.toNat, 21), (a.toNat, 16), (b.toNat, 11), (p.toNat, 8), (t.toNat, 4)]).toNat = _ := toNat_syl (by simp only [sylValue]; omega)
  simp only [sylValue] at hv
  refine statement_of rfl ?_
  generalize syl 0x04000005 [(d.toNat, 21), (a.toNat, 16), (b.toNat, 11), (p.toNat, 8), (t.toNat, 4)] = x at hv ⊢
  have g0 : x.toNat / 2 ^ 0 = 5 + 2 ^ 4 * (t.toNat + 2 ^ 4 * (p.toNat + 2 ^ 3 * (b.toNat + 2 ^ 5 * (a.toNat + 2 ^ 5 * (d.toNat + 2 ^ 5 * (1 + 2 ^ 6 * 0)))))) := by rw [Nat.pow_zero, Nat.div_one, hv]; omega
  have g1 : x.toNat / 2 ^ 4 = t.toNat + 2 ^ 4 * (p.toNat + 2 ^ 3 * (b.toNat + 2 ^ 5 * (a.toNat + 2 ^ 5 * (d.toNat + 2 ^ 5 * (1 + 2 ^ 6 * 0))))) := nxt g0 (by decide)
  have g2 : x.toNat / 2 ^ 8 = p.toNat + 2 ^ 3 * (b.toNat + 2 ^ 5 * (a.toNat + 2 ^ 5 * (d.toNat + 2 ^ 5 * (1 + 2 ^ 6 * 0)))) := nxt g1 t.isLt
  have g3 : x.toNat / 2 ^ 11 = b.toNat + 2 ^ 5 * (a.toNat + 2 ^ 5 * (d.toNat + 2 ^ 5 * (1 + 2 ^ 6 * 0))) := nxt g2 p.isLt
  have g4 : x.toNat / 2 ^ 16 = a.toNat + 2 ^ 5 * (d.toNat + 2 ^ 5 * (1 + 2 ^ 6 * 0)) := nxt g3 b.isLt
  have g5 : x.toNat / 2 ^ 21 = d.toNat + 2 ^ 5 * (1 + 2 ^ 6 * 0) := nxt g4 a.isLt
  have g6 : x.toNat / 2 ^ 26 = 1 + 2 ^ 6 * 0 := nxt g5 d.isLt
  have q0 : bits x 26 6 = 1 := dig g6 (by decide)
  have q1 : bits x 0 4 = 5 := dig g0 (by decide)
  have f0 : fld x 21 5 = d := fld_eq (dig g5 d.isLt)
  have f1 : fld x 16 5 = a := fld_eq (dig g4 a.isLt)
  have f2 : fld x 11 5 = b := fld_eq (dig g3 b.isLt)
  have f3 : fld x 8 3 = p := fld_eq (dig g2 p.isLt)
  have f4 : fld x 4 4 = t := fld_eq (dig g1 t.isLt)
  have hz : x.toNat ≠ 0 := ne_zero q0 (by decide)
  intro k hk
  replace hk := mem_slots2 rfl hk
  rcases hk with rfl | rfl <;> simp [hz, decodeMap, decodeVb, decodeVa, q0, q1, f0, f1, f2, f3, f4]

theorem vshr (d : BitVec 5) (a : BitVec 5) (b : BitVec 5) (p : BitVec 3) (t : BitVec 4) : Statement (.vshr d a b p t) := by
  have h0 := d.isLt
  have h1 := a.isLt
  have h2 := b.isLt
  have h3 := p.isLt
  have h4 := t.isLt
  have hv : (syl 0x04000006 [(d.toNat, 21), (a.toNat, 16), (b.toNat, 11), (p.toNat, 8), (t.toNat, 4)]).toNat = _ := toNat_syl (by simp only [sylValue]; omega)
  simp only [sylValue] at hv
  refine statement_of rfl ?_
  generalize syl 0x04000006 [(d.toNat, 21), (a.toNat, 16), (b.toNat, 11), (p.toNat, 8), (t.toNat, 4)] = x at hv ⊢
  have g0 : x.toNat / 2 ^ 0 = 6 + 2 ^ 4 * (t.toNat + 2 ^ 4 * (p.toNat + 2 ^ 3 * (b.toNat + 2 ^ 5 * (a.toNat + 2 ^ 5 * (d.toNat + 2 ^ 5 * (1 + 2 ^ 6 * 0)))))) := by rw [Nat.pow_zero, Nat.div_one, hv]; omega
  have g1 : x.toNat / 2 ^ 4 = t.toNat + 2 ^ 4 * (p.toNat + 2 ^ 3 * (b.toNat + 2 ^ 5 * (a.toNat + 2 ^ 5 * (d.toNat + 2 ^ 5 * (1 + 2 ^ 6 * 0))))) := nxt g0 (by decide)
  have g2 : x.toNat / 2 ^ 8 = p.toNat + 2 ^ 3 * (b.toNat + 2 ^ 5 * (a.toNat + 2 ^ 5 * (d.toNat + 2 ^ 5 * (1 + 2 ^ 6 * 0)))) := nxt g1 t.isLt
  have g3 : x.toNat / 2 ^ 11 = b.toNat + 2 ^ 5 * (a.toNat + 2 ^ 5 * (d.toNat + 2 ^ 5 * (1 + 2 ^ 6 * 0))) := nxt g2 p.isLt
  have g4 : x.toNat / 2 ^ 16 = a.toNat + 2 ^ 5 * (d.toNat + 2 ^ 5 * (1 + 2 ^ 6 * 0)) := nxt g3 b.isLt
  have g5 : x.toNat / 2 ^ 21 = d.toNat + 2 ^ 5 * (1 + 2 ^ 6 * 0) := nxt g4 a.isLt
  have g6 : x.toNat / 2 ^ 26 = 1 + 2 ^ 6 * 0 := nxt g5 d.isLt
  have q0 : bits x 26 6 = 1 := dig g6 (by decide)
  have q1 : bits x 0 4 = 6 := dig g0 (by decide)
  have f0 : fld x 21 5 = d := fld_eq (dig g5 d.isLt)
  have f1 : fld x 16 5 = a := fld_eq (dig g4 a.isLt)
  have f2 : fld x 11 5 = b := fld_eq (dig g3 b.isLt)
  have f3 : fld x 8 3 = p := fld_eq (dig g2 p.isLt)
  have f4 : fld x 4 4 = t := fld_eq (dig g1 t.isLt)
  have hz : x.toNat ≠ 0 := ne_zero q0 (by decide)
  intro k hk
  replace hk := mem_slots2 rfl hk
  rcases hk with rfl | rfl <;> simp [hz, decodeMap, decodeVb, decodeVa, q0, q1, f0, f1, f2, f3, f4]

theorem vsra (d : BitVec 5) (a : BitVec 5) (b : BitVec 5) (p : BitVec 3) (t : BitVec 4) : Statement (.vsra d a b p t) := by
  have h0 := d.isLt
  have h1 := a.isLt
  have h2 := b.isLt
  have h3 := p.isLt
  have h4 := t.isLt
  have hv : (syl 0x04000007 [(d.toNat, 21), (a.toNat, 16), (b.toNat, 11), (p.toNat, 8), (t.toNat, 4)]).toNat = _ := toNat_syl (by simp only [sylValue]; omega)
  simp only [sylValue] at hv
  refine statement_of rfl ?_
  generalize syl 0x04000007 [(d.toNat, 21), (a.toNat, 16), (b.toNat, 11), (p.toNat, 8), (t.toNat, 4)] = x at hv ⊢
  have g0 : x.toNat / 2 ^ 0 = 7 + 2 ^ 4 * (t.toNat + 2 ^ 4 * (p.toNat + 2 ^ 3 * (b.toNat + 2 ^ 5 * (a.toNat + 2 ^ 5 * (d.toNat + 2 ^ 5 * (1 + 2 ^ 6 * 0)))))) := by rw [Nat.pow_zero, Nat.div_one, hv]; omega
  have g1 : x.toNat / 2 ^ 4 = t.toNat + 2 ^ 4 * (p.toNat + 2 ^ 3 * (b.toNat + 2 ^ 5 * (a.toNat + 2 ^ 5 * (d.toNat + 2 ^ 5 * (1 + 2 ^ 6 * 0))))) := nxt g0 (by decide)
  have g2 : x.toNat / 2 ^ 8 = p.toNat + 2 ^ 3 * (b.toNat + 2 ^ 5 * (a.toNat + 2 ^ 5 * (d.toNat + 2 ^ 5 * (1 + 2 ^ 6 * 0)))) := nxt g1 t.isLt
  have g3 : x.toNat / 2 ^ 11 = b.toNat + 2 ^ 5 * (a.toNat + 2 ^ 5 * (d.toNat + 2 ^ 5 * (1 + 2 ^ 6 * 0))) := nxt g2 p.isLt
  have g4 : x.toNat / 2 ^ 16 = a.toNat + 2 ^ 5 * (d.toNat + 2 ^ 5 * (1 + 2 ^ 6 * 0)) := nxt g3 b.isLt
  have g5 : x.toNat / 2 ^ 21 = d.toNat + 2 ^ 5 * (1 + 2 ^ 6 * 0) := nxt g4 a.isLt
  have g6 : x.toNat / 2 ^ 26 = 1 + 2 ^ 6 * 0 := nxt g5 d.isLt
  have q0 : bits x 26 6 = 1 := dig g6 (by decide)
  have q1 : bits x 0 4 = 7 := dig g0 (by decide)
  have f0 : fld x 21 5 = d := fld_eq (dig g5 d.isLt)
  have f1 : fld x 16 5 = a := fld_eq (dig g4 a.isLt)
  have f2 : fld x 11 5 = b := fld_eq (dig g3 b.isLt)
  have f3 : fld x 8 3 = p := fld_eq (dig g2 p.isLt)
  have f4 : fld x 4 4 = t := fld_eq (dig g1 t.isLt)
  have hz : x.toNat ≠ 0 := ne_zero q0 (by decide)
  intro k hk
  replace hk := mem_slots2 rfl hk
  rcases hk with rfl | rfl <;> simp [hz, decodeMap, decodeVb, decodeVa, q0, q1, f0, f1, f2, f3, f4]

theorem vmin (d : BitVec 5) (a : BitVec 5) (b : BitVec 5) (p : BitVec 3) (t : BitVec 4) : Statement (.vmin d a b p t) := by
  have h0 := d.isLt
  have h1 := a.isLt
  have h2 := b.isLt
  have h3 := p.isLt
  have h4 := t.isLt
  have hv : (syl 0x04000008 [(d.toNat, 21), (a.toNat, 16), (b.toNat, 11), (p.toNat, 8), (t.toNat, 4)]).toNat = _ := toNat_syl (by simp only [sylValue]; omega)
  simp only [sylValue] at hv
  refine statement_of rfl ?_
  generalize syl 0x04000008 [(d.toNat, 21), (a.toNat, 16), (b.toNat, 11), (p.toNat, 8), (t.toNat, 4)] = x at hv ⊢
  have g0 : x.toNat / 2 ^ 0 = 8 + 2 ^ 4 * (t.toNat + 2 ^ 4 * (p.toNat + 2 ^ 3 * (b.toNat + 2 ^ 5 * (a.toNat + 2 ^ 5 * (d.toNat + 2 ^ 5 * (1 + 2 ^ 6 * 0)))))) := by rw [Nat.pow_zero, Nat.div_one, hv]; omega
  have g1 : x.toNat / 2 ^ 4 = t.toNat + 2 ^ 4 * (p.toNat + 2 ^ 3 * (b.toNat + 2 ^ 5 * (a.toNat + 2 ^ 5 * (d.toNat + 2 ^ 5 * (1 + 2 ^ 6 * 0))))) := nxt g0 (by decide)
  have g2 : x.toNat / 2 ^ 8 = p.toNat + 2 ^ 3 * (b.toNat + 2 ^ 5 * (a.toNat + 2 ^ 5 * (d.toNat + 2 ^ 5 * (1 + 2 ^ 6 * 0)))) := nxt g1 t.isLt
  have g3 : x.toNat / 2 ^ 11 = b.toNat + 2 ^ 5 * (a.toNat + 2 ^ 5 * (d.toNat + 2 ^ 5 * (1 + 2 ^ 6 * 0))) := nxt g2 p.isLt
  have g4 : x.toNat / 2 ^ 16 = a.toNat + 2 ^ 5 * (d.toNat + 2 ^ 5 * (1 + 2 ^ 6 * 0)) := nxt g3 b.isLt
  have g5 : x.toNat / 2 ^ 21 = d.toNat + 2 ^ 5 * (1 + 2 ^ 6 * 0) := nxt g4 a.isLt
  have g6 : x.toNat / 2 ^ 26 = 1 + 2 ^ 6 * 0 := nxt g5 d.isLt
  have q0 : bits x 26 6 = 1 := dig g6 (by decide)
  have q1 : bits x 0 4 = 8 := dig g0 (by decide)
  have f0 : fld x 21 5 = d := fld_eq (dig g5 d.isLt)
  have f1 : fld x 16 5 = a := fld_eq (dig g4 a.isLt)
  have f2 : fld x 11 5 = b := fld_eq (dig g3 b.isLt)
  have f3 : fld x 8 3 = p := fld_eq (dig g2 p.isLt)
  have f4 : fld x 4 4 = t := fld_eq (dig g1 t.isLt)
  have hz : x.toNat ≠ 0 := ne_zero q0 (by decide)
  intro k hk
  replace hk := mem_slots2 rfl hk
  rcases hk with rfl | rfl <;> simp [hz, decodeMap, decodeVb, decodeVa, q0, q1, f0, f1, f2, f3, f4]

theorem vmax (d : BitVec 5) (a : BitVec 5) (b : BitVec 5) (p : BitVec 3) (t : BitVec 4) : Statement (.vmax d a b p t) := by
  have h0 := d.isLt
  have h1 := a.isLt
  have h2 := b.isLt
  have h3 := p.isLt
  have h4 := t.isLt
  have hv : (syl 0x04000009 [(d.toNat, 21), (a.toNat, 16), (b.toNat, 11), (p.toNat, 8), (t.toNat, 4)]).toNat = _ := toNat_syl (by simp only [sylValue]; omega)
  simp only [sylValue] at hv
  refine statement_of rfl ?_
  generalize syl 0x04000009 [(d.toNat, 21), (a.toNat, 16), (b.toNat, 11), (p.toNat, 8), (t.toNat, 4)] = x at hv ⊢
  have g0 : x.toNat / 2 ^ 0 = 9 + 2 ^ 4 * (t.toNat + 2 ^ 4 * (p.toNat + 2 ^ 3 * (b.toNat + 2 ^ 5 * (a.toNat + 2 ^ 5 * (d.toNat + 2 ^ 5 * (1 + 2 ^ 6 * 0)))))) := by rw [Nat.pow_zero, Nat.div_one, hv]; omega
  have g1 : x.toNat / 2 ^ 4 = t.toNat + 2 ^ 4 * (p.toNat + 2 ^ 3 * (b.toNat + 2 ^ 5 * (a.toNat + 2 ^ 5 * (d.toNat + 2 ^ 5 * (1 + 2 ^ 6 * 0))))) := nxt g0 (by decide)
  have g2 : x.toNat / 2 ^ 8 = p.toNat + 2 ^ 3 * (b.toNat + 2 ^ 5 * (a.toNat + 2 ^ 5 * (d.toNat + 2 ^ 5 * (1 + 2 ^ 6 * 0)))) := nxt g1 t.isLt
  have g3 : x.toNat / 2 ^ 11 = b.toNat + 2 ^ 5 * (a.toNat + 2 ^ 5 * (d.toNat + 2 ^ 5 * (1 + 2 ^ 6 * 0))) := nxt g2 p.isLt
  have g4 : x.toNat / 2 ^ 16 = a.toNat + 2 ^ 5 * (d.toNat + 2 ^ 5 * (1 + 2 ^ 6 * 0)) := nxt g3 b.isLt
  have g5 : x.toNat / 2 ^ 21 = d.toNat + 2 ^ 5 * (1 + 2 ^ 6 * 0) := nxt g4 a.isLt
  have g6 : x.toNat / 2 ^ 26 = 1 + 2 ^ 6 * 0 := nxt g5 d.isLt
  have q0 : bits x 26 6 = 1 := dig g6 (by decide)
  have q1 : bits x 0 4 = 9 := dig g0 (by decide)
  have f0 : fld x 21 5 = d := fld_eq (dig g5 d.isLt)
  have f1 : fld x 16 5 = a := fld_eq (dig g4 a.isLt)
  have f2 : fld x 11 5 = b := fld_eq (dig g3 b.isLt)
  have f3 : fld x 8 3 = p := fld_eq (dig g2 p.isLt)
  have f4 : fld x 4 4 = t := fld_eq (dig g1 t.isLt)
  have hz : x.toNat ≠ 0 := ne_zero q0 (by decide)
  intro k hk
  replace hk := mem_slots2 rfl hk
  rcases hk with rfl | rfl <;> simp [hz, decodeMap, decodeVb, decodeVa, q0, q1, f0, f1, f2, f3, f4]

theorem vabs (d : BitVec 5) (a : BitVec 5) (p : BitVec 3) (t : BitVec 4) : Statement (.vabs d a p t) := by
  have h0 := d.isLt
  have h1 := a.isLt
  have h2 := p.isLt
  have h3 := t.isLt
  have hv : (syl 0x0400000A [(d.toNat, 21), (a.toNat, 16), (p.toNat, 8), (t.toNat, 4)]).toNat = _ := toNat_syl (by simp only [sylValue]; omega)
  simp only [sylValue] at hv
  refine statement_of rfl ?_
  generalize syl 0x0400000A [(d.toNat, 21), (a.toNat, 16), (p.toNat, 8), (t.toNat, 4)] = x at hv ⊢
  have g0 : x.toNat / 2 ^ 0 = 10 + 2 ^ 4 * (t.toNat + 2 ^ 4 * (p.toNat + 2 ^ 3 * (0 + 2 ^ 5 * (a.toNat + 2 ^ 5 * (d.toNat + 2 ^ 5 * (1 + 2 ^ 6 * 0)))))) := by rw [Nat.pow_zero, Nat.div_one, hv]; omega
  have g1 : x.toNat / 2 ^ 4 = t.toNat + 2 ^ 4 * (p.toNat + 2 ^ 3 * (0 + 2 ^ 5 * (a.toNat + 2 ^ 5 * (d.toNat + 2 ^ 5 * (1 + 2 ^ 6 * 0))))) := nxt g0 (by decide)
  have g2 : x.toNat / 2 ^ 8 = p.toNat + 2 ^ 3 * (0 + 2 ^ 5 * (a.toNat + 2 ^ 5 * (d.toNat + 2 ^ 5 * (1 + 2 ^ 6 * 0)))) := nxt g1 t.isLt
  have g3 : x.toNat / 2 ^ 11 = 0 + 2 ^ 5 * (a.toNat + 2 ^ 5 * (d.toNat + 2 ^ 5 * (1 + 2 ^ 6 * 0))) := nxt g2 p.isLt
  have g4 : x.toNat / 2 ^ 16 = a.toNat + 2 ^ 5 * (d.toNat + 2 ^ 5 * (1 + 2 ^ 6 * 0)) := nxt g3 (by decide)
  have g5 : x.toNat / 2 ^ 21 = d.toNat + 2 ^ 5 * (1 + 2 ^ 6 * 0) := nxt g4 a.isLt
  have g6 : x.toNat / 2 ^ 26 = 1 + 2 ^ 6 * 0 := nxt g5 d.isLt
  have q0 : bits x 26 6 = 1 := dig g6 (by decide)
  have q1 : bits x 0 4 = 10 := dig g0 (by decide)
  have q2 : bits x 11 5 = 0 := dig g3 (by decide)
  have f0 : fld x 21 5 = d := fld_eq (dig g5 d.isLt)
  have f1 : fld x 16 5 = a := fld_eq (dig g4 a.isLt)
  have f2 : fld x 8 3 = p := fld_eq (dig g2 p.isLt)
  have f3 : fld x 4 4 = t := fld_eq (dig g1 t.isLt)
  have hz : x.toNat ≠ 0 := ne_zero q0 (by decide)
  intro k hk
  replace hk := mem_slots2 rfl hk
  rcases hk with rfl | rfl <;> simp [hz, decodeMap, decodeVb, decodeVa, q0, q1, q2, f0, f1, f2, f3]

theorem vmul (d : BitVec 5) (a : BitVec 5) (b : BitVec 5) (p : BitVec 3) (t : BitVec 4) : Statement (.vmul d a b p t) := by
  have h0 := d.isLt
  have h1 := a.isLt
  have h2 := b.isLt
  have h3 := p.isLt
  have h4 := t.isLt
  have hv : (syl 0x08000000 [(d.toNat, 21), (a.toNat, 16), (b.toNat, 11), (p.toNat, 8), (t.toNat, 4)]).toNat = _ := toNat_syl (by simp only [sylValue]; omega)
  simp only [sylValue] at hv
  refine statement_of rfl ?_
  generalize syl 0x08000000 [(d.toNat, 21), (a.toNat, 16), (b.toNat, 11), (p.toNat, 8), (t.toNat, 4)] = x at hv ⊢
  have g0 : x.toNat / 2 ^ 0 = 0 + 2 ^ 4 * (t.toNat + 2 ^ 4 * (p.toNat + 2 ^ 3 * (b.toNat + 2 ^ 5 * (a.toNat + 2 ^ 5 * (d.toNat + 2 ^ 5 * (2 + 2 ^ 6 * 0)))))) := by rw [Nat.pow_zero, Nat.div_one, hv]; omega
  have g1 : x.toNat / 2 ^ 4 = t.toNat + 2 ^ 4 * (p.toNat + 2 ^ 3 * (b.toNat + 2 ^ 5 * (a.toNat + 2 ^ 5 * (d.toNat + 2 ^ 5 * (2 + 2 ^ 6 * 0))))) := nxt g0 (by decide)
  have g2 : x.toNat / 2 ^ 8 = p.toNat + 2 ^ 3 * (b.toNat + 2 ^ 5 * (a.toNat + 2 ^ 5 * (d.toNat + 2 ^ 5 * (2 + 2 ^ 6 * 0)))) := nxt g1 t.isLt
  have g3 : x.toNat / 2 ^ 11 = b.toNat + 2 ^ 5 * (a.toNat + 2 ^ 5 * (d.toNat + 2 ^ 5 * (2 + 2 ^ 6 * 0))) := nxt g2 p.isLt
  have g4 : x.toNat / 2 ^ 16 = a.toNat + 2 ^ 5 * (d.toNat + 2 ^ 5 * (2 + 2 ^ 6 * 0)) := nxt g3 b.isLt
  have g5 : x.toNat / 2 ^ 21 = d.toNat + 2 ^ 5 * (2 + 2 ^ 6 * 0) := nxt g4 a.isLt
  have g6 : x.toNat / 2 ^ 26 = 2 + 2 ^ 6 * 0 := nxt g5 d.isLt
  have q0 : bits x 26 6 = 2 := dig g6 (by decide)
  have q1 : bits x 0 4 = 0 := dig g0 (by decide)
  have f0 : fld x 21 5 = d := fld_eq (dig g5 d.isLt)
  have f1 : fld x 16 5 = a := fld_eq (dig g4 a.isLt)
  have f2 : fld x 11 5 = b := fld_eq (dig g3 b.isLt)
  have f3 : fld x 8 3 = p := fld_eq (dig g2 p.isLt)
  have f4 : fld x 4 4 = t := fld_eq (dig g1 t.isLt)
  have hz : x.toNat ≠ 0 := ne_zero q0 (by decide)
  intro k hk
  replace hk := mem_slots1 rfl hk
  subst hk; simp [hz, decodeMap, decodeVb, q0, q1, f0, f1, f2, f3, f4]

theorem vmulh (d : BitVec 5) (a : BitVec 5) (b : BitVec 5) (p : BitVec 3) (t : BitVec 4) : Statement (.vmulh d a b p t) := by
  have h0 := d.isLt
  have h1 := a.isLt
  have h2 := b.isLt
  have h3 := p.isLt
  have h4 := t.isLt
  have hv : (syl 0x08000001 [(d.toNat, 21), (a.toNat, 16), (b.toNat, 11), (p.toNat, 8), (t.toNat, 4)]).toNat = _ := toNat_syl (by simp only [sylValue]; omega)
  simp only [sylValue] at hv
  refine statement_of rfl ?_
  generalize syl 0x08000001 [(d.toNat, 21), (a.toNat, 16), (b.toNat, 11), (p.toNat, 8), (t.toNat, 4)] = x at hv ⊢
  have g0 : x.toNat / 2 ^ 0 = 1 + 2 ^ 4 * (t.toNat + 2 ^ 4 * (p.toNat + 2 ^ 3 * (b.toNat + 2 ^ 5 * (a.toNat + 2 ^ 5 * (d.toNat + 2 ^ 5 * (2 + 2 ^ 6 * 0)))))) := by rw [Nat.pow_zero, Nat.div_one, hv]; omega
  have g1 : x.toNat / 2 ^ 4 = t.toNat + 2 ^ 4 * (p.toNat + 2 ^ 3 * (b.toNat + 2 ^ 5 * (a.toNat + 2 ^ 5 * (d.toNat + 2 ^ 5 * (2 + 2 ^ 6 * 0))))) := nxt g0 (by decide)
  have g2 : x.toNat / 2 ^ 8 = p.toNat + 2 ^ 3 * (b.toNat + 2 ^ 5 * (a.toNat + 2 ^ 5 * (d.toNat + 2 ^ 5 * (2 + 2 ^ 6 * 0)))) := nxt g1 t.isLt
  have g3 : x.toNat / 2 ^ 11 = b.toNat + 2 ^ 5 * (a.toNat + 2 ^ 5 * (d.toNat + 2 ^ 5 * (2 + 2 ^ 6 * 0))) := nxt g2 p.isLt
  have g4 : x.toNat / 2 ^ 16 = a.toNat + 2 ^ 5 * (d.toNat + 2 ^ 5 * (2 + 2 ^ 6 * 0)) := nxt g3 b.isLt
  have g5 : x.toNat / 2 ^ 21 = d.toNat + 2 ^ 5 * (2 + 2 ^ 6 * 0) := nxt g4 a.isLt
  have g6 : x.toNat / 2 ^ 26 = 2 + 2 ^ 6 * 0 := nxt g5 d.isLt
  have q0 : bits x 26 6 = 2 := dig g6 (by decide)
  have q1 : bits x 0 4 = 1 := dig g0 (by decide)
  have f0 : fld x 21 5 = d := fld_eq (dig g5 d.isLt)
  have f1 : fld x 16 5 = a := fld_eq (dig g4 a.isLt)
  have f2 : fld x 11 5 = b := fld_eq (dig g3 b.isLt)
  have f3 : fld x 8 3 = p := fld_eq (dig g2 p.isLt)
  have f4 : fld x 4 4 = t := fld_eq (dig g1 t.isLt)
  have hz : x.toNat ≠ 0 := ne_zero q0 (by decide)
  intro k hk
  replace hk := mem_slots1 rfl hk
  subst hk; simp [hz, decodeMap, decodeVb, q0, q1, f0, f1, f2, f3, f4]

theorem vmadd (d : BitVec 5) (a : BitVec 5) (b : BitVec 5) (c : BitVec 5) (p : BitVec 3) (t : BitVec 3) : Statement (.vmadd d a b c p t) := by
  have h0 := d.isLt
  have h1 := a.isLt
  have h2 := b.isLt
  have h3 := c.isLt
  have h4 := p.isLt
  have h5 := t.isLt
  have hv : (syl 0x0C000000 [(d.toNat, 21), (a.toNat, 16), (b.toNat, 11), (c.toNat, 6), (p.toNat, 3), (t.toNat, 0)]).toNat = _ := toNat_syl (by simp only [sylValue]; omega)
  simp only [sylValue] at hv
  refine statement_of rfl ?_
  generalize syl 0x0C000000 [(d.toNat, 21), (a.toNat, 16), (b.toNat, 11), (c.toNat, 6), (p.toNat, 3), (t.toNat, 0)] = x at hv ⊢
  have g0 : x.toNat / 2 ^ 0 = t.toNat + 2 ^ 3 * (p.toNat + 2 ^ 3 * (c.toNat + 2 ^ 5 * (b.toNat + 2 ^ 5 * (a.toNat + 2 ^ 5 * (d.toNat + 2 ^ 5 * (3 + 2 ^ 6 * 0)))))) := by rw [Nat.pow_zero, Nat.div_one, hv]; omega
  have g1 : x.toNat / 2 ^ 3 = p.toNat + 2 ^ 3 * (c.toNat + 2 ^ 5 * (b.toNat + 2 ^ 5 * (a.toNat + 2 ^ 5 * (d.toNat + 2 ^ 5 * (3 + 2 ^ 6 * 0))))) := nxt g0 t.isLt
  have g2 : x.toNat / 2 ^ 6 = c.toNat + 2 ^ 5 * (b.toNat + 2 ^ 5 * (a.toNat + 2 ^ 5 * (d.toNat + 2 ^ 5 * (3 + 2 ^ 6 * 0)))) := nxt g1 p.isLt
  have g3 : x.toNat / 2 ^ 11 = b.toNat + 2 ^ 5 * (a.toNat + 2 ^ 5 * (d.toNat + 2 ^ 5 * (3 + 2 ^ 6 * 0))) := nxt g2 c.isLt
  have g4 : x.toNat / 2 ^ 16 = a.toNat + 2 ^ 5 * (d.toNat + 2 ^ 5 * (3 + 2 ^ 6 * 0)) := nxt g3 b.isLt
  have g5 : x.toNat / 2 ^ 21 = d.toNat + 2 ^ 5 * (3 + 2 ^ 6 * 0) := nxt g4 a.isLt
  have g6 : x.toNat / 2 ^ 26 = 3 + 2 ^ 6 * 0 := nxt g5 d.isLt
  have q0 : bits x 26 6 = 3 := dig g6 (by decide)
  have f0 : fld x 21 5 = d := fld_eq (dig g5 d.isLt)
  have f1 : fld x 16 5 = a := fld_eq (dig g4 a.isLt)
  have f2 : fld x 11 5 = b := fld_eq (dig g3 b.isLt)
  have f3 : fld x 6 5 = c := fld_eq (dig g2 c.isLt)
  have f4 : fld x 3 3 = p := fld_eq (dig g1 p.isLt)
  have f5 : fld x 0 3 = t := fld_eq (dig g0 t.isLt)
  have hz : x.toNat ≠ 0 := ne_zero q0 (by decide)
  intro k hk
  replace hk := mem_slots1 rfl hk
  subst hk; simp [hz, decodeMap, decodeVb, q0, f0, f1, f2, f3, f4, f5]

theorem vfadd (d : BitVec 5) (a : BitVec 5) (b : BitVec 5) (p : BitVec 3) (t : BitVec 4) : Statement (.vfadd d a b p t) := by
  have h0 := d.isLt
  have h1 := a.isLt
  have h2 := b.isLt
  have h3 := p.isLt
  have h4 := t.isLt
  have hv : (syl 0x10000000 [(d.toNat, 21), (a.toNat, 16), (b.toNat, 11), (p.toNat, 8), (t.toNat, 4)]).toNat = _ := toNat_syl (by simp only [sylValue]; omega)
  simp only [sylValue] at hv
  refine statement_of rfl ?_
  generalize syl 0x10000000 [(d.toNat, 21), (a.toNat, 16), (b.toNat, 11), (p.toNat, 8), (t.toNat, 4)] = x at hv ⊢
  have g0 : x.toNat / 2 ^ 0 = 0 + 2 ^ 4 * (t.toNat + 2 ^ 4 * (p.toNat + 2 ^ 3 * (b.toNat + 2 ^ 5 * (a.toNat + 2 ^ 5 * (d.toNat + 2 ^ 5 * (4 + 2 ^ 6 * 0)))))) := by rw [Nat.pow_zero, Nat.div_one, hv]; omega
  have g1 : x.toNat / 2 ^ 4 = t.toNat + 2 ^ 4 * (p.toNat + 2 ^ 3 * (b.toNat + 2 ^ 5 * (a.toNat + 2 ^ 5 * (d.toNat + 2 ^ 5 * (4 + 2 ^ 6 * 0))))) := nxt g0 (by decide)
  have g2 : x.toNat / 2 ^ 8 = p.toNat + 2 ^ 3 * (b.toNat + 2 ^ 5 * (a.toNat + 2 ^ 5 * (d.toNat + 2 ^ 5 * (4 + 2 ^ 6 * 0)))) := nxt g1 t.isLt
  have g3 : x.toNat / 2 ^ 11 = b.toNat + 2 ^ 5 * (a.toNat + 2 ^ 5 * (d.toNat + 2 ^ 5 * (4 + 2 ^ 6 * 0))) := nxt g2 p.isLt
  have g4 : x.toNat / 2 ^ 16 = a.toNat + 2 ^ 5 * (d.toNat + 2 ^ 5 * (4 + 2 ^ 6 * 0)) := nxt g3 b.isLt
  have g5 : x.toNat / 2 ^ 21 = d.toNat + 2 ^ 5 * (4 + 2 ^ 6 * 0) := nxt g4 a.isLt
  have g6 : x.toNat / 2 ^ 26 = 4 + 2 ^ 6 * 0 := nxt g5 d.isLt
  have q0 : bits x 26 6 = 4 := dig g6 (by decide)
  have q1 : bits x 0 4 = 0 := dig g0 (by decide)
  have f0 : fld x 21 5 = d := fld_eq (dig g5 d.isLt)
  have f1 : fld x 16 5 = a := fld_eq (dig g4 a.isLt)
  have f2 : fld x 11 5 = b := fld_eq (dig g3 b.isLt)
  have f3 : fld x 8 3 = p := fld_eq (dig g2 p.isLt)
  have f4 : fld x 4 4 = t := fld_eq (dig g1 t.isLt)
  have hz : x.toNat ≠ 0 := ne_zero q0 (by decide)
  intro k hk
  replace hk := mem_slots2 rfl hk
  rcases hk with rfl | rfl <;> simp [hz, decodeMap, decodeVb, decodeVa, q0, q1, f0, f1, f2, f3, f4]

theorem vfsub (d : BitVec 5) (a : BitVec 5) (b : BitVec 5) (p : BitVec 3) (t : BitVec 4) : Statement (.vfsub d a b p t) := by
  have h0 := d.isLt
  have h1 := a.isLt
  have h2 := b.isLt
  have h3 := p.isLt
  have h4 := t.isLt
  have hv : (syl 0x10000001 [(d.toNat, 21), (a.toNat, 16), (b.toNat, 11), (p.toNat, 8), (t.toNat, 4)]).toNat = _ := toNat_syl (by simp only [sylValue]; omega)
  simp only [sylValue] at hv
  refine statement_of rfl ?_
  generalize syl 0x10000001 [(d.toNat, 21), (a.toNat, 16), (b.toNat, 11), (p.toNat, 8), (t.toNat, 4)] = x at hv ⊢
  have g0 : x.toNat / 2 ^ 0 = 1 + 2 ^ 4 * (t.toNat + 2 ^ 4 * (p.toNat + 2 ^ 3 * (b.toNat + 2 ^ 5 * (a.toNat + 2 ^ 5 * (d.toNat + 2 ^ 5 * (4 + 2 ^ 6 * 0)))))) := by rw [Nat.pow_zero, Nat.div_one, hv]; omega
  have g1 : x.toNat / 2 ^ 4 = t.toNat + 2 ^ 4 * (p.toNat + 2 ^ 3 * (b.toNat + 2 ^ 5 * (a.toNat + 2 ^ 5 * (d.toNat + 2 ^ 5 * (4 + 2 ^ 6 * 0))))) := nxt g0 (by decide)
  have g2 : x.toNat / 2 ^ 8 = p.toNat + 2 ^ 3 * (b.toNat + 2 ^ 5 * (a.toNat + 2 ^ 5 * (d.toNat + 2 ^ 5 * (4 + 2 ^ 6 * 0)))) := nxt g1 t.isLt
  have g3 : x.toNat / 2 ^ 11 = b.toNat + 2 ^ 5 * (a.toNat + 2 ^ 5 * (d.toNat + 2 ^ 5 * (4 + 2 ^ 6 * 0))) := nxt g2 p.isLt
  have g4 : x.toNat / 2 ^ 16 = a.toNat + 2 ^ 5 * (d.toNat + 2 ^ 5 * (4 + 2 ^ 6 * 0)) := nxt g3 b.isLt
  have g5 : x.toNat / 2 ^ 21 = d.toNat + 2 ^ 5 * (4 + 2 ^ 6 * 0) := nxt g4 a.isLt
  have g6 : x.toNat / 2 ^ 26 = 4 + 2 ^ 6 * 0 := nxt g5 d.isLt
  have q0 : bits x 26 6 = 4 := dig g6 (by decide)
  have q1 : bits x 0 4 = 1 := dig g0 (by decide)
  have f0 : fld x 21 5 = d := fld_eq (dig g5 d.isLt)
  have f1 : fld x 16 5 = a := fld_eq (dig g4 a.isLt)
  have f2 : fld x 11 5 = b := fld_eq (dig g3 b.isLt)
  have f3 : fld x 8 3 = p := fld_eq (dig g2 p.isLt)
  have f4 : fld x 4 4 = t := fld_eq (dig g1 t.isLt)
  have hz : x.toNat ≠ 0 := ne_zero q0 (by decide)
  intro k hk
  replace hk := mem_slots2 rfl hk
  rcases hk with rfl | rfl <;> simp [hz, decodeMap, decodeVb, decodeVa, q0, q1, f0, f1, f2, f3, f4]

theorem vfmul (d : BitVec 5) (a : BitVec 5) (b : BitVec 5) (p : BitVec 3) (t : BitVec 4) : Statement (.vfmul d a b p t) := by
  have h0 := d.isLt
  have h1 := a.isLt
  have h2 := b.isLt
  have h3 := p.isLt
  have h4 := t.isLt
  have hv : (syl 0x10000002 [(d.toNat, 21), (a.toNat, 16), (b.toNat, 11), (p.toNat, 8), (t.toNat, 4)]).toNat = _ := toNat_syl (by simp only [sylValue]; omega)
  simp only [sylValue] at hv
  refine statement_of rfl ?_
  generalize syl 0x10000002 [(d.toNat, 21), (a.toNat, 16), (b.toNat, 11), (p.toNat, 8), (t.toNat, 4)] = x at hv ⊢
  have g0 : x.toNat / 2 ^ 0 = 2 + 2 ^ 4 * (t.toNat + 2 ^ 4 * (p.toNat + 2 ^ 3 * (b.toNat + 2 ^ 5 * (a.toNat + 2 ^ 5 * (d.toNat + 2 ^ 5 * (4 + 2 ^ 6 * 0)))))) := by rw [Nat.pow_zero, Nat.div_one, hv]; omega
  have g1 : x.toNat / 2 ^ 4 = t.toNat + 2 ^ 4 * (p.toNat + 2 ^ 3 * (b.toNat + 2 ^ 5 * (a.toNat + 2 ^ 5 * (d.toNat + 2 ^ 5 * (4 + 2 ^ 6 * 0))))) := nxt g0 (by decide)
  have g2 : x.toNat / 2 ^ 8 = p.toNat + 2 ^ 3 * (b.toNat + 2 ^ 5 * (a.toNat + 2 ^ 5 * (d.toNat + 2 ^ 5 * (4 + 2 ^ 6 * 0)))) := nxt g1 t.isLt
  have g3 : x.toNat / 2 ^ 11 = b.toNat + 2 ^ 5 * (a.toNat + 2 ^ 5 * (d.toNat + 2 ^ 5 * (4 + 2 ^ 6 * 0))) := nxt g2 p.isLt
  have g4 : x.toNat / 2 ^ 16 = a.toNat + 2 ^ 5 * (d.toNat + 2 ^ 5 * (4 + 2 ^ 6 * 0)) := nxt g3 b.isLt
  have g5 : x.toNat / 2 ^ 21 = d.toNat + 2 ^ 5 * (4 + 2 ^ 6 * 0) := nxt g4 a.isLt
  have g6 : x.toNat / 2 ^ 26 = 4 + 2 ^ 6 * 0 := nxt g5 d.isLt
  have q0 : bits x 26 6 = 4 := dig g6 (by decide)
  have q1 : bits x 0 4 = 2 := dig g0 (by decide)
  have f0 : fld x 21 5 = d := fld_eq (dig g5 d.isLt)
  have f1 : fld x 16 5 = a := fld_eq (dig g4 a.isLt)
  have f2 : fld x 11 5 = b := fld_eq (dig g3 b.isLt)
  have f3 : fld x 8 3 = p := fld_eq (dig g2 p.isLt)
  have f4 : fld x 4 4 = t := fld_eq (dig g1 t.isLt)
  have hz : x.toNat ≠ 0 := ne_zero q0 (by decide)
  intro k hk
  replace hk := mem_slots2 rfl hk
  rcases hk with rfl | rfl <;> simp [hz, decodeMap, decodeVb, decodeVa, q0, q1, f0, f1, f2, f3, f4]

theorem vfmin (d : BitVec 5) (a : BitVec 5) (b : BitVec 5) (p : BitVec 3) (t : BitVec 4) : Statement (.vfmin d a b p t) := by
  have h0 := d.isLt
  have h1 := a.isLt
  have h2 := b.isLt
  have h3 := p.isLt
  have h4 := t.isLt
  have hv : (syl 0x10000003 [(d.toNat, 21), (a.toNat, 16), (b.toNat, 11), (p.toNat, 8), (t.toNat, 4)]).toNat = _ := toNat_syl (by simp only [sylValue]; omega)
  simp only [sylValue] at hv
  refine statement_of rfl ?_
  generalize syl 0x10000003 [(d.toNat, 21), (a.toNat, 16), (b.toNat, 11), (p.toNat, 8), (t.toNat, 4)] = x at hv ⊢
  have g0 : x.toNat / 2 ^ 0 = 3 + 2 ^ 4 * (t.toNat + 2 ^ 4 * (p.toNat + 2 ^ 3 * (b.toNat + 2 ^ 5 * (a.toNat + 2 ^ 5 * (d.toNat + 2 ^ 5 * (4 + 2 ^ 6 * 0)))))) := by rw [Nat.pow_zero, Nat.div_one, hv]; omega
  have g1 : x.toNat / 2 ^ 4 = t.toNat + 2 ^ 4 * (p.toNat + 2 ^ 3 * (b.toNat + 2 ^ 5 * (a.toNat + 2 ^ 5 * (d.toNat + 2 ^ 5 * (4 + 2 ^ 6 * 0))))) := nxt g0 (by decide)
  have g2 : x.toNat / 2 ^ 8 = p.toNat + 2 ^ 3 * (b.toNat + 2 ^ 5 * (a.toNat + 2 ^ 5 * (d.toNat + 2 ^ 5 * (4 + 2 ^ 6 * 0)))) := nxt g1 t.isLt
  have g3 : x.toNat / 2 ^ 11 = b.toNat + 2 ^ 5 * (a.toNat + 2 ^ 5 * (d.toNat + 2 ^ 5 * (4 + 2 ^ 6 * 0))) := nxt g2 p.isLt
  have g4 : x.toNat / 2 ^ 16 = a.toNat + 2 ^ 5 * (d.toNat + 2 ^ 5 * (4 + 2 ^ 6 * 0)) := nxt g3 b.isLt
  have g5 : x.toNat / 2 ^ 21 = d.toNat + 2 ^ 5 * (4 + 2 ^ 6 * 0) := nxt g4 a.isLt
  have g6 : x.toNat / 2 ^ 26 = 4 + 2 ^ 6 * 0 := nxt g5 d.isLt
  have q0 : bits x 26 6 = 4 := dig g6 (by decide)
  have q1 : bits x 0 4 = 3 := dig g0 (by decide)
  have f0 : fld x 21 5 = d := fld_eq (dig g5 d.isLt)
  have f1 : fld x 16 5 = a := fld_eq (dig g4 a.isLt)
  have f2 : fld x 11 5 = b := fld_eq (dig g3 b.isLt)
  have f3 : fld x 8 3 = p := fld_eq (dig g2 p.isLt)
  have f4 : fld x 4 4 = t := fld_eq (dig g1 t.isLt)
  have hz : x.toNat ≠ 0 := ne_zero q0 (by decide)
  intro k hk
  replace hk := mem_slots2 rfl hk
  rcases hk with rfl | rfl <;> simp [hz, decodeMap, decodeVb, decodeVa, q0, q1, f0, f1, f2, f3, f4]

theorem vfmax (d : BitVec 5) (a : BitVec 5) (b : BitVec 5) (p : BitVec 3) (t : BitVec 4) : Statement (.vfmax d a b p t) := by
  have h0 := d.isLt
  have h1 := a.isLt
  have h2 := b.isLt
  have h3 := p.isLt
  have h4 := t.isLt
  have hv : (syl 0x10000004 [(d.toNat, 21), (a.toNat, 16), (b.toNat, 11), (p.toNat, 8), (t.toNat, 4)]).toNat = _ := toNat_syl (by simp only [sylValue]; omega)
  simp only [sylValue] at hv
  refine statement_of rfl ?_
  generalize syl 0x10000004 [(d.toNat, 21), (a.toNat, 16), (b.toNat, 11), (p.toNat, 8), (t.toNat, 4)] = x at hv ⊢
  have g0 : x.toNat / 2 ^ 0 = 4 + 2 ^ 4 * (t.toNat + 2 ^ 4 * (p.toNat + 2 ^ 3 * (b.toNat + 2 ^ 5 * (a.toNat + 2 ^ 5 * (d.toNat + 2 ^ 5 * (4 + 2 ^ 6 * 0)))))) := by rw [Nat.pow_zero, Nat.div_one, hv]; omega
  have g1 : x.toNat / 2 ^ 4 = t.toNat + 2 ^ 4 * (p.toNat + 2 ^ 3 * (b.toNat + 2 ^ 5 * (a.toNat + 2 ^ 5 * (d.toNat + 2 ^ 5 * (4 + 2 ^ 6 * 0))))) := nxt g0 (by decide)
  have g2 : x.toNat / 2 ^ 8 = p.toNat + 2 ^ 3 * (b.toNat + 2 ^ 5 * (a.toNat + 2 ^ 5 * (d.toNat + 2 ^ 5 * (4 + 2 ^ 6 * 0)))) := nxt g1 t.isLt
  have g3 : x.toNat / 2 ^ 11 = b.toNat + 2 ^ 5 * (a.toNat + 2 ^ 5 * (d.toNat + 2 ^ 5 * (4 + 2 ^ 6 * 0))) := nxt g2 p.isLt
  have g4 : x.toNat / 2 ^ 16 = a.toNat + 2 ^ 5 * (d.toNat + 2 ^ 5 * (4 + 2 ^ 6 * 0)) := nxt g3 b.isLt
  have g5 : x.toNat / 2 ^ 21 = d.toNat + 2 ^ 5 * (4 + 2 ^ 6 * 0) := nxt g4 a.isLt
  have g6 : x.toNat / 2 ^ 26 = 4 + 2 ^ 6 * 0 := nxt g5 d.isLt
  have q0 : bits x 26 6 = 4 := dig g6 (by decide)
  have q1 : bits x 0 4 = 4 := dig g0 (by decide)
  have f0 : fld x 21 5 = d := fld_eq (dig g5 d.isLt)
  have f1 : fld x 16 5 = a := fld_eq (dig g4 a.isLt)
  have f2 : fld x 11 5 = b := fld_eq (dig g3 b.isLt)
  have f3 : fld x 8 3 = p := fld_eq (dig g2 p.isLt)
  have f4 : fld x 4 4 = t := fld_eq (dig g1 t.isLt)
  have hz : x.toNat ≠ 0 := ne_zero q0 (by decide)
  intro k hk
  replace hk := mem_slots2 rfl hk
  rcases hk with rfl | rfl <;> simp [hz, decodeMap, decodeVb, decodeVa, q0, q1, f0, f1, f2, f3, f4]

theorem vfabs (d : BitVec 5) (a : BitVec 5) (p : BitVec 3) (t : BitVec 4) : Statement (.vfabs d a p t) := by
  have h0 := d.isLt
  have h1 := a.isLt
  have h2 := p.isLt
  have h3 := t.isLt
  have hv : (syl 0x10000005 [(d.toNat, 21), (a.toNat, 16), (p.toNat, 8), (t.toNat, 4)]).toNat = _ := toNat_syl (by simp only [sylValue]; omega)
  simp only [sylValue] at hv
  refine statement_of rfl ?_
  generalize syl 0x10000005 [(d.toNat, 21), (a.toNat, 16), (p.toNat, 8), (t.toNat, 4)] = x at hv ⊢
  have g0 : x.toNat / 2 ^ 0 = 5 + 2 ^ 4 * (t.toNat + 2 ^ 4 * (p.toNat + 2 ^ 3 * (0 + 2 ^ 5 * (a.toNat + 2 ^ 5 * (d.toNat + 2 ^ 5 * (4 + 2 ^ 6 * 0)))))) := by rw [Nat.pow_zero, Nat.div_one, hv]; omega
  have g1 : x.toNat / 2 ^ 4 = t.toNat + 2 ^ 4 * (p.toNat + 2 ^ 3 * (0 + 2 ^ 5 * (a.toNat + 2 ^ 5 * (d.toNat + 2 ^ 5 * (4 + 2 ^ 6 * 0))))) := nxt g0 (by decide)
  have g2 : x.toNat / 2 ^ 8 = p.toNat + 2 ^ 3 * (0 + 2 ^ 5 * (a.toNat + 2 ^ 5 * (d.toNat + 2 ^ 5 * (4 + 2 ^ 6 * 0)))) := nxt g1 t.isLt
  have g3 : x.toNat / 2 ^ 11 = 0 + 2 ^ 5 * (a.toNat + 2 ^ 5 * (d.toNat + 2 ^ 5 * (4 + 2 ^ 6 * 0))) := nxt g2 p.isLt
  have g4 : x.toNat / 2 ^ 16 = a.toNat + 2 ^ 5 * (d.toNat + 2 ^ 5 * (4 + 2 ^ 6 * 0)) := nxt g3 (by decide)
  have g5 : x.toNat / 2 ^ 21 = d.toNat + 2 ^ 5 * (4 + 2 ^ 6 * 0) := nxt g4 a.isLt
  have g6 : x.toNat / 2 ^ 26 = 4 + 2 ^ 6 * 0 := nxt g5 d.isLt
  have q0 : bits x 26 6 = 4 := dig g6 (by decide)
  have q1 : bits x 0 4 = 5 := dig g0 (by decide)
  have q2 : bits x 11 5 = 0 := dig g3 (by decide)
  have f0 : fld x 21 5 = d := fld_eq (dig g5 d.isLt)
  have f1 : fld x 16 5 = a := fld_eq (dig g4 a.isLt)
  have f2 : fld x 8 3 = p := fld_eq (dig g2 p.isLt)
  have f3 : fld x 4 4 = t := fld_eq (dig g1 t.isLt)
  have hz : x.toNat ≠ 0 := ne_zero q0 (by decide)
  intro k hk
  replace hk := mem_slots2 rfl hk
  rcases hk with rfl | rfl <;> simp [hz, decodeMap, decodeVb, decodeVa, q0, q1, q2, f0, f1, f2, f3]

theorem vfneg (d : BitVec 5) (a : BitVec 5) (p : BitVec 3) (t : BitVec 4) : Statement (.vfneg d a p t) := by
  have h0 := d.isLt
  have h1 := a.isLt
  have h2 := p.isLt
  have h3 := t.isLt
  have hv : (syl 0x10000006 [(d.toNat, 21), (a.toNat, 16), (p.toNat, 8), (t.toNat, 4)]).toNat = _ := toNat_syl (by simp only [sylValue]; omega)
  simp only [sylValue] at hv
  refine statement_of rfl ?_
  generalize syl 0x10000006 [(d.toNat, 21), (a.toNat, 16), (p.toNat, 8), (t.toNat, 4)] = x at hv ⊢
  have g0 : x.toNat / 2 ^ 0 = 6 + 2 ^ 4 * (t.toNat + 2 ^ 4 * (p.toNat + 2 ^ 3 * (0 + 2 ^ 5 * (a.toNat + 2 ^ 5 * (d.toNat + 2 ^ 5 * (4 + 2 ^ 6 * 0)))))) := by rw [Nat.pow_zero, Nat.div_one, hv]; omega
  have g1 : x.toNat / 2 ^ 4 = t.toNat + 2 ^ 4 * (p.toNat + 2 ^ 3 * (0 + 2 ^ 5 * (a.toNat + 2 ^ 5 * (d.toNat + 2 ^ 5 * (4 + 2 ^ 6 * 0))))) := nxt g0 (by decide)
  have g2 : x.toNat / 2 ^ 8 = p.toNat + 2 ^ 3 * (0 + 2 ^ 5 * (a.toNat + 2 ^ 5 * (d.toNat + 2 ^ 5 * (4 + 2 ^ 6 * 0)))) := nxt g1 t.isLt
  have g3 : x.toNat / 2 ^ 11 = 0 + 2 ^ 5 * (a.toNat + 2 ^ 5 * (d.toNat + 2 ^ 5 * (4 + 2 ^ 6 * 0))) := nxt g2 p.isLt
  have g4 : x.toNat / 2 ^ 16 = a.toNat + 2 ^ 5 * (d.toNat + 2 ^ 5 * (4 + 2 ^ 6 * 0)) := nxt g3 (by decide)
  have g5 : x.toNat / 2 ^ 21 = d.toNat + 2 ^ 5 * (4 + 2 ^ 6 * 0) := nxt g4 a.isLt
  have g6 : x.toNat / 2 ^ 26 = 4 + 2 ^ 6 * 0 := nxt g5 d.isLt
  have q0 : bits x 26 6 = 4 := dig g6 (by decide)
  have q1 : bits x 0 4 = 6 := dig g0 (by decide)
  have q2 : bits x 11 5 = 0 := dig g3 (by decide)
  have f0 : fld x 21 5 = d := fld_eq (dig g5 d.isLt)
  have f1 : fld x 16 5 = a := fld_eq (dig g4 a.isLt)
  have f2 : fld x 8 3 = p := fld_eq (dig g2 p.isLt)
  have f3 : fld x 4 4 = t := fld_eq (dig g1 t.isLt)
  have hz : x.toNat ≠ 0 := ne_zero q0 (by decide)
  intro k hk
  replace hk := mem_slots2 rfl hk
  rcases hk with rfl | rfl <;> simp [hz, decodeMap, decodeVb, decodeVa, q0, q1, q2, f0, f1, f2, f3]

theorem vfma (d : BitVec 5) (a : BitVec 5) (b : BitVec 5) (c : BitVec 5) (p : BitVec 3) (t : BitVec 3) : Statement (.vfma d a b c p t) := by
  have h0 := d.isLt
  have h1 := a.isLt
  have h2 := b.isLt
  have h3 := c.isLt
  have h4 := p.isLt
  have h5 := t.isLt
  have hv : (syl 0x14000000 [(d.toNat, 21), (a.toNat, 16), (b.toNat, 11), (c.toNat, 6), (p.toNat, 3), (t.toNat, 0)]).toNat = _ := toNat_syl (by simp only [sylValue]; omega)
  simp only [sylValue] at hv
  refine statement_of rfl ?_
  generalize syl 0x14000000 [(d.toNat, 21), (a.toNat, 16), (b.toNat, 11), (c.toNat, 6), (p.toNat, 3), (t.toNat, 0)] = x at hv ⊢
  have g0 : x.toNat / 2 ^ 0 = t.toNat + 2 ^ 3 * (p.toNat + 2 ^ 3 * (c.toNat + 2 ^ 5 * (b.toNat + 2 ^ 5 * (a.toNat + 2 ^ 5 * (d.toNat + 2 ^ 5 * (5 + 2 ^ 6 * 0)))))) := by rw [Nat.pow_zero, Nat.div_one, hv]; omega
  have g1 : x.toNat / 2 ^ 3 = p.toNat + 2 ^ 3 * (c.toNat + 2 ^ 5 * (b.toNat + 2 ^ 5 * (a.toNat + 2 ^ 5 * (d.toNat + 2 ^ 5 * (5 + 2 ^ 6 * 0))))) := nxt g0 t.isLt
  have g2 : x.toNat / 2 ^ 6 = c.toNat + 2 ^ 5 * (b.toNat + 2 ^ 5 * (a.toNat + 2 ^ 5 * (d.toNat + 2 ^ 5 * (5 + 2 ^ 6 * 0)))) := nxt g1 p.isLt
  have g3 : x.toNat / 2 ^ 11 = b.toNat + 2 ^ 5 * (a.toNat + 2 ^ 5 * (d.toNat + 2 ^ 5 * (5 + 2 ^ 6 * 0))) := nxt g2 c.isLt
  have g4 : x.toNat / 2 ^ 16 = a.toNat + 2 ^ 5 * (d.toNat + 2 ^ 5 * (5 + 2 ^ 6 * 0)) := nxt g3 b.isLt
  have g5 : x.toNat / 2 ^ 21 = d.toNat + 2 ^ 5 * (5 + 2 ^ 6 * 0) := nxt g4 a.isLt
  have g6 : x.toNat / 2 ^ 26 = 5 + 2 ^ 6 * 0 := nxt g5 d.isLt
  have q0 : bits x 26 6 = 5 := dig g6 (by decide)
  have f0 : fld x 21 5 = d := fld_eq (dig g5 d.isLt)
  have f1 : fld x 16 5 = a := fld_eq (dig g4 a.isLt)
  have f2 : fld x 11 5 = b := fld_eq (dig g3 b.isLt)
  have f3 : fld x 6 5 = c := fld_eq (dig g2 c.isLt)
  have f4 : fld x 3 3 = p := fld_eq (dig g1 p.isLt)
  have f5 : fld x 0 3 = t := fld_eq (dig g0 t.isLt)
  have hz : x.toNat ≠ 0 := ne_zero q0 (by decide)
  intro k hk
  replace hk := mem_slots2 rfl hk
  rcases hk with rfl | rfl <;> simp [hz, decodeMap, decodeVb, decodeVa, q0, f0, f1, f2, f3, f4, f5]

theorem vfms (d : BitVec 5) (a : BitVec 5) (b : BitVec 5) (c : BitVec 5) (p : BitVec 3) (t : BitVec 3) : Statement (.vfms d a b c p t) := by
  have h0 := d.isLt
  have h1 := a.isLt
  have h2 := b.isLt
  have h3 := c.isLt
  have h4 := p.isLt
  have h5 := t.isLt
  have hv : (syl 0x18000000 [(d.toNat, 21), (a.toNat, 16), (b.toNat, 11), (c.toNat, 6), (p.toNat, 3), (t.toNat, 0)]).toNat = _ := toNat_syl (by simp only [sylValue]; omega)
  simp only [sylValue] at hv
  refine statement_of rfl ?_
  generalize syl 0x18000000 [(d.toNat, 21), (a.toNat, 16), (b.toNat, 11), (c.toNat, 6), (p.toNat, 3), (t.toNat, 0)] = x at hv ⊢
  have g0 : x.toNat / 2 ^ 0 = t.toNat + 2 ^ 3 * (p.toNat + 2 ^ 3 * (c.toNat + 2 ^ 5 * (b.toNat + 2 ^ 5 * (a.toNat + 2 ^ 5 * (d.toNat + 2 ^ 5 * (6 + 2 ^ 6 * 0)))))) := by rw [Nat.pow_zero, Nat.div_one, hv]; omega
  have g1 : x.toNat / 2 ^ 3 = p.toNat + 2 ^ 3 * (c.toNat + 2 ^ 5 * (b.toNat + 2 ^ 5 * (a.toNat + 2 ^ 5 * (d.toNat + 2 ^ 5 * (6 + 2 ^ 6 * 0))))) := nxt g0 t.isLt
  have g2 : x.toNat / 2 ^ 6 = c.toNat + 2 ^ 5 * (b.toNat + 2 ^ 5 * (a.toNat + 2 ^ 5 * (d.toNat + 2 ^ 5 * (6 + 2 ^ 6 * 0)))) := nxt g1 p.isLt
  have g3 : x.toNat / 2 ^ 11 = b.toNat + 2 ^ 5 * (a.toNat + 2 ^ 5 * (d.toNat + 2 ^ 5 * (6 + 2 ^ 6 * 0))) := nxt g2 c.isLt
  have g4 : x.toNat / 2 ^ 16 = a.toNat + 2 ^ 5 * (d.toNat + 2 ^ 5 * (6 + 2 ^ 6 * 0)) := nxt g3 b.isLt
  have g5 : x.toNat / 2 ^ 21 = d.toNat + 2 ^ 5 * (6 + 2 ^ 6 * 0) := nxt g4 a.isLt
  have g6 : x.toNat / 2 ^ 26 = 6 + 2 ^ 6 * 0 := nxt g5 d.isLt
  have q0 : bits x 26 6 = 6 := dig g6 (by decide)
  have f0 : fld x 21 5 = d := fld_eq (dig g5 d.isLt)
  have f1 : fld x 16 5 = a := fld_eq (dig g4 a.isLt)
  have f2 : fld x 11 5 = b := fld_eq (dig g3 b.isLt)
  have f3 : fld x 6 5 = c := fld_eq (dig g2 c.isLt)
  have f4 : fld x 3 3 = p := fld_eq (dig g1 p.isLt)
  have f5 : fld x 0 3 = t := fld_eq (dig g0 t.isLt)
  have hz : x.toNat ≠ 0 := ne_zero q0 (by decide)
  intro k hk
  replace hk := mem_slots2 rfl hk
  rcases hk with rfl | rfl <;> simp [hz, decodeMap, decodeVb, decodeVa, q0, f0, f1, f2, f3, f4, f5]

theorem vfnma (d : BitVec 5) (a : BitVec 5) (b : BitVec 5) (c : BitVec 5) (p : BitVec 3) (t : BitVec 3) : Statement (.vfnma d a b c p t) := by
  have h0 := d.isLt
  have h1 := a.isLt
  have h2 := b.isLt
  have h3 := c.isLt
  have h4 := p.isLt
  have h5 := t.isLt
  have hv : (syl 0x1C000000 [(d.toNat, 21), (a.toNat, 16), (b.toNat, 11), (c.toNat, 6), (p.toNat, 3), (t.toNat, 0)]).toNat = _ := toNat_syl (by simp only [sylValue]; omega)
  simp only [sylValue] at hv
  refine statement_of rfl ?_
  generalize syl 0x1C000000 [(d.toNat, 21), (a.toNat, 16), (b.toNat, 11), (c.toNat, 6), (p.toNat, 3), (t.toNat, 0)] = x at hv ⊢
  have g0 : x.toNat / 2 ^ 0 = t.toNat + 2 ^ 3 * (p.toNat + 2 ^ 3 * (c.toNat + 2 ^ 5 * (b.toNat + 2 ^ 5 * (a.toNat + 2 ^ 5 * (d.toNat + 2 ^ 5 * (7 + 2 ^ 6 * 0)))))) := by rw [Nat.pow_zero, Nat.div_one, hv]; omega
  have g1 : x.toNat / 2 ^ 3 = p.toNat + 2 ^ 3 * (c.toNat + 2 ^ 5 * (b.toNat + 2 ^ 5 * (a.toNat + 2 ^ 5 * (d.toNat + 2 ^ 5 * (7 + 2 ^ 6 * 0))))) := nxt g0 t.isLt
  have g2 : x.toNat / 2 ^ 6 = c.toNat + 2 ^ 5 * (b.toNat + 2 ^ 5 * (a.toNat + 2 ^ 5 * (d.toNat + 2 ^ 5 * (7 + 2 ^ 6 * 0)))) := nxt g1 p.isLt
  have g3 : x.toNat / 2 ^ 11 = b.toNat + 2 ^ 5 * (a.toNat + 2 ^ 5 * (d.toNat + 2 ^ 5 * (7 + 2 ^ 6 * 0))) := nxt g2 c.isLt
  have g4 : x.toNat / 2 ^ 16 = a.toNat + 2 ^ 5 * (d.toNat + 2 ^ 5 * (7 + 2 ^ 6 * 0)) := nxt g3 b.isLt
  have g5 : x.toNat / 2 ^ 21 = d.toNat + 2 ^ 5 * (7 + 2 ^ 6 * 0) := nxt g4 a.isLt
  have g6 : x.toNat / 2 ^ 26 = 7 + 2 ^ 6 * 0 := nxt g5 d.isLt
  have q0 : bits x 26 6 = 7 := dig g6 (by decide)
  have f0 : fld x 21 5 = d := fld_eq (dig g5 d.isLt)
  have f1 : fld x 16 5 = a := fld_eq (dig g4 a.isLt)
  have f2 : fld x 11 5 = b := fld_eq (dig g3 b.isLt)
  have f3 : fld x 6 5 = c := fld_eq (dig g2 c.isLt)
  have f4 : fld x 3 3 = p := fld_eq (dig g1 p.isLt)
  have f5 : fld x 0 3 = t := fld_eq (dig g0 t.isLt)
  have hz : x.toNat ≠ 0 := ne_zero q0 (by decide)
  intro k hk
  replace hk := mem_slots2 rfl hk
  rcases hk with rfl | rfl <;> simp [hz, decodeMap, decodeVb, decodeVa, q0, f0, f1, f2, f3, f4, f5]

theorem vfrcp (d : BitVec 5) (a : BitVec 5) (p : BitVec 3) : Statement (.vfrcp d a p) := by
  have h0 := d.isLt
  have h1 := a.isLt
  have h2 := p.isLt
  have hv : (syl 0x20000000 [(d.toNat, 21), (a.toNat, 16), (p.toNat, 8)]).toNat = _ := toNat_syl (by simp only [sylValue]; omega)
  simp only [sylValue] at hv
  refine statement_of rfl ?_
  generalize syl 0x20000000 [(d.toNat, 21), (a.toNat, 16), (p.toNat, 8)] = x at hv ⊢
  have g0 : x.toNat / 2 ^ 0 = 0 + 2 ^ 8 * (p.toNat + 2 ^ 3 * (0 + 2 ^ 5 * (a.toNat + 2 ^ 5 * (d.toNat + 2 ^ 5 * (8 + 2 ^ 6 * 0))))) := by rw [Nat.pow_zero, Nat.div_one, hv]; omega
  have g1 : x.toNat / 2 ^ 8 = p.toNat + 2 ^ 3 * (0 + 2 ^ 5 * (a.toNat + 2 ^ 5 * (d.toNat + 2 ^ 5 * (8 + 2 ^ 6 * 0)))) := nxt g0 (by decide)
  have g2 : x.toNat / 2 ^ 11 = 0 + 2 ^ 5 * (a.toNat + 2 ^ 5 * (d.toNat + 2 ^ 5 * (8 + 2 ^ 6 * 0))) := nxt g1 p.isLt
  have g3 : x.toNat / 2 ^ 16 = a.toNat + 2 ^ 5 * (d.toNat + 2 ^ 5 * (8 + 2 ^ 6 * 0)) := nxt g2 (by decide)
  have g4 : x.toNat / 2 ^ 21 = d.toNat + 2 ^ 5 * (8 + 2 ^ 6 * 0) := nxt g3 a.isLt
  have g5 : x.toNat / 2 ^ 26 = 8 + 2 ^ 6 * 0 := nxt g4 d.isLt
  have q0 : bits x 26 6 = 8 := dig g5 (by decide)
  have q1 : bits x 11 5 = 0 := dig g2 (by decide)
  have q2 : bits x 0 8 = 0 := dig g0 (by decide)
  have f0 : fld x 21 5 = d := fld_eq (dig g4 d.isLt)
  have f1 : fld x 16 5 = a := fld_eq (dig g3 a.isLt)
  have f2 : fld x 8 3 = p := fld_eq (dig g1 p.isLt)
  have hz : x.toNat ≠ 0 := ne_zero q0 (by decide)
  intro k hk
  replace hk := mem_slots2 rfl hk
  rcases hk with rfl | rfl <;> simp [hz, decodeMap, decodeVb, decodeVa, q0, q1, q2, f0, f1, f2]

theorem vfrsq (d : BitVec 5) (a : BitVec 5) (p : BitVec 3) : Statement (.vfrsq d a p) := by
  have h0 := d.isLt
  have h1 := a.isLt
  have h2 := p.isLt
  have hv : (syl 0x20000001 [(d.toNat, 21), (a.toNat, 16), (p.toNat, 8)]).toNat = _ := toNat_syl (by simp only [sylValue]; omega)
  simp only [sylValue] at hv
  refine statement_of rfl ?_
  generalize syl 0x20000001 [(d.toNat, 21), (a.toNat, 16), (p.toNat, 8)] = x at hv ⊢
  have g0 : x.toNat / 2 ^ 0 = 1 + 2 ^ 8 * (p.toNat + 2 ^ 3 * (0 + 2 ^ 5 * (a.toNat + 2 ^ 5 * (d.toNat + 2 ^ 5 * (8 + 2 ^ 6 * 0))))) := by rw [Nat.pow_zero, Nat.div_one, hv]; omega
  have g1 : x.toNat / 2 ^ 8 = p.toNat + 2 ^ 3 * (0 + 2 ^ 5 * (a.toNat + 2 ^ 5 * (d.toNat + 2 ^ 5 * (8 + 2 ^ 6 * 0)))) := nxt g0 (by decide)
  have g2 : x.toNat / 2 ^ 11 = 0 + 2 ^ 5 * (a.toNat + 2 ^ 5 * (d.toNat + 2 ^ 5 * (8 + 2 ^ 6 * 0))) := nxt g1 p.isLt
  have g3 : x.toNat / 2 ^ 16 = a.toNat + 2 ^ 5 * (d.toNat + 2 ^ 5 * (8 + 2 ^ 6 * 0)) := nxt g2 (by decide)
  have g4 : x.toNat / 2 ^ 21 = d.toNat + 2 ^ 5 * (8 + 2 ^ 6 * 0) := nxt g3 a.isLt
  have g5 : x.toNat / 2 ^ 26 = 8 + 2 ^ 6 * 0 := nxt g4 d.isLt
  have q0 : bits x 26 6 = 8 := dig g5 (by decide)
  have q1 : bits x 11 5 = 0 := dig g2 (by decide)
  have q2 : bits x 0 8 = 1 := dig g0 (by decide)
  have f0 : fld x 21 5 = d := fld_eq (dig g4 d.isLt)
  have f1 : fld x 16 5 = a := fld_eq (dig g3 a.isLt)
  have f2 : fld x 8 3 = p := fld_eq (dig g1 p.isLt)
  have hz : x.toNat ≠ 0 := ne_zero q0 (by decide)
  intro k hk
  replace hk := mem_slots2 rfl hk
  rcases hk with rfl | rfl <;> simp [hz, decodeMap, decodeVb, decodeVa, q0, q1, q2, f0, f1, f2]

theorem vfexp2 (d : BitVec 5) (a : BitVec 5) (p : BitVec 3) : Statement (.vfexp2 d a p) := by
  have h0 := d.isLt
  have h1 := a.isLt
  have h2 := p.isLt
  have hv : (syl 0x20000002 [(d.toNat, 21), (a.toNat, 16), (p.toNat, 8)]).toNat = _ := toNat_syl (by simp only [sylValue]; omega)
  simp only [sylValue] at hv
  refine statement_of rfl ?_
  generalize syl 0x20000002 [(d.toNat, 21), (a.toNat, 16), (p.toNat, 8)] = x at hv ⊢
  have g0 : x.toNat / 2 ^ 0 = 2 + 2 ^ 8 * (p.toNat + 2 ^ 3 * (0 + 2 ^ 5 * (a.toNat + 2 ^ 5 * (d.toNat + 2 ^ 5 * (8 + 2 ^ 6 * 0))))) := by rw [Nat.pow_zero, Nat.div_one, hv]; omega
  have g1 : x.toNat / 2 ^ 8 = p.toNat + 2 ^ 3 * (0 + 2 ^ 5 * (a.toNat + 2 ^ 5 * (d.toNat + 2 ^ 5 * (8 + 2 ^ 6 * 0)))) := nxt g0 (by decide)
  have g2 : x.toNat / 2 ^ 11 = 0 + 2 ^ 5 * (a.toNat + 2 ^ 5 * (d.toNat + 2 ^ 5 * (8 + 2 ^ 6 * 0))) := nxt g1 p.isLt
  have g3 : x.toNat / 2 ^ 16 = a.toNat + 2 ^ 5 * (d.toNat + 2 ^ 5 * (8 + 2 ^ 6 * 0)) := nxt g2 (by decide)
  have g4 : x.toNat / 2 ^ 21 = d.toNat + 2 ^ 5 * (8 + 2 ^ 6 * 0) := nxt g3 a.isLt
  have g5 : x.toNat / 2 ^ 26 = 8 + 2 ^ 6 * 0 := nxt g4 d.isLt
  have q0 : bits x 26 6 = 8 := dig g5 (by decide)
  have q1 : bits x 11 5 = 0 := dig g2 (by decide)
  have q2 : bits x 0 8 = 2 := dig g0 (by decide)
  have f0 : fld x 21 5 = d := fld_eq (dig g4 d.isLt)
  have f1 : fld x 16 5 = a := fld_eq (dig g3 a.isLt)
  have f2 : fld x 8 3 = p := fld_eq (dig g1 p.isLt)
  have hz : x.toNat ≠ 0 := ne_zero q0 (by decide)
  intro k hk
  replace hk := mem_slots2 rfl hk
  rcases hk with rfl | rfl <;> simp [hz, decodeMap, decodeVb, decodeVa, q0, q1, q2, f0, f1, f2]

theorem vflog2 (d : BitVec 5) (a : BitVec 5) (p : BitVec 3) : Statement (.vflog2 d a p) := by
  have h0 := d.isLt
  have h1 := a.isLt
  have h2 := p.isLt
  have hv : (syl 0x20000003 [(d.toNat, 21), (a.toNat, 16), (p.toNat, 8)]).toNat = _ := toNat_syl (by simp only [sylValue]; omega)
  simp only [sylValue] at hv
  refine statement_of rfl ?_
  generalize syl 0x20000003 [(d.toNat, 21), (a.toNat, 16), (p.toNat, 8)] = x at hv ⊢
  have g0 : x.toNat / 2 ^ 0 = 3 + 2 ^ 8 * (p.toNat + 2 ^ 3 * (0 + 2 ^ 5 * (a.toNat + 2 ^ 5 * (d.toNat + 2 ^ 5 * (8 + 2 ^ 6 * 0))))) := by rw [Nat.pow_zero, Nat.div_one, hv]; omega
  have g1 : x.toNat / 2 ^ 8 = p.toNat + 2 ^ 3 * (0 + 2 ^ 5 * (a.toNat + 2 ^ 5 * (d.toNat + 2 ^ 5 * (8 + 2 ^ 6 * 0)))) := nxt g0 (by decide)
  have g2 : x.toNat / 2 ^ 11 = 0 + 2 ^ 5 * (a.toNat + 2 ^ 5 * (d.toNat + 2 ^ 5 * (8 + 2 ^ 6 * 0))) := nxt g1 p.isLt
  have g3 : x.toNat / 2 ^ 16 = a.toNat + 2 ^ 5 * (d.toNat + 2 ^ 5 * (8 + 2 ^ 6 * 0)) := nxt g2 (by decide)
  have g4 : x.toNat / 2 ^ 21 = d.toNat + 2 ^ 5 * (8 + 2 ^ 6 * 0) := nxt g3 a.isLt
  have g5 : x.toNat / 2 ^ 26 = 8 + 2 ^ 6 * 0 := nxt g4 d.isLt
  have q0 : bits x 26 6 = 8 := dig g5 (by decide)
  have q1 : bits x 11 5 = 0 := dig g2 (by decide)
  have q2 : bits x 0 8 = 3 := dig g0 (by decide)
  have f0 : fld x 21 5 = d := fld_eq (dig g4 d.isLt)
  have f1 : fld x 16 5 = a := fld_eq (dig g3 a.isLt)
  have f2 : fld x 8 3 = p := fld_eq (dig g1 p.isLt)
  have hz : x.toNat ≠ 0 := ne_zero q0 (by decide)
  intro k hk
  replace hk := mem_slots2 rfl hk
  rcases hk with rfl | rfl <;> simp [hz, decodeMap, decodeVb, decodeVa, q0, q1, q2, f0, f1, f2]

theorem vcmp (d : BitVec 5) (a : BitVec 5) (b : BitVec 5) (p : BitVec 3) (t : BitVec 4) (f : BitVec 4) : Statement (.vcmp d a b p t f) := by
  have h0 := d.isLt
  have h1 := a.isLt
  have h2 := b.isLt
  have h3 := p.isLt
  have h4 := t.isLt
  have h5 := f.isLt
  have hv : (syl 0x24000000 [(d.toNat, 21), (a.toNat, 16), (b.toNat, 11), (p.toNat, 8), (t.toNat, 4), (f.toNat, 0)]).toNat = _ := toNat_syl (by simp only [sylValue]; omega)
  simp only [sylValue] at hv
  refine statement_of rfl ?_
  generalize syl 0x24000000 [(d.toNat, 21), (a.toNat, 16), (b.toNat, 11), (p.toNat, 8), (t.toNat, 4), (f.toNat, 0)] = x at hv ⊢
  have g0 : x.toNat / 2 ^ 0 = f.toNat + 2 ^ 4 * (t.toNat + 2 ^ 4 * (p.toNat + 2 ^ 3 * (b.toNat + 2 ^ 5 * (a.toNat + 2 ^ 5 * (d.toNat + 2 ^ 5 * (9 + 2 ^ 6 * 0)))))) := by rw [Nat.pow_zero, Nat.div_one, hv]; omega
  have g1 : x.toNat / 2 ^ 4 = t.toNat + 2 ^ 4 * (p.toNat + 2 ^ 3 * (b.toNat + 2 ^ 5 * (a.toNat + 2 ^ 5 * (d.toNat + 2 ^ 5 * (9 + 2 ^ 6 * 0))))) := nxt g0 f.isLt
  have g2 : x.toNat / 2 ^ 8 = p.toNat + 2 ^ 3 * (b.toNat + 2 ^ 5 * (a.toNat + 2 ^ 5 * (d.toNat + 2 ^ 5 * (9 + 2 ^ 6 * 0)))) := nxt g1 t.isLt
  have g3 : x.toNat / 2 ^ 11 = b.toNat + 2 ^ 5 * (a.toNat + 2 ^ 5 * (d.toNat + 2 ^ 5 * (9 + 2 ^ 6 * 0))) := nxt g2 p.isLt
  have g4 : x.toNat / 2 ^ 16 = a.toNat + 2 ^ 5 * (d.toNat + 2 ^ 5 * (9 + 2 ^ 6 * 0)) := nxt g3 b.isLt
  have g5 : x.toNat / 2 ^ 21 = d.toNat + 2 ^ 5 * (9 + 2 ^ 6 * 0) := nxt g4 a.isLt
  have g6 : x.toNat / 2 ^ 26 = 9 + 2 ^ 6 * 0 := nxt g5 d.isLt
  have q0 : bits x 26 6 = 9 := dig g6 (by decide)
  have f0 : fld x 21 5 = d := fld_eq (dig g5 d.isLt)
  have f1 : fld x 16 5 = a := fld_eq (dig g4 a.isLt)
  have f2 : fld x 11 5 = b := fld_eq (dig g3 b.isLt)
  have f3 : fld x 8 3 = p := fld_eq (dig g2 p.isLt)
  have f4 : fld x 4 4 = t := fld_eq (dig g1 t.isLt)
  have f5 : fld x 0 4 = f := fld_eq (dig g0 f.isLt)
  have hz : x.toNat ≠ 0 := ne_zero q0 (by decide)
  intro k hk
  replace hk := mem_slots2 rfl hk
  rcases hk with rfl | rfl <;> simp [hz, decodeMap, decodeVb, decodeVa, q0, f0, f1, f2, f3, f4, f5]

theorem vfcmp (d : BitVec 5) (a : BitVec 5) (b : BitVec 5) (p : BitVec 3) (f : BitVec 4) : Statement (.vfcmp d a b p f) := by
  have h0 := d.isLt
  have h1 := a.isLt
  have h2 := b.isLt
  have h3 := p.isLt
  have h4 := f.isLt
  have hv : (syl 0x28000000 [(d.toNat, 21), (a.toNat, 16), (b.toNat, 11), (p.toNat, 8), (f.toNat, 0)]).toNat = _ := toNat_syl (by simp only [sylValue]; omega)
  simp only [sylValue] at hv
  refine statement_of rfl ?_
  generalize syl 0x28000000 [(d.toNat, 21), (a.toNat, 16), (b.toNat, 11), (p.toNat, 8), (f.toNat, 0)] = x at hv ⊢
  have g0 : x.toNat / 2 ^ 0 = f.toNat + 2 ^ 4 * (0 + 2 ^ 4 * (p.toNat + 2 ^ 3 * (b.toNat + 2 ^ 5 * (a.toNat + 2 ^ 5 * (d.toNat + 2 ^ 5 * (10 + 2 ^ 6 * 0)))))) := by rw [Nat.pow_zero, Nat.div_one, hv]; omega
  have g1 : x.toNat / 2 ^ 4 = 0 + 2 ^ 4 * (p.toNat + 2 ^ 3 * (b.toNat + 2 ^ 5 * (a.toNat + 2 ^ 5 * (d.toNat + 2 ^ 5 * (10 + 2 ^ 6 * 0))))) := nxt g0 f.isLt
  have g2 : x.toNat / 2 ^ 8 = p.toNat + 2 ^ 3 * (b.toNat + 2 ^ 5 * (a.toNat + 2 ^ 5 * (d.toNat + 2 ^ 5 * (10 + 2 ^ 6 * 0)))) := nxt g1 (by decide)
  have g3 : x.toNat / 2 ^ 11 = b.toNat + 2 ^ 5 * (a.toNat + 2 ^ 5 * (d.toNat + 2 ^ 5 * (10 + 2 ^ 6 * 0))) := nxt g2 p.isLt
  have g4 : x.toNat / 2 ^ 16 = a.toNat + 2 ^ 5 * (d.toNat + 2 ^ 5 * (10 + 2 ^ 6 * 0)) := nxt g3 b.isLt
  have g5 : x.toNat / 2 ^ 21 = d.toNat + 2 ^ 5 * (10 + 2 ^ 6 * 0) := nxt g4 a.isLt
  have g6 : x.toNat / 2 ^ 26 = 10 + 2 ^ 6 * 0 := nxt g5 d.isLt
  have q0 : bits x 26 6 = 10 := dig g6 (by decide)
  have q1 : bits x 4 4 = 0 := dig g1 (by decide)
  have f0 : fld x 21 5 = d := fld_eq (dig g5 d.isLt)
  have f1 : fld x 16 5 = a := fld_eq (dig g4 a.isLt)
  have f2 : fld x 11 5 = b := fld_eq (dig g3 b.isLt)
  have f3 : fld x 8 3 = p := fld_eq (dig g2 p.isLt)
  have f4 : fld x 0 4 = f := fld_eq (dig g0 f.isLt)
  have hz : x.toNat ≠ 0 := ne_zero q0 (by decide)
  intro k hk
  replace hk := mem_slots2 rfl hk
  rcases hk with rfl | rfl <;> simp [hz, decodeMap, decodeVb, decodeVa, q0, q1, f0, f1, f2, f3, f4]

theorem vfclass (d : BitVec 5) (a : BitVec 5) (p : BitVec 3) : Statement (.vfclass d a p) := by
  have h0 := d.isLt
  have h1 := a.isLt
  have h2 := p.isLt
  have hv : (syl 0x2C000000 [(d.toNat, 21), (a.toNat, 16), (p.toNat, 8)]).toNat = _ := toNat_syl (by simp only [sylValue]; omega)
  simp only [sylValue] at hv
  refine statement_of rfl ?_
  generalize syl 0x2C000000 [(d.toNat, 21), (a.toNat, 16), (p.toNat, 8)] = x at hv ⊢
  have g0 : x.toNat / 2 ^ 0 = 0 + 2 ^ 8 * (p.toNat + 2 ^ 3 * (0 + 2 ^ 5 * (a.toNat + 2 ^ 5 * (d.toNat + 2 ^ 5 * (11 + 2 ^ 6 * 0))))) := by rw [Nat.pow_zero, Nat.div_one, hv]; omega
  have g1 : x.toNat / 2 ^ 8 = p.toNat + 2 ^ 3 * (0 + 2 ^ 5 * (a.toNat + 2 ^ 5 * (d.toNat + 2 ^ 5 * (11 + 2 ^ 6 * 0)))) := nxt g0 (by decide)
  have g2 : x.toNat / 2 ^ 11 = 0 + 2 ^ 5 * (a.toNat + 2 ^ 5 * (d.toNat + 2 ^ 5 * (11 + 2 ^ 6 * 0))) := nxt g1 p.isLt
  have g3 : x.toNat / 2 ^ 16 = a.toNat + 2 ^ 5 * (d.toNat + 2 ^ 5 * (11 + 2 ^ 6 * 0)) := nxt g2 (by decide)
  have g4 : x.toNat / 2 ^ 21 = d.toNat + 2 ^ 5 * (11 + 2 ^ 6 * 0) := nxt g3 a.isLt
  have g5 : x.toNat / 2 ^ 26 = 11 + 2 ^ 6 * 0 := nxt g4 d.isLt
  have q0 : bits x 26 6 = 11 := dig g5 (by decide)
  have q1 : bits x 11 5 = 0 := dig g2 (by decide)
  have q2 : bits x 0 8 = 0 := dig g0 (by decide)
  have f0 : fld x 21 5 = d := fld_eq (dig g4 d.isLt)
  have f1 : fld x 16 5 = a := fld_eq (dig g3 a.isLt)
  have f2 : fld x 8 3 = p := fld_eq (dig g1 p.isLt)
  have hz : x.toNat ≠ 0 := ne_zero q0 (by decide)
  intro k hk
  replace hk := mem_slots2 rfl hk
  rcases hk with rfl | rfl <;> simp [hz, decodeMap, decodeVb, decodeVa, q0, q1, q2, f0, f1, f2]

theorem vsel (d : BitVec 5) (a : BitVec 5) (b : BitVec 5) (c : BitVec 5) (p : BitVec 3) : Statement (.vsel d a b c p) := by
  have h0 := d.isLt
  have h1 := a.isLt
  have h2 := b.isLt
  have h3 := c.isLt
  have h4 := p.isLt
  have hv : (syl 0x30000000 [(d.toNat, 21), (a.toNat, 16), (b.toNat, 11), (c.toNat, 6), (p.toNat, 3)]).toNat = _ := toNat_syl (by simp only [sylValue]; omega)
  simp only [sylValue] at hv
  refine statement_of rfl ?_
  generalize syl 0x30000000 [(d.toNat, 21), (a.toNat, 16), (b.toNat, 11), (c.toNat, 6), (p.toNat, 3)] = x at hv ⊢
  have g0 : x.toNat / 2 ^ 0 = 0 + 2 ^ 3 * (p.toNat + 2 ^ 3 * (c.toNat + 2 ^ 5 * (b.toNat + 2 ^ 5 * (a.toNat + 2 ^ 5 * (d.toNat + 2 ^ 5 * (12 + 2 ^ 6 * 0)))))) := by rw [Nat.pow_zero, Nat.div_one, hv]; omega
  have g1 : x.toNat / 2 ^ 3 = p.toNat + 2 ^ 3 * (c.toNat + 2 ^ 5 * (b.toNat + 2 ^ 5 * (a.toNat + 2 ^ 5 * (d.toNat + 2 ^ 5 * (12 + 2 ^ 6 * 0))))) := nxt g0 (by decide)
  have g2 : x.toNat / 2 ^ 6 = c.toNat + 2 ^ 5 * (b.toNat + 2 ^ 5 * (a.toNat + 2 ^ 5 * (d.toNat + 2 ^ 5 * (12 + 2 ^ 6 * 0)))) := nxt g1 p.isLt
  have g3 : x.toNat / 2 ^ 11 = b.toNat + 2 ^ 5 * (a.toNat + 2 ^ 5 * (d.toNat + 2 ^ 5 * (12 + 2 ^ 6 * 0))) := nxt g2 c.isLt
  have g4 : x.toNat / 2 ^ 16 = a.toNat + 2 ^ 5 * (d.toNat + 2 ^ 5 * (12 + 2 ^ 6 * 0)) := nxt g3 b.isLt
  have g5 : x.toNat / 2 ^ 21 = d.toNat + 2 ^ 5 * (12 + 2 ^ 6 * 0) := nxt g4 a.isLt
  have g6 : x.toNat / 2 ^ 26 = 12 + 2 ^ 6 * 0 := nxt g5 d.isLt
  have q0 : bits x 26 6 = 12 := dig g6 (by decide)
  have q1 : bits x 0 3 = 0 := dig g0 (by decide)
  have f0 : fld x 21 5 = d := fld_eq (dig g5 d.isLt)
  have f1 : fld x 16 5 = a := fld_eq (dig g4 a.isLt)
  have f2 : fld x 11 5 = b := fld_eq (dig g3 b.isLt)
  have f3 : fld x 6 5 = c := fld_eq (dig g2 c.isLt)
  have f4 : fld x 3 3 = p := fld_eq (dig g1 p.isLt)
  have hz : x.toNat ≠ 0 := ne_zero q0 (by decide)
  intro k hk
  replace hk := mem_slots2 rfl hk
  rcases hk with rfl | rfl <;> simp [hz, decodeMap, decodeVb, decodeVa, q0, q1, f0, f1, f2, f3, f4]

theorem vperm (d : BitVec 5) (a : BitVec 5) (b : BitVec 5) (p : BitVec 3) : Statement (.vperm d a b p) := by
  have h0 := d.isLt
  have h1 := a.isLt
  have h2 := b.isLt
  have h3 := p.isLt
  have hv : (syl 0x34000000 [(d.toNat, 21), (a.toNat, 16), (b.toNat, 11), (p.toNat, 8)]).toNat = _ := toNat_syl (by simp only [sylValue]; omega)
  simp only [sylValue] at hv
  refine statement_of rfl ?_
  generalize syl 0x34000000 [(d.toNat, 21), (a.toNat, 16), (b.toNat, 11), (p.toNat, 8)] = x at hv ⊢
  have g0 : x.toNat / 2 ^ 0 = 0 + 2 ^ 8 * (p.toNat + 2 ^ 3 * (b.toNat + 2 ^ 5 * (a.toNat + 2 ^ 5 * (d.toNat + 2 ^ 5 * (13 + 2 ^ 6 * 0))))) := by rw [Nat.pow_zero, Nat.div_one, hv]; omega
  have g1 : x.toNat / 2 ^ 8 = p.toNat + 2 ^ 3 * (b.toNat + 2 ^ 5 * (a.toNat + 2 ^ 5 * (d.toNat + 2 ^ 5 * (13 + 2 ^ 6 * 0)))) := nxt g0 (by decide)
  have g2 : x.toNat / 2 ^ 11 = b.toNat + 2 ^ 5 * (a.toNat + 2 ^ 5 * (d.toNat + 2 ^ 5 * (13 + 2 ^ 6 * 0))) := nxt g1 p.isLt
  have g3 : x.toNat / 2 ^ 16 = a.toNat + 2 ^ 5 * (d.toNat + 2 ^ 5 * (13 + 2 ^ 6 * 0)) := nxt g2 b.isLt
  have g4 : x.toNat / 2 ^ 21 = d.toNat + 2 ^ 5 * (13 + 2 ^ 6 * 0) := nxt g3 a.isLt
  have g5 : x.toNat / 2 ^ 26 = 13 + 2 ^ 6 * 0 := nxt g4 d.isLt
  have q0 : bits x 26 6 = 13 := dig g5 (by decide)
  have q1 : bits x 0 8 = 0 := dig g0 (by decide)
  have f0 : fld x 21 5 = d := fld_eq (dig g4 d.isLt)
  have f1 : fld x 16 5 = a := fld_eq (dig g3 a.isLt)
  have f2 : fld x 11 5 = b := fld_eq (dig g2 b.isLt)
  have f3 : fld x 8 3 = p := fld_eq (dig g1 p.isLt)
  have hz : x.toNat ≠ 0 := ne_zero q0 (by decide)
  intro k hk
  replace hk := mem_slots2 rfl hk
  rcases hk with rfl | rfl <;> simp [hz, decodeMap, decodeVb, decodeVa, q0, q1, f0, f1, f2, f3]

theorem vslide (d : BitVec 5) (a : BitVec 5) (b : BitVec 5) (c : BitVec 5) (p : BitVec 3) : Statement (.vslide d a b c p) := by
  have h0 := d.isLt
  have h1 := a.isLt
  have h2 := b.isLt
  have h3 := c.isLt
  have h4 := p.isLt
  have hv : (syl 0x38000000 [(d.toNat, 21), (a.toNat, 16), (b.toNat, 11), (c.toNat, 6), (p.toNat, 3)]).toNat = _ := toNat_syl (by simp only [sylValue]; omega)
  simp only [sylValue] at hv
  refine statement_of rfl ?_
  generalize syl 0x38000000 [(d.toNat, 21), (a.toNat, 16), (b.toNat, 11), (c.toNat, 6), (p.toNat, 3)] = x at hv ⊢
  have g0 : x.toNat / 2 ^ 0 = 0 + 2 ^ 3 * (p.toNat + 2 ^ 3 * (c.toNat + 2 ^ 5 * (b.toNat + 2 ^ 5 * (a.toNat + 2 ^ 5 * (d.toNat + 2 ^ 5 * (14 + 2 ^ 6 * 0)))))) := by rw [Nat.pow_zero, Nat.div_one, hv]; omega
  have g1 : x.toNat / 2 ^ 3 = p.toNat + 2 ^ 3 * (c.toNat + 2 ^ 5 * (b.toNat + 2 ^ 5 * (a.toNat + 2 ^ 5 * (d.toNat + 2 ^ 5 * (14 + 2 ^ 6 * 0))))) := nxt g0 (by decide)
  have g2 : x.toNat / 2 ^ 6 = c.toNat + 2 ^ 5 * (b.toNat + 2 ^ 5 * (a.toNat + 2 ^ 5 * (d.toNat + 2 ^ 5 * (14 + 2 ^ 6 * 0)))) := nxt g1 p.isLt
  have g3 : x.toNat / 2 ^ 11 = b.toNat + 2 ^ 5 * (a.toNat + 2 ^ 5 * (d.toNat + 2 ^ 5 * (14 + 2 ^ 6 * 0))) := nxt g2 c.isLt
  have g4 : x.toNat / 2 ^ 16 = a.toNat + 2 ^ 5 * (d.toNat + 2 ^ 5 * (14 + 2 ^ 6 * 0)) := nxt g3 b.isLt
  have g5 : x.toNat / 2 ^ 21 = d.toNat + 2 ^ 5 * (14 + 2 ^ 6 * 0) := nxt g4 a.isLt
  have g6 : x.toNat / 2 ^ 26 = 14 + 2 ^ 6 * 0 := nxt g5 d.isLt
  have q0 : bits x 26 6 = 14 := dig g6 (by decide)
  have q1 : bits x 0 3 = 0 := dig g0 (by decide)
  have f0 : fld x 21 5 = d := fld_eq (dig g5 d.isLt)
  have f1 : fld x 16 5 = a := fld_eq (dig g4 a.isLt)
  have f2 : fld x 11 5 = b := fld_eq (dig g3 b.isLt)
  have f3 : fld x 6 5 = c := fld_eq (dig g2 c.isLt)
  have f4 : fld x 3 3 = p := fld_eq (dig g1 p.isLt)
  have hz : x.toNat ≠ 0 := ne_zero q0 (by decide)
  intro k hk
  replace hk := mem_slots2 rfl hk
  rcases hk with rfl | rfl <;> simp [hz, decodeMap, decodeVb, decodeVa, q0, q1, f0, f1, f2, f3, f4]

theorem vrot (d : BitVec 5) (a : BitVec 5) (c : BitVec 5) (p : BitVec 3) : Statement (.vrot d a c p) := by
  have h0 := d.isLt
  have h1 := a.isLt
  have h2 := c.isLt
  have h3 := p.isLt
  have hv : (syl 0x3C000000 [(d.toNat, 21), (a.toNat, 16), (c.toNat, 6), (p.toNat, 3)]).toNat = _ := toNat_syl (by simp only [sylValue]; omega)
  simp only [sylValue] at hv
  refine statement_of rfl ?_
  generalize syl 0x3C000000 [(d.toNat, 21), (a.toNat, 16), (c.toNat, 6), (p.toNat, 3)] = x at hv ⊢
  have g0 : x.toNat / 2 ^ 0 = 0 + 2 ^ 3 * (p.toNat + 2 ^ 3 * (c.toNat + 2 ^ 5 * (0 + 2 ^ 5 * (a.toNat + 2 ^ 5 * (d.toNat + 2 ^ 5 * (15 + 2 ^ 6 * 0)))))) := by rw [Nat.pow_zero, Nat.div_one, hv]; omega
  have g1 : x.toNat / 2 ^ 3 = p.toNat + 2 ^ 3 * (c.toNat + 2 ^ 5 * (0 + 2 ^ 5 * (a.toNat + 2 ^ 5 * (d.toNat + 2 ^ 5 * (15 + 2 ^ 6 * 0))))) := nxt g0 (by decide)
  have g2 : x.toNat / 2 ^ 6 = c.toNat + 2 ^ 5 * (0 + 2 ^ 5 * (a.toNat + 2 ^ 5 * (d.toNat + 2 ^ 5 * (15 + 2 ^ 6 * 0)))) := nxt g1 p.isLt
  have g3 : x.toNat / 2 ^ 11 = 0 + 2 ^ 5 * (a.toNat + 2 ^ 5 * (d.toNat + 2 ^ 5 * (15 + 2 ^ 6 * 0))) := nxt g2 c.isLt
  have g4 : x.toNat / 2 ^ 16 = a.toNat + 2 ^ 5 * (d.toNat + 2 ^ 5 * (15 + 2 ^ 6 * 0)) := nxt g3 (by decide)
  have g5 : x.toNat / 2 ^ 21 = d.toNat + 2 ^ 5 * (15 + 2 ^ 6 * 0) := nxt g4 a.isLt
  have g6 : x.toNat / 2 ^ 26 = 15 + 2 ^ 6 * 0 := nxt g5 d.isLt
  have q0 : bits x 26 6 = 15 := dig g6 (by decide)
  have q1 : bits x 11 5 = 0 := dig g3 (by decide)
  have q2 : bits x 0 3 = 0 := dig g0 (by decide)
  have f0 : fld x 21 5 = d := fld_eq (dig g5 d.isLt)
  have f1 : fld x 16 5 = a := fld_eq (dig g4 a.isLt)
  have f2 : fld x 6 5 = c := fld_eq (dig g2 c.isLt)
  have f3 : fld x 3 3 = p := fld_eq (dig g1 p.isLt)
  have hz : x.toNat ≠ 0 := ne_zero q0 (by decide)
  intro k hk
  replace hk := mem_slots2 rfl hk
  rcases hk with rfl | rfl <;> simp [hz, decodeMap, decodeVb, decodeVa, q0, q1, q2, f0, f1, f2, f3]

theorem vbcast (d : BitVec 5) (a : BitVec 5) (p : BitVec 3) : Statement (.vbcast d a p) := by
  have h0 := d.isLt
  have h1 := a.isLt
  have h2 := p.isLt
  have hv : (syl 0x40000000 [(d.toNat, 21), (a.toNat, 16), (p.toNat, 8)]).toNat = _ := toNat_syl (by simp only [sylValue]; omega)
  simp only [sylValue] at hv
  refine statement_of rfl ?_
  generalize syl 0x40000000 [(d.toNat, 21), (a.toNat, 16), (p.toNat, 8)] = x at hv ⊢
  have g0 : x.toNat / 2 ^ 0 = 0 + 2 ^ 8 * (p.toNat + 2 ^ 3 * (0 + 2 ^ 5 * (a.toNat + 2 ^ 5 * (d.toNat + 2 ^ 5 * (16 + 2 ^ 6 * 0))))) := by rw [Nat.pow_zero, Nat.div_one, hv]; omega
  have g1 : x.toNat / 2 ^ 8 = p.toNat + 2 ^ 3 * (0 + 2 ^ 5 * (a.toNat + 2 ^ 5 * (d.toNat + 2 ^ 5 * (16 + 2 ^ 6 * 0)))) := nxt g0 (by decide)
  have g2 : x.toNat / 2 ^ 11 = 0 + 2 ^ 5 * (a.toNat + 2 ^ 5 * (d.toNat + 2 ^ 5 * (16 + 2 ^ 6 * 0))) := nxt g1 p.isLt
  have g3 : x.toNat / 2 ^ 16 = a.toNat + 2 ^ 5 * (d.toNat + 2 ^ 5 * (16 + 2 ^ 6 * 0)) := nxt g2 (by decide)
  have g4 : x.toNat / 2 ^ 21 = d.toNat + 2 ^ 5 * (16 + 2 ^ 6 * 0) := nxt g3 a.isLt
  have g5 : x.toNat / 2 ^ 26 = 16 + 2 ^ 6 * 0 := nxt g4 d.isLt
  have q0 : bits x 26 6 = 16 := dig g5 (by decide)
  have q1 : bits x 11 5 = 0 := dig g2 (by decide)
  have q2 : bits x 0 8 = 0 := dig g0 (by decide)
  have f0 : fld x 21 5 = d := fld_eq (dig g4 d.isLt)
  have f1 : fld x 16 5 = a := fld_eq (dig g3 a.isLt)
  have f2 : fld x 8 3 = p := fld_eq (dig g1 p.isLt)
  have hz : x.toNat ≠ 0 := ne_zero q0 (by decide)
  intro k hk
  replace hk := mem_slots2 rfl hk
  rcases hk with rfl | rfl <;> simp [hz, decodeMap, decodeVb, decodeVa, q0, q1, q2, f0, f1, f2]

theorem vext (d : BitVec 5) (a : BitVec 5) (b : BitVec 5) : Statement (.vext d a b) := by
  have h0 := d.isLt
  have h1 := a.isLt
  have h2 := b.isLt
  have hv : (syl 0x44000000 [(d.toNat, 21), (a.toNat, 16), (b.toNat, 11)]).toNat = _ := toNat_syl (by simp only [sylValue]; omega)
  simp only [sylValue] at hv
  refine statement_of rfl ?_
  generalize syl 0x44000000 [(d.toNat, 21), (a.toNat, 16), (b.toNat, 11)] = x at hv ⊢
  have g0 : x.toNat / 2 ^ 0 = 0 + 2 ^ 11 * (b.toNat + 2 ^ 5 * (a.toNat + 2 ^ 5 * (d.toNat + 2 ^ 5 * (17 + 2 ^ 6 * 0)))) := by rw [Nat.pow_zero, Nat.div_one, hv]; omega
  have g1 : x.toNat / 2 ^ 11 = b.toNat + 2 ^ 5 * (a.toNat + 2 ^ 5 * (d.toNat + 2 ^ 5 * (17 + 2 ^ 6 * 0))) := nxt g0 (by decide)
  have g2 : x.toNat / 2 ^ 16 = a.toNat + 2 ^ 5 * (d.toNat + 2 ^ 5 * (17 + 2 ^ 6 * 0)) := nxt g1 b.isLt
  have g3 : x.toNat / 2 ^ 21 = d.toNat + 2 ^ 5 * (17 + 2 ^ 6 * 0) := nxt g2 a.isLt
  have g4 : x.toNat / 2 ^ 26 = 17 + 2 ^ 6 * 0 := nxt g3 d.isLt
  have q0 : bits x 26 6 = 17 := dig g4 (by decide)
  have q1 : bits x 0 11 = 0 := dig g0 (by decide)
  have f0 : fld x 21 5 = d := fld_eq (dig g3 d.isLt)
  have f1 : fld x 16 5 = a := fld_eq (dig g2 a.isLt)
  have f2 : fld x 11 5 = b := fld_eq (dig g1 b.isLt)
  have hz : x.toNat ≠ 0 := ne_zero q0 (by decide)
  intro k hk
  replace hk := mem_slots2 rfl hk
  rcases hk with rfl | rfl <;> simp [hz, decodeMap, decodeVb, decodeVa, q0, q1, f0, f1, f2]

theorem vins (d : BitVec 5) (a : BitVec 5) (b : BitVec 5) : Statement (.vins d a b) := by
  have h0 := d.isLt
  have h1 := a.isLt
  have h2 := b.isLt
  have hv : (syl 0x48000000 [(d.toNat, 21), (a.toNat, 16), (b.toNat, 11)]).toNat = _ := toNat_syl (by simp only [sylValue]; omega)
  simp only [sylValue] at hv
  refine statement_of rfl ?_
  generalize syl 0x48000000 [(d.toNat, 21), (a.toNat, 16), (b.toNat, 11)] = x at hv ⊢
  have g0 : x.toNat / 2 ^ 0 = 0 + 2 ^ 11 * (b.toNat + 2 ^ 5 * (a.toNat + 2 ^ 5 * (d.toNat + 2 ^ 5 * (18 + 2 ^ 6 * 0)))) := by rw [Nat.pow_zero, Nat.div_one, hv]; omega
  have g1 : x.toNat / 2 ^ 11 = b.toNat + 2 ^ 5 * (a.toNat + 2 ^ 5 * (d.toNat + 2 ^ 5 * (18 + 2 ^ 6 * 0))) := nxt g0 (by decide)
  have g2 : x.toNat / 2 ^ 16 = a.toNat + 2 ^ 5 * (d.toNat + 2 ^ 5 * (18 + 2 ^ 6 * 0)) := nxt g1 b.isLt
  have g3 : x.toNat / 2 ^ 21 = d.toNat + 2 ^ 5 * (18 + 2 ^ 6 * 0) := nxt g2 a.isLt
  have g4 : x.toNat / 2 ^ 26 = 18 + 2 ^ 6 * 0 := nxt g3 d.isLt
  have q0 : bits x 26 6 = 18 := dig g4 (by decide)
  have q1 : bits x 0 11 = 0 := dig g0 (by decide)
  have f0 : fld x 21 5 = d := fld_eq (dig g3 d.isLt)
  have f1 : fld x 16 5 = a := fld_eq (dig g2 a.isLt)
  have f2 : fld x 11 5 = b := fld_eq (dig g1 b.isLt)
  have hz : x.toNat ≠ 0 := ne_zero q0 (by decide)
  intro k hk
  replace hk := mem_slots2 rfl hk
  rcases hk with rfl | rfl <;> simp [hz, decodeMap, decodeVb, decodeVa, q0, q1, f0, f1, f2]

theorem vredadd (d : BitVec 5) (a : BitVec 5) (p : BitVec 3) (t : BitVec 4) : Statement (.vredadd d a p t) := by
  have h0 := d.isLt
  have h1 := a.isLt
  have h2 := p.isLt
  have h3 := t.isLt
  have hv : (syl 0x4C000000 [(d.toNat, 21), (a.toNat, 16), (p.toNat, 8), (t.toNat, 4)]).toNat = _ := toNat_syl (by simp only [sylValue]; omega)
  simp only [sylValue] at hv
  refine statement_of rfl ?_
  generalize syl 0x4C000000 [(d.toNat, 21), (a.toNat, 16), (p.toNat, 8), (t.toNat, 4)] = x at hv ⊢
  have g0 : x.toNat / 2 ^ 0 = 0 + 2 ^ 4 * (t.toNat + 2 ^ 4 * (p.toNat + 2 ^ 3 * (0 + 2 ^ 5 * (a.toNat + 2 ^ 5 * (d.toNat + 2 ^ 5 * (19 + 2 ^ 6 * 0)))))) := by rw [Nat.pow_zero, Nat.div_one, hv]; omega
  have g1 : x.toNat / 2 ^ 4 = t.toNat + 2 ^ 4 * (p.toNat + 2 ^ 3 * (0 + 2 ^ 5 * (a.toNat + 2 ^ 5 * (d.toNat + 2 ^ 5 * (19 + 2 ^ 6 * 0))))) := nxt g0 (by decide)
  have g2 : x.toNat / 2 ^ 8 = p.toNat + 2 ^ 3 * (0 + 2 ^ 5 * (a.toNat + 2 ^ 5 * (d.toNat + 2 ^ 5 * (19 + 2 ^ 6 * 0)))) := nxt g1 t.isLt
  have g3 : x.toNat / 2 ^ 11 = 0 + 2 ^ 5 * (a.toNat + 2 ^ 5 * (d.toNat + 2 ^ 5 * (19 + 2 ^ 6 * 0))) := nxt g2 p.isLt
  have g4 : x.toNat / 2 ^ 16 = a.toNat + 2 ^ 5 * (d.toNat + 2 ^ 5 * (19 + 2 ^ 6 * 0)) := nxt g3 (by decide)
  have g5 : x.toNat / 2 ^ 21 = d.toNat + 2 ^ 5 * (19 + 2 ^ 6 * 0) := nxt g4 a.isLt
  have g6 : x.toNat / 2 ^ 26 = 19 + 2 ^ 6 * 0 := nxt g5 d.isLt
  have q0 : bits x 26 6 = 19 := dig g6 (by decide)
  have q1 : bits x 11 5 = 0 := dig g3 (by decide)
  have q2 : bits x 0 4 = 0 := dig g0 (by decide)
  have f0 : fld x 21 5 = d := fld_eq (dig g5 d.isLt)
  have f1 : fld x 16 5 = a := fld_eq (dig g4 a.isLt)
  have f2 : fld x 8 3 = p := fld_eq (dig g2 p.isLt)
  have f3 : fld x 4 4 = t := fld_eq (dig g1 t.isLt)
  have hz : x.toNat ≠ 0 := ne_zero q0 (by decide)
  intro k hk
  replace hk := mem_slots2 rfl hk
  rcases hk with rfl | rfl <;> simp [hz, decodeMap, decodeVb, decodeVa, q0, q1, q2, f0, f1, f2, f3]

theorem vredmin (d : BitVec 5) (a : BitVec 5) (p : BitVec 3) (t : BitVec 4) : Statement (.vredmin d a p t) := by
  have h0 := d.isLt
  have h1 := a.isLt
  have h2 := p.isLt
  have h3 := t.isLt
  have hv : (syl 0x4C000001 [(d.toNat, 21), (a.toNat, 16), (p.toNat, 8), (t.toNat, 4)]).toNat = _ := toNat_syl (by simp only [sylValue]; omega)
  simp only [sylValue] at hv
  refine statement_of rfl ?_
  generalize syl 0x4C000001 [(d.toNat, 21), (a.toNat, 16), (p.toNat, 8), (t.toNat, 4)] = x at hv ⊢
  have g0 : x.toNat / 2 ^ 0 = 1 + 2 ^ 4 * (t.toNat + 2 ^ 4 * (p.toNat + 2 ^ 3 * (0 + 2 ^ 5 * (a.toNat + 2 ^ 5 * (d.toNat + 2 ^ 5 * (19 + 2 ^ 6 * 0)))))) := by rw [Nat.pow_zero, Nat.div_one, hv]; omega
  have g1 : x.toNat / 2 ^ 4 = t.toNat + 2 ^ 4 * (p.toNat + 2 ^ 3 * (0 + 2 ^ 5 * (a.toNat + 2 ^ 5 * (d.toNat + 2 ^ 5 * (19 + 2 ^ 6 * 0))))) := nxt g0 (by decide)
  have g2 : x.toNat / 2 ^ 8 = p.toNat + 2 ^ 3 * (0 + 2 ^ 5 * (a.toNat + 2 ^ 5 * (d.toNat + 2 ^ 5 * (19 + 2 ^ 6 * 0)))) := nxt g1 t.isLt
  have g3 : x.toNat / 2 ^ 11 = 0 + 2 ^ 5 * (a.toNat + 2 ^ 5 * (d.toNat + 2 ^ 5 * (19 + 2 ^ 6 * 0))) := nxt g2 p.isLt
  have g4 : x.toNat / 2 ^ 16 = a.toNat + 2 ^ 5 * (d.toNat + 2 ^ 5 * (19 + 2 ^ 6 * 0)) := nxt g3 (by decide)
  have g5 : x.toNat / 2 ^ 21 = d.toNat + 2 ^ 5 * (19 + 2 ^ 6 * 0) := nxt g4 a.isLt
  have g6 : x.toNat / 2 ^ 26 = 19 + 2 ^ 6 * 0 := nxt g5 d.isLt
  have q0 : bits x 26 6 = 19 := dig g6 (by decide)
  have q1 : bits x 11 5 = 0 := dig g3 (by decide)
  have q2 : bits x 0 4 = 1 := dig g0 (by decide)
  have f0 : fld x 21 5 = d := fld_eq (dig g5 d.isLt)
  have f1 : fld x 16 5 = a := fld_eq (dig g4 a.isLt)
  have f2 : fld x 8 3 = p := fld_eq (dig g2 p.isLt)
  have f3 : fld x 4 4 = t := fld_eq (dig g1 t.isLt)
  have hz : x.toNat ≠ 0 := ne_zero q0 (by decide)
  intro k hk
  replace hk := mem_slots2 rfl hk
  rcases hk with rfl | rfl <;> simp [hz, decodeMap, decodeVb, decodeVa, q0, q1, q2, f0, f1, f2, f3]

theorem vredmax (d : BitVec 5) (a : BitVec 5) (p : BitVec 3) (t : BitVec 4) : Statement (.vredmax d a p t) := by
  have h0 := d.isLt
  have h1 := a.isLt
  have h2 := p.isLt
  have h3 := t.isLt
  have hv : (syl 0x4C000002 [(d.toNat, 21), (a.toNat, 16), (p.toNat, 8), (t.toNat, 4)]).toNat = _ := toNat_syl (by simp only [sylValue]; omega)
  simp only [sylValue] at hv
  refine statement_of rfl ?_
  generalize syl 0x4C000002 [(d.toNat, 21), (a.toNat, 16), (p.toNat, 8), (t.toNat, 4)] = x at hv ⊢
  have g0 : x.toNat / 2 ^ 0 = 2 + 2 ^ 4 * (t.toNat + 2 ^ 4 * (p.toNat + 2 ^ 3 * (0 + 2 ^ 5 * (a.toNat + 2 ^ 5 * (d.toNat + 2 ^ 5 * (19 + 2 ^ 6 * 0)))))) := by rw [Nat.pow_zero, Nat.div_one, hv]; omega
  have g1 : x.toNat / 2 ^ 4 = t.toNat + 2 ^ 4 * (p.toNat + 2 ^ 3 * (0 + 2 ^ 5 * (a.toNat + 2 ^ 5 * (d.toNat + 2 ^ 5 * (19 + 2 ^ 6 * 0))))) := nxt g0 (by decide)
  have g2 : x.toNat / 2 ^ 8 = p.toNat + 2 ^ 3 * (0 + 2 ^ 5 * (a.toNat + 2 ^ 5 * (d.toNat + 2 ^ 5 * (19 + 2 ^ 6 * 0)))) := nxt g1 t.isLt
  have g3 : x.toNat / 2 ^ 11 = 0 + 2 ^ 5 * (a.toNat + 2 ^ 5 * (d.toNat + 2 ^ 5 * (19 + 2 ^ 6 * 0))) := nxt g2 p.isLt
  have g4 : x.toNat / 2 ^ 16 = a.toNat + 2 ^ 5 * (d.toNat + 2 ^ 5 * (19 + 2 ^ 6 * 0)) := nxt g3 (by decide)
  have g5 : x.toNat / 2 ^ 21 = d.toNat + 2 ^ 5 * (19 + 2 ^ 6 * 0) := nxt g4 a.isLt
  have g6 : x.toNat / 2 ^ 26 = 19 + 2 ^ 6 * 0 := nxt g5 d.isLt
  have q0 : bits x 26 6 = 19 := dig g6 (by decide)
  have q1 : bits x 11 5 = 0 := dig g3 (by decide)
  have q2 : bits x 0 4 = 2 := dig g0 (by decide)
  have f0 : fld x 21 5 = d := fld_eq (dig g5 d.isLt)
  have f1 : fld x 16 5 = a := fld_eq (dig g4 a.isLt)
  have f2 : fld x 8 3 = p := fld_eq (dig g2 p.isLt)
  have f3 : fld x 4 4 = t := fld_eq (dig g1 t.isLt)
  have hz : x.toNat ≠ 0 := ne_zero q0 (by decide)
  intro k hk
  replace hk := mem_slots2 rfl hk
  rcases hk with rfl | rfl <;> simp [hz, decodeMap, decodeVb, decodeVa, q0, q1, q2, f0, f1, f2, f3]

theorem vfredadd (d : BitVec 5) (a : BitVec 5) (p : BitVec 3) : Statement (.vfredadd d a p) := by
  have h0 := d.isLt
  have h1 := a.isLt
  have h2 := p.isLt
  have hv : (syl 0x4C000003 [(d.toNat, 21), (a.toNat, 16), (p.toNat, 8)]).toNat = _ := toNat_syl (by simp only [sylValue]; omega)
  simp only [sylValue] at hv
  refine statement_of rfl ?_
  generalize syl 0x4C000003 [(d.toNat, 21), (a.toNat, 16), (p.toNat, 8)] = x at hv ⊢
  have g0 : x.toNat / 2 ^ 0 = 3 + 2 ^ 8 * (p.toNat + 2 ^ 3 * (0 + 2 ^ 5 * (a.toNat + 2 ^ 5 * (d.toNat + 2 ^ 5 * (19 + 2 ^ 6 * 0))))) := by rw [Nat.pow_zero, Nat.div_one, hv]; omega
  have g1 : x.toNat / 2 ^ 8 = p.toNat + 2 ^ 3 * (0 + 2 ^ 5 * (a.toNat + 2 ^ 5 * (d.toNat + 2 ^ 5 * (19 + 2 ^ 6 * 0)))) := nxt g0 (by decide)
  have g2 : x.toNat / 2 ^ 11 = 0 + 2 ^ 5 * (a.toNat + 2 ^ 5 * (d.toNat + 2 ^ 5 * (19 + 2 ^ 6 * 0))) := nxt g1 p.isLt
  have g3 : x.toNat / 2 ^ 16 = a.toNat + 2 ^ 5 * (d.toNat + 2 ^ 5 * (19 + 2 ^ 6 * 0)) := nxt g2 (by decide)
  have g4 : x.toNat / 2 ^ 21 = d.toNat + 2 ^ 5 * (19 + 2 ^ 6 * 0) := nxt g3 a.isLt
  have g5 : x.toNat / 2 ^ 26 = 19 + 2 ^ 6 * 0 := nxt g4 d.isLt
  have q0 : bits x 26 6 = 19 := dig g5 (by decide)
  have q1 : bits x 11 5 = 0 := dig g2 (by decide)
  have q2 : bits x 0 4 = 3 := by simp only [bits, hv]; omega
  have q3 : bits x 0 8 = 3 := dig g0 (by decide)
  have f0 : fld x 21 5 = d := fld_eq (dig g4 d.isLt)
  have f1 : fld x 16 5 = a := fld_eq (dig g3 a.isLt)
  have f2 : fld x 8 3 = p := fld_eq (dig g1 p.isLt)
  have hz : x.toNat ≠ 0 := ne_zero q0 (by decide)
  intro k hk
  replace hk := mem_slots2 rfl hk
  rcases hk with rfl | rfl <;> simp [hz, decodeMap, decodeVb, decodeVa, q0, q1, q2, q3, f0, f1, f2]

theorem pand (d : BitVec 5) (a : BitVec 5) (b : BitVec 5) (p : BitVec 3) : Statement (.pand d a b p) := by
  have h0 := d.isLt
  have h1 := a.isLt
  have h2 := b.isLt
  have h3 := p.isLt
  have hv : (syl 0x50000000 [(d.toNat, 21), (a.toNat, 16), (b.toNat, 11), (p.toNat, 8)]).toNat = _ := toNat_syl (by simp only [sylValue]; omega)
  simp only [sylValue] at hv
  refine statement_of rfl ?_
  generalize syl 0x50000000 [(d.toNat, 21), (a.toNat, 16), (b.toNat, 11), (p.toNat, 8)] = x at hv ⊢
  have g0 : x.toNat / 2 ^ 0 = 0 + 2 ^ 8 * (p.toNat + 2 ^ 3 * (b.toNat + 2 ^ 5 * (a.toNat + 2 ^ 5 * (d.toNat + 2 ^ 5 * (20 + 2 ^ 6 * 0))))) := by rw [Nat.pow_zero, Nat.div_one, hv]; omega
  have g1 : x.toNat / 2 ^ 8 = p.toNat + 2 ^ 3 * (b.toNat + 2 ^ 5 * (a.toNat + 2 ^ 5 * (d.toNat + 2 ^ 5 * (20 + 2 ^ 6 * 0)))) := nxt g0 (by decide)
  have g2 : x.toNat / 2 ^ 11 = b.toNat + 2 ^ 5 * (a.toNat + 2 ^ 5 * (d.toNat + 2 ^ 5 * (20 + 2 ^ 6 * 0))) := nxt g1 p.isLt
  have g3 : x.toNat / 2 ^ 16 = a.toNat + 2 ^ 5 * (d.toNat + 2 ^ 5 * (20 + 2 ^ 6 * 0)) := nxt g2 b.isLt
  have g4 : x.toNat / 2 ^ 21 = d.toNat + 2 ^ 5 * (20 + 2 ^ 6 * 0) := nxt g3 a.isLt
  have g5 : x.toNat / 2 ^ 26 = 20 + 2 ^ 6 * 0 := nxt g4 d.isLt
  have q0 : bits x 26 6 = 20 := dig g5 (by decide)
  have q1 : bits x 0 8 = 0 := dig g0 (by decide)
  have f0 : fld x 21 5 = d := fld_eq (dig g4 d.isLt)
  have f1 : fld x 16 5 = a := fld_eq (dig g3 a.isLt)
  have f2 : fld x 11 5 = b := fld_eq (dig g2 b.isLt)
  have f3 : fld x 8 3 = p := fld_eq (dig g1 p.isLt)
  have hz : x.toNat ≠ 0 := ne_zero q0 (by decide)
  intro k hk
  replace hk := mem_slots2 rfl hk
  rcases hk with rfl | rfl <;> simp [hz, decodeMap, decodeVb, decodeVa, q0, q1, f0, f1, f2, f3]

theorem por (d : BitVec 5) (a : BitVec 5) (b : BitVec 5) (p : BitVec 3) : Statement (.por d a b p) := by
  have h0 := d.isLt
  have h1 := a.isLt
  have h2 := b.isLt
  have h3 := p.isLt
  have hv : (syl 0x50000001 [(d.toNat, 21), (a.toNat, 16), (b.toNat, 11), (p.toNat, 8)]).toNat = _ := toNat_syl (by simp only [sylValue]; omega)
  simp only [sylValue] at hv
  refine statement_of rfl ?_
  generalize syl 0x50000001 [(d.toNat, 21), (a.toNat, 16), (b.toNat, 11), (p.toNat, 8)] = x at hv ⊢
  have g0 : x.toNat / 2 ^ 0 = 1 + 2 ^ 8 * (p.toNat + 2 ^ 3 * (b.toNat + 2 ^ 5 * (a.toNat + 2 ^ 5 * (d.toNat + 2 ^ 5 * (20 + 2 ^ 6 * 0))))) := by rw [Nat.pow_zero, Nat.div_one, hv]; omega
  have g1 : x.toNat / 2 ^ 8 = p.toNat + 2 ^ 3 * (b.toNat + 2 ^ 5 * (a.toNat + 2 ^ 5 * (d.toNat + 2 ^ 5 * (20 + 2 ^ 6 * 0)))) := nxt g0 (by decide)
  have g2 : x.toNat / 2 ^ 11 = b.toNat + 2 ^ 5 * (a.toNat + 2 ^ 5 * (d.toNat + 2 ^ 5 * (20 + 2 ^ 6 * 0))) := nxt g1 p.isLt
  have g3 : x.toNat / 2 ^ 16 = a.toNat + 2 ^ 5 * (d.toNat + 2 ^ 5 * (20 + 2 ^ 6 * 0)) := nxt g2 b.isLt
  have g4 : x.toNat / 2 ^ 21 = d.toNat + 2 ^ 5 * (20 + 2 ^ 6 * 0) := nxt g3 a.isLt
  have g5 : x.toNat / 2 ^ 26 = 20 + 2 ^ 6 * 0 := nxt g4 d.isLt
  have q0 : bits x 26 6 = 20 := dig g5 (by decide)
  have q1 : bits x 0 8 = 1 := dig g0 (by decide)
  have f0 : fld x 21 5 = d := fld_eq (dig g4 d.isLt)
  have f1 : fld x 16 5 = a := fld_eq (dig g3 a.isLt)
  have f2 : fld x 11 5 = b := fld_eq (dig g2 b.isLt)
  have f3 : fld x 8 3 = p := fld_eq (dig g1 p.isLt)
  have hz : x.toNat ≠ 0 := ne_zero q0 (by decide)
  intro k hk
  replace hk := mem_slots2 rfl hk
  rcases hk with rfl | rfl <;> simp [hz, decodeMap, decodeVb, decodeVa, q0, q1, f0, f1, f2, f3]

theorem pxor (d : BitVec 5) (a : BitVec 5) (b : BitVec 5) (p : BitVec 3) : Statement (.pxor d a b p) := by
  have h0 := d.isLt
  have h1 := a.isLt
  have h2 := b.isLt
  have h3 := p.isLt
  have hv : (syl 0x50000002 [(d.toNat, 21), (a.toNat, 16), (b.toNat, 11), (p.toNat, 8)]).toNat = _ := toNat_syl (by simp only [sylValue]; omega)
  simp only [sylValue] at hv
  refine statement_of rfl ?_
  generalize syl 0x50000002 [(d.toNat, 21), (a.toNat, 16), (b.toNat, 11), (p.toNat, 8)] = x at hv ⊢
  have g0 : x.toNat / 2 ^ 0 = 2 + 2 ^ 8 * (p.toNat + 2 ^ 3 * (b.toNat + 2 ^ 5 * (a.toNat + 2 ^ 5 * (d.toNat + 2 ^ 5 * (20 + 2 ^ 6 * 0))))) := by rw [Nat.pow_zero, Nat.div_one, hv]; omega
  have g1 : x.toNat / 2 ^ 8 = p.toNat + 2 ^ 3 * (b.toNat + 2 ^ 5 * (a.toNat + 2 ^ 5 * (d.toNat + 2 ^ 5 * (20 + 2 ^ 6 * 0)))) := nxt g0 (by decide)
  have g2 : x.toNat / 2 ^ 11 = b.toNat + 2 ^ 5 * (a.toNat + 2 ^ 5 * (d.toNat + 2 ^ 5 * (20 + 2 ^ 6 * 0))) := nxt g1 p.isLt
  have g3 : x.toNat / 2 ^ 16 = a.toNat + 2 ^ 5 * (d.toNat + 2 ^ 5 * (20 + 2 ^ 6 * 0)) := nxt g2 b.isLt
  have g4 : x.toNat / 2 ^ 21 = d.toNat + 2 ^ 5 * (20 + 2 ^ 6 * 0) := nxt g3 a.isLt
  have g5 : x.toNat / 2 ^ 26 = 20 + 2 ^ 6 * 0 := nxt g4 d.isLt
  have q0 : bits x 26 6 = 20 := dig g5 (by decide)
  have q1 : bits x 0 8 = 2 := dig g0 (by decide)
  have f0 : fld x 21 5 = d := fld_eq (dig g4 d.isLt)
  have f1 : fld x 16 5 = a := fld_eq (dig g3 a.isLt)
  have f2 : fld x 11 5 = b := fld_eq (dig g2 b.isLt)
  have f3 : fld x 8 3 = p := fld_eq (dig g1 p.isLt)
  have hz : x.toNat ≠ 0 := ne_zero q0 (by decide)
  intro k hk
  replace hk := mem_slots2 rfl hk
  rcases hk with rfl | rfl <;> simp [hz, decodeMap, decodeVb, decodeVa, q0, q1, f0, f1, f2, f3]

theorem pnot (d : BitVec 5) (a : BitVec 5) (p : BitVec 3) : Statement (.pnot d a p) := by
  have h0 := d.isLt
  have h1 := a.isLt
  have h2 := p.isLt
  have hv : (syl 0x50000003 [(d.toNat, 21), (a.toNat, 16), (p.toNat, 8)]).toNat = _ := toNat_syl (by simp only [sylValue]; omega)
  simp only [sylValue] at hv
  refine statement_of rfl ?_
  generalize syl 0x50000003 [(d.toNat, 21), (a.toNat, 16), (p.toNat, 8)] = x at hv ⊢
  have g0 : x.toNat / 2 ^ 0 = 3 + 2 ^ 8 * (p.toNat + 2 ^ 3 * (0 + 2 ^ 5 * (a.toNat + 2 ^ 5 * (d.toNat + 2 ^ 5 * (20 + 2 ^ 6 * 0))))) := by rw [Nat.pow_zero, Nat.div_one, hv]; omega
  have g1 : x.toNat / 2 ^ 8 = p.toNat + 2 ^ 3 * (0 + 2 ^ 5 * (a.toNat + 2 ^ 5 * (d.toNat + 2 ^ 5 * (20 + 2 ^ 6 * 0)))) := nxt g0 (by decide)
  have g2 : x.toNat / 2 ^ 11 = 0 + 2 ^ 5 * (a.toNat + 2 ^ 5 * (d.toNat + 2 ^ 5 * (20 + 2 ^ 6 * 0))) := nxt g1 p.isLt
  have g3 : x.toNat / 2 ^ 16 = a.toNat + 2 ^ 5 * (d.toNat + 2 ^ 5 * (20 + 2 ^ 6 * 0)) := nxt g2 (by decide)
  have g4 : x.toNat / 2 ^ 21 = d.toNat + 2 ^ 5 * (20 + 2 ^ 6 * 0) := nxt g3 a.isLt
  have g5 : x.toNat / 2 ^ 26 = 20 + 2 ^ 6 * 0 := nxt g4 d.isLt
  have q0 : bits x 26 6 = 20 := dig g5 (by decide)
  have q1 : bits x 0 8 = 3 := dig g0 (by decide)
  have q2 : bits x 11 5 = 0 := dig g2 (by decide)
  have f0 : fld x 21 5 = d := fld_eq (dig g4 d.isLt)
  have f1 : fld x 16 5 = a := fld_eq (dig g3 a.isLt)
  have f2 : fld x 8 3 = p := fld_eq (dig g1 p.isLt)
  have hz : x.toNat ≠ 0 := ne_zero q0 (by decide)
  intro k hk
  replace hk := mem_slots2 rfl hk
  rcases hk with rfl | rfl <;> simp [hz, decodeMap, decodeVb, decodeVa, q0, q1, q2, f0, f1, f2]

theorem pset (d : BitVec 5) (p : BitVec 3) : Statement (.pset d p) := by
  have h0 := d.isLt
  have h1 := p.isLt
  have hv : (syl 0x50000004 [(d.toNat, 21), (p.toNat, 8)]).toNat = _ := toNat_syl (by simp only [sylValue]; omega)
  simp only [sylValue] at hv
  refine statement_of rfl ?_
  generalize syl 0x50000004 [(d.toNat, 21), (p.toNat, 8)] = x at hv ⊢
  have g0 : x.toNat / 2 ^ 0 = 4 + 2 ^ 8 * (p.toNat + 2 ^ 3 * (0 + 2 ^ 10 * (d.toNat + 2 ^ 5 * (20 + 2 ^ 6 * 0)))) := by rw [Nat.pow_zero, Nat.div_one, hv]; omega
  have g1 : x.toNat / 2 ^ 8 = p.toNat + 2 ^ 3 * (0 + 2 ^ 10 * (d.toNat + 2 ^ 5 * (20 + 2 ^ 6 * 0))) := nxt g0 (by decide)
  have g2 : x.toNat / 2 ^ 11 = 0 + 2 ^ 10 * (d.toNat + 2 ^ 5 * (20 + 2 ^ 6 * 0)) := nxt g1 p.isLt
  have g3 : x.toNat / 2 ^ 21 = d.toNat + 2 ^ 5 * (20 + 2 ^ 6 * 0) := nxt g2 (by decide)
  have g4 : x.toNat / 2 ^ 26 = 20 + 2 ^ 6 * 0 := nxt g3 d.isLt
  have q0 : bits x 26 6 = 20 := dig g4 (by decide)
  have q1 : bits x 0 8 = 4 := dig g0 (by decide)
  have q2 : bits x 11 5 = 0 := by simp only [bits, hv]; omega
  have q3 : bits x 11 10 = 0 := dig g2 (by decide)
  have f0 : fld x 21 5 = d := fld_eq (dig g3 d.isLt)
  have f1 : fld x 8 3 = p := fld_eq (dig g1 p.isLt)
  have hz : x.toNat ≠ 0 := ne_zero q0 (by decide)
  intro k hk
  replace hk := mem_slots2 rfl hk
  rcases hk with rfl | rfl <;> simp [hz, decodeMap, decodeVb, decodeVa, q0, q1, q2, q3, f0, f1]

theorem pclr (d : BitVec 5) (p : BitVec 3) : Statement (.pclr d p) := by
  have h0 := d.isLt
  have h1 := p.isLt
  have hv : (syl 0x50000005 [(d.toNat, 21), (p.toNat, 8)]).toNat = _ := toNat_syl (by simp only [sylValue]; omega)
  simp only [sylValue] at hv
  refine statement_of rfl ?_
  generalize syl 0x50000005 [(d.toNat, 21), (p.toNat, 8)] = x at hv ⊢
  have g0 : x.toNat / 2 ^ 0 = 5 + 2 ^ 8 * (p.toNat + 2 ^ 3 * (0 + 2 ^ 10 * (d.toNat + 2 ^ 5 * (20 + 2 ^ 6 * 0)))) := by rw [Nat.pow_zero, Nat.div_one, hv]; omega
  have g1 : x.toNat / 2 ^ 8 = p.toNat + 2 ^ 3 * (0 + 2 ^ 10 * (d.toNat + 2 ^ 5 * (20 + 2 ^ 6 * 0))) := nxt g0 (by decide)
  have g2 : x.toNat / 2 ^ 11 = 0 + 2 ^ 10 * (d.toNat + 2 ^ 5 * (20 + 2 ^ 6 * 0)) := nxt g1 p.isLt
  have g3 : x.toNat / 2 ^ 21 = d.toNat + 2 ^ 5 * (20 + 2 ^ 6 * 0) := nxt g2 (by decide)
  have g4 : x.toNat / 2 ^ 26 = 20 + 2 ^ 6 * 0 := nxt g3 d.isLt
  have q0 : bits x 26 6 = 20 := dig g4 (by decide)
  have q1 : bits x 0 8 = 5 := dig g0 (by decide)
  have q2 : bits x 11 5 = 0 := by simp only [bits, hv]; omega
  have q3 : bits x 11 10 = 0 := dig g2 (by decide)
  have f0 : fld x 21 5 = d := fld_eq (dig g3 d.isLt)
  have f1 : fld x 8 3 = p := fld_eq (dig g1 p.isLt)
  have hz : x.toNat ≠ 0 := ne_zero q0 (by decide)
  intro k hk
  replace hk := mem_slots2 rfl hk
  rcases hk with rfl | rfl <;> simp [hz, decodeMap, decodeVb, decodeVa, q0, q1, q2, q3, f0, f1]

theorem pcnt (d : BitVec 5) (a : BitVec 5) (p : BitVec 3) : Statement (.pcnt d a p) := by
  have h0 := d.isLt
  have h1 := a.isLt
  have h2 := p.isLt
  have hv : (syl 0x50000006 [(d.toNat, 21), (a.toNat, 16), (p.toNat, 8)]).toNat = _ := toNat_syl (by simp only [sylValue]; omega)
  simp only [sylValue] at hv
  refine statement_of rfl ?_
  generalize syl 0x50000006 [(d.toNat, 21), (a.toNat, 16), (p.toNat, 8)] = x at hv ⊢
  have g0 : x.toNat / 2 ^ 0 = 6 + 2 ^ 8 * (p.toNat + 2 ^ 3 * (0 + 2 ^ 5 * (a.toNat + 2 ^ 5 * (d.toNat + 2 ^ 5 * (20 + 2 ^ 6 * 0))))) := by rw [Nat.pow_zero, Nat.div_one, hv]; omega
  have g1 : x.toNat / 2 ^ 8 = p.toNat + 2 ^ 3 * (0 + 2 ^ 5 * (a.toNat + 2 ^ 5 * (d.toNat + 2 ^ 5 * (20 + 2 ^ 6 * 0)))) := nxt g0 (by decide)
  have g2 : x.toNat / 2 ^ 11 = 0 + 2 ^ 5 * (a.toNat + 2 ^ 5 * (d.toNat + 2 ^ 5 * (20 + 2 ^ 6 * 0))) := nxt g1 p.isLt
  have g3 : x.toNat / 2 ^ 16 = a.toNat + 2 ^ 5 * (d.toNat + 2 ^ 5 * (20 + 2 ^ 6 * 0)) := nxt g2 (by decide)
  have g4 : x.toNat / 2 ^ 21 = d.toNat + 2 ^ 5 * (20 + 2 ^ 6 * 0) := nxt g3 a.isLt
  have g5 : x.toNat / 2 ^ 26 = 20 + 2 ^ 6 * 0 := nxt g4 d.isLt
  have q0 : bits x 26 6 = 20 := dig g5 (by decide)
  have q1 : bits x 0 8 = 6 := dig g0 (by decide)
  have q2 : bits x 11 5 = 0 := dig g2 (by decide)
  have f0 : fld x 21 5 = d := fld_eq (dig g4 d.isLt)
  have f1 : fld x 16 5 = a := fld_eq (dig g3 a.isLt)
  have f2 : fld x 8 3 = p := fld_eq (dig g1 p.isLt)
  have hz : x.toNat ≠ 0 := ne_zero q0 (by decide)
  intro k hk
  replace hk := mem_slots2 rfl hk
  rcases hk with rfl | rfl <;> simp [hz, decodeMap, decodeVb, decodeVa, q0, q1, q2, f0, f1, f2]

theorem pfirst (d : BitVec 5) (a : BitVec 5) (p : BitVec 3) : Statement (.pfirst d a p) := by
  have h0 := d.isLt
  have h1 := a.isLt
  have h2 := p.isLt
  have hv : (syl 0x50000007 [(d.toNat, 21), (a.toNat, 16), (p.toNat, 8)]).toNat = _ := toNat_syl (by simp only [sylValue]; omega)
  simp only [sylValue] at hv
  refine statement_of rfl ?_
  generalize syl 0x50000007 [(d.toNat, 21), (a.toNat, 16), (p.toNat, 8)] = x at hv ⊢
  have g0 : x.toNat / 2 ^ 0 = 7 + 2 ^ 8 * (p.toNat + 2 ^ 3 * (0 + 2 ^ 5 * (a.toNat + 2 ^ 5 * (d.toNat + 2 ^ 5 * (20 + 2 ^ 6 * 0))))) := by rw [Nat.pow_zero, Nat.div_one, hv]; omega
  have g1 : x.toNat / 2 ^ 8 = p.toNat + 2 ^ 3 * (0 + 2 ^ 5 * (a.toNat + 2 ^ 5 * (d.toNat + 2 ^ 5 * (20 + 2 ^ 6 * 0)))) := nxt g0 (by decide)
  have g2 : x.toNat / 2 ^ 11 = 0 + 2 ^ 5 * (a.toNat + 2 ^ 5 * (d.toNat + 2 ^ 5 * (20 + 2 ^ 6 * 0))) := nxt g1 p.isLt
  have g3 : x.toNat / 2 ^ 16 = a.toNat + 2 ^ 5 * (d.toNat + 2 ^ 5 * (20 + 2 ^ 6 * 0)) := nxt g2 (by decide)
  have g4 : x.toNat / 2 ^ 21 = d.toNat + 2 ^ 5 * (20 + 2 ^ 6 * 0) := nxt g3 a.isLt
  have g5 : x.toNat / 2 ^ 26 = 20 + 2 ^ 6 * 0 := nxt g4 d.isLt
  have q0 : bits x 26 6 = 20 := dig g5 (by decide)
  have q1 : bits x 0 8 = 7 := dig g0 (by decide)
  have q2 : bits x 11 5 = 0 := dig g2 (by decide)
  have f0 : fld x 21 5 = d := fld_eq (dig g4 d.isLt)
  have f1 : fld x 16 5 = a := fld_eq (dig g3 a.isLt)
  have f2 : fld x 8 3 = p := fld_eq (dig g1 p.isLt)
  have hz : x.toNat ≠ 0 := ne_zero q0 (by decide)
  intro k hk
  replace hk := mem_slots2 rfl hk
  rcases hk with rfl | rfl <;> simp [hz, decodeMap, decodeVb, decodeVa, q0, q1, q2, f0, f1, f2]

theorem vsig (d : BitVec 5) (a : BitVec 5) (p : BitVec 3) : Statement (.vsig d a p) := by
  have h0 := d.isLt
  have h1 := a.isLt
  have h2 := p.isLt
  have hv : (syl 0x54000000 [(d.toNat, 21), (a.toNat, 16), (p.toNat, 8)]).toNat = _ := toNat_syl (by simp only [sylValue]; omega)
  simp only [sylValue] at hv
  refine statement_of rfl ?_
  generalize syl 0x54000000 [(d.toNat, 21), (a.toNat, 16), (p.toNat, 8)] = x at hv ⊢
  have g0 : x.toNat / 2 ^ 0 = 0 + 2 ^ 8 * (p.toNat + 2 ^ 3 * (0 + 2 ^ 5 * (a.toNat + 2 ^ 5 * (d.toNat + 2 ^ 5 * (21 + 2 ^ 6 * 0))))) := by rw [Nat.pow_zero, Nat.div_one, hv]; omega
  have g1 : x.toNat / 2 ^ 8 = p.toNat + 2 ^ 3 * (0 + 2 ^ 5 * (a.toNat + 2 ^ 5 * (d.toNat + 2 ^ 5 * (21 + 2 ^ 6 * 0)))) := nxt g0 (by decide)
  have g2 : x.toNat / 2 ^ 11 = 0 + 2 ^ 5 * (a.toNat + 2 ^ 5 * (d.toNat + 2 ^ 5 * (21 + 2 ^ 6 * 0))) := nxt g1 p.isLt
  have g3 : x.toNat / 2 ^ 16 = a.toNat + 2 ^ 5 * (d.toNat + 2 ^ 5 * (21 + 2 ^ 6 * 0)) := nxt g2 (by decide)
  have g4 : x.toNat / 2 ^ 21 = d.toNat + 2 ^ 5 * (21 + 2 ^ 6 * 0) := nxt g3 a.isLt
  have g5 : x.toNat / 2 ^ 26 = 21 + 2 ^ 6 * 0 := nxt g4 d.isLt
  have q0 : bits x 26 6 = 21 := dig g5 (by decide)
  have q1 : bits x 11 5 = 0 := dig g2 (by decide)
  have q2 : bits x 0 8 = 0 := dig g0 (by decide)
  have f0 : fld x 21 5 = d := fld_eq (dig g4 d.isLt)
  have f1 : fld x 16 5 = a := fld_eq (dig g3 a.isLt)
  have f2 : fld x 8 3 = p := fld_eq (dig g1 p.isLt)
  have hz : x.toNat ≠ 0 := ne_zero q0 (by decide)
  intro k hk
  replace hk := mem_slots2 rfl hk
  rcases hk with rfl | rfl <;> simp [hz, decodeMap, decodeVb, decodeVa, q0, q1, q2, f0, f1, f2]

theorem vsigset (d : BitVec 5) (a : BitVec 5) (n : BitVec 5) (p : BitVec 3) (t : BitVec 4) : Statement (.vsigset d a n p t) := by
  have h0 := d.isLt
  have h1 := a.isLt
  have h2 := n.isLt
  have h3 := p.isLt
  have h4 := t.isLt
  have hv : (syl 0x54000001 [(d.toNat, 21), (a.toNat, 16), (n.toNat, 11), (p.toNat, 8), (t.toNat, 4)]).toNat = _ := toNat_syl (by simp only [sylValue]; omega)
  simp only [sylValue] at hv
  refine statement_of rfl ?_
  generalize syl 0x54000001 [(d.toNat, 21), (a.toNat, 16), (n.toNat, 11), (p.toNat, 8), (t.toNat, 4)] = x at hv ⊢
  have g0 : x.toNat / 2 ^ 0 = 1 + 2 ^ 4 * (t.toNat + 2 ^ 4 * (p.toNat + 2 ^ 3 * (n.toNat + 2 ^ 5 * (a.toNat + 2 ^ 5 * (d.toNat + 2 ^ 5 * (21 + 2 ^ 6 * 0)))))) := by rw [Nat.pow_zero, Nat.div_one, hv]; omega
  have g1 : x.toNat / 2 ^ 4 = t.toNat + 2 ^ 4 * (p.toNat + 2 ^ 3 * (n.toNat + 2 ^ 5 * (a.toNat + 2 ^ 5 * (d.toNat + 2 ^ 5 * (21 + 2 ^ 6 * 0))))) := nxt g0 (by decide)
  have g2 : x.toNat / 2 ^ 8 = p.toNat + 2 ^ 3 * (n.toNat + 2 ^ 5 * (a.toNat + 2 ^ 5 * (d.toNat + 2 ^ 5 * (21 + 2 ^ 6 * 0)))) := nxt g1 t.isLt
  have g3 : x.toNat / 2 ^ 11 = n.toNat + 2 ^ 5 * (a.toNat + 2 ^ 5 * (d.toNat + 2 ^ 5 * (21 + 2 ^ 6 * 0))) := nxt g2 p.isLt
  have g4 : x.toNat / 2 ^ 16 = a.toNat + 2 ^ 5 * (d.toNat + 2 ^ 5 * (21 + 2 ^ 6 * 0)) := nxt g3 n.isLt
  have g5 : x.toNat / 2 ^ 21 = d.toNat + 2 ^ 5 * (21 + 2 ^ 6 * 0) := nxt g4 a.isLt
  have g6 : x.toNat / 2 ^ 26 = 21 + 2 ^ 6 * 0 := nxt g5 d.isLt
  have q0 : bits x 26 6 = 21 := dig g6 (by decide)
  have q1 : bits x 0 8 ≠ 0 := by simp only [bits, hv]; omega
  have q2 : bits x 0 4 = 1 := dig g0 (by decide)
  have f0 : fld x 21 5 = d := fld_eq (dig g5 d.isLt)
  have f1 : fld x 16 5 = a := fld_eq (dig g4 a.isLt)
  have f2 : fld x 11 5 = n := fld_eq (dig g3 n.isLt)
  have f3 : fld x 8 3 = p := fld_eq (dig g2 p.isLt)
  have f4 : fld x 4 4 = t := fld_eq (dig g1 t.isLt)
  have hz : x.toNat ≠ 0 := ne_zero q0 (by decide)
  intro k hk
  replace hk := mem_slots2 rfl hk
  rcases hk with rfl | rfl <;> simp [hz, decodeMap, decodeVb, decodeVa, q0, q1, q2, f0, f1, f2, f3, f4]

theorem vsiglt (d : BitVec 5) (a : BitVec 5) (n : BitVec 5) (p : BitVec 3) : Statement (.vsiglt d a n p) := by
  have h0 := d.isLt
  have h1 := a.isLt
  have h2 := n.isLt
  have h3 := p.isLt
  have hv : (syl 0x54000002 [(d.toNat, 21), (a.toNat, 16), (n.toNat, 11), (p.toNat, 8)]).toNat = _ := toNat_syl (by simp only [sylValue]; omega)
  simp only [sylValue] at hv
  refine statement_of rfl ?_
  generalize syl 0x54000002 [(d.toNat, 21), (a.toNat, 16), (n.toNat, 11), (p.toNat, 8)] = x at hv ⊢
  have g0 : x.toNat / 2 ^ 0 = 2 + 2 ^ 8 * (p.toNat + 2 ^ 3 * (n.toNat + 2 ^ 5 * (a.toNat + 2 ^ 5 * (d.toNat + 2 ^ 5 * (21 + 2 ^ 6 * 0))))) := by rw [Nat.pow_zero, Nat.div_one, hv]; omega
  have g1 : x.toNat / 2 ^ 8 = p.toNat + 2 ^ 3 * (n.toNat + 2 ^ 5 * (a.toNat + 2 ^ 5 * (d.toNat + 2 ^ 5 * (21 + 2 ^ 6 * 0)))) := nxt g0 (by decide)
  have g2 : x.toNat / 2 ^ 11 = n.toNat + 2 ^ 5 * (a.toNat + 2 ^ 5 * (d.toNat + 2 ^ 5 * (21 + 2 ^ 6 * 0))) := nxt g1 p.isLt
  have g3 : x.toNat / 2 ^ 16 = a.toNat + 2 ^ 5 * (d.toNat + 2 ^ 5 * (21 + 2 ^ 6 * 0)) := nxt g2 n.isLt
  have g4 : x.toNat / 2 ^ 21 = d.toNat + 2 ^ 5 * (21 + 2 ^ 6 * 0) := nxt g3 a.isLt
  have g5 : x.toNat / 2 ^ 26 = 21 + 2 ^ 6 * 0 := nxt g4 d.isLt
  have q0 : bits x 26 6 = 21 := dig g5 (by decide)
  have q1 : bits x 0 8 = 2 := dig g0 (by decide)
  have q2 : bits x 0 4 = 2 := by simp only [bits, hv]; omega
  have f0 : fld x 21 5 = d := fld_eq (dig g4 d.isLt)
  have f1 : fld x 16 5 = a := fld_eq (dig g3 a.isLt)
  have f2 : fld x 11 5 = n := fld_eq (dig g2 n.isLt)
  have f3 : fld x 8 3 = p := fld_eq (dig g1 p.isLt)
  have hz : x.toNat ≠ 0 := ne_zero q0 (by decide)
  intro k hk
  replace hk := mem_slots2 rfl hk
  rcases hk with rfl | rfl <;> simp [hz, decodeMap, decodeVb, decodeVa, q0, q1, q2, f0, f1, f2, f3]

theorem sigmin (d : BitVec 5) (a : BitVec 5) (p : BitVec 3) : Statement (.sigmin d a p) := by
  have h0 := d.isLt
  have h1 := a.isLt
  have h2 := p.isLt
  have hv : (syl 0x54000003 [(d.toNat, 21), (a.toNat, 16), (p.toNat, 8)]).toNat = _ := toNat_syl (by simp only [sylValue]; omega)
  simp only [sylValue] at hv
  refine statement_of rfl ?_
  generalize syl 0x54000003 [(d.toNat, 21), (a.toNat, 16), (p.toNat, 8)] = x at hv ⊢
  have g0 : x.toNat / 2 ^ 0 = 3 + 2 ^ 8 * (p.toNat + 2 ^ 3 * (0 + 2 ^ 5 * (a.toNat + 2 ^ 5 * (d.toNat + 2 ^ 5 * (21 + 2 ^ 6 * 0))))) := by rw [Nat.pow_zero, Nat.div_one, hv]; omega
  have g1 : x.toNat / 2 ^ 8 = p.toNat + 2 ^ 3 * (0 + 2 ^ 5 * (a.toNat + 2 ^ 5 * (d.toNat + 2 ^ 5 * (21 + 2 ^ 6 * 0)))) := nxt g0 (by decide)
  have g2 : x.toNat / 2 ^ 11 = 0 + 2 ^ 5 * (a.toNat + 2 ^ 5 * (d.toNat + 2 ^ 5 * (21 + 2 ^ 6 * 0))) := nxt g1 p.isLt
  have g3 : x.toNat / 2 ^ 16 = a.toNat + 2 ^ 5 * (d.toNat + 2 ^ 5 * (21 + 2 ^ 6 * 0)) := nxt g2 (by decide)
  have g4 : x.toNat / 2 ^ 21 = d.toNat + 2 ^ 5 * (21 + 2 ^ 6 * 0) := nxt g3 a.isLt
  have g5 : x.toNat / 2 ^ 26 = 21 + 2 ^ 6 * 0 := nxt g4 d.isLt
  have q0 : bits x 26 6 = 21 := dig g5 (by decide)
  have q1 : bits x 11 5 = 0 := dig g2 (by decide)
  have q2 : bits x 0 8 = 3 := dig g0 (by decide)
  have q3 : bits x 0 4 = 3 := by simp only [bits, hv]; omega
  have f0 : fld x 21 5 = d := fld_eq (dig g4 d.isLt)
  have f1 : fld x 16 5 = a := fld_eq (dig g3 a.isLt)
  have f2 : fld x 8 3 = p := fld_eq (dig g1 p.isLt)
  have hz : x.toNat ≠ 0 := ne_zero q0 (by decide)
  intro k hk
  replace hk := mem_slots2 rfl hk
  rcases hk with rfl | rfl <;> simp [hz, decodeMap, decodeVb, decodeVa, q0, q1, q2, q3, f0, f1, f2]

theorem vzmask (d : BitVec 5) (a : BitVec 5) (p : BitVec 3) : Statement (.vzmask d a p) := by
  have h0 := d.isLt
  have h1 := a.isLt
  have h2 := p.isLt
  have hv : (syl 0x54000004 [(d.toNat, 21), (a.toNat, 16), (p.toNat, 8)]).toNat = _ := toNat_syl (by simp only [sylValue]; omega)
  simp only [sylValue] at hv
  refine statement_of rfl ?_
  generalize syl 0x54000004 [(d.toNat, 21), (a.toNat, 16), (p.toNat, 8)] = x at hv ⊢
  have g0 : x.toNat / 2 ^ 0 = 4 + 2 ^ 8 * (p.toNat + 2 ^ 3 * (0 + 2 ^ 5 * (a.toNat + 2 ^ 5 * (d.toNat + 2 ^ 5 * (21 + 2 ^ 6 * 0))))) := by rw [Nat.pow_zero, Nat.div_one, hv]; omega
  have g1 : x.toNat / 2 ^ 8 = p.toNat + 2 ^ 3 * (0 + 2 ^ 5 * (a.toNat + 2 ^ 5 * (d.toNat + 2 ^ 5 * (21 + 2 ^ 6 * 0)))) := nxt g0 (by decide)
  have g2 : x.toNat / 2 ^ 11 = 0 + 2 ^ 5 * (a.toNat + 2 ^ 5 * (d.toNat + 2 ^ 5 * (21 + 2 ^ 6 * 0))) := nxt g1 p.isLt
  have g3 : x.toNat / 2 ^ 16 = a.toNat + 2 ^ 5 * (d.toNat + 2 ^ 5 * (21 + 2 ^ 6 * 0)) := nxt g2 (by decide)
  have g4 : x.toNat / 2 ^ 21 = d.toNat + 2 ^ 5 * (21 + 2 ^ 6 * 0) := nxt g3 a.isLt
  have g5 : x.toNat / 2 ^ 26 = 21 + 2 ^ 6 * 0 := nxt g4 d.isLt
  have q0 : bits x 26 6 = 21 := dig g5 (by decide)
  have q1 : bits x 11 5 = 0 := dig g2 (by decide)
  have q2 : bits x 0 8 = 4 := dig g0 (by decide)
  have q3 : bits x 0 4 = 4 := by simp only [bits, hv]; omega
  have f0 : fld x 21 5 = d := fld_eq (dig g4 d.isLt)
  have f1 : fld x 16 5 = a := fld_eq (dig g3 a.isLt)
  have f2 : fld x 8 3 = p := fld_eq (dig g1 p.isLt)
  have hz : x.toNat ≠ 0 := ne_zero q0 (by decide)
  intro k hk
  replace hk := mem_slots2 rfl hk
  rcases hk with rfl | rfl <;> simp [hz, decodeMap, decodeVb, decodeVa, q0, q1, q2, q3, f0, f1, f2]

theorem vsigCv (d : BitVec 5) (a : BitVec 5) (p : BitVec 3) : Statement (.vsigCv d a p) := by
  have h0 := d.isLt
  have h1 := a.isLt
  have h2 := p.isLt
  have hv : (syl 0x18000000 [(d.toNat, 21), (a.toNat, 16), (p.toNat, 8)]).toNat = _ := toNat_syl (by simp only [sylValue]; omega)
  simp only [sylValue] at hv
  refine statement_of rfl ?_
  generalize syl 0x18000000 [(d.toNat, 21), (a.toNat, 16), (p.toNat, 8)] = x at hv ⊢
  have g0 : x.toNat / 2 ^ 0 = 0 + 2 ^ 8 * (p.toNat + 2 ^ 3 * (0 + 2 ^ 5 * (a.toNat + 2 ^ 5 * (d.toNat + 2 ^ 5 * (6 + 2 ^ 6 * 0))))) := by rw [Nat.pow_zero, Nat.div_one, hv]; omega
  have g1 : x.toNat / 2 ^ 8 = p.toNat + 2 ^ 3 * (0 + 2 ^ 5 * (a.toNat + 2 ^ 5 * (d.toNat + 2 ^ 5 * (6 + 2 ^ 6 * 0)))) := nxt g0 (by decide)
  have g2 : x.toNat / 2 ^ 11 = 0 + 2 ^ 5 * (a.toNat + 2 ^ 5 * (d.toNat + 2 ^ 5 * (6 + 2 ^ 6 * 0))) := nxt g1 p.isLt
  have g3 : x.toNat / 2 ^ 16 = a.toNat + 2 ^ 5 * (d.toNat + 2 ^ 5 * (6 + 2 ^ 6 * 0)) := nxt g2 (by decide)
  have g4 : x.toNat / 2 ^ 21 = d.toNat + 2 ^ 5 * (6 + 2 ^ 6 * 0) := nxt g3 a.isLt
  have g5 : x.toNat / 2 ^ 26 = 6 + 2 ^ 6 * 0 := nxt g4 d.isLt
  have q0 : bits x 26 6 = 6 := dig g5 (by decide)
  have q1 : bits x 11 5 = 0 := dig g2 (by decide)
  have q2 : bits x 0 8 = 0 := dig g0 (by decide)
  have f0 : fld x 21 5 = d := fld_eq (dig g4 d.isLt)
  have f1 : fld x 16 5 = a := fld_eq (dig g3 a.isLt)
  have f2 : fld x 8 3 = p := fld_eq (dig g1 p.isLt)
  have hz : x.toNat ≠ 0 := ne_zero q0 (by decide)
  intro k hk
  replace hk := mem_slots1 rfl hk
  subst hk; simp [hz, decodeMap, decodeCv, q0, q1, q2, f0, f1, f2]

theorem vsigsetCv (d : BitVec 5) (a : BitVec 5) (n : BitVec 5) (p : BitVec 3) (t : BitVec 4) : Statement (.vsigsetCv d a n p t) := by
  have h0 := d.isLt
  have h1 := a.isLt
  have h2 := n.isLt
  have h3 := p.isLt
  have h4 := t.isLt
  have hv : (syl 0x18000001 [(d.toNat, 21), (a.toNat, 16), (n.toNat, 11), (p.toNat, 8), (t.toNat, 4)]).toNat = _ := toNat_syl (by simp only [sylValue]; omega)
  simp only [sylValue] at hv
  refine statement_of rfl ?_
  generalize syl 0x18000001 [(d.toNat, 21), (a.toNat, 16), (n.toNat, 11), (p.toNat, 8), (t.toNat, 4)] = x at hv ⊢
  have g0 : x.toNat / 2 ^ 0 = 1 + 2 ^ 4 * (t.toNat + 2 ^ 4 * (p.toNat + 2 ^ 3 * (n.toNat + 2 ^ 5 * (a.toNat + 2 ^ 5 * (d.toNat + 2 ^ 5 * (6 + 2 ^ 6 * 0)))))) := by rw [Nat.pow_zero, Nat.div_one, hv]; omega
  have g1 : x.toNat / 2 ^ 4 = t.toNat + 2 ^ 4 * (p.toNat + 2 ^ 3 * (n.toNat + 2 ^ 5 * (a.toNat + 2 ^ 5 * (d.toNat + 2 ^ 5 * (6 + 2 ^ 6 * 0))))) := nxt g0 (by decide)
  have g2 : x.toNat / 2 ^ 8 = p.toNat + 2 ^ 3 * (n.toNat + 2 ^ 5 * (a.toNat + 2 ^ 5 * (d.toNat + 2 ^ 5 * (6 + 2 ^ 6 * 0)))) := nxt g1 t.isLt
  have g3 : x.toNat / 2 ^ 11 = n.toNat + 2 ^ 5 * (a.toNat + 2 ^ 5 * (d.toNat + 2 ^ 5 * (6 + 2 ^ 6 * 0))) := nxt g2 p.isLt
  have g4 : x.toNat / 2 ^ 16 = a.toNat + 2 ^ 5 * (d.toNat + 2 ^ 5 * (6 + 2 ^ 6 * 0)) := nxt g3 n.isLt
  have g5 : x.toNat / 2 ^ 21 = d.toNat + 2 ^ 5 * (6 + 2 ^ 6 * 0) := nxt g4 a.isLt
  have g6 : x.toNat / 2 ^ 26 = 6 + 2 ^ 6 * 0 := nxt g5 d.isLt
  have q0 : bits x 26 6 = 6 := dig g6 (by decide)
  have q1 : bits x 0 8 ≠ 0 := by simp only [bits, hv]; omega
  have q2 : bits x 0 4 = 1 := dig g0 (by decide)
  have f0 : fld x 21 5 = d := fld_eq (dig g5 d.isLt)
  have f1 : fld x 16 5 = a := fld_eq (dig g4 a.isLt)
  have f2 : fld x 11 5 = n := fld_eq (dig g3 n.isLt)
  have f3 : fld x 8 3 = p := fld_eq (dig g2 p.isLt)
  have f4 : fld x 4 4 = t := fld_eq (dig g1 t.isLt)
  have hz : x.toNat ≠ 0 := ne_zero q0 (by decide)
  intro k hk
  replace hk := mem_slots1 rfl hk
  subst hk; simp [hz, decodeMap, decodeCv, q0, q1, q2, f0, f1, f2, f3, f4]

theorem vsigltCv (d : BitVec 5) (a : BitVec 5) (n : BitVec 5) (p : BitVec 3) : Statement (.vsigltCv d a n p) := by
  have h0 := d.isLt
  have h1 := a.isLt
  have h2 := n.isLt
  have h3 := p.isLt
  have hv : (syl 0x18000002 [(d.toNat, 21), (a.toNat, 16), (n.toNat, 11), (p.toNat, 8)]).toNat = _ := toNat_syl (by simp only [sylValue]; omega)
  simp only [sylValue] at hv
  refine statement_of rfl ?_
  generalize syl 0x18000002 [(d.toNat, 21), (a.toNat, 16), (n.toNat, 11), (p.toNat, 8)] = x at hv ⊢
  have g0 : x.toNat / 2 ^ 0 = 2 + 2 ^ 8 * (p.toNat + 2 ^ 3 * (n.toNat + 2 ^ 5 * (a.toNat + 2 ^ 5 * (d.toNat + 2 ^ 5 * (6 + 2 ^ 6 * 0))))) := by rw [Nat.pow_zero, Nat.div_one, hv]; omega
  have g1 : x.toNat / 2 ^ 8 = p.toNat + 2 ^ 3 * (n.toNat + 2 ^ 5 * (a.toNat + 2 ^ 5 * (d.toNat + 2 ^ 5 * (6 + 2 ^ 6 * 0)))) := nxt g0 (by decide)
  have g2 : x.toNat / 2 ^ 11 = n.toNat + 2 ^ 5 * (a.toNat + 2 ^ 5 * (d.toNat + 2 ^ 5 * (6 + 2 ^ 6 * 0))) := nxt g1 p.isLt
  have g3 : x.toNat / 2 ^ 16 = a.toNat + 2 ^ 5 * (d.toNat + 2 ^ 5 * (6 + 2 ^ 6 * 0)) := nxt g2 n.isLt
  have g4 : x.toNat / 2 ^ 21 = d.toNat + 2 ^ 5 * (6 + 2 ^ 6 * 0) := nxt g3 a.isLt
  have g5 : x.toNat / 2 ^ 26 = 6 + 2 ^ 6 * 0 := nxt g4 d.isLt
  have q0 : bits x 26 6 = 6 := dig g5 (by decide)
  have q1 : bits x 0 8 = 2 := dig g0 (by decide)
  have q2 : bits x 0 4 = 2 := by simp only [bits, hv]; omega
  have f0 : fld x 21 5 = d := fld_eq (dig g4 d.isLt)
  have f1 : fld x 16 5 = a := fld_eq (dig g3 a.isLt)
  have f2 : fld x 11 5 = n := fld_eq (dig g2 n.isLt)
  have f3 : fld x 8 3 = p := fld_eq (dig g1 p.isLt)
  have hz : x.toNat ≠ 0 := ne_zero q0 (by decide)
  intro k hk
  replace hk := mem_slots1 rfl hk
  subst hk; simp [hz, decodeMap, decodeCv, q0, q1, q2, f0, f1, f2, f3]

theorem sigminCv (d : BitVec 5) (a : BitVec 5) (p : BitVec 3) : Statement (.sigminCv d a p) := by
  have h0 := d.isLt
  have h1 := a.isLt
  have h2 := p.isLt
  have hv : (syl 0x18000003 [(d.toNat, 21), (a.toNat, 16), (p.toNat, 8)]).toNat = _ := toNat_syl (by simp only [sylValue]; omega)
  simp only [sylValue] at hv
  refine statement_of rfl ?_
  generalize syl 0x18000003 [(d.toNat, 21), (a.toNat, 16), (p.toNat, 8)] = x at hv ⊢
  have g0 : x.toNat / 2 ^ 0 = 3 + 2 ^ 8 * (p.toNat + 2 ^ 3 * (0 + 2 ^ 5 * (a.toNat + 2 ^ 5 * (d.toNat + 2 ^ 5 * (6 + 2 ^ 6 * 0))))) := by rw [Nat.pow_zero, Nat.div_one, hv]; omega
  have g1 : x.toNat / 2 ^ 8 = p.toNat + 2 ^ 3 * (0 + 2 ^ 5 * (a.toNat + 2 ^ 5 * (d.toNat + 2 ^ 5 * (6 + 2 ^ 6 * 0)))) := nxt g0 (by decide)
  have g2 : x.toNat / 2 ^ 11 = 0 + 2 ^ 5 * (a.toNat + 2 ^ 5 * (d.toNat + 2 ^ 5 * (6 + 2 ^ 6 * 0))) := nxt g1 p.isLt
  have g3 : x.toNat / 2 ^ 16 = a.toNat + 2 ^ 5 * (d.toNat + 2 ^ 5 * (6 + 2 ^ 6 * 0)) := nxt g2 (by decide)
  have g4 : x.toNat / 2 ^ 21 = d.toNat + 2 ^ 5 * (6 + 2 ^ 6 * 0) := nxt g3 a.isLt
  have g5 : x.toNat / 2 ^ 26 = 6 + 2 ^ 6 * 0 := nxt g4 d.isLt
  have q0 : bits x 26 6 = 6 := dig g5 (by decide)
  have q1 : bits x 11 5 = 0 := dig g2 (by decide)
  have q2 : bits x 0 8 = 3 := dig g0 (by decide)
  have q3 : bits x 0 4 = 3 := by simp only [bits, hv]; omega
  have f0 : fld x 21 5 = d := fld_eq (dig g4 d.isLt)
  have f1 : fld x 16 5 = a := fld_eq (dig g3 a.isLt)
  have f2 : fld x 8 3 = p := fld_eq (dig g1 p.isLt)
  have hz : x.toNat ≠ 0 := ne_zero q0 (by decide)
  intro k hk
  replace hk := mem_slots1 rfl hk
  subst hk; simp [hz, decodeMap, decodeCv, q0, q1, q2, q3, f0, f1, f2]

theorem vzmaskCv (d : BitVec 5) (a : BitVec 5) (p : BitVec 3) : Statement (.vzmaskCv d a p) := by
  have h0 := d.isLt
  have h1 := a.isLt
  have h2 := p.isLt
  have hv : (syl 0x18000004 [(d.toNat, 21), (a.toNat, 16), (p.toNat, 8)]).toNat = _ := toNat_syl (by simp only [sylValue]; omega)
  simp only [sylValue] at hv
  refine statement_of rfl ?_
  generalize syl 0x18000004 [(d.toNat, 21), (a.toNat, 16), (p.toNat, 8)] = x at hv ⊢
  have g0 : x.toNat / 2 ^ 0 = 4 + 2 ^ 8 * (p.toNat + 2 ^ 3 * (0 + 2 ^ 5 * (a.toNat + 2 ^ 5 * (d.toNat + 2 ^ 5 * (6 + 2 ^ 6 * 0))))) := by rw [Nat.pow_zero, Nat.div_one, hv]; omega
  have g1 : x.toNat / 2 ^ 8 = p.toNat + 2 ^ 3 * (0 + 2 ^ 5 * (a.toNat + 2 ^ 5 * (d.toNat + 2 ^ 5 * (6 + 2 ^ 6 * 0)))) := nxt g0 (by decide)
  have g2 : x.toNat / 2 ^ 11 = 0 + 2 ^ 5 * (a.toNat + 2 ^ 5 * (d.toNat + 2 ^ 5 * (6 + 2 ^ 6 * 0))) := nxt g1 p.isLt
  have g3 : x.toNat / 2 ^ 16 = a.toNat + 2 ^ 5 * (d.toNat + 2 ^ 5 * (6 + 2 ^ 6 * 0)) := nxt g2 (by decide)
  have g4 : x.toNat / 2 ^ 21 = d.toNat + 2 ^ 5 * (6 + 2 ^ 6 * 0) := nxt g3 a.isLt
  have g5 : x.toNat / 2 ^ 26 = 6 + 2 ^ 6 * 0 := nxt g4 d.isLt
  have q0 : bits x 26 6 = 6 := dig g5 (by decide)
  have q1 : bits x 11 5 = 0 := dig g2 (by decide)
  have q2 : bits x 0 8 = 4 := dig g0 (by decide)
  have q3 : bits x 0 4 = 4 := by simp only [bits, hv]; omega
  have f0 : fld x 21 5 = d := fld_eq (dig g4 d.isLt)
  have f1 : fld x 16 5 = a := fld_eq (dig g3 a.isLt)
  have f2 : fld x 8 3 = p := fld_eq (dig g1 p.isLt)
  have hz : x.toNat ≠ 0 := ne_zero q0 (by decide)
  intro k hk
  replace hk := mem_slots1 rfl hk
  subst hk; simp [hz, decodeMap, decodeCv, q0, q1, q2, q3, f0, f1, f2]

theorem vcvt (d : BitVec 5) (a : BitVec 5) (s : BitVec 4) (p : BitVec 3) (t : BitVec 4) (r : BitVec 4) : Statement (.vcvt d a s p t r) := by
  have h0 := d.isLt
  have h1 := a.isLt
  have h2 := s.isLt
  have h3 := p.isLt
  have h4 := t.isLt
  have h5 := r.isLt
  have hv : (syl 0x04000000 [(d.toNat, 21), (a.toNat, 16), (s.toNat, 11), (p.toNat, 8), (t.toNat, 4), (r.toNat, 0)]).toNat = _ := toNat_syl (by simp only [sylValue]; omega)
  simp only [sylValue] at hv
  refine statement_of rfl ?_
  generalize syl 0x04000000 [(d.toNat, 21), (a.toNat, 16), (s.toNat, 11), (p.toNat, 8), (t.toNat, 4), (r.toNat, 0)] = x at hv ⊢
  have g0 : x.toNat / 2 ^ 0 = r.toNat + 2 ^ 4 * (t.toNat + 2 ^ 4 * (p.toNat + 2 ^ 3 * (s.toNat + 2 ^ 4 * (0 + 2 ^ 1 * (a.toNat + 2 ^ 5 * (d.toNat + 2 ^ 5 * (1 + 2 ^ 6 * 0))))))) := by rw [Nat.pow_zero, Nat.div_one, hv]; omega
  have g1 : x.toNat / 2 ^ 4 = t.toNat + 2 ^ 4 * (p.toNat + 2 ^ 3 * (s.toNat + 2 ^ 4 * (0 + 2 ^ 1 * (a.toNat + 2 ^ 5 * (d.toNat + 2 ^ 5 * (1 + 2 ^ 6 * 0)))))) := nxt g0 r.isLt
  have g2 : x.toNat / 2 ^ 8 = p.toNat + 2 ^ 3 * (s.toNat + 2 ^ 4 * (0 + 2 ^ 1 * (a.toNat + 2 ^ 5 * (d.toNat + 2 ^ 5 * (1 + 2 ^ 6 * 0))))) := nxt g1 t.isLt
  have g3 : x.toNat / 2 ^ 11 = s.toNat + 2 ^ 4 * (0 + 2 ^ 1 * (a.toNat + 2 ^ 5 * (d.toNat + 2 ^ 5 * (1 + 2 ^ 6 * 0)))) := nxt g2 p.isLt
  have g4 : x.toNat / 2 ^ 15 = 0 + 2 ^ 1 * (a.toNat + 2 ^ 5 * (d.toNat + 2 ^ 5 * (1 + 2 ^ 6 * 0))) := nxt g3 s.isLt
  have g5 : x.toNat / 2 ^ 16 = a.toNat + 2 ^ 5 * (d.toNat + 2 ^ 5 * (1 + 2 ^ 6 * 0)) := nxt g4 (by decide)
  have g6 : x.toNat / 2 ^ 21 = d.toNat + 2 ^ 5 * (1 + 2 ^ 6 * 0) := nxt g5 a.isLt
  have g7 : x.toNat / 2 ^ 26 = 1 + 2 ^ 6 * 0 := nxt g6 d.isLt
  have q0 : bits x 26 6 = 1 := dig g7 (by decide)
  have q1 : bits x 15 1 = 0 := dig g4 (by decide)
  have f0 : fld x 21 5 = d := fld_eq (dig g6 d.isLt)
  have f1 : fld x 16 5 = a := fld_eq (dig g5 a.isLt)
  have f2 : fld x 11 4 = s := fld_eq (dig g3 s.isLt)
  have f3 : fld x 8 3 = p := fld_eq (dig g2 p.isLt)
  have f4 : fld x 4 4 = t := fld_eq (dig g1 t.isLt)
  have f5 : fld x 0 4 = r := fld_eq (dig g0 r.isLt)
  have hz : x.toNat ≠ 0 := ne_zero q0 (by decide)
  intro k hk
  replace hk := mem_slots1 rfl hk
  subst hk; simp [hz, decodeMap, decodeCv, q0, q1, f0, f1, f2, f3, f4, f5]

theorem vpack (d : BitVec 5) (a : BitVec 5) (b : BitVec 5) (p : BitVec 3) (t : BitVec 4) (r : BitVec 4) : Statement (.vpack d a b p t r) := by
  have h0 := d.isLt
  have h1 := a.isLt
  have h2 := b.isLt
  have h3 := p.isLt
  have h4 := t.isLt
  have h5 := r.isLt
  have hv : (syl 0x08000000 [(d.toNat, 21), (a.toNat, 16), (b.toNat, 11), (p.toNat, 8), (t.toNat, 4), (r.toNat, 0)]).toNat = _ := toNat_syl (by simp only [sylValue]; omega)
  simp only [sylValue] at hv
  refine statement_of rfl ?_
  generalize syl 0x08000000 [(d.toNat, 21), (a.toNat, 16), (b.toNat, 11), (p.toNat, 8), (t.toNat, 4), (r.toNat, 0)] = x at hv ⊢
  have g0 : x.toNat / 2 ^ 0 = r.toNat + 2 ^ 4 * (t.toNat + 2 ^ 4 * (p.toNat + 2 ^ 3 * (b.toNat + 2 ^ 5 * (a.toNat + 2 ^ 5 * (d.toNat + 2 ^ 5 * (2 + 2 ^ 6 * 0)))))) := by rw [Nat.pow_zero, Nat.div_one, hv]; omega
  have g1 : x.toNat / 2 ^ 4 = t.toNat + 2 ^ 4 * (p.toNat + 2 ^ 3 * (b.toNat + 2 ^ 5 * (a.toNat + 2 ^ 5 * (d.toNat + 2 ^ 5 * (2 + 2 ^ 6 * 0))))) := nxt g0 r.isLt
  have g2 : x.toNat / 2 ^ 8 = p.toNat + 2 ^ 3 * (b.toNat + 2 ^ 5 * (a.toNat + 2 ^ 5 * (d.toNat + 2 ^ 5 * (2 + 2 ^ 6 * 0)))) := nxt g1 t.isLt
  have g3 : x.toNat / 2 ^ 11 = b.toNat + 2 ^ 5 * (a.toNat + 2 ^ 5 * (d.toNat + 2 ^ 5 * (2 + 2 ^ 6 * 0))) := nxt g2 p.isLt
  have g4 : x.toNat / 2 ^ 16 = a.toNat + 2 ^ 5 * (d.toNat + 2 ^ 5 * (2 + 2 ^ 6 * 0)) := nxt g3 b.isLt
  have g5 : x.toNat / 2 ^ 21 = d.toNat + 2 ^ 5 * (2 + 2 ^ 6 * 0) := nxt g4 a.isLt
  have g6 : x.toNat / 2 ^ 26 = 2 + 2 ^ 6 * 0 := nxt g5 d.isLt
  have q0 : bits x 26 6 = 2 := dig g6 (by decide)
  have f0 : fld x 21 5 = d := fld_eq (dig g5 d.isLt)
  have f1 : fld x 16 5 = a := fld_eq (dig g4 a.isLt)
  have f2 : fld x 11 5 = b := fld_eq (dig g3 b.isLt)
  have f3 : fld x 8 3 = p := fld_eq (dig g2 p.isLt)
  have f4 : fld x 4 4 = t := fld_eq (dig g1 t.isLt)
  have f5 : fld x 0 4 = r := fld_eq (dig g0 r.isLt)
  have hz : x.toNat ≠ 0 := ne_zero q0 (by decide)
  intro k hk
  replace hk := mem_slots1 rfl hk
  subst hk; simp [hz, decodeMap, decodeCv, q0, f0, f1, f2, f3, f4, f5]

theorem vunpack (d : BitVec 5) (a : BitVec 5) (p : BitVec 3) (t : BitVec 4) (e : BitVec 4) : Statement (.vunpack d a p t e) := by
  have h0 := d.isLt
  have h1 := a.isLt
  have h2 := p.isLt
  have h3 := t.isLt
  have h4 := e.isLt
  have hv : (syl 0x0C000000 [(d.toNat, 21), (a.toNat, 16), (p.toNat, 8), (t.toNat, 4), (e.toNat, 0)]).toNat = _ := toNat_syl (by simp only [sylValue]; omega)
  simp only [sylValue] at hv
  refine statement_of rfl ?_
  generalize syl 0x0C000000 [(d.toNat, 21), (a.toNat, 16), (p.toNat, 8), (t.toNat, 4), (e.toNat, 0)] = x at hv ⊢
  have g0 : x.toNat / 2 ^ 0 = e.toNat + 2 ^ 4 * (t.toNat + 2 ^ 4 * (p.toNat + 2 ^ 3 * (0 + 2 ^ 5 * (a.toNat + 2 ^ 5 * (d.toNat + 2 ^ 5 * (3 + 2 ^ 6 * 0)))))) := by rw [Nat.pow_zero, Nat.div_one, hv]; omega
  have g1 : x.toNat / 2 ^ 4 = t.toNat + 2 ^ 4 * (p.toNat + 2 ^ 3 * (0 + 2 ^ 5 * (a.toNat + 2 ^ 5 * (d.toNat + 2 ^ 5 * (3 + 2 ^ 6 * 0))))) := nxt g0 e.isLt
  have g2 : x.toNat / 2 ^ 8 = p.toNat + 2 ^ 3 * (0 + 2 ^ 5 * (a.toNat + 2 ^ 5 * (d.toNat + 2 ^ 5 * (3 + 2 ^ 6 * 0)))) := nxt g1 t.isLt
  have g3 : x.toNat / 2 ^ 11 = 0 + 2 ^ 5 * (a.toNat + 2 ^ 5 * (d.toNat + 2 ^ 5 * (3 + 2 ^ 6 * 0))) := nxt g2 p.isLt
  have g4 : x.toNat / 2 ^ 16 = a.toNat + 2 ^ 5 * (d.toNat + 2 ^ 5 * (3 + 2 ^ 6 * 0)) := nxt g3 (by decide)
  have g5 : x.toNat / 2 ^ 21 = d.toNat + 2 ^ 5 * (3 + 2 ^ 6 * 0) := nxt g4 a.isLt
  have g6 : x.toNat / 2 ^ 26 = 3 + 2 ^ 6 * 0 := nxt g5 d.isLt
  have q0 : bits x 26 6 = 3 := dig g6 (by decide)
  have q1 : bits x 11 5 = 0 := dig g3 (by decide)
  have f0 : fld x 21 5 = d := fld_eq (dig g5 d.isLt)
  have f1 : fld x 16 5 = a := fld_eq (dig g4 a.isLt)
  have f2 : fld x 8 3 = p := fld_eq (dig g2 p.isLt)
  have f3 : fld x 4 4 = t := fld_eq (dig g1 t.isLt)
  have f4 : fld x 0 4 = e := fld_eq (dig g0 e.isLt)
  have hz : x.toNat ≠ 0 := ne_zero q0 (by decide)
  intro k hk
  replace hk := mem_slots1 rfl hk
  subst hk; simp [hz, decodeMap, decodeCv, q0, q1, f0, f1, f2, f3, f4]

theorem vcbdec (d : BitVec 5) (a : BitVec 5) (p : BitVec 3) (t : BitVec 4) (e : BitVec 4) : Statement (.vcbdec d a p t e) := by
  have h0 := d.isLt
  have h1 := a.isLt
  have h2 := p.isLt
  have h3 := t.isLt
  have h4 := e.isLt
  have hv : (syl 0x10000000 [(d.toNat, 21), (a.toNat, 16), (p.toNat, 8), (t.toNat, 4), (e.toNat, 0)]).toNat = _ := toNat_syl (by simp only [sylValue]; omega)
  simp only [sylValue] at hv
  refine statement_of rfl ?_
  generalize syl 0x10000000 [(d.toNat, 21), (a.toNat, 16), (p.toNat, 8), (t.toNat, 4), (e.toNat, 0)] = x at hv ⊢
  have g0 : x.toNat / 2 ^ 0 = e.toNat + 2 ^ 4 * (t.toNat + 2 ^ 4 * (p.toNat + 2 ^ 3 * (0 + 2 ^ 5 * (a.toNat + 2 ^ 5 * (d.toNat + 2 ^ 5 * (4 + 2 ^ 6 * 0)))))) := by rw [Nat.pow_zero, Nat.div_one, hv]; omega
  have g1 : x.toNat / 2 ^ 4 = t.toNat + 2 ^ 4 * (p.toNat + 2 ^ 3 * (0 + 2 ^ 5 * (a.toNat + 2 ^ 5 * (d.toNat + 2 ^ 5 * (4 + 2 ^ 6 * 0))))) := nxt g0 e.isLt
  have g2 : x.toNat / 2 ^ 8 = p.toNat + 2 ^ 3 * (0 + 2 ^ 5 * (a.toNat + 2 ^ 5 * (d.toNat + 2 ^ 5 * (4 + 2 ^ 6 * 0)))) := nxt g1 t.isLt
  have g3 : x.toNat / 2 ^ 11 = 0 + 2 ^ 5 * (a.toNat + 2 ^ 5 * (d.toNat + 2 ^ 5 * (4 + 2 ^ 6 * 0))) := nxt g2 p.isLt
  have g4 : x.toNat / 2 ^ 16 = a.toNat + 2 ^ 5 * (d.toNat + 2 ^ 5 * (4 + 2 ^ 6 * 0)) := nxt g3 (by decide)
  have g5 : x.toNat / 2 ^ 21 = d.toNat + 2 ^ 5 * (4 + 2 ^ 6 * 0) := nxt g4 a.isLt
  have g6 : x.toNat / 2 ^ 26 = 4 + 2 ^ 6 * 0 := nxt g5 d.isLt
  have q0 : bits x 26 6 = 4 := dig g6 (by decide)
  have q1 : bits x 11 5 = 0 := dig g3 (by decide)
  have f0 : fld x 21 5 = d := fld_eq (dig g5 d.isLt)
  have f1 : fld x 16 5 = a := fld_eq (dig g4 a.isLt)
  have f2 : fld x 8 3 = p := fld_eq (dig g2 p.isLt)
  have f3 : fld x 4 4 = t := fld_eq (dig g1 t.isLt)
  have f4 : fld x 0 4 = e := fld_eq (dig g0 e.isLt)
  have hz : x.toNat ≠ 0 := ne_zero q0 (by decide)
  intro k hk
  replace hk := mem_slots1 rfl hk
  subst hk; simp [hz, decodeMap, decodeCv, q0, q1, f0, f1, f2, f3, f4]

theorem vscale (d : BitVec 5) (a : BitVec 5) (b : BitVec 5) (p : BitVec 3) (t : BitVec 4) (r : BitVec 4) : Statement (.vscale d a b p t r) := by
  have h0 := d.isLt
  have h1 := a.isLt
  have h2 := b.isLt
  have h3 := p.isLt
  have h4 := t.isLt
  have h5 := r.isLt
  have hv : (syl 0x14000000 [(d.toNat, 21), (a.toNat, 16), (b.toNat, 11), (p.toNat, 8), (t.toNat, 4), (r.toNat, 0)]).toNat = _ := toNat_syl (by simp only [sylValue]; omega)
  simp only [sylValue] at hv
  refine statement_of rfl ?_
  generalize syl 0x14000000 [(d.toNat, 21), (a.toNat, 16), (b.toNat, 11), (p.toNat, 8), (t.toNat, 4), (r.toNat, 0)] = x at hv ⊢
  have g0 : x.toNat / 2 ^ 0 = r.toNat + 2 ^ 4 * (t.toNat + 2 ^ 4 * (p.toNat + 2 ^ 3 * (b.toNat + 2 ^ 5 * (a.toNat + 2 ^ 5 * (d.toNat + 2 ^ 5 * (5 + 2 ^ 6 * 0)))))) := by rw [Nat.pow_zero, Nat.div_one, hv]; omega
  have g1 : x.toNat / 2 ^ 4 = t.toNat + 2 ^ 4 * (p.toNat + 2 ^ 3 * (b.toNat + 2 ^ 5 * (a.toNat + 2 ^ 5 * (d.toNat + 2 ^ 5 * (5 + 2 ^ 6 * 0))))) := nxt g0 r.isLt
  have g2 : x.toNat / 2 ^ 8 = p.toNat + 2 ^ 3 * (b.toNat + 2 ^ 5 * (a.toNat + 2 ^ 5 * (d.toNat + 2 ^ 5 * (5 + 2 ^ 6 * 0)))) := nxt g1 t.isLt
  have g3 : x.toNat / 2 ^ 11 = b.toNat + 2 ^ 5 * (a.toNat + 2 ^ 5 * (d.toNat + 2 ^ 5 * (5 + 2 ^ 6 * 0))) := nxt g2 p.isLt
  have g4 : x.toNat / 2 ^ 16 = a.toNat + 2 ^ 5 * (d.toNat + 2 ^ 5 * (5 + 2 ^ 6 * 0)) := nxt g3 b.isLt
  have g5 : x.toNat / 2 ^ 21 = d.toNat + 2 ^ 5 * (5 + 2 ^ 6 * 0) := nxt g4 a.isLt
  have g6 : x.toNat / 2 ^ 26 = 5 + 2 ^ 6 * 0 := nxt g5 d.isLt
  have q0 : bits x 26 6 = 5 := dig g6 (by decide)
  have f0 : fld x 21 5 = d := fld_eq (dig g5 d.isLt)
  have f1 : fld x 16 5 = a := fld_eq (dig g4 a.isLt)
  have f2 : fld x 11 5 = b := fld_eq (dig g3 b.isLt)
  have f3 : fld x 8 3 = p := fld_eq (dig g2 p.isLt)
  have f4 : fld x 4 4 = t := fld_eq (dig g1 t.isLt)
  have f5 : fld x 0 4 = r := fld_eq (dig g0 r.isLt)
  have hz : x.toNat ≠ 0 := ne_zero q0 (by decide)
  intro k hk
  replace hk := mem_slots1 rfl hk
  subst hk; simp [hz, decodeMap, decodeCv, q0, f0, f1, f2, f3, f4, f5]

theorem mma (m : BitVec 2) (n : BitVec 6) (c : BitVec 3) (a : BitVec 5) (b : BitVec 5) (k : BitVec 1) (z : BitVec 1) (p : BitVec 3) : Statement (.mma m n c a b k z p) := by
  have h0 := m.isLt
  have h1 := n.isLt
  have h2 := c.isLt
  have h3 := a.isLt
  have h4 := b.isLt
  have h5 := k.isLt
  have h6 := z.isLt
  have h7 := p.isLt
  have hv : (syl 0x04000000 [(m.toNat, 24), (n.toNat, 18), (c.toNat, 15), (a.toNat, 10), (b.toNat, 5), (k.toNat, 4), (z.toNat, 3), (p.toNat, 0)]).toNat = _ := toNat_syl (by simp only [sylValue]; omega)
  simp only [sylValue] at hv
  refine statement_of rfl ?_
  generalize syl 0x04000000 [(m.toNat, 24), (n.toNat, 18), (c.toNat, 15), (a.toNat, 10), (b.toNat, 5), (k.toNat, 4), (z.toNat, 3), (p.toNat, 0)] = x at hv ⊢
  have g0 : x.toNat / 2 ^ 0 = p.toNat + 2 ^ 3 * (z.toNat + 2 ^ 1 * (k.toNat + 2 ^ 1 * (b.toNat + 2 ^ 5 * (a.toNat + 2 ^ 5 * (c.toNat + 2 ^ 3 * (n.toNat + 2 ^ 6 * (m.toNat + 2 ^ 2 * (1 + 2 ^ 6 * 0)))))))) := by rw [Nat.pow_zero, Nat.div_one, hv]; omega
  have g1 : x.toNat / 2 ^ 3 = z.toNat + 2 ^ 1 * (k.toNat + 2 ^ 1 * (b.toNat + 2 ^ 5 * (a.toNat + 2 ^ 5 * (c.toNat + 2 ^ 3 * (n.toNat + 2 ^ 6 * (m.toNat + 2 ^ 2 * (1 + 2 ^ 6 * 0))))))) := nxt g0 p.isLt
  have g2 : x.toNat / 2 ^ 4 = k.toNat + 2 ^ 1 * (b.toNat + 2 ^ 5 * (a.toNat + 2 ^ 5 * (c.toNat + 2 ^ 3 * (n.toNat + 2 ^ 6 * (m.toNat + 2 ^ 2 * (1 + 2 ^ 6 * 0)))))) := nxt g1 z.isLt
  have g3 : x.toNat / 2 ^ 5 = b.toNat + 2 ^ 5 * (a.toNat + 2 ^ 5 * (c.toNat + 2 ^ 3 * (n.toNat + 2 ^ 6 * (m.toNat + 2 ^ 2 * (1 + 2 ^ 6 * 0))))) := nxt g2 k.isLt
  have g4 : x.toNat / 2 ^ 10 = a.toNat + 2 ^ 5 * (c.toNat + 2 ^ 3 * (n.toNat + 2 ^ 6 * (m.toNat + 2 ^ 2 * (1 + 2 ^ 6 * 0)))) := nxt g3 b.isLt
  have g5 : x.toNat / 2 ^ 15 = c.toNat + 2 ^ 3 * (n.toNat + 2 ^ 6 * (m.toNat + 2 ^ 2 * (1 + 2 ^ 6 * 0))) := nxt g4 a.isLt
  have g6 : x.toNat / 2 ^ 18 = n.toNat + 2 ^ 6 * (m.toNat + 2 ^ 2 * (1 + 2 ^ 6 * 0)) := nxt g5 c.isLt
  have g7 : x.toNat / 2 ^ 24 = m.toNat + 2 ^ 2 * (1 + 2 ^ 6 * 0) := nxt g6 n.isLt
  have g8 : x.toNat / 2 ^ 26 = 1 + 2 ^ 6 * 0 := nxt g7 m.isLt
  have q0 : bits x 26 6 = 1 := dig g8 (by decide)
  have f0 : fld x 24 2 = m := fld_eq (dig g7 m.isLt)
  have f1 : fld x 18 6 = n := fld_eq (dig g6 n.isLt)
  have f2 : fld x 15 3 = c := fld_eq (dig g5 c.isLt)
  have f3 : fld x 10 5 = a := fld_eq (dig g4 a.isLt)
  have f4 : fld x 5 5 = b := fld_eq (dig g3 b.isLt)
  have f5 : fld x 4 1 = k := fld_eq (dig g2 k.isLt)
  have f6 : fld x 3 1 = z := fld_eq (dig g1 z.isLt)
  have f7 : fld x 0 3 = p := fld_eq (dig g0 p.isLt)
  have hz : x.toNat ≠ 0 := ne_zero q0 (by decide)
  intro k hk
  replace hk := mem_slots1 rfl hk
  subst hk; simp [hz, decodeMap, decodeMx, q0, f0, f1, f2, f3, f4, f5, f6, f7]

theorem mmaBin (m : BitVec 2) (n : BitVec 6) (c : BitVec 3) (a : BitVec 5) (b : BitVec 5) (k : BitVec 1) (z : BitVec 1) (p : BitVec 3) : Statement (.mmaBin m n c a b k z p) := by
  have h0 := m.isLt
  have h1 := n.isLt
  have h2 := c.isLt
  have h3 := a.isLt
  have h4 := b.isLt
  have h5 := k.isLt
  have h6 := z.isLt
  have h7 := p.isLt
  have hv : (syl 0x08000000 [(m.toNat, 24), (n.toNat, 18), (c.toNat, 15), (a.toNat, 10), (b.toNat, 5), (k.toNat, 4), (z.toNat, 3), (p.toNat, 0)]).toNat = _ := toNat_syl (by simp only [sylValue]; omega)
  simp only [sylValue] at hv
  refine statement_of rfl ?_
  generalize syl 0x08000000 [(m.toNat, 24), (n.toNat, 18), (c.toNat, 15), (a.toNat, 10), (b.toNat, 5), (k.toNat, 4), (z.toNat, 3), (p.toNat, 0)] = x at hv ⊢
  have g0 : x.toNat / 2 ^ 0 = p.toNat + 2 ^ 3 * (z.toNat + 2 ^ 1 * (k.toNat + 2 ^ 1 * (b.toNat + 2 ^ 5 * (a.toNat + 2 ^ 5 * (c.toNat + 2 ^ 3 * (n.toNat + 2 ^ 6 * (m.toNat + 2 ^ 2 * (2 + 2 ^ 6 * 0)))))))) := by rw [Nat.pow_zero, Nat.div_one, hv]; omega
  have g1 : x.toNat / 2 ^ 3 = z.toNat + 2 ^ 1 * (k.toNat + 2 ^ 1 * (b.toNat + 2 ^ 5 * (a.toNat + 2 ^ 5 * (c.toNat + 2 ^ 3 * (n.toNat + 2 ^ 6 * (m.toNat + 2 ^ 2 * (2 + 2 ^ 6 * 0))))))) := nxt g0 p.isLt
  have g2 : x.toNat / 2 ^ 4 = k.toNat + 2 ^ 1 * (b.toNat + 2 ^ 5 * (a.toNat + 2 ^ 5 * (c.toNat + 2 ^ 3 * (n.toNat + 2 ^ 6 * (m.toNat + 2 ^ 2 * (2 + 2 ^ 6 * 0)))))) := nxt g1 z.isLt
  have g3 : x.toNat / 2 ^ 5 = b.toNat + 2 ^ 5 * (a.toNat + 2 ^ 5 * (c.toNat + 2 ^ 3 * (n.toNat + 2 ^ 6 * (m.toNat + 2 ^ 2 * (2 + 2 ^ 6 * 0))))) := nxt g2 k.isLt
  have g4 : x.toNat / 2 ^ 10 = a.toNat + 2 ^ 5 * (c.toNat + 2 ^ 3 * (n.toNat + 2 ^ 6 * (m.toNat + 2 ^ 2 * (2 + 2 ^ 6 * 0)))) := nxt g3 b.isLt
  have g5 : x.toNat / 2 ^ 15 = c.toNat + 2 ^ 3 * (n.toNat + 2 ^ 6 * (m.toNat + 2 ^ 2 * (2 + 2 ^ 6 * 0))) := nxt g4 a.isLt
  have g6 : x.toNat / 2 ^ 18 = n.toNat + 2 ^ 6 * (m.toNat + 2 ^ 2 * (2 + 2 ^ 6 * 0)) := nxt g5 c.isLt
  have g7 : x.toNat / 2 ^ 24 = m.toNat + 2 ^ 2 * (2 + 2 ^ 6 * 0) := nxt g6 n.isLt
  have g8 : x.toNat / 2 ^ 26 = 2 + 2 ^ 6 * 0 := nxt g7 m.isLt
  have q0 : bits x 26 6 = 2 := dig g8 (by decide)
  have f0 : fld x 24 2 = m := fld_eq (dig g7 m.isLt)
  have f1 : fld x 18 6 = n := fld_eq (dig g6 n.isLt)
  have f2 : fld x 15 3 = c := fld_eq (dig g5 c.isLt)
  have f3 : fld x 10 5 = a := fld_eq (dig g4 a.isLt)
  have f4 : fld x 5 5 = b := fld_eq (dig g3 b.isLt)
  have f5 : fld x 4 1 = k := fld_eq (dig g2 k.isLt)
  have f6 : fld x 3 1 = z := fld_eq (dig g1 z.isLt)
  have f7 : fld x 0 3 = p := fld_eq (dig g0 p.isLt)
  have hz : x.toNat ≠ 0 := ne_zero q0 (by decide)
  intro k hk
  replace hk := mem_slots1 rfl hk
  subst hk; simp [hz, decodeMap, decodeMx, q0, f0, f1, f2, f3, f4, f5, f6, f7]

theorem mzero (m : BitVec 2) (n : BitVec 6) (c : BitVec 3) : Statement (.mzero m n c) := by
  have h0 := m.isLt
  have h1 := n.isLt
  have h2 := c.isLt
  have hv : (syl 0x0C000000 [(m.toNat, 24), (n.toNat, 18), (c.toNat, 15)]).toNat = _ := toNat_syl (by simp only [sylValue]; omega)
  simp only [sylValue] at hv
  refine statement_of rfl ?_
  generalize syl 0x0C000000 [(m.toNat, 24), (n.toNat, 18), (c.toNat, 15)] = x at hv ⊢
  have g0 : x.toNat / 2 ^ 0 = 0 + 2 ^ 15 * (c.toNat + 2 ^ 3 * (n.toNat + 2 ^ 6 * (m.toNat + 2 ^ 2 * (3 + 2 ^ 6 * 0)))) := by rw [Nat.pow_zero, Nat.div_one, hv]; omega
  have g1 : x.toNat / 2 ^ 15 = c.toNat + 2 ^ 3 * (n.toNat + 2 ^ 6 * (m.toNat + 2 ^ 2 * (3 + 2 ^ 6 * 0))) := nxt g0 (by decide)
  have g2 : x.toNat / 2 ^ 18 = n.toNat + 2 ^ 6 * (m.toNat + 2 ^ 2 * (3 + 2 ^ 6 * 0)) := nxt g1 c.isLt
  have g3 : x.toNat / 2 ^ 24 = m.toNat + 2 ^ 2 * (3 + 2 ^ 6 * 0) := nxt g2 n.isLt
  have g4 : x.toNat / 2 ^ 26 = 3 + 2 ^ 6 * 0 := nxt g3 m.isLt
  have q0 : bits x 26 6 = 3 := dig g4 (by decide)
  have q1 : bits x 0 15 = 0 := dig g0 (by decide)
  have f0 : fld x 24 2 = m := fld_eq (dig g3 m.isLt)
  have f1 : fld x 18 6 = n := fld_eq (dig g2 n.isLt)
  have f2 : fld x 15 3 = c := fld_eq (dig g1 c.isLt)
  have hz : x.toNat ≠ 0 := ne_zero q0 (by decide)
  intro k hk
  replace hk := mem_slots1 rfl hk
  subst hk; simp [hz, decodeMap, decodeMx, q0, q1, f0, f1, f2]

theorem mrd (m : BitVec 2) (n : BitVec 6) (c : BitVec 3) (a : BitVec 5) (b : BitVec 5) (t : BitVec 4) : Statement (.mrd m n c a b t) := by
  have h0 := m.isLt
  have h1 := n.isLt
  have h2 := c.isLt
  have h3 := a.isLt
  have h4 := b.isLt
  have h5 := t.isLt
  have hv : (syl 0x10000000 [(m.toNat, 24), (n.toNat, 18), (c.toNat, 15), (a.toNat, 10), (b.toNat, 5), (t.toNat, 0)]).toNat = _ := toNat_syl (by simp only [sylValue]; omega)
  simp only [sylValue] at hv
  refine statement_of rfl ?_
  generalize syl 0x10000000 [(m.toNat, 24), (n.toNat, 18), (c.toNat, 15), (a.toNat, 10), (b.toNat, 5), (t.toNat, 0)] = x at hv ⊢
  have g0 : x.toNat / 2 ^ 0 = t.toNat + 2 ^ 4 * (0 + 2 ^ 1 * (b.toNat + 2 ^ 5 * (a.toNat + 2 ^ 5 * (c.toNat + 2 ^ 3 * (n.toNat + 2 ^ 6 * (m.toNat + 2 ^ 2 * (4 + 2 ^ 6 * 0))))))) := by rw [Nat.pow_zero, Nat.div_one, hv]; omega
  have g1 : x.toNat / 2 ^ 4 = 0 + 2 ^ 1 * (b.toNat + 2 ^ 5 * (a.toNat + 2 ^ 5 * (c.toNat + 2 ^ 3 * (n.toNat + 2 ^ 6 * (m.toNat + 2 ^ 2 * (4 + 2 ^ 6 * 0)))))) := nxt g0 t.isLt
  have g2 : x.toNat / 2 ^ 5 = b.toNat + 2 ^ 5 * (a.toNat + 2 ^ 5 * (c.toNat + 2 ^ 3 * (n.toNat + 2 ^ 6 * (m.toNat + 2 ^ 2 * (4 + 2 ^ 6 * 0))))) := nxt g1 (by decide)
  have g3 : x.toNat / 2 ^ 10 = a.toNat + 2 ^ 5 * (c.toNat + 2 ^ 3 * (n.toNat + 2 ^ 6 * (m.toNat + 2 ^ 2 * (4 + 2 ^ 6 * 0)))) := nxt g2 b.isLt
  have g4 : x.toNat / 2 ^ 15 = c.toNat + 2 ^ 3 * (n.toNat + 2 ^ 6 * (m.toNat + 2 ^ 2 * (4 + 2 ^ 6 * 0))) := nxt g3 a.isLt
  have g5 : x.toNat / 2 ^ 18 = n.toNat + 2 ^ 6 * (m.toNat + 2 ^ 2 * (4 + 2 ^ 6 * 0)) := nxt g4 c.isLt
  have g6 : x.toNat / 2 ^ 24 = m.toNat + 2 ^ 2 * (4 + 2 ^ 6 * 0) := nxt g5 n.isLt
  have g7 : x.toNat / 2 ^ 26 = 4 + 2 ^ 6 * 0 := nxt g6 m.isLt
  have q0 : bits x 26 6 = 4 := dig g7 (by decide)
  have q1 : bits x 4 1 = 0 := dig g1 (by decide)
  have f0 : fld x 24 2 = m := fld_eq (dig g6 m.isLt)
  have f1 : fld x 18 6 = n := fld_eq (dig g5 n.isLt)
  have f2 : fld x 15 3 = c := fld_eq (dig g4 c.isLt)
  have f3 : fld x 10 5 = a := fld_eq (dig g3 a.isLt)
  have f4 : fld x 5 5 = b := fld_eq (dig g2 b.isLt)
  have f5 : fld x 0 4 = t := fld_eq (dig g0 t.isLt)
  have hz : x.toNat ≠ 0 := ne_zero q0 (by decide)
  intro k hk
  replace hk := mem_slots1 rfl hk
  subst hk; simp [hz, decodeMap, decodeMx, q0, q1, f0, f1, f2, f3, f4, f5]

theorem mwr (m : BitVec 2) (n : BitVec 6) (c : BitVec 3) (a : BitVec 5) (t : BitVec 4) : Statement (.mwr m n c a t) := by
  have h0 := m.isLt
  have h1 := n.isLt
  have h2 := c.isLt
  have h3 := a.isLt
  have h4 := t.isLt
  have hv : (syl 0x14000000 [(m.toNat, 24), (n.toNat, 18), (c.toNat, 15), (a.toNat, 10), (t.toNat, 0)]).toNat = _ := toNat_syl (by simp only [sylValue]; omega)
  simp only [sylValue] at hv
  refine statement_of rfl ?_
  generalize syl 0x14000000 [(m.toNat, 24), (n.toNat, 18), (c.toNat, 15), (a.toNat, 10), (t.toNat, 0)] = x at hv ⊢
  have g0 : x.toNat / 2 ^ 0 = t.toNat + 2 ^ 4 * (0 + 2 ^ 6 * (a.toNat + 2 ^ 5 * (c.toNat + 2 ^ 3 * (n.toNat + 2 ^ 6 * (m.toNat + 2 ^ 2 * (5 + 2 ^ 6 * 0)))))) := by rw [Nat.pow_zero, Nat.div_one, hv]; omega
  have g1 : x.toNat / 2 ^ 4 = 0 + 2 ^ 6 * (a.toNat + 2 ^ 5 * (c.toNat + 2 ^ 3 * (n.toNat + 2 ^ 6 * (m.toNat + 2 ^ 2 * (5 + 2 ^ 6 * 0))))) := nxt g0 t.isLt
  have g2 : x.toNat / 2 ^ 10 = a.toNat + 2 ^ 5 * (c.toNat + 2 ^ 3 * (n.toNat + 2 ^ 6 * (m.toNat + 2 ^ 2 * (5 + 2 ^ 6 * 0)))) := nxt g1 (by decide)
  have g3 : x.toNat / 2 ^ 15 = c.toNat + 2 ^ 3 * (n.toNat + 2 ^ 6 * (m.toNat + 2 ^ 2 * (5 + 2 ^ 6 * 0))) := nxt g2 a.isLt
  have g4 : x.toNat / 2 ^ 18 = n.toNat + 2 ^ 6 * (m.toNat + 2 ^ 2 * (5 + 2 ^ 6 * 0)) := nxt g3 c.isLt
  have g5 : x.toNat / 2 ^ 24 = m.toNat + 2 ^ 2 * (5 + 2 ^ 6 * 0) := nxt g4 n.isLt
  have g6 : x.toNat / 2 ^ 26 = 5 + 2 ^ 6 * 0 := nxt g5 m.isLt
  have q0 : bits x 26 6 = 5 := dig g6 (by decide)
  have q1 : bits x 4 6 = 0 := dig g1 (by decide)
  have f0 : fld x 24 2 = m := fld_eq (dig g5 m.isLt)
  have f1 : fld x 18 6 = n := fld_eq (dig g4 n.isLt)
  have f2 : fld x 15 3 = c := fld_eq (dig g3 c.isLt)
  have f3 : fld x 10 5 = a := fld_eq (dig g2 a.isLt)
  have f4 : fld x 0 4 = t := fld_eq (dig g0 t.isLt)
  have hz : x.toNat ≠ 0 := ne_zero q0 (by decide)
  intro k hk
  replace hk := mem_slots1 rfl hk
  subst hk; simp [hz, decodeMap, decodeMx, q0, q1, f0, f1, f2, f3, f4]

theorem mld (n : BitVec 6) (k : BitVec 2) (a : BitVec 5) : Statement (.mld n k a) := by
  have h0 := n.isLt
  have h1 := k.isLt
  have h2 := a.isLt
  have hv : (syl 0x19000000 [(n.toNat, 18), (k.toNat, 15), (a.toNat, 10)]).toNat = _ := toNat_syl (by simp only [sylValue]; omega)
  simp only [sylValue] at hv
  refine statement_of rfl ?_
  generalize syl 0x19000000 [(n.toNat, 18), (k.toNat, 15), (a.toNat, 10)] = x at hv ⊢
  have g0 : x.toNat / 2 ^ 0 = 0 + 2 ^ 10 * (a.toNat + 2 ^ 5 * (k.toNat + 2 ^ 2 * (0 + 2 ^ 1 * (n.toNat + 2 ^ 6 * (1 + 2 ^ 2 * (6 + 2 ^ 6 * 0)))))) := by rw [Nat.pow_zero, Nat.div_one, hv]; omega
  have g1 : x.toNat / 2 ^ 10 = a.toNat + 2 ^ 5 * (k.toNat + 2 ^ 2 * (0 + 2 ^ 1 * (n.toNat + 2 ^ 6 * (1 + 2 ^ 2 * (6 + 2 ^ 6 * 0))))) := nxt g0 (by decide)
  have g2 : x.toNat / 2 ^ 15 = k.toNat + 2 ^ 2 * (0 + 2 ^ 1 * (n.toNat + 2 ^ 6 * (1 + 2 ^ 2 * (6 + 2 ^ 6 * 0)))) := nxt g1 a.isLt
  have g3 : x.toNat / 2 ^ 17 = 0 + 2 ^ 1 * (n.toNat + 2 ^ 6 * (1 + 2 ^ 2 * (6 + 2 ^ 6 * 0))) := nxt g2 k.isLt
  have g4 : x.toNat / 2 ^ 18 = n.toNat + 2 ^ 6 * (1 + 2 ^ 2 * (6 + 2 ^ 6 * 0)) := nxt g3 (by decide)
  have g5 : x.toNat / 2 ^ 24 = 1 + 2 ^ 2 * (6 + 2 ^ 6 * 0) := nxt g4 n.isLt
  have g6 : x.toNat / 2 ^ 26 = 6 + 2 ^ 6 * 0 := nxt g5 (by decide)
  have q0 : bits x 26 6 = 6 := dig g6 (by decide)
  have q1 : bits x 24 2 = 1 := dig g5 (by decide)
  have q2 : bits x 17 1 = 0 := dig g3 (by decide)
  have q3 : bits x 0 10 = 0 := dig g0 (by decide)
  have f0 : fld x 18 6 = n := fld_eq (dig g4 n.isLt)
  have f1 : fld x 15 2 = k := fld_eq (dig g2 k.isLt)
  have f2 : fld x 10 5 = a := fld_eq (dig g1 a.isLt)
  have hz : x.toNat ≠ 0 := ne_zero q0 (by decide)
  intro k hk
  replace hk := mem_slots1 rfl hk
  subst hk; simp [hz, decodeMap, decodeMx, q0, q1, q2, q3, f0, f1, f2]

theorem mcall (d : BitVec 5) (a : BitVec 5) (i : BitVec 8) : Statement (.mcall d a i) := by
  have h0 := d.isLt
  have h1 := a.isLt
  have h2 := i.isLt
  have hv : (syl 0x1C000000 [(d.toNat, 21), (a.toNat, 16), (i.toNat, 0)]).toNat = _ := toNat_syl (by simp only [sylValue]; omega)
  simp only [sylValue] at hv
  refine statement_of rfl ?_
  generalize syl 0x1C000000 [(d.toNat, 21), (a.toNat, 16), (i.toNat, 0)] = x at hv ⊢
  have g0 : x.toNat / 2 ^ 0 = i.toNat + 2 ^ 8 * (0 + 2 ^ 8 * (a.toNat + 2 ^ 5 * (d.toNat + 2 ^ 5 * (7 + 2 ^ 6 * 0)))) := by rw [Nat.pow_zero, Nat.div_one, hv]; omega
  have g1 : x.toNat / 2 ^ 8 = 0 + 2 ^ 8 * (a.toNat + 2 ^ 5 * (d.toNat + 2 ^ 5 * (7 + 2 ^ 6 * 0))) := nxt g0 i.isLt
  have g2 : x.toNat / 2 ^ 16 = a.toNat + 2 ^ 5 * (d.toNat + 2 ^ 5 * (7 + 2 ^ 6 * 0)) := nxt g1 (by decide)
  have g3 : x.toNat / 2 ^ 21 = d.toNat + 2 ^ 5 * (7 + 2 ^ 6 * 0) := nxt g2 a.isLt
  have g4 : x.toNat / 2 ^ 26 = 7 + 2 ^ 6 * 0 := nxt g3 d.isLt
  have q0 : bits x 26 6 = 7 := dig g4 (by decide)
  have q1 : bits x 8 8 = 0 := dig g1 (by decide)
  have f0 : fld x 21 5 = d := fld_eq (dig g3 d.isLt)
  have f1 : fld x 16 5 = a := fld_eq (dig g2 a.isLt)
  have f2 : fld x 0 8 = i := fld_eq (dig g0 i.isLt)
  have hz : x.toNat ≠ 0 := ne_zero q0 (by decide)
  intro k hk
  replace hk := mem_slots1 rfl hk
  subst hk; simp [hz, decodeMap, decodeMx, q0, q1, f0, f1, f2]

theorem cpy (h : BitVec 1) (o : BitVec 2) (n : BitVec 2) (a : BitVec 5) (b : BitVec 5) (l : BitVec 11) : Statement (.cpy h o n a b l) := by
  have h0 := h.isLt
  have h1 := o.isLt
  have h2 := n.isLt
  have h3 := a.isLt
  have h4 := b.isLt
  have h5 := l.isLt
  have hv : (syl 0x20000000 [(h.toNat, 25), (o.toNat, 23), (n.toNat, 21), (a.toNat, 16), (b.toNat, 11), (l.toNat, 0)]).toNat = _ := toNat_syl (by simp only [sylValue]; omega)
  simp only [sylValue] at hv
  refine statement_of rfl ?_
  generalize syl 0x20000000 [(h.toNat, 25), (o.toNat, 23), (n.toNat, 21), (a.toNat, 16), (b.toNat, 11), (l.toNat, 0)] = x at hv ⊢
  have g0 : x.toNat / 2 ^ 0 = l.toNat + 2 ^ 11 * (b.toNat + 2 ^ 5 * (a.toNat + 2 ^ 5 * (n.toNat + 2 ^ 2 * (o.toNat + 2 ^ 2 * (h.toNat + 2 ^ 1 * (8 + 2 ^ 6 * 0)))))) := by rw [Nat.pow_zero, Nat.div_one, hv]; omega
  have g1 : x.toNat / 2 ^ 11 = b.toNat + 2 ^ 5 * (a.toNat + 2 ^ 5 * (n.toNat + 2 ^ 2 * (o.toNat + 2 ^ 2 * (h.toNat + 2 ^ 1 * (8 + 2 ^ 6 * 0))))) := nxt g0 l.isLt
  have g2 : x.toNat / 2 ^ 16 = a.toNat + 2 ^ 5 * (n.toNat + 2 ^ 2 * (o.toNat + 2 ^ 2 * (h.toNat + 2 ^ 1 * (8 + 2 ^ 6 * 0)))) := nxt g1 b.isLt
  have g3 : x.toNat / 2 ^ 21 = n.toNat + 2 ^ 2 * (o.toNat + 2 ^ 2 * (h.toNat + 2 ^ 1 * (8 + 2 ^ 6 * 0))) := nxt g2 a.isLt
  have g4 : x.toNat / 2 ^ 23 = o.toNat + 2 ^ 2 * (h.toNat + 2 ^ 1 * (8 + 2 ^ 6 * 0)) := nxt g3 n.isLt
  have g5 : x.toNat / 2 ^ 25 = h.toNat + 2 ^ 1 * (8 + 2 ^ 6 * 0) := nxt g4 o.isLt
  have g6 : x.toNat / 2 ^ 26 = 8 + 2 ^ 6 * 0 := nxt g5 h.isLt
  have q0 : bits x 26 6 = 8 := dig g6 (by decide)
  have f0 : fld x 25 1 = h := fld_eq (dig g5 h.isLt)
  have f1 : fld x 23 2 = o := fld_eq (dig g4 o.isLt)
  have f2 : fld x 21 2 = n := fld_eq (dig g3 n.isLt)
  have f3 : fld x 16 5 = a := fld_eq (dig g2 a.isLt)
  have f4 : fld x 11 5 = b := fld_eq (dig g1 b.isLt)
  have f5 : fld x 0 11 = l := fld_eq (dig g0 l.isLt)
  have hz : x.toNat ≠ 0 := ne_zero q0 (by decide)
  intro k hk
  replace hk := mem_slots1 rfl hk
  subst hk; simp [hz, decodeMap, decodeMx, q0, f0, f1, f2, f3, f4, f5]

theorem cpyg (h : BitVec 1) (o : BitVec 2) (a : BitVec 5) (b : BitVec 5) (l : BitVec 11) : Statement (.cpyg h o a b l) := by
  have h0 := h.isLt
  have h1 := o.isLt
  have h2 := a.isLt
  have h3 := b.isLt
  have h4 := l.isLt
  have hv : (syl 0x24000000 [(h.toNat, 25), (o.toNat, 23), (a.toNat, 16), (b.toNat, 11), (l.toNat, 0)]).toNat = _ := toNat_syl (by simp only [sylValue]; omega)
  simp only [sylValue] at hv
  refine statement_of rfl ?_
  generalize syl 0x24000000 [(h.toNat, 25), (o.toNat, 23), (a.toNat, 16), (b.toNat, 11), (l.toNat, 0)] = x at hv ⊢
  have g0 : x.toNat / 2 ^ 0 = l.toNat + 2 ^ 11 * (b.toNat + 2 ^ 5 * (a.toNat + 2 ^ 5 * (0 + 2 ^ 2 * (o.toNat + 2 ^ 2 * (h.toNat + 2 ^ 1 * (9 + 2 ^ 6 * 0)))))) := by rw [Nat.pow_zero, Nat.div_one, hv]; omega
  have g1 : x.toNat / 2 ^ 11 = b.toNat + 2 ^ 5 * (a.toNat + 2 ^ 5 * (0 + 2 ^ 2 * (o.toNat + 2 ^ 2 * (h.toNat + 2 ^ 1 * (9 + 2 ^ 6 * 0))))) := nxt g0 l.isLt
  have g2 : x.toNat / 2 ^ 16 = a.toNat + 2 ^ 5 * (0 + 2 ^ 2 * (o.toNat + 2 ^ 2 * (h.toNat + 2 ^ 1 * (9 + 2 ^ 6 * 0)))) := nxt g1 b.isLt
  have g3 : x.toNat / 2 ^ 21 = 0 + 2 ^ 2 * (o.toNat + 2 ^ 2 * (h.toNat + 2 ^ 1 * (9 + 2 ^ 6 * 0))) := nxt g2 a.isLt
  have g4 : x.toNat / 2 ^ 23 = o.toNat + 2 ^ 2 * (h.toNat + 2 ^ 1 * (9 + 2 ^ 6 * 0)) := nxt g3 (by decide)
  have g5 : x.toNat / 2 ^ 25 = h.toNat + 2 ^ 1 * (9 + 2 ^ 6 * 0) := nxt g4 o.isLt
  have g6 : x.toNat / 2 ^ 26 = 9 + 2 ^ 6 * 0 := nxt g5 h.isLt
  have q0 : bits x 26 6 = 9 := dig g6 (by decide)
  have q1 : bits x 21 2 = 0 := dig g3 (by decide)
  have f0 : fld x 25 1 = h := fld_eq (dig g5 h.isLt)
  have f1 : fld x 23 2 = o := fld_eq (dig g4 o.isLt)
  have f2 : fld x 16 5 = a := fld_eq (dig g2 a.isLt)
  have f3 : fld x 11 5 = b := fld_eq (dig g1 b.isLt)
  have f4 : fld x 0 11 = l := fld_eq (dig g0 l.isLt)
  have hz : x.toNat ≠ 0 := ne_zero q0 (by decide)
  intro k hk
  replace hk := mem_slots1 rfl hk
  subst hk; simp [hz, decodeMap, decodeMx, q0, q1, f0, f1, f2, f3, f4]

theorem cpys (h : BitVec 1) (o : BitVec 2) (a : BitVec 5) (b : BitVec 5) (l : BitVec 11) : Statement (.cpys h o a b l) := by
  have h0 := h.isLt
  have h1 := o.isLt
  have h2 := a.isLt
  have h3 := b.isLt
  have h4 := l.isLt
  have hv : (syl 0x28000000 [(h.toNat, 25), (o.toNat, 23), (a.toNat, 16), (b.toNat, 11), (l.toNat, 0)]).toNat = _ := toNat_syl (by simp only [sylValue]; omega)
  simp only [sylValue] at hv
  refine statement_of rfl ?_
  generalize syl 0x28000000 [(h.toNat, 25), (o.toNat, 23), (a.toNat, 16), (b.toNat, 11), (l.toNat, 0)] = x at hv ⊢
  have g0 : x.toNat / 2 ^ 0 = l.toNat + 2 ^ 11 * (b.toNat + 2 ^ 5 * (a.toNat + 2 ^ 5 * (0 + 2 ^ 2 * (o.toNat + 2 ^ 2 * (h.toNat + 2 ^ 1 * (10 + 2 ^ 6 * 0)))))) := by rw [Nat.pow_zero, Nat.div_one, hv]; omega
  have g1 : x.toNat / 2 ^ 11 = b.toNat + 2 ^ 5 * (a.toNat + 2 ^ 5 * (0 + 2 ^ 2 * (o.toNat + 2 ^ 2 * (h.toNat + 2 ^ 1 * (10 + 2 ^ 6 * 0))))) := nxt g0 l.isLt
  have g2 : x.toNat / 2 ^ 16 = a.toNat + 2 ^ 5 * (0 + 2 ^ 2 * (o.toNat + 2 ^ 2 * (h.toNat + 2 ^ 1 * (10 + 2 ^ 6 * 0)))) := nxt g1 b.isLt
  have g3 : x.toNat / 2 ^ 21 = 0 + 2 ^ 2 * (o.toNat + 2 ^ 2 * (h.toNat + 2 ^ 1 * (10 + 2 ^ 6 * 0))) := nxt g2 a.isLt
  have g4 : x.toNat / 2 ^ 23 = o.toNat + 2 ^ 2 * (h.toNat + 2 ^ 1 * (10 + 2 ^ 6 * 0)) := nxt g3 (by decide)
  have g5 : x.toNat / 2 ^ 25 = h.toNat + 2 ^ 1 * (10 + 2 ^ 6 * 0) := nxt g4 o.isLt
  have g6 : x.toNat / 2 ^ 26 = 10 + 2 ^ 6 * 0 := nxt g5 h.isLt
  have q0 : bits x 26 6 = 10 := dig g6 (by decide)
  have q1 : bits x 21 2 = 0 := dig g3 (by decide)
  have f0 : fld x 25 1 = h := fld_eq (dig g5 h.isLt)
  have f1 : fld x 23 2 = o := fld_eq (dig g4 o.isLt)
  have f2 : fld x 16 5 = a := fld_eq (dig g2 a.isLt)
  have f3 : fld x 11 5 = b := fld_eq (dig g1 b.isLt)
  have f4 : fld x 0 11 = l := fld_eq (dig g0 l.isLt)
  have hz : x.toNat ≠ 0 := ne_zero q0 (by decide)
  intro k hk
  replace hk := mem_slots1 rfl hk
  subst hk; simp [hz, decodeMap, decodeMx, q0, q1, f0, f1, f2, f3, f4]

theorem cpyf (h : BitVec 1) (o : BitVec 2) (n : BitVec 2) (a : BitVec 5) (l : BitVec 11) : Statement (.cpyf h o n a l) := by
  have h0 := h.isLt
  have h1 := o.isLt
  have h2 := n.isLt
  have h3 := a.isLt
  have h4 := l.isLt
  have hv : (syl 0x2C000000 [(h.toNat, 25), (o.toNat, 23), (n.toNat, 21), (a.toNat, 16), (l.toNat, 0)]).toNat = _ := toNat_syl (by simp only [sylValue]; omega)
  simp only [sylValue] at hv
  refine statement_of rfl ?_
  generalize syl 0x2C000000 [(h.toNat, 25), (o.toNat, 23), (n.toNat, 21), (a.toNat, 16), (l.toNat, 0)] = x at hv ⊢
  have g0 : x.toNat / 2 ^ 0 = l.toNat + 2 ^ 11 * (0 + 2 ^ 5 * (a.toNat + 2 ^ 5 * (n.toNat + 2 ^ 2 * (o.toNat + 2 ^ 2 * (h.toNat + 2 ^ 1 * (11 + 2 ^ 6 * 0)))))) := by rw [Nat.pow_zero, Nat.div_one, hv]; omega
  have g1 : x.toNat / 2 ^ 11 = 0 + 2 ^ 5 * (a.toNat + 2 ^ 5 * (n.toNat + 2 ^ 2 * (o.toNat + 2 ^ 2 * (h.toNat + 2 ^ 1 * (11 + 2 ^ 6 * 0))))) := nxt g0 l.isLt
  have g2 : x.toNat / 2 ^ 16 = a.toNat + 2 ^ 5 * (n.toNat + 2 ^ 2 * (o.toNat + 2 ^ 2 * (h.toNat + 2 ^ 1 * (11 + 2 ^ 6 * 0)))) := nxt g1 (by decide)
  have g3 : x.toNat / 2 ^ 21 = n.toNat + 2 ^ 2 * (o.toNat + 2 ^ 2 * (h.toNat + 2 ^ 1 * (11 + 2 ^ 6 * 0))) := nxt g2 a.isLt
  have g4 : x.toNat / 2 ^ 23 = o.toNat + 2 ^ 2 * (h.toNat + 2 ^ 1 * (11 + 2 ^ 6 * 0)) := nxt g3 n.isLt
  have g5 : x.toNat / 2 ^ 25 = h.toNat + 2 ^ 1 * (11 + 2 ^ 6 * 0) := nxt g4 o.isLt
  have g6 : x.toNat / 2 ^ 26 = 11 + 2 ^ 6 * 0 := nxt g5 h.isLt
  have q0 : bits x 26 6 = 11 := dig g6 (by decide)
  have q1 : bits x 11 5 = 0 := dig g1 (by decide)
  have f0 : fld x 25 1 = h := fld_eq (dig g5 h.isLt)
  have f1 : fld x 23 2 = o := fld_eq (dig g4 o.isLt)
  have f2 : fld x 21 2 = n := fld_eq (dig g3 n.isLt)
  have f3 : fld x 16 5 = a := fld_eq (dig g2 a.isLt)
  have f4 : fld x 0 11 = l := fld_eq (dig g0 l.isLt)
  have hz : x.toNat ≠ 0 := ne_zero q0 (by decide)
  intro k hk
  replace hk := mem_slots1 rfl hk
  subst hk; simp [hz, decodeMap, decodeMx, q0, q1, f0, f1, f2, f3, f4]

theorem ovl (h : BitVec 1) (a : BitVec 5) (b : BitVec 5) (l : BitVec 11) : Statement (.ovl h a b l) := by
  have h0 := h.isLt
  have h1 := a.isLt
  have h2 := b.isLt
  have h3 := l.isLt
  have hv : (syl 0x30000000 [(h.toNat, 25), (a.toNat, 16), (b.toNat, 11), (l.toNat, 0)]).toNat = _ := toNat_syl (by simp only [sylValue]; omega)
  simp only [sylValue] at hv
  refine statement_of rfl ?_
  generalize syl 0x30000000 [(h.toNat, 25), (a.toNat, 16), (b.toNat, 11), (l.toNat, 0)] = x at hv ⊢
  have g0 : x.toNat / 2 ^ 0 = l.toNat + 2 ^ 11 * (b.toNat + 2 ^ 5 * (a.toNat + 2 ^ 5 * (0 + 2 ^ 4 * (h.toNat + 2 ^ 1 * (12 + 2 ^ 6 * 0))))) := by rw [Nat.pow_zero, Nat.div_one, hv]; omega
  have g1 : x.toNat / 2 ^ 11 = b.toNat + 2 ^ 5 * (a.toNat + 2 ^ 5 * (0 + 2 ^ 4 * (h.toNat + 2 ^ 1 * (12 + 2 ^ 6 * 0)))) := nxt g0 l.isLt
  have g2 : x.toNat / 2 ^ 16 = a.toNat + 2 ^ 5 * (0 + 2 ^ 4 * (h.toNat + 2 ^ 1 * (12 + 2 ^ 6 * 0))) := nxt g1 b.isLt
  have g3 : x.toNat / 2 ^ 21 = 0 + 2 ^ 4 * (h.toNat + 2 ^ 1 * (12 + 2 ^ 6 * 0)) := nxt g2 a.isLt
  have g4 : x.toNat / 2 ^ 25 = h.toNat + 2 ^ 1 * (12 + 2 ^ 6 * 0) := nxt g3 (by decide)
  have g5 : x.toNat / 2 ^ 26 = 12 + 2 ^ 6 * 0 := nxt g4 h.isLt
  have q0 : bits x 26 6 = 12 := dig g5 (by decide)
  have q1 : bits x 21 4 = 0 := dig g3 (by decide)
  have f0 : fld x 25 1 = h := fld_eq (dig g4 h.isLt)
  have f1 : fld x 16 5 = a := fld_eq (dig g2 a.isLt)
  have f2 : fld x 11 5 = b := fld_eq (dig g1 b.isLt)
  have f3 : fld x 0 11 = l := fld_eq (dig g0 l.isLt)
  have hz : x.toNat ≠ 0 := ne_zero q0 (by decide)
  intro k hk
  replace hk := mem_slots1 rfl hk
  subst hk; simp [hz, decodeMap, decodeMx, q0, q1, f0, f1, f2, f3]

theorem gamoAdd (w : BitVec 1) (a : BitVec 5) (b : BitVec 5) (l : BitVec 11) : Statement (.gamoAdd w a b l) := by
  have h0 := w.isLt
  have h1 := a.isLt
  have h2 := b.isLt
  have h3 := l.isLt
  have hv : (syl 0x34000000 [(w.toNat, 24), (a.toNat, 16), (b.toNat, 11), (l.toNat, 0)]).toNat = _ := toNat_syl (by simp only [sylValue]; omega)
  simp only [sylValue] at hv
  refine statement_of rfl ?_
  generalize syl 0x34000000 [(w.toNat, 24), (a.toNat, 16), (b.toNat, 11), (l.toNat, 0)] = x at hv ⊢
  have g0 : x.toNat / 2 ^ 0 = l.toNat + 2 ^ 11 * (b.toNat + 2 ^ 5 * (a.toNat + 2 ^ 5 * (0 + 2 ^ 3 * (w.toNat + 2 ^ 1 * (0 + 2 ^ 1 * (13 + 2 ^ 6 * 0)))))) := by rw [Nat.pow_zero, Nat.div_one, hv]; omega
  have g1 : x.toNat / 2 ^ 11 = b.toNat + 2 ^ 5 * (a.toNat + 2 ^ 5 * (0 + 2 ^ 3 * (w.toNat + 2 ^ 1 * (0 + 2 ^ 1 * (13 + 2 ^ 6 * 0))))) := nxt g0 l.isLt
  have g2 : x.toNat / 2 ^ 16 = a.toNat + 2 ^ 5 * (0 + 2 ^ 3 * (w.toNat + 2 ^ 1 * (0 + 2 ^ 1 * (13 + 2 ^ 6 * 0)))) := nxt g1 b.isLt
  have g3 : x.toNat / 2 ^ 21 = 0 + 2 ^ 3 * (w.toNat + 2 ^ 1 * (0 + 2 ^ 1 * (13 + 2 ^ 6 * 0))) := nxt g2 a.isLt
  have g4 : x.toNat / 2 ^ 24 = w.toNat + 2 ^ 1 * (0 + 2 ^ 1 * (13 + 2 ^ 6 * 0)) := nxt g3 (by decide)
  have g5 : x.toNat / 2 ^ 25 = 0 + 2 ^ 1 * (13 + 2 ^ 6 * 0) := nxt g4 w.isLt
  have g6 : x.toNat / 2 ^ 26 = 13 + 2 ^ 6 * 0 := nxt g5 (by decide)
  have q0 : bits x 26 6 = 13 := dig g6 (by decide)
  have q1 : bits x 25 1 = 0 := dig g5 (by decide)
  have q2 : bits x 21 3 = 0 := dig g3 (by decide)
  have f0 : fld x 24 1 = w := fld_eq (dig g4 w.isLt)
  have f1 : fld x 16 5 = a := fld_eq (dig g2 a.isLt)
  have f2 : fld x 11 5 = b := fld_eq (dig g1 b.isLt)
  have f3 : fld x 0 11 = l := fld_eq (dig g0 l.isLt)
  have hz : x.toNat ≠ 0 := ne_zero q0 (by decide)
  intro k hk
  replace hk := mem_slots1 rfl hk
  subst hk; simp [hz, decodeMap, decodeMx, q0, q1, q2, f0, f1, f2, f3]

theorem gamoAnd (w : BitVec 1) (a : BitVec 5) (b : BitVec 5) (l : BitVec 11) : Statement (.gamoAnd w a b l) := by
  have h0 := w.isLt
  have h1 := a.isLt
  have h2 := b.isLt
  have h3 := l.isLt
  have hv : (syl 0x34200000 [(w.toNat, 24), (a.toNat, 16), (b.toNat, 11), (l.toNat, 0)]).toNat = _ := toNat_syl (by simp only [sylValue]; omega)
  simp only [sylValue] at hv
  refine statement_of rfl ?_
  generalize syl 0x34200000 [(w.toNat, 24), (a.toNat, 16), (b.toNat, 11), (l.toNat, 0)] = x at hv ⊢
  have g0 : x.toNat / 2 ^ 0 = l.toNat + 2 ^ 11 * (b.toNat + 2 ^ 5 * (a.toNat + 2 ^ 5 * (1 + 2 ^ 3 * (w.toNat + 2 ^ 1 * (0 + 2 ^ 1 * (13 + 2 ^ 6 * 0)))))) := by rw [Nat.pow_zero, Nat.div_one, hv]; omega
  have g1 : x.toNat / 2 ^ 11 = b.toNat + 2 ^ 5 * (a.toNat + 2 ^ 5 * (1 + 2 ^ 3 * (w.toNat + 2 ^ 1 * (0 + 2 ^ 1 * (13 + 2 ^ 6 * 0))))) := nxt g0 l.isLt
  have g2 : x.toNat / 2 ^ 16 = a.toNat + 2 ^ 5 * (1 + 2 ^ 3 * (w.toNat + 2 ^ 1 * (0 + 2 ^ 1 * (13 + 2 ^ 6 * 0)))) := nxt g1 b.isLt
  have g3 : x.toNat / 2 ^ 21 = 1 + 2 ^ 3 * (w.toNat + 2 ^ 1 * (0 + 2 ^ 1 * (13 + 2 ^ 6 * 0))) := nxt g2 a.isLt
  have g4 : x.toNat / 2 ^ 24 = w.toNat + 2 ^ 1 * (0 + 2 ^ 1 * (13 + 2 ^ 6 * 0)) := nxt g3 (by decide)
  have g5 : x.toNat / 2 ^ 25 = 0 + 2 ^ 1 * (13 + 2 ^ 6 * 0) := nxt g4 w.isLt
  have g6 : x.toNat / 2 ^ 26 = 13 + 2 ^ 6 * 0 := nxt g5 (by decide)
  have q0 : bits x 26 6 = 13 := dig g6 (by decide)
  have q1 : bits x 25 1 = 0 := dig g5 (by decide)
  have q2 : bits x 21 3 = 1 := dig g3 (by decide)
  have f0 : fld x 24 1 = w := fld_eq (dig g4 w.isLt)
  have f1 : fld x 16 5 = a := fld_eq (dig g2 a.isLt)
  have f2 : fld x 11 5 = b := fld_eq (dig g1 b.isLt)
  have f3 : fld x 0 11 = l := fld_eq (dig g0 l.isLt)
  have hz : x.toNat ≠ 0 := ne_zero q0 (by decide)
  intro k hk
  replace hk := mem_slots1 rfl hk
  subst hk; simp [hz, decodeMap, decodeMx, q0, q1, q2, f0, f1, f2, f3]

theorem gamoOr (w : BitVec 1) (a : BitVec 5) (b : BitVec 5) (l : BitVec 11) : Statement (.gamoOr w a b l) := by
  have h0 := w.isLt
  have h1 := a.isLt
  have h2 := b.isLt
  have h3 := l.isLt
  have hv : (syl 0x34400000 [(w.toNat, 24), (a.toNat, 16), (b.toNat, 11), (l.toNat, 0)]).toNat = _ := toNat_syl (by simp only [sylValue]; omega)
  simp only [sylValue] at hv
  refine statement_of rfl ?_
  generalize syl 0x34400000 [(w.toNat, 24), (a.toNat, 16), (b.toNat, 11), (l.toNat, 0)] = x at hv ⊢
  have g0 : x.toNat / 2 ^ 0 = l.toNat + 2 ^ 11 * (b.toNat + 2 ^ 5 * (a.toNat + 2 ^ 5 * (2 + 2 ^ 3 * (w.toNat + 2 ^ 1 * (0 + 2 ^ 1 * (13 + 2 ^ 6 * 0)))))) := by rw [Nat.pow_zero, Nat.div_one, hv]; omega
  have g1 : x.toNat / 2 ^ 11 = b.toNat + 2 ^ 5 * (a.toNat + 2 ^ 5 * (2 + 2 ^ 3 * (w.toNat + 2 ^ 1 * (0 + 2 ^ 1 * (13 + 2 ^ 6 * 0))))) := nxt g0 l.isLt
  have g2 : x.toNat / 2 ^ 16 = a.toNat + 2 ^ 5 * (2 + 2 ^ 3 * (w.toNat + 2 ^ 1 * (0 + 2 ^ 1 * (13 + 2 ^ 6 * 0)))) := nxt g1 b.isLt
  have g3 : x.toNat / 2 ^ 21 = 2 + 2 ^ 3 * (w.toNat + 2 ^ 1 * (0 + 2 ^ 1 * (13 + 2 ^ 6 * 0))) := nxt g2 a.isLt
  have g4 : x.toNat / 2 ^ 24 = w.toNat + 2 ^ 1 * (0 + 2 ^ 1 * (13 + 2 ^ 6 * 0)) := nxt g3 (by decide)
  have g5 : x.toNat / 2 ^ 25 = 0 + 2 ^ 1 * (13 + 2 ^ 6 * 0) := nxt g4 w.isLt
  have g6 : x.toNat / 2 ^ 26 = 13 + 2 ^ 6 * 0 := nxt g5 (by decide)
  have q0 : bits x 26 6 = 13 := dig g6 (by decide)
  have q1 : bits x 25 1 = 0 := dig g5 (by decide)
  have q2 : bits x 21 3 = 2 := dig g3 (by decide)
  have f0 : fld x 24 1 = w := fld_eq (dig g4 w.isLt)
  have f1 : fld x 16 5 = a := fld_eq (dig g2 a.isLt)
  have f2 : fld x 11 5 = b := fld_eq (dig g1 b.isLt)
  have f3 : fld x 0 11 = l := fld_eq (dig g0 l.isLt)
  have hz : x.toNat ≠ 0 := ne_zero q0 (by decide)
  intro k hk
  replace hk := mem_slots1 rfl hk
  subst hk; simp [hz, decodeMap, decodeMx, q0, q1, q2, f0, f1, f2, f3]

theorem gamoXor (w : BitVec 1) (a : BitVec 5) (b : BitVec 5) (l : BitVec 11) : Statement (.gamoXor w a b l) := by
  have h0 := w.isLt
  have h1 := a.isLt
  have h2 := b.isLt
  have h3 := l.isLt
  have hv : (syl 0x34600000 [(w.toNat, 24), (a.toNat, 16), (b.toNat, 11), (l.toNat, 0)]).toNat = _ := toNat_syl (by simp only [sylValue]; omega)
  simp only [sylValue] at hv
  refine statement_of rfl ?_
  generalize syl 0x34600000 [(w.toNat, 24), (a.toNat, 16), (b.toNat, 11), (l.toNat, 0)] = x at hv ⊢
  have g0 : x.toNat / 2 ^ 0 = l.toNat + 2 ^ 11 * (b.toNat + 2 ^ 5 * (a.toNat + 2 ^ 5 * (3 + 2 ^ 3 * (w.toNat + 2 ^ 1 * (0 + 2 ^ 1 * (13 + 2 ^ 6 * 0)))))) := by rw [Nat.pow_zero, Nat.div_one, hv]; omega
  have g1 : x.toNat / 2 ^ 11 = b.toNat + 2 ^ 5 * (a.toNat + 2 ^ 5 * (3 + 2 ^ 3 * (w.toNat + 2 ^ 1 * (0 + 2 ^ 1 * (13 + 2 ^ 6 * 0))))) := nxt g0 l.isLt
  have g2 : x.toNat / 2 ^ 16 = a.toNat + 2 ^ 5 * (3 + 2 ^ 3 * (w.toNat + 2 ^ 1 * (0 + 2 ^ 1 * (13 + 2 ^ 6 * 0)))) := nxt g1 b.isLt
  have g3 : x.toNat / 2 ^ 21 = 3 + 2 ^ 3 * (w.toNat + 2 ^ 1 * (0 + 2 ^ 1 * (13 + 2 ^ 6 * 0))) := nxt g2 a.isLt
  have g4 : x.toNat / 2 ^ 24 = w.toNat + 2 ^ 1 * (0 + 2 ^ 1 * (13 + 2 ^ 6 * 0)) := nxt g3 (by decide)
  have g5 : x.toNat / 2 ^ 25 = 0 + 2 ^ 1 * (13 + 2 ^ 6 * 0) := nxt g4 w.isLt
  have g6 : x.toNat / 2 ^ 26 = 13 + 2 ^ 6 * 0 := nxt g5 (by decide)
  have q0 : bits x 26 6 = 13 := dig g6 (by decide)
  have q1 : bits x 25 1 = 0 := dig g5 (by decide)
  have q2 : bits x 21 3 = 3 := dig g3 (by decide)
  have f0 : fld x 24 1 = w := fld_eq (dig g4 w.isLt)
  have f1 : fld x 16 5 = a := fld_eq (dig g2 a.isLt)
  have f2 : fld x 11 5 = b := fld_eq (dig g1 b.isLt)
  have f3 : fld x 0 11 = l := fld_eq (dig g0 l.isLt)
  have hz : x.toNat ≠ 0 := ne_zero q0 (by decide)
  intro k hk
  replace hk := mem_slots1 rfl hk
  subst hk; simp [hz, decodeMap, decodeMx, q0, q1, q2, f0, f1, f2, f3]

theorem gamoMin (w : BitVec 1) (a : BitVec 5) (b : BitVec 5) (l : BitVec 11) : Statement (.gamoMin w a b l) := by
  have h0 := w.isLt
  have h1 := a.isLt
  have h2 := b.isLt
  have h3 := l.isLt
  have hv : (syl 0x34800000 [(w.toNat, 24), (a.toNat, 16), (b.toNat, 11), (l.toNat, 0)]).toNat = _ := toNat_syl (by simp only [sylValue]; omega)
  simp only [sylValue] at hv
  refine statement_of rfl ?_
  generalize syl 0x34800000 [(w.toNat, 24), (a.toNat, 16), (b.toNat, 11), (l.toNat, 0)] = x at hv ⊢
  have g0 : x.toNat / 2 ^ 0 = l.toNat + 2 ^ 11 * (b.toNat + 2 ^ 5 * (a.toNat + 2 ^ 5 * (4 + 2 ^ 3 * (w.toNat + 2 ^ 1 * (0 + 2 ^ 1 * (13 + 2 ^ 6 * 0)))))) := by rw [Nat.pow_zero, Nat.div_one, hv]; omega
  have g1 : x.toNat / 2 ^ 11 = b.toNat + 2 ^ 5 * (a.toNat + 2 ^ 5 * (4 + 2 ^ 3 * (w.toNat + 2 ^ 1 * (0 + 2 ^ 1 * (13 + 2 ^ 6 * 0))))) := nxt g0 l.isLt
  have g2 : x.toNat / 2 ^ 16 = a.toNat + 2 ^ 5 * (4 + 2 ^ 3 * (w.toNat + 2 ^ 1 * (0 + 2 ^ 1 * (13 + 2 ^ 6 * 0)))) := nxt g1 b.isLt
  have g3 : x.toNat / 2 ^ 21 = 4 + 2 ^ 3 * (w.toNat + 2 ^ 1 * (0 + 2 ^ 1 * (13 + 2 ^ 6 * 0))) := nxt g2 a.isLt
  have g4 : x.toNat / 2 ^ 24 = w.toNat + 2 ^ 1 * (0 + 2 ^ 1 * (13 + 2 ^ 6 * 0)) := nxt g3 (by decide)
  have g5 : x.toNat / 2 ^ 25 = 0 + 2 ^ 1 * (13 + 2 ^ 6 * 0) := nxt g4 w.isLt
  have g6 : x.toNat / 2 ^ 26 = 13 + 2 ^ 6 * 0 := nxt g5 (by decide)
  have q0 : bits x 26 6 = 13 := dig g6 (by decide)
  have q1 : bits x 25 1 = 0 := dig g5 (by decide)
  have q2 : bits x 21 3 = 4 := dig g3 (by decide)
  have f0 : fld x 24 1 = w := fld_eq (dig g4 w.isLt)
  have f1 : fld x 16 5 = a := fld_eq (dig g2 a.isLt)
  have f2 : fld x 11 5 = b := fld_eq (dig g1 b.isLt)
  have f3 : fld x 0 11 = l := fld_eq (dig g0 l.isLt)
  have hz : x.toNat ≠ 0 := ne_zero q0 (by decide)
  intro k hk
  replace hk := mem_slots1 rfl hk
  subst hk; simp [hz, decodeMap, decodeMx, q0, q1, q2, f0, f1, f2, f3]

theorem gamoMax (w : BitVec 1) (a : BitVec 5) (b : BitVec 5) (l : BitVec 11) : Statement (.gamoMax w a b l) := by
  have h0 := w.isLt
  have h1 := a.isLt
  have h2 := b.isLt
  have h3 := l.isLt
  have hv : (syl 0x34A00000 [(w.toNat, 24), (a.toNat, 16), (b.toNat, 11), (l.toNat, 0)]).toNat = _ := toNat_syl (by simp only [sylValue]; omega)
  simp only [sylValue] at hv
  refine statement_of rfl ?_
  generalize syl 0x34A00000 [(w.toNat, 24), (a.toNat, 16), (b.toNat, 11), (l.toNat, 0)] = x at hv ⊢
  have g0 : x.toNat / 2 ^ 0 = l.toNat + 2 ^ 11 * (b.toNat + 2 ^ 5 * (a.toNat + 2 ^ 5 * (5 + 2 ^ 3 * (w.toNat + 2 ^ 1 * (0 + 2 ^ 1 * (13 + 2 ^ 6 * 0)))))) := by rw [Nat.pow_zero, Nat.div_one, hv]; omega
  have g1 : x.toNat / 2 ^ 11 = b.toNat + 2 ^ 5 * (a.toNat + 2 ^ 5 * (5 + 2 ^ 3 * (w.toNat + 2 ^ 1 * (0 + 2 ^ 1 * (13 + 2 ^ 6 * 0))))) := nxt g0 l.isLt
  have g2 : x.toNat / 2 ^ 16 = a.toNat + 2 ^ 5 * (5 + 2 ^ 3 * (w.toNat + 2 ^ 1 * (0 + 2 ^ 1 * (13 + 2 ^ 6 * 0)))) := nxt g1 b.isLt
  have g3 : x.toNat / 2 ^ 21 = 5 + 2 ^ 3 * (w.toNat + 2 ^ 1 * (0 + 2 ^ 1 * (13 + 2 ^ 6 * 0))) := nxt g2 a.isLt
  have g4 : x.toNat / 2 ^ 24 = w.toNat + 2 ^ 1 * (0 + 2 ^ 1 * (13 + 2 ^ 6 * 0)) := nxt g3 (by decide)
  have g5 : x.toNat / 2 ^ 25 = 0 + 2 ^ 1 * (13 + 2 ^ 6 * 0) := nxt g4 w.isLt
  have g6 : x.toNat / 2 ^ 26 = 13 + 2 ^ 6 * 0 := nxt g5 (by decide)
  have q0 : bits x 26 6 = 13 := dig g6 (by decide)
  have q1 : bits x 25 1 = 0 := dig g5 (by decide)
  have q2 : bits x 21 3 = 5 := dig g3 (by decide)
  have f0 : fld x 24 1 = w := fld_eq (dig g4 w.isLt)
  have f1 : fld x 16 5 = a := fld_eq (dig g2 a.isLt)
  have f2 : fld x 11 5 = b := fld_eq (dig g1 b.isLt)
  have f3 : fld x 0 11 = l := fld_eq (dig g0 l.isLt)
  have hz : x.toNat ≠ 0 := ne_zero q0 (by decide)
  intro k hk
  replace hk := mem_slots1 rfl hk
  subst hk; simp [hz, decodeMap, decodeMx, q0, q1, q2, f0, f1, f2, f3]

theorem gamoSwap (w : BitVec 1) (a : BitVec 5) (b : BitVec 5) (l : BitVec 11) : Statement (.gamoSwap w a b l) := by
  have h0 := w.isLt
  have h1 := a.isLt
  have h2 := b.isLt
  have h3 := l.isLt
  have hv : (syl 0x34C00000 [(w.toNat, 24), (a.toNat, 16), (b.toNat, 11), (l.toNat, 0)]).toNat = _ := toNat_syl (by simp only [sylValue]; omega)
  simp only [sylValue] at hv
  refine statement_of rfl ?_
  generalize syl 0x34C00000 [(w.toNat, 24), (a.toNat, 16), (b.toNat, 11), (l.toNat, 0)] = x at hv ⊢
  have g0 : x.toNat / 2 ^ 0 = l.toNat + 2 ^ 11 * (b.toNat + 2 ^ 5 * (a.toNat + 2 ^ 5 * (6 + 2 ^ 3 * (w.toNat + 2 ^ 1 * (0 + 2 ^ 1 * (13 + 2 ^ 6 * 0)))))) := by rw [Nat.pow_zero, Nat.div_one, hv]; omega
  have g1 : x.toNat / 2 ^ 11 = b.toNat + 2 ^ 5 * (a.toNat + 2 ^ 5 * (6 + 2 ^ 3 * (w.toNat + 2 ^ 1 * (0 + 2 ^ 1 * (13 + 2 ^ 6 * 0))))) := nxt g0 l.isLt
  have g2 : x.toNat / 2 ^ 16 = a.toNat + 2 ^ 5 * (6 + 2 ^ 3 * (w.toNat + 2 ^ 1 * (0 + 2 ^ 1 * (13 + 2 ^ 6 * 0)))) := nxt g1 b.isLt
  have g3 : x.toNat / 2 ^ 21 = 6 + 2 ^ 3 * (w.toNat + 2 ^ 1 * (0 + 2 ^ 1 * (13 + 2 ^ 6 * 0))) := nxt g2 a.isLt
  have g4 : x.toNat / 2 ^ 24 = w.toNat + 2 ^ 1 * (0 + 2 ^ 1 * (13 + 2 ^ 6 * 0)) := nxt g3 (by decide)
  have g5 : x.toNat / 2 ^ 25 = 0 + 2 ^ 1 * (13 + 2 ^ 6 * 0) := nxt g4 w.isLt
  have g6 : x.toNat / 2 ^ 26 = 13 + 2 ^ 6 * 0 := nxt g5 (by decide)
  have q0 : bits x 26 6 = 13 := dig g6 (by decide)
  have q1 : bits x 25 1 = 0 := dig g5 (by decide)
  have q2 : bits x 21 3 = 6 := dig g3 (by decide)
  have f0 : fld x 24 1 = w := fld_eq (dig g4 w.isLt)
  have f1 : fld x 16 5 = a := fld_eq (dig g2 a.isLt)
  have f2 : fld x 11 5 = b := fld_eq (dig g1 b.isLt)
  have f3 : fld x 0 11 = l := fld_eq (dig g0 l.isLt)
  have hz : x.toNat ≠ 0 := ne_zero q0 (by decide)
  intro k hk
  replace hk := mem_slots1 rfl hk
  subst hk; simp [hz, decodeMap, decodeMx, q0, q1, q2, f0, f1, f2, f3]

theorem gamoCas (w : BitVec 1) (a : BitVec 5) (b : BitVec 5) (l : BitVec 11) : Statement (.gamoCas w a b l) := by
  have h0 := w.isLt
  have h1 := a.isLt
  have h2 := b.isLt
  have h3 := l.isLt
  have hv : (syl 0x34E00000 [(w.toNat, 24), (a.toNat, 16), (b.toNat, 11), (l.toNat, 0)]).toNat = _ := toNat_syl (by simp only [sylValue]; omega)
  simp only [sylValue] at hv
  refine statement_of rfl ?_
  generalize syl 0x34E00000 [(w.toNat, 24), (a.toNat, 16), (b.toNat, 11), (l.toNat, 0)] = x at hv ⊢
  have g0 : x.toNat / 2 ^ 0 = l.toNat + 2 ^ 11 * (b.toNat + 2 ^ 5 * (a.toNat + 2 ^ 5 * (7 + 2 ^ 3 * (w.toNat + 2 ^ 1 * (0 + 2 ^ 1 * (13 + 2 ^ 6 * 0)))))) := by rw [Nat.pow_zero, Nat.div_one, hv]; omega
  have g1 : x.toNat / 2 ^ 11 = b.toNat + 2 ^ 5 * (a.toNat + 2 ^ 5 * (7 + 2 ^ 3 * (w.toNat + 2 ^ 1 * (0 + 2 ^ 1 * (13 + 2 ^ 6 * 0))))) := nxt g0 l.isLt
  have g2 : x.toNat / 2 ^ 16 = a.toNat + 2 ^ 5 * (7 + 2 ^ 3 * (w.toNat + 2 ^ 1 * (0 + 2 ^ 1 * (13 + 2 ^ 6 * 0)))) := nxt g1 b.isLt
  have g3 : x.toNat / 2 ^ 21 = 7 + 2 ^ 3 * (w.toNat + 2 ^ 1 * (0 + 2 ^ 1 * (13 + 2 ^ 6 * 0))) := nxt g2 a.isLt
  have g4 : x.toNat / 2 ^ 24 = w.toNat + 2 ^ 1 * (0 + 2 ^ 1 * (13 + 2 ^ 6 * 0)) := nxt g3 (by decide)
  have g5 : x.toNat / 2 ^ 25 = 0 + 2 ^ 1 * (13 + 2 ^ 6 * 0) := nxt g4 w.isLt
  have g6 : x.toNat / 2 ^ 26 = 13 + 2 ^ 6 * 0 := nxt g5 (by decide)
  have q0 : bits x 26 6 = 13 := dig g6 (by decide)
  have q1 : bits x 25 1 = 0 := dig g5 (by decide)
  have q2 : bits x 21 3 = 7 := dig g3 (by decide)
  have f0 : fld x 24 1 = w := fld_eq (dig g4 w.isLt)
  have f1 : fld x 16 5 = a := fld_eq (dig g2 a.isLt)
  have f2 : fld x 11 5 = b := fld_eq (dig g1 b.isLt)
  have f3 : fld x 0 11 = l := fld_eq (dig g0 l.isLt)
  have hz : x.toNat ≠ 0 := ne_zero q0 (by decide)
  intro k hk
  replace hk := mem_slots1 rfl hk
  subst hk; simp [hz, decodeMap, decodeMx, q0, q1, q2, f0, f1, f2, f3]

theorem gamoAcqAdd (w : BitVec 1) (a : BitVec 5) (b : BitVec 5) (l : BitVec 11) : Statement (.gamoAcqAdd w a b l) := by
  have h0 := w.isLt
  have h1 := a.isLt
  have h2 := b.isLt
  have h3 := l.isLt
  have hv : (syl 0x38000000 [(w.toNat, 24), (a.toNat, 16), (b.toNat, 11), (l.toNat, 0)]).toNat = _ := toNat_syl (by simp only [sylValue]; omega)
  simp only [sylValue] at hv
  refine statement_of rfl ?_
  generalize syl 0x38000000 [(w.toNat, 24), (a.toNat, 16), (b.toNat, 11), (l.toNat, 0)] = x at hv ⊢
  have g0 : x.toNat / 2 ^ 0 = l.toNat + 2 ^ 11 * (b.toNat + 2 ^ 5 * (a.toNat + 2 ^ 5 * (0 + 2 ^ 3 * (w.toNat + 2 ^ 1 * (0 + 2 ^ 1 * (14 + 2 ^ 6 * 0)))))) := by rw [Nat.pow_zero, Nat.div_one, hv]; omega
  have g1 : x.toNat / 2 ^ 11 = b.toNat + 2 ^ 5 * (a.toNat + 2 ^ 5 * (0 + 2 ^ 3 * (w.toNat + 2 ^ 1 * (0 + 2 ^ 1 * (14 + 2 ^ 6 * 0))))) := nxt g0 l.isLt
  have g2 : x.toNat / 2 ^ 16 = a.toNat + 2 ^ 5 * (0 + 2 ^ 3 * (w.toNat + 2 ^ 1 * (0 + 2 ^ 1 * (14 + 2 ^ 6 * 0)))) := nxt g1 b.isLt
  have g3 : x.toNat / 2 ^ 21 = 0 + 2 ^ 3 * (w.toNat + 2 ^ 1 * (0 + 2 ^ 1 * (14 + 2 ^ 6 * 0))) := nxt g2 a.isLt
  have g4 : x.toNat / 2 ^ 24 = w.toNat + 2 ^ 1 * (0 + 2 ^ 1 * (14 + 2 ^ 6 * 0)) := nxt g3 (by decide)
  have g5 : x.toNat / 2 ^ 25 = 0 + 2 ^ 1 * (14 + 2 ^ 6 * 0) := nxt g4 w.isLt
  have g6 : x.toNat / 2 ^ 26 = 14 + 2 ^ 6 * 0 := nxt g5 (by decide)
  have q0 : bits x 26 6 = 14 := dig g6 (by decide)
  have q1 : bits x 25 1 = 0 := dig g5 (by decide)
  have q2 : bits x 21 3 = 0 := dig g3 (by decide)
  have f0 : fld x 24 1 = w := fld_eq (dig g4 w.isLt)
  have f1 : fld x 16 5 = a := fld_eq (dig g2 a.isLt)
  have f2 : fld x 11 5 = b := fld_eq (dig g1 b.isLt)
  have f3 : fld x 0 11 = l := fld_eq (dig g0 l.isLt)
  have hz : x.toNat ≠ 0 := ne_zero q0 (by decide)
  intro k hk
  replace hk := mem_slots1 rfl hk
  subst hk; simp [hz, decodeMap, decodeMx, q0, q1, q2, f0, f1, f2, f3]

theorem gamoAcqAnd (w : BitVec 1) (a : BitVec 5) (b : BitVec 5) (l : BitVec 11) : Statement (.gamoAcqAnd w a b l) := by
  have h0 := w.isLt
  have h1 := a.isLt
  have h2 := b.isLt
  have h3 := l.isLt
  have hv : (syl 0x38200000 [(w.toNat, 24), (a.toNat, 16), (b.toNat, 11), (l.toNat, 0)]).toNat = _ := toNat_syl (by simp only [sylValue]; omega)
  simp only [sylValue] at hv
  refine statement_of rfl ?_
  generalize syl 0x38200000 [(w.toNat, 24), (a.toNat, 16), (b.toNat, 11), (l.toNat, 0)] = x at hv ⊢
  have g0 : x.toNat / 2 ^ 0 = l.toNat + 2 ^ 11 * (b.toNat + 2 ^ 5 * (a.toNat + 2 ^ 5 * (1 + 2 ^ 3 * (w.toNat + 2 ^ 1 * (0 + 2 ^ 1 * (14 + 2 ^ 6 * 0)))))) := by rw [Nat.pow_zero, Nat.div_one, hv]; omega
  have g1 : x.toNat / 2 ^ 11 = b.toNat + 2 ^ 5 * (a.toNat + 2 ^ 5 * (1 + 2 ^ 3 * (w.toNat + 2 ^ 1 * (0 + 2 ^ 1 * (14 + 2 ^ 6 * 0))))) := nxt g0 l.isLt
  have g2 : x.toNat / 2 ^ 16 = a.toNat + 2 ^ 5 * (1 + 2 ^ 3 * (w.toNat + 2 ^ 1 * (0 + 2 ^ 1 * (14 + 2 ^ 6 * 0)))) := nxt g1 b.isLt
  have g3 : x.toNat / 2 ^ 21 = 1 + 2 ^ 3 * (w.toNat + 2 ^ 1 * (0 + 2 ^ 1 * (14 + 2 ^ 6 * 0))) := nxt g2 a.isLt
  have g4 : x.toNat / 2 ^ 24 = w.toNat + 2 ^ 1 * (0 + 2 ^ 1 * (14 + 2 ^ 6 * 0)) := nxt g3 (by decide)
  have g5 : x.toNat / 2 ^ 25 = 0 + 2 ^ 1 * (14 + 2 ^ 6 * 0) := nxt g4 w.isLt
  have g6 : x.toNat / 2 ^ 26 = 14 + 2 ^ 6 * 0 := nxt g5 (by decide)
  have q0 : bits x 26 6 = 14 := dig g6 (by decide)
  have q1 : bits x 25 1 = 0 := dig g5 (by decide)
  have q2 : bits x 21 3 = 1 := dig g3 (by decide)
  have f0 : fld x 24 1 = w := fld_eq (dig g4 w.isLt)
  have f1 : fld x 16 5 = a := fld_eq (dig g2 a.isLt)
  have f2 : fld x 11 5 = b := fld_eq (dig g1 b.isLt)
  have f3 : fld x 0 11 = l := fld_eq (dig g0 l.isLt)
  have hz : x.toNat ≠ 0 := ne_zero q0 (by decide)
  intro k hk
  replace hk := mem_slots1 rfl hk
  subst hk; simp [hz, decodeMap, decodeMx, q0, q1, q2, f0, f1, f2, f3]

theorem gamoAcqOr (w : BitVec 1) (a : BitVec 5) (b : BitVec 5) (l : BitVec 11) : Statement (.gamoAcqOr w a b l) := by
  have h0 := w.isLt
  have h1 := a.isLt
  have h2 := b.isLt
  have h3 := l.isLt
  have hv : (syl 0x38400000 [(w.toNat, 24), (a.toNat, 16), (b.toNat, 11), (l.toNat, 0)]).toNat = _ := toNat_syl (by simp only [sylValue]; omega)
  simp only [sylValue] at hv
  refine statement_of rfl ?_
  generalize syl 0x38400000 [(w.toNat, 24), (a.toNat, 16), (b.toNat, 11), (l.toNat, 0)] = x at hv ⊢
  have g0 : x.toNat / 2 ^ 0 = l.toNat + 2 ^ 11 * (b.toNat + 2 ^ 5 * (a.toNat + 2 ^ 5 * (2 + 2 ^ 3 * (w.toNat + 2 ^ 1 * (0 + 2 ^ 1 * (14 + 2 ^ 6 * 0)))))) := by rw [Nat.pow_zero, Nat.div_one, hv]; omega
  have g1 : x.toNat / 2 ^ 11 = b.toNat + 2 ^ 5 * (a.toNat + 2 ^ 5 * (2 + 2 ^ 3 * (w.toNat + 2 ^ 1 * (0 + 2 ^ 1 * (14 + 2 ^ 6 * 0))))) := nxt g0 l.isLt
  have g2 : x.toNat / 2 ^ 16 = a.toNat + 2 ^ 5 * (2 + 2 ^ 3 * (w.toNat + 2 ^ 1 * (0 + 2 ^ 1 * (14 + 2 ^ 6 * 0)))) := nxt g1 b.isLt
  have g3 : x.toNat / 2 ^ 21 = 2 + 2 ^ 3 * (w.toNat + 2 ^ 1 * (0 + 2 ^ 1 * (14 + 2 ^ 6 * 0))) := nxt g2 a.isLt
  have g4 : x.toNat / 2 ^ 24 = w.toNat + 2 ^ 1 * (0 + 2 ^ 1 * (14 + 2 ^ 6 * 0)) := nxt g3 (by decide)
  have g5 : x.toNat / 2 ^ 25 = 0 + 2 ^ 1 * (14 + 2 ^ 6 * 0) := nxt g4 w.isLt
  have g6 : x.toNat / 2 ^ 26 = 14 + 2 ^ 6 * 0 := nxt g5 (by decide)
  have q0 : bits x 26 6 = 14 := dig g6 (by decide)
  have q1 : bits x 25 1 = 0 := dig g5 (by decide)
  have q2 : bits x 21 3 = 2 := dig g3 (by decide)
  have f0 : fld x 24 1 = w := fld_eq (dig g4 w.isLt)
  have f1 : fld x 16 5 = a := fld_eq (dig g2 a.isLt)
  have f2 : fld x 11 5 = b := fld_eq (dig g1 b.isLt)
  have f3 : fld x 0 11 = l := fld_eq (dig g0 l.isLt)
  have hz : x.toNat ≠ 0 := ne_zero q0 (by decide)
  intro k hk
  replace hk := mem_slots1 rfl hk
  subst hk; simp [hz, decodeMap, decodeMx, q0, q1, q2, f0, f1, f2, f3]

theorem gamoAcqXor (w : BitVec 1) (a : BitVec 5) (b : BitVec 5) (l : BitVec 11) : Statement (.gamoAcqXor w a b l) := by
  have h0 := w.isLt
  have h1 := a.isLt
  have h2 := b.isLt
  have h3 := l.isLt
  have hv : (syl 0x38600000 [(w.toNat, 24), (a.toNat, 16), (b.toNat, 11), (l.toNat, 0)]).toNat = _ := toNat_syl (by simp only [sylValue]; omega)
  simp only [sylValue] at hv
  refine statement_of rfl ?_
  generalize syl 0x38600000 [(w.toNat, 24), (a.toNat, 16), (b.toNat, 11), (l.toNat, 0)] = x at hv ⊢
  have g0 : x.toNat / 2 ^ 0 = l.toNat + 2 ^ 11 * (b.toNat + 2 ^ 5 * (a.toNat + 2 ^ 5 * (3 + 2 ^ 3 * (w.toNat + 2 ^ 1 * (0 + 2 ^ 1 * (14 + 2 ^ 6 * 0)))))) := by rw [Nat.pow_zero, Nat.div_one, hv]; omega
  have g1 : x.toNat / 2 ^ 11 = b.toNat + 2 ^ 5 * (a.toNat + 2 ^ 5 * (3 + 2 ^ 3 * (w.toNat + 2 ^ 1 * (0 + 2 ^ 1 * (14 + 2 ^ 6 * 0))))) := nxt g0 l.isLt
  have g2 : x.toNat / 2 ^ 16 = a.toNat + 2 ^ 5 * (3 + 2 ^ 3 * (w.toNat + 2 ^ 1 * (0 + 2 ^ 1 * (14 + 2 ^ 6 * 0)))) := nxt g1 b.isLt
  have g3 : x.toNat / 2 ^ 21 = 3 + 2 ^ 3 * (w.toNat + 2 ^ 1 * (0 + 2 ^ 1 * (14 + 2 ^ 6 * 0))) := nxt g2 a.isLt
  have g4 : x.toNat / 2 ^ 24 = w.toNat + 2 ^ 1 * (0 + 2 ^ 1 * (14 + 2 ^ 6 * 0)) := nxt g3 (by decide)
  have g5 : x.toNat / 2 ^ 25 = 0 + 2 ^ 1 * (14 + 2 ^ 6 * 0) := nxt g4 w.isLt
  have g6 : x.toNat / 2 ^ 26 = 14 + 2 ^ 6 * 0 := nxt g5 (by decide)
  have q0 : bits x 26 6 = 14 := dig g6 (by decide)
  have q1 : bits x 25 1 = 0 := dig g5 (by decide)
  have q2 : bits x 21 3 = 3 := dig g3 (by decide)
  have f0 : fld x 24 1 = w := fld_eq (dig g4 w.isLt)
  have f1 : fld x 16 5 = a := fld_eq (dig g2 a.isLt)
  have f2 : fld x 11 5 = b := fld_eq (dig g1 b.isLt)
  have f3 : fld x 0 11 = l := fld_eq (dig g0 l.isLt)
  have hz : x.toNat ≠ 0 := ne_zero q0 (by decide)
  intro k hk
  replace hk := mem_slots1 rfl hk
  subst hk; simp [hz, decodeMap, decodeMx, q0, q1, q2, f0, f1, f2, f3]

theorem gamoAcqMin (w : BitVec 1) (a : BitVec 5) (b : BitVec 5) (l : BitVec 11) : Statement (.gamoAcqMin w a b l) := by
  have h0 := w.isLt
  have h1 := a.isLt
  have h2 := b.isLt
  have h3 := l.isLt
  have hv : (syl 0x38800000 [(w.toNat, 24), (a.toNat, 16), (b.toNat, 11), (l.toNat, 0)]).toNat = _ := toNat_syl (by simp only [sylValue]; omega)
  simp only [sylValue] at hv
  refine statement_of rfl ?_
  generalize syl 0x38800000 [(w.toNat, 24), (a.toNat, 16), (b.toNat, 11), (l.toNat, 0)] = x at hv ⊢
  have g0 : x.toNat / 2 ^ 0 = l.toNat + 2 ^ 11 * (b.toNat + 2 ^ 5 * (a.toNat + 2 ^ 5 * (4 + 2 ^ 3 * (w.toNat + 2 ^ 1 * (0 + 2 ^ 1 * (14 + 2 ^ 6 * 0)))))) := by rw [Nat.pow_zero, Nat.div_one, hv]; omega
  have g1 : x.toNat / 2 ^ 11 = b.toNat + 2 ^ 5 * (a.toNat + 2 ^ 5 * (4 + 2 ^ 3 * (w.toNat + 2 ^ 1 * (0 + 2 ^ 1 * (14 + 2 ^ 6 * 0))))) := nxt g0 l.isLt
  have g2 : x.toNat / 2 ^ 16 = a.toNat + 2 ^ 5 * (4 + 2 ^ 3 * (w.toNat + 2 ^ 1 * (0 + 2 ^ 1 * (14 + 2 ^ 6 * 0)))) := nxt g1 b.isLt
  have g3 : x.toNat / 2 ^ 21 = 4 + 2 ^ 3 * (w.toNat + 2 ^ 1 * (0 + 2 ^ 1 * (14 + 2 ^ 6 * 0))) := nxt g2 a.isLt
  have g4 : x.toNat / 2 ^ 24 = w.toNat + 2 ^ 1 * (0 + 2 ^ 1 * (14 + 2 ^ 6 * 0)) := nxt g3 (by decide)
  have g5 : x.toNat / 2 ^ 25 = 0 + 2 ^ 1 * (14 + 2 ^ 6 * 0) := nxt g4 w.isLt
  have g6 : x.toNat / 2 ^ 26 = 14 + 2 ^ 6 * 0 := nxt g5 (by decide)
  have q0 : bits x 26 6 = 14 := dig g6 (by decide)
  have q1 : bits x 25 1 = 0 := dig g5 (by decide)
  have q2 : bits x 21 3 = 4 := dig g3 (by decide)
  have f0 : fld x 24 1 = w := fld_eq (dig g4 w.isLt)
  have f1 : fld x 16 5 = a := fld_eq (dig g2 a.isLt)
  have f2 : fld x 11 5 = b := fld_eq (dig g1 b.isLt)
  have f3 : fld x 0 11 = l := fld_eq (dig g0 l.isLt)
  have hz : x.toNat ≠ 0 := ne_zero q0 (by decide)
  intro k hk
  replace hk := mem_slots1 rfl hk
  subst hk; simp [hz, decodeMap, decodeMx, q0, q1, q2, f0, f1, f2, f3]

theorem gamoAcqMax (w : BitVec 1) (a : BitVec 5) (b : BitVec 5) (l : BitVec 11) : Statement (.gamoAcqMax w a b l) := by
  have h0 := w.isLt
  have h1 := a.isLt
  have h2 := b.isLt
  have h3 := l.isLt
  have hv : (syl 0x38A00000 [(w.toNat, 24), (a.toNat, 16), (b.toNat, 11), (l.toNat, 0)]).toNat = _ := toNat_syl (by simp only [sylValue]; omega)
  simp only [sylValue] at hv
  refine statement_of rfl ?_
  generalize syl 0x38A00000 [(w.toNat, 24), (a.toNat, 16), (b.toNat, 11), (l.toNat, 0)] = x at hv ⊢
  have g0 : x.toNat / 2 ^ 0 = l.toNat + 2 ^ 11 * (b.toNat + 2 ^ 5 * (a.toNat + 2 ^ 5 * (5 + 2 ^ 3 * (w.toNat + 2 ^ 1 * (0 + 2 ^ 1 * (14 + 2 ^ 6 * 0)))))) := by rw [Nat.pow_zero, Nat.div_one, hv]; omega
  have g1 : x.toNat / 2 ^ 11 = b.toNat + 2 ^ 5 * (a.toNat + 2 ^ 5 * (5 + 2 ^ 3 * (w.toNat + 2 ^ 1 * (0 + 2 ^ 1 * (14 + 2 ^ 6 * 0))))) := nxt g0 l.isLt
  have g2 : x.toNat / 2 ^ 16 = a.toNat + 2 ^ 5 * (5 + 2 ^ 3 * (w.toNat + 2 ^ 1 * (0 + 2 ^ 1 * (14 + 2 ^ 6 * 0)))) := nxt g1 b.isLt
  have g3 : x.toNat / 2 ^ 21 = 5 + 2 ^ 3 * (w.toNat + 2 ^ 1 * (0 + 2 ^ 1 * (14 + 2 ^ 6 * 0))) := nxt g2 a.isLt
  have g4 : x.toNat / 2 ^ 24 = w.toNat + 2 ^ 1 * (0 + 2 ^ 1 * (14 + 2 ^ 6 * 0)) := nxt g3 (by decide)
  have g5 : x.toNat / 2 ^ 25 = 0 + 2 ^ 1 * (14 + 2 ^ 6 * 0) := nxt g4 w.isLt
  have g6 : x.toNat / 2 ^ 26 = 14 + 2 ^ 6 * 0 := nxt g5 (by decide)
  have q0 : bits x 26 6 = 14 := dig g6 (by decide)
  have q1 : bits x 25 1 = 0 := dig g5 (by decide)
  have q2 : bits x 21 3 = 5 := dig g3 (by decide)
  have f0 : fld x 24 1 = w := fld_eq (dig g4 w.isLt)
  have f1 : fld x 16 5 = a := fld_eq (dig g2 a.isLt)
  have f2 : fld x 11 5 = b := fld_eq (dig g1 b.isLt)
  have f3 : fld x 0 11 = l := fld_eq (dig g0 l.isLt)
  have hz : x.toNat ≠ 0 := ne_zero q0 (by decide)
  intro k hk
  replace hk := mem_slots1 rfl hk
  subst hk; simp [hz, decodeMap, decodeMx, q0, q1, q2, f0, f1, f2, f3]

theorem gamoAcqSwap (w : BitVec 1) (a : BitVec 5) (b : BitVec 5) (l : BitVec 11) : Statement (.gamoAcqSwap w a b l) := by
  have h0 := w.isLt
  have h1 := a.isLt
  have h2 := b.isLt
  have h3 := l.isLt
  have hv : (syl 0x38C00000 [(w.toNat, 24), (a.toNat, 16), (b.toNat, 11), (l.toNat, 0)]).toNat = _ := toNat_syl (by simp only [sylValue]; omega)
  simp only [sylValue] at hv
  refine statement_of rfl ?_
  generalize syl 0x38C00000 [(w.toNat, 24), (a.toNat, 16), (b.toNat, 11), (l.toNat, 0)] = x at hv ⊢
  have g0 : x.toNat / 2 ^ 0 = l.toNat + 2 ^ 11 * (b.toNat + 2 ^ 5 * (a.toNat + 2 ^ 5 * (6 + 2 ^ 3 * (w.toNat + 2 ^ 1 * (0 + 2 ^ 1 * (14 + 2 ^ 6 * 0)))))) := by rw [Nat.pow_zero, Nat.div_one, hv]; omega
  have g1 : x.toNat / 2 ^ 11 = b.toNat + 2 ^ 5 * (a.toNat + 2 ^ 5 * (6 + 2 ^ 3 * (w.toNat + 2 ^ 1 * (0 + 2 ^ 1 * (14 + 2 ^ 6 * 0))))) := nxt g0 l.isLt
  have g2 : x.toNat / 2 ^ 16 = a.toNat + 2 ^ 5 * (6 + 2 ^ 3 * (w.toNat + 2 ^ 1 * (0 + 2 ^ 1 * (14 + 2 ^ 6 * 0)))) := nxt g1 b.isLt
  have g3 : x.toNat / 2 ^ 21 = 6 + 2 ^ 3 * (w.toNat + 2 ^ 1 * (0 + 2 ^ 1 * (14 + 2 ^ 6 * 0))) := nxt g2 a.isLt
  have g4 : x.toNat / 2 ^ 24 = w.toNat + 2 ^ 1 * (0 + 2 ^ 1 * (14 + 2 ^ 6 * 0)) := nxt g3 (by decide)
  have g5 : x.toNat / 2 ^ 25 = 0 + 2 ^ 1 * (14 + 2 ^ 6 * 0) := nxt g4 w.isLt
  have g6 : x.toNat / 2 ^ 26 = 14 + 2 ^ 6 * 0 := nxt g5 (by decide)
  have q0 : bits x 26 6 = 14 := dig g6 (by decide)
  have q1 : bits x 25 1 = 0 := dig g5 (by decide)
  have q2 : bits x 21 3 = 6 := dig g3 (by decide)
  have f0 : fld x 24 1 = w := fld_eq (dig g4 w.isLt)
  have f1 : fld x 16 5 = a := fld_eq (dig g2 a.isLt)
  have f2 : fld x 11 5 = b := fld_eq (dig g1 b.isLt)
  have f3 : fld x 0 11 = l := fld_eq (dig g0 l.isLt)
  have hz : x.toNat ≠ 0 := ne_zero q0 (by decide)
  intro k hk
  replace hk := mem_slots1 rfl hk
  subst hk; simp [hz, decodeMap, decodeMx, q0, q1, q2, f0, f1, f2, f3]

theorem gamoAcqCas (w : BitVec 1) (a : BitVec 5) (b : BitVec 5) (l : BitVec 11) : Statement (.gamoAcqCas w a b l) := by
  have h0 := w.isLt
  have h1 := a.isLt
  have h2 := b.isLt
  have h3 := l.isLt
  have hv : (syl 0x38E00000 [(w.toNat, 24), (a.toNat, 16), (b.toNat, 11), (l.toNat, 0)]).toNat = _ := toNat_syl (by simp only [sylValue]; omega)
  simp only [sylValue] at hv
  refine statement_of rfl ?_
  generalize syl 0x38E00000 [(w.toNat, 24), (a.toNat, 16), (b.toNat, 11), (l.toNat, 0)] = x at hv ⊢
  have g0 : x.toNat / 2 ^ 0 = l.toNat + 2 ^ 11 * (b.toNat + 2 ^ 5 * (a.toNat + 2 ^ 5 * (7 + 2 ^ 3 * (w.toNat + 2 ^ 1 * (0 + 2 ^ 1 * (14 + 2 ^ 6 * 0)))))) := by rw [Nat.pow_zero, Nat.div_one, hv]; omega
  have g1 : x.toNat / 2 ^ 11 = b.toNat + 2 ^ 5 * (a.toNat + 2 ^ 5 * (7 + 2 ^ 3 * (w.toNat + 2 ^ 1 * (0 + 2 ^ 1 * (14 + 2 ^ 6 * 0))))) := nxt g0 l.isLt
  have g2 : x.toNat / 2 ^ 16 = a.toNat + 2 ^ 5 * (7 + 2 ^ 3 * (w.toNat + 2 ^ 1 * (0 + 2 ^ 1 * (14 + 2 ^ 6 * 0)))) := nxt g1 b.isLt
  have g3 : x.toNat / 2 ^ 21 = 7 + 2 ^ 3 * (w.toNat + 2 ^ 1 * (0 + 2 ^ 1 * (14 + 2 ^ 6 * 0))) := nxt g2 a.isLt
  have g4 : x.toNat / 2 ^ 24 = w.toNat + 2 ^ 1 * (0 + 2 ^ 1 * (14 + 2 ^ 6 * 0)) := nxt g3 (by decide)
  have g5 : x.toNat / 2 ^ 25 = 0 + 2 ^ 1 * (14 + 2 ^ 6 * 0) := nxt g4 w.isLt
  have g6 : x.toNat / 2 ^ 26 = 14 + 2 ^ 6 * 0 := nxt g5 (by decide)
  have q0 : bits x 26 6 = 14 := dig g6 (by decide)
  have q1 : bits x 25 1 = 0 := dig g5 (by decide)
  have q2 : bits x 21 3 = 7 := dig g3 (by decide)
  have f0 : fld x 24 1 = w := fld_eq (dig g4 w.isLt)
  have f1 : fld x 16 5 = a := fld_eq (dig g2 a.isLt)
  have f2 : fld x 11 5 = b := fld_eq (dig g1 b.isLt)
  have f3 : fld x 0 11 = l := fld_eq (dig g0 l.isLt)
  have hz : x.toNat ≠ 0 := ne_zero q0 (by decide)
  intro k hk
  replace hk := mem_slots1 rfl hk
  subst hk; simp [hz, decodeMap, decodeMx, q0, q1, q2, f0, f1, f2, f3]

theorem gamoRelAdd (w : BitVec 1) (a : BitVec 5) (b : BitVec 5) (l : BitVec 11) : Statement (.gamoRelAdd w a b l) := by
  have h0 := w.isLt
  have h1 := a.isLt
  have h2 := b.isLt
  have h3 := l.isLt
  have hv : (syl 0x3C000000 [(w.toNat, 24), (a.toNat, 16), (b.toNat, 11), (l.toNat, 0)]).toNat = _ := toNat_syl (by simp only [sylValue]; omega)
  simp only [sylValue] at hv
  refine statement_of rfl ?_
  generalize syl 0x3C000000 [(w.toNat, 24), (a.toNat, 16), (b.toNat, 11), (l.toNat, 0)] = x at hv ⊢
  have g0 : x.toNat / 2 ^ 0 = l.toNat + 2 ^ 11 * (b.toNat + 2 ^ 5 * (a.toNat + 2 ^ 5 * (0 + 2 ^ 3 * (w.toNat + 2 ^ 1 * (0 + 2 ^ 1 * (15 + 2 ^ 6 * 0)))))) := by rw [Nat.pow_zero, Nat.div_one, hv]; omega
  have g1 : x.toNat / 2 ^ 11 = b.toNat + 2 ^ 5 * (a.toNat + 2 ^ 5 * (0 + 2 ^ 3 * (w.toNat + 2 ^ 1 * (0 + 2 ^ 1 * (15 + 2 ^ 6 * 0))))) := nxt g0 l.isLt
  have g2 : x.toNat / 2 ^ 16 = a.toNat + 2 ^ 5 * (0 + 2 ^ 3 * (w.toNat + 2 ^ 1 * (0 + 2 ^ 1 * (15 + 2 ^ 6 * 0)))) := nxt g1 b.isLt
  have g3 : x.toNat / 2 ^ 21 = 0 + 2 ^ 3 * (w.toNat + 2 ^ 1 * (0 + 2 ^ 1 * (15 + 2 ^ 6 * 0))) := nxt g2 a.isLt
  have g4 : x.toNat / 2 ^ 24 = w.toNat + 2 ^ 1 * (0 + 2 ^ 1 * (15 + 2 ^ 6 * 0)) := nxt g3 (by decide)
  have g5 : x.toNat / 2 ^ 25 = 0 + 2 ^ 1 * (15 + 2 ^ 6 * 0) := nxt g4 w.isLt
  have g6 : x.toNat / 2 ^ 26 = 15 + 2 ^ 6 * 0 := nxt g5 (by decide)
  have q0 : bits x 26 6 = 15 := dig g6 (by decide)
  have q1 : bits x 25 1 = 0 := dig g5 (by decide)
  have q2 : bits x 21 3 = 0 := dig g3 (by decide)
  have f0 : fld x 24 1 = w := fld_eq (dig g4 w.isLt)
  have f1 : fld x 16 5 = a := fld_eq (dig g2 a.isLt)
  have f2 : fld x 11 5 = b := fld_eq (dig g1 b.isLt)
  have f3 : fld x 0 11 = l := fld_eq (dig g0 l.isLt)
  have hz : x.toNat ≠ 0 := ne_zero q0 (by decide)
  intro k hk
  replace hk := mem_slots1 rfl hk
  subst hk; simp [hz, decodeMap, decodeMx, q0, q1, q2, f0, f1, f2, f3]

theorem gamoRelAnd (w : BitVec 1) (a : BitVec 5) (b : BitVec 5) (l : BitVec 11) : Statement (.gamoRelAnd w a b l) := by
  have h0 := w.isLt
  have h1 := a.isLt
  have h2 := b.isLt
  have h3 := l.isLt
  have hv : (syl 0x3C200000 [(w.toNat, 24), (a.toNat, 16), (b.toNat, 11), (l.toNat, 0)]).toNat = _ := toNat_syl (by simp only [sylValue]; omega)
  simp only [sylValue] at hv
  refine statement_of rfl ?_
  generalize syl 0x3C200000 [(w.toNat, 24), (a.toNat, 16), (b.toNat, 11), (l.toNat, 0)] = x at hv ⊢
  have g0 : x.toNat / 2 ^ 0 = l.toNat + 2 ^ 11 * (b.toNat + 2 ^ 5 * (a.toNat + 2 ^ 5 * (1 + 2 ^ 3 * (w.toNat + 2 ^ 1 * (0 + 2 ^ 1 * (15 + 2 ^ 6 * 0)))))) := by rw [Nat.pow_zero, Nat.div_one, hv]; omega
  have g1 : x.toNat / 2 ^ 11 = b.toNat + 2 ^ 5 * (a.toNat + 2 ^ 5 * (1 + 2 ^ 3 * (w.toNat + 2 ^ 1 * (0 + 2 ^ 1 * (15 + 2 ^ 6 * 0))))) := nxt g0 l.isLt
  have g2 : x.toNat / 2 ^ 16 = a.toNat + 2 ^ 5 * (1 + 2 ^ 3 * (w.toNat + 2 ^ 1 * (0 + 2 ^ 1 * (15 + 2 ^ 6 * 0)))) := nxt g1 b.isLt
  have g3 : x.toNat / 2 ^ 21 = 1 + 2 ^ 3 * (w.toNat + 2 ^ 1 * (0 + 2 ^ 1 * (15 + 2 ^ 6 * 0))) := nxt g2 a.isLt
  have g4 : x.toNat / 2 ^ 24 = w.toNat + 2 ^ 1 * (0 + 2 ^ 1 * (15 + 2 ^ 6 * 0)) := nxt g3 (by decide)
  have g5 : x.toNat / 2 ^ 25 = 0 + 2 ^ 1 * (15 + 2 ^ 6 * 0) := nxt g4 w.isLt
  have g6 : x.toNat / 2 ^ 26 = 15 + 2 ^ 6 * 0 := nxt g5 (by decide)
  have q0 : bits x 26 6 = 15 := dig g6 (by decide)
  have q1 : bits x 25 1 = 0 := dig g5 (by decide)
  have q2 : bits x 21 3 = 1 := dig g3 (by decide)
  have f0 : fld x 24 1 = w := fld_eq (dig g4 w.isLt)
  have f1 : fld x 16 5 = a := fld_eq (dig g2 a.isLt)
  have f2 : fld x 11 5 = b := fld_eq (dig g1 b.isLt)
  have f3 : fld x 0 11 = l := fld_eq (dig g0 l.isLt)
  have hz : x.toNat ≠ 0 := ne_zero q0 (by decide)
  intro k hk
  replace hk := mem_slots1 rfl hk
  subst hk; simp [hz, decodeMap, decodeMx, q0, q1, q2, f0, f1, f2, f3]

theorem gamoRelOr (w : BitVec 1) (a : BitVec 5) (b : BitVec 5) (l : BitVec 11) : Statement (.gamoRelOr w a b l) := by
  have h0 := w.isLt
  have h1 := a.isLt
  have h2 := b.isLt
  have h3 := l.isLt
  have hv : (syl 0x3C400000 [(w.toNat, 24), (a.toNat, 16), (b.toNat, 11), (l.toNat, 0)]).toNat = _ := toNat_syl (by simp only [sylValue]; omega)
  simp only [sylValue] at hv
  refine statement_of rfl ?_
  generalize syl 0x3C400000 [(w.toNat, 24), (a.toNat, 16), (b.toNat, 11), (l.toNat, 0)] = x at hv ⊢
  have g0 : x.toNat / 2 ^ 0 = l.toNat + 2 ^ 11 * (b.toNat + 2 ^ 5 * (a.toNat + 2 ^ 5 * (2 + 2 ^ 3 * (w.toNat + 2 ^ 1 * (0 + 2 ^ 1 * (15 + 2 ^ 6 * 0)))))) := by rw [Nat.pow_zero, Nat.div_one, hv]; omega
  have g1 : x.toNat / 2 ^ 11 = b.toNat + 2 ^ 5 * (a.toNat + 2 ^ 5 * (2 + 2 ^ 3 * (w.toNat + 2 ^ 1 * (0 + 2 ^ 1 * (15 + 2 ^ 6 * 0))))) := nxt g0 l.isLt
  have g2 : x.toNat / 2 ^ 16 = a.toNat + 2 ^ 5 * (2 + 2 ^ 3 * (w.toNat + 2 ^ 1 * (0 + 2 ^ 1 * (15 + 2 ^ 6 * 0)))) := nxt g1 b.isLt
  have g3 : x.toNat / 2 ^ 21 = 2 + 2 ^ 3 * (w.toNat + 2 ^ 1 * (0 + 2 ^ 1 * (15 + 2 ^ 6 * 0))) := nxt g2 a.isLt
  have g4 : x.toNat / 2 ^ 24 = w.toNat + 2 ^ 1 * (0 + 2 ^ 1 * (15 + 2 ^ 6 * 0)) := nxt g3 (by decide)
  have g5 : x.toNat / 2 ^ 25 = 0 + 2 ^ 1 * (15 + 2 ^ 6 * 0) := nxt g4 w.isLt
  have g6 : x.toNat / 2 ^ 26 = 15 + 2 ^ 6 * 0 := nxt g5 (by decide)
  have q0 : bits x 26 6 = 15 := dig g6 (by decide)
  have q1 : bits x 25 1 = 0 := dig g5 (by decide)
  have q2 : bits x 21 3 = 2 := dig g3 (by decide)
  have f0 : fld x 24 1 = w := fld_eq (dig g4 w.isLt)
  have f1 : fld x 16 5 = a := fld_eq (dig g2 a.isLt)
  have f2 : fld x 11 5 = b := fld_eq (dig g1 b.isLt)
  have f3 : fld x 0 11 = l := fld_eq (dig g0 l.isLt)
  have hz : x.toNat ≠ 0 := ne_zero q0 (by decide)
  intro k hk
  replace hk := mem_slots1 rfl hk
  subst hk; simp [hz, decodeMap, decodeMx, q0, q1, q2, f0, f1, f2, f3]

theorem gamoRelXor (w : BitVec 1) (a : BitVec 5) (b : BitVec 5) (l : BitVec 11) : Statement (.gamoRelXor w a b l) := by
  have h0 := w.isLt
  have h1 := a.isLt
  have h2 := b.isLt
  have h3 := l.isLt
  have hv : (syl 0x3C600000 [(w.toNat, 24), (a.toNat, 16), (b.toNat, 11), (l.toNat, 0)]).toNat = _ := toNat_syl (by simp only [sylValue]; omega)
  simp only [sylValue] at hv
  refine statement_of rfl ?_
  generalize syl 0x3C600000 [(w.toNat, 24), (a.toNat, 16), (b.toNat, 11), (l.toNat, 0)] = x at hv ⊢
  have g0 : x.toNat / 2 ^ 0 = l.toNat + 2 ^ 11 * (b.toNat + 2 ^ 5 * (a.toNat + 2 ^ 5 * (3 + 2 ^ 3 * (w.toNat + 2 ^ 1 * (0 + 2 ^ 1 * (15 + 2 ^ 6 * 0)))))) := by rw [Nat.pow_zero, Nat.div_one, hv]; omega
  have g1 : x.toNat / 2 ^ 11 = b.toNat + 2 ^ 5 * (a.toNat + 2 ^ 5 * (3 + 2 ^ 3 * (w.toNat + 2 ^ 1 * (0 + 2 ^ 1 * (15 + 2 ^ 6 * 0))))) := nxt g0 l.isLt
  have g2 : x.toNat / 2 ^ 16 = a.toNat + 2 ^ 5 * (3 + 2 ^ 3 * (w.toNat + 2 ^ 1 * (0 + 2 ^ 1 * (15 + 2 ^ 6 * 0)))) := nxt g1 b.isLt
  have g3 : x.toNat / 2 ^ 21 = 3 + 2 ^ 3 * (w.toNat + 2 ^ 1 * (0 + 2 ^ 1 * (15 + 2 ^ 6 * 0))) := nxt g2 a.isLt
  have g4 : x.toNat / 2 ^ 24 = w.toNat + 2 ^ 1 * (0 + 2 ^ 1 * (15 + 2 ^ 6 * 0)) := nxt g3 (by decide)
  have g5 : x.toNat / 2 ^ 25 = 0 + 2 ^ 1 * (15 + 2 ^ 6 * 0) := nxt g4 w.isLt
  have g6 : x.toNat / 2 ^ 26 = 15 + 2 ^ 6 * 0 := nxt g5 (by decide)
  have q0 : bits x 26 6 = 15 := dig g6 (by decide)
  have q1 : bits x 25 1 = 0 := dig g5 (by decide)
  have q2 : bits x 21 3 = 3 := dig g3 (by decide)
  have f0 : fld x 24 1 = w := fld_eq (dig g4 w.isLt)
  have f1 : fld x 16 5 = a := fld_eq (dig g2 a.isLt)
  have f2 : fld x 11 5 = b := fld_eq (dig g1 b.isLt)
  have f3 : fld x 0 11 = l := fld_eq (dig g0 l.isLt)
  have hz : x.toNat ≠ 0 := ne_zero q0 (by decide)
  intro k hk
  replace hk := mem_slots1 rfl hk
  subst hk; simp [hz, decodeMap, decodeMx, q0, q1, q2, f0, f1, f2, f3]

theorem gamoRelMin (w : BitVec 1) (a : BitVec 5) (b : BitVec 5) (l : BitVec 11) : Statement (.gamoRelMin w a b l) := by
  have h0 := w.isLt
  have h1 := a.isLt
  have h2 := b.isLt
  have h3 := l.isLt
  have hv : (syl 0x3C800000 [(w.toNat, 24), (a.toNat, 16), (b.toNat, 11), (l.toNat, 0)]).toNat = _ := toNat_syl (by simp only [sylValue]; omega)
  simp only [sylValue] at hv
  refine statement_of rfl ?_
  generalize syl 0x3C800000 [(w.toNat, 24), (a.toNat, 16), (b.toNat, 11), (l.toNat, 0)] = x at hv ⊢
  have g0 : x.toNat / 2 ^ 0 = l.toNat + 2 ^ 11 * (b.toNat + 2 ^ 5 * (a.toNat + 2 ^ 5 * (4 + 2 ^ 3 * (w.toNat + 2 ^ 1 * (0 + 2 ^ 1 * (15 + 2 ^ 6 * 0)))))) := by rw [Nat.pow_zero, Nat.div_one, hv]; omega
  have g1 : x.toNat / 2 ^ 11 = b.toNat + 2 ^ 5 * (a.toNat + 2 ^ 5 * (4 + 2 ^ 3 * (w.toNat + 2 ^ 1 * (0 + 2 ^ 1 * (15 + 2 ^ 6 * 0))))) := nxt g0 l.isLt
  have g2 : x.toNat / 2 ^ 16 = a.toNat + 2 ^ 5 * (4 + 2 ^ 3 * (w.toNat + 2 ^ 1 * (0 + 2 ^ 1 * (15 + 2 ^ 6 * 0)))) := nxt g1 b.isLt
  have g3 : x.toNat / 2 ^ 21 = 4 + 2 ^ 3 * (w.toNat + 2 ^ 1 * (0 + 2 ^ 1 * (15 + 2 ^ 6 * 0))) := nxt g2 a.isLt
  have g4 : x.toNat / 2 ^ 24 = w.toNat + 2 ^ 1 * (0 + 2 ^ 1 * (15 + 2 ^ 6 * 0)) := nxt g3 (by decide)
  have g5 : x.toNat / 2 ^ 25 = 0 + 2 ^ 1 * (15 + 2 ^ 6 * 0) := nxt g4 w.isLt
  have g6 : x.toNat / 2 ^ 26 = 15 + 2 ^ 6 * 0 := nxt g5 (by decide)
  have q0 : bits x 26 6 = 15 := dig g6 (by decide)
  have q1 : bits x 25 1 = 0 := dig g5 (by decide)
  have q2 : bits x 21 3 = 4 := dig g3 (by decide)
  have f0 : fld x 24 1 = w := fld_eq (dig g4 w.isLt)
  have f1 : fld x 16 5 = a := fld_eq (dig g2 a.isLt)
  have f2 : fld x 11 5 = b := fld_eq (dig g1 b.isLt)
  have f3 : fld x 0 11 = l := fld_eq (dig g0 l.isLt)
  have hz : x.toNat ≠ 0 := ne_zero q0 (by decide)
  intro k hk
  replace hk := mem_slots1 rfl hk
  subst hk; simp [hz, decodeMap, decodeMx, q0, q1, q2, f0, f1, f2, f3]

theorem gamoRelMax (w : BitVec 1) (a : BitVec 5) (b : BitVec 5) (l : BitVec 11) : Statement (.gamoRelMax w a b l) := by
  have h0 := w.isLt
  have h1 := a.isLt
  have h2 := b.isLt
  have h3 := l.isLt
  have hv : (syl 0x3CA00000 [(w.toNat, 24), (a.toNat, 16), (b.toNat, 11), (l.toNat, 0)]).toNat = _ := toNat_syl (by simp only [sylValue]; omega)
  simp only [sylValue] at hv
  refine statement_of rfl ?_
  generalize syl 0x3CA00000 [(w.toNat, 24), (a.toNat, 16), (b.toNat, 11), (l.toNat, 0)] = x at hv ⊢
  have g0 : x.toNat / 2 ^ 0 = l.toNat + 2 ^ 11 * (b.toNat + 2 ^ 5 * (a.toNat + 2 ^ 5 * (5 + 2 ^ 3 * (w.toNat + 2 ^ 1 * (0 + 2 ^ 1 * (15 + 2 ^ 6 * 0)))))) := by rw [Nat.pow_zero, Nat.div_one, hv]; omega
  have g1 : x.toNat / 2 ^ 11 = b.toNat + 2 ^ 5 * (a.toNat + 2 ^ 5 * (5 + 2 ^ 3 * (w.toNat + 2 ^ 1 * (0 + 2 ^ 1 * (15 + 2 ^ 6 * 0))))) := nxt g0 l.isLt
  have g2 : x.toNat / 2 ^ 16 = a.toNat + 2 ^ 5 * (5 + 2 ^ 3 * (w.toNat + 2 ^ 1 * (0 + 2 ^ 1 * (15 + 2 ^ 6 * 0)))) := nxt g1 b.isLt
  have g3 : x.toNat / 2 ^ 21 = 5 + 2 ^ 3 * (w.toNat + 2 ^ 1 * (0 + 2 ^ 1 * (15 + 2 ^ 6 * 0))) := nxt g2 a.isLt
  have g4 : x.toNat / 2 ^ 24 = w.toNat + 2 ^ 1 * (0 + 2 ^ 1 * (15 + 2 ^ 6 * 0)) := nxt g3 (by decide)
  have g5 : x.toNat / 2 ^ 25 = 0 + 2 ^ 1 * (15 + 2 ^ 6 * 0) := nxt g4 w.isLt
  have g6 : x.toNat / 2 ^ 26 = 15 + 2 ^ 6 * 0 := nxt g5 (by decide)
  have q0 : bits x 26 6 = 15 := dig g6 (by decide)
  have q1 : bits x 25 1 = 0 := dig g5 (by decide)
  have q2 : bits x 21 3 = 5 := dig g3 (by decide)
  have f0 : fld x 24 1 = w := fld_eq (dig g4 w.isLt)
  have f1 : fld x 16 5 = a := fld_eq (dig g2 a.isLt)
  have f2 : fld x 11 5 = b := fld_eq (dig g1 b.isLt)
  have f3 : fld x 0 11 = l := fld_eq (dig g0 l.isLt)
  have hz : x.toNat ≠ 0 := ne_zero q0 (by decide)
  intro k hk
  replace hk := mem_slots1 rfl hk
  subst hk; simp [hz, decodeMap, decodeMx, q0, q1, q2, f0, f1, f2, f3]

theorem gamoRelSwap (w : BitVec 1) (a : BitVec 5) (b : BitVec 5) (l : BitVec 11) : Statement (.gamoRelSwap w a b l) := by
  have h0 := w.isLt
  have h1 := a.isLt
  have h2 := b.isLt
  have h3 := l.isLt
  have hv : (syl 0x3CC00000 [(w.toNat, 24), (a.toNat, 16), (b.toNat, 11), (l.toNat, 0)]).toNat = _ := toNat_syl (by simp only [sylValue]; omega)
  simp only [sylValue] at hv
  refine statement_of rfl ?_
  generalize syl 0x3CC00000 [(w.toNat, 24), (a.toNat, 16), (b.toNat, 11), (l.toNat, 0)] = x at hv ⊢
  have g0 : x.toNat / 2 ^ 0 = l.toNat + 2 ^ 11 * (b.toNat + 2 ^ 5 * (a.toNat + 2 ^ 5 * (6 + 2 ^ 3 * (w.toNat + 2 ^ 1 * (0 + 2 ^ 1 * (15 + 2 ^ 6 * 0)))))) := by rw [Nat.pow_zero, Nat.div_one, hv]; omega
  have g1 : x.toNat / 2 ^ 11 = b.toNat + 2 ^ 5 * (a.toNat + 2 ^ 5 * (6 + 2 ^ 3 * (w.toNat + 2 ^ 1 * (0 + 2 ^ 1 * (15 + 2 ^ 6 * 0))))) := nxt g0 l.isLt
  have g2 : x.toNat / 2 ^ 16 = a.toNat + 2 ^ 5 * (6 + 2 ^ 3 * (w.toNat + 2 ^ 1 * (0 + 2 ^ 1 * (15 + 2 ^ 6 * 0)))) := nxt g1 b.isLt
  have g3 : x.toNat / 2 ^ 21 = 6 + 2 ^ 3 * (w.toNat + 2 ^ 1 * (0 + 2 ^ 1 * (15 + 2 ^ 6 * 0))) := nxt g2 a.isLt
  have g4 : x.toNat / 2 ^ 24 = w.toNat + 2 ^ 1 * (0 + 2 ^ 1 * (15 + 2 ^ 6 * 0)) := nxt g3 (by decide)
  have g5 : x.toNat / 2 ^ 25 = 0 + 2 ^ 1 * (15 + 2 ^ 6 * 0) := nxt g4 w.isLt
  have g6 : x.toNat / 2 ^ 26 = 15 + 2 ^ 6 * 0 := nxt g5 (by decide)
  have q0 : bits x 26 6 = 15 := dig g6 (by decide)
  have q1 : bits x 25 1 = 0 := dig g5 (by decide)
  have q2 : bits x 21 3 = 6 := dig g3 (by decide)
  have f0 : fld x 24 1 = w := fld_eq (dig g4 w.isLt)
  have f1 : fld x 16 5 = a := fld_eq (dig g2 a.isLt)
  have f2 : fld x 11 5 = b := fld_eq (dig g1 b.isLt)
  have f3 : fld x 0 11 = l := fld_eq (dig g0 l.isLt)
  have hz : x.toNat ≠ 0 := ne_zero q0 (by decide)
  intro k hk
  replace hk := mem_slots1 rfl hk
  subst hk; simp [hz, decodeMap, decodeMx, q0, q1, q2, f0, f1, f2, f3]

theorem gamoRelCas (w : BitVec 1) (a : BitVec 5) (b : BitVec 5) (l : BitVec 11) : Statement (.gamoRelCas w a b l) := by
  have h0 := w.isLt
  have h1 := a.isLt
  have h2 := b.isLt
  have h3 := l.isLt
  have hv : (syl 0x3CE00000 [(w.toNat, 24), (a.toNat, 16), (b.toNat, 11), (l.toNat, 0)]).toNat = _ := toNat_syl (by simp only [sylValue]; omega)
  simp only [sylValue] at hv
  refine statement_of rfl ?_
  generalize syl 0x3CE00000 [(w.toNat, 24), (a.toNat, 16), (b.toNat, 11), (l.toNat, 0)] = x at hv ⊢
  have g0 : x.toNat / 2 ^ 0 = l.toNat + 2 ^ 11 * (b.toNat + 2 ^ 5 * (a.toNat + 2 ^ 5 * (7 + 2 ^ 3 * (w.toNat + 2 ^ 1 * (0 + 2 ^ 1 * (15 + 2 ^ 6 * 0)))))) := by rw [Nat.pow_zero, Nat.div_one, hv]; omega
  have g1 : x.toNat / 2 ^ 11 = b.toNat + 2 ^ 5 * (a.toNat + 2 ^ 5 * (7 + 2 ^ 3 * (w.toNat + 2 ^ 1 * (0 + 2 ^ 1 * (15 + 2 ^ 6 * 0))))) := nxt g0 l.isLt
  have g2 : x.toNat / 2 ^ 16 = a.toNat + 2 ^ 5 * (7 + 2 ^ 3 * (w.toNat + 2 ^ 1 * (0 + 2 ^ 1 * (15 + 2 ^ 6 * 0)))) := nxt g1 b.isLt
  have g3 : x.toNat / 2 ^ 21 = 7 + 2 ^ 3 * (w.toNat + 2 ^ 1 * (0 + 2 ^ 1 * (15 + 2 ^ 6 * 0))) := nxt g2 a.isLt
  have g4 : x.toNat / 2 ^ 24 = w.toNat + 2 ^ 1 * (0 + 2 ^ 1 * (15 + 2 ^ 6 * 0)) := nxt g3 (by decide)
  have g5 : x.toNat / 2 ^ 25 = 0 + 2 ^ 1 * (15 + 2 ^ 6 * 0) := nxt g4 w.isLt
  have g6 : x.toNat / 2 ^ 26 = 15 + 2 ^ 6 * 0 := nxt g5 (by decide)
  have q0 : bits x 26 6 = 15 := dig g6 (by decide)
  have q1 : bits x 25 1 = 0 := dig g5 (by decide)
  have q2 : bits x 21 3 = 7 := dig g3 (by decide)
  have f0 : fld x 24 1 = w := fld_eq (dig g4 w.isLt)
  have f1 : fld x 16 5 = a := fld_eq (dig g2 a.isLt)
  have f2 : fld x 11 5 = b := fld_eq (dig g1 b.isLt)
  have f3 : fld x 0 11 = l := fld_eq (dig g0 l.isLt)
  have hz : x.toNat ≠ 0 := ne_zero q0 (by decide)
  intro k hk
  replace hk := mem_slots1 rfl hk
  subst hk; simp [hz, decodeMap, decodeMx, q0, q1, q2, f0, f1, f2, f3]

theorem fsend (a : BitVec 5) (b : BitVec 5) (l : BitVec 11) : Statement (.fsend a b l) := by
  have h0 := a.isLt
  have h1 := b.isLt
  have h2 := l.isLt
  have hv : (syl 0x40000000 [(a.toNat, 16), (b.toNat, 11), (l.toNat, 0)]).toNat = _ := toNat_syl (by simp only [sylValue]; omega)
  simp only [sylValue] at hv
  refine statement_of rfl ?_
  generalize syl 0x40000000 [(a.toNat, 16), (b.toNat, 11), (l.toNat, 0)] = x at hv ⊢
  have g0 : x.toNat / 2 ^ 0 = l.toNat + 2 ^ 11 * (b.toNat + 2 ^ 5 * (a.toNat + 2 ^ 5 * (0 + 2 ^ 5 * (16 + 2 ^ 6 * 0)))) := by rw [Nat.pow_zero, Nat.div_one, hv]; omega
  have g1 : x.toNat / 2 ^ 11 = b.toNat + 2 ^ 5 * (a.toNat + 2 ^ 5 * (0 + 2 ^ 5 * (16 + 2 ^ 6 * 0))) := nxt g0 l.isLt
  have g2 : x.toNat / 2 ^ 16 = a.toNat + 2 ^ 5 * (0 + 2 ^ 5 * (16 + 2 ^ 6 * 0)) := nxt g1 b.isLt
  have g3 : x.toNat / 2 ^ 21 = 0 + 2 ^ 5 * (16 + 2 ^ 6 * 0) := nxt g2 a.isLt
  have g4 : x.toNat / 2 ^ 26 = 16 + 2 ^ 6 * 0 := nxt g3 (by decide)
  have q0 : bits x 26 6 = 16 := dig g4 (by decide)
  have q1 : bits x 21 5 = 0 := dig g3 (by decide)
  have f0 : fld x 16 5 = a := fld_eq (dig g2 a.isLt)
  have f1 : fld x 11 5 = b := fld_eq (dig g1 b.isLt)
  have f2 : fld x 0 11 = l := fld_eq (dig g0 l.isLt)
  have hz : x.toNat ≠ 0 := ne_zero q0 (by decide)
  intro k hk
  replace hk := mem_slots1 rfl hk
  subst hk; simp [hz, decodeMap, decodeMx, q0, q1, f0, f1, f2]

theorem frecv (a : BitVec 5) (l : BitVec 11) : Statement (.frecv a l) := by
  have h0 := a.isLt
  have h1 := l.isLt
  have hv : (syl 0x44000000 [(a.toNat, 16), (l.toNat, 0)]).toNat = _ := toNat_syl (by simp only [sylValue]; omega)
  simp only [sylValue] at hv
  refine statement_of rfl ?_
  generalize syl 0x44000000 [(a.toNat, 16), (l.toNat, 0)] = x at hv ⊢
  have g0 : x.toNat / 2 ^ 0 = l.toNat + 2 ^ 11 * (0 + 2 ^ 5 * (a.toNat + 2 ^ 5 * (0 + 2 ^ 5 * (17 + 2 ^ 6 * 0)))) := by rw [Nat.pow_zero, Nat.div_one, hv]; omega
  have g1 : x.toNat / 2 ^ 11 = 0 + 2 ^ 5 * (a.toNat + 2 ^ 5 * (0 + 2 ^ 5 * (17 + 2 ^ 6 * 0))) := nxt g0 l.isLt
  have g2 : x.toNat / 2 ^ 16 = a.toNat + 2 ^ 5 * (0 + 2 ^ 5 * (17 + 2 ^ 6 * 0)) := nxt g1 (by decide)
  have g3 : x.toNat / 2 ^ 21 = 0 + 2 ^ 5 * (17 + 2 ^ 6 * 0) := nxt g2 a.isLt
  have g4 : x.toNat / 2 ^ 26 = 17 + 2 ^ 6 * 0 := nxt g3 (by decide)
  have q0 : bits x 26 6 = 17 := dig g4 (by decide)
  have q1 : bits x 21 5 = 0 := dig g3 (by decide)
  have q2 : bits x 11 5 = 0 := dig g1 (by decide)
  have f0 : fld x 16 5 = a := fld_eq (dig g2 a.isLt)
  have f1 : fld x 0 11 = l := fld_eq (dig g0 l.isLt)
  have hz : x.toNat ≠ 0 := ne_zero q0 (by decide)
  intro k hk
  replace hk := mem_slots1 rfl hk
  subst hk; simp [hz, decodeMap, decodeMx, q0, q1, q2, f0, f1]

theorem frecvAddF32 (a : BitVec 5) (b : BitVec 5) (l : BitVec 11) : Statement (.frecvAddF32 a b l) := by
  have h0 := a.isLt
  have h1 := b.isLt
  have h2 := l.isLt
  have hv : (syl 0x44200000 [(a.toNat, 16), (b.toNat, 11), (l.toNat, 0)]).toNat = _ := toNat_syl (by simp only [sylValue]; omega)
  simp only [sylValue] at hv
  refine statement_of rfl ?_
  generalize syl 0x44200000 [(a.toNat, 16), (b.toNat, 11), (l.toNat, 0)] = x at hv ⊢
  have g0 : x.toNat / 2 ^ 0 = l.toNat + 2 ^ 11 * (b.toNat + 2 ^ 5 * (a.toNat + 2 ^ 5 * (1 + 2 ^ 5 * (17 + 2 ^ 6 * 0)))) := by rw [Nat.pow_zero, Nat.div_one, hv]; omega
  have g1 : x.toNat / 2 ^ 11 = b.toNat + 2 ^ 5 * (a.toNat + 2 ^ 5 * (1 + 2 ^ 5 * (17 + 2 ^ 6 * 0))) := nxt g0 l.isLt
  have g2 : x.toNat / 2 ^ 16 = a.toNat + 2 ^ 5 * (1 + 2 ^ 5 * (17 + 2 ^ 6 * 0)) := nxt g1 b.isLt
  have g3 : x.toNat / 2 ^ 21 = 1 + 2 ^ 5 * (17 + 2 ^ 6 * 0) := nxt g2 a.isLt
  have g4 : x.toNat / 2 ^ 26 = 17 + 2 ^ 6 * 0 := nxt g3 (by decide)
  have q0 : bits x 26 6 = 17 := dig g4 (by decide)
  have q1 : bits x 21 5 = 1 := dig g3 (by decide)
  have f0 : fld x 16 5 = a := fld_eq (dig g2 a.isLt)
  have f1 : fld x 11 5 = b := fld_eq (dig g1 b.isLt)
  have f2 : fld x 0 11 = l := fld_eq (dig g0 l.isLt)
  have hz : x.toNat ≠ 0 := ne_zero q0 (by decide)
  intro k hk
  replace hk := mem_slots1 rfl hk
  subst hk; simp [hz, decodeMap, decodeMx, q0, q1, f0, f1, f2]

theorem frecvAddBf16 (a : BitVec 5) (b : BitVec 5) (l : BitVec 11) : Statement (.frecvAddBf16 a b l) := by
  have h0 := a.isLt
  have h1 := b.isLt
  have h2 := l.isLt
  have hv : (syl 0x44400000 [(a.toNat, 16), (b.toNat, 11), (l.toNat, 0)]).toNat = _ := toNat_syl (by simp only [sylValue]; omega)
  simp only [sylValue] at hv
  refine statement_of rfl ?_
  generalize syl 0x44400000 [(a.toNat, 16), (b.toNat, 11), (l.toNat, 0)] = x at hv ⊢
  have g0 : x.toNat / 2 ^ 0 = l.toNat + 2 ^ 11 * (b.toNat + 2 ^ 5 * (a.toNat + 2 ^ 5 * (2 + 2 ^ 5 * (17 + 2 ^ 6 * 0)))) := by rw [Nat.pow_zero, Nat.div_one, hv]; omega
  have g1 : x.toNat / 2 ^ 11 = b.toNat + 2 ^ 5 * (a.toNat + 2 ^ 5 * (2 + 2 ^ 5 * (17 + 2 ^ 6 * 0))) := nxt g0 l.isLt
  have g2 : x.toNat / 2 ^ 16 = a.toNat + 2 ^ 5 * (2 + 2 ^ 5 * (17 + 2 ^ 6 * 0)) := nxt g1 b.isLt
  have g3 : x.toNat / 2 ^ 21 = 2 + 2 ^ 5 * (17 + 2 ^ 6 * 0) := nxt g2 a.isLt
  have g4 : x.toNat / 2 ^ 26 = 17 + 2 ^ 6 * 0 := nxt g3 (by decide)
  have q0 : bits x 26 6 = 17 := dig g4 (by decide)
  have q1 : bits x 21 5 = 2 := dig g3 (by decide)
  have f0 : fld x 16 5 = a := fld_eq (dig g2 a.isLt)
  have f1 : fld x 11 5 = b := fld_eq (dig g1 b.isLt)
  have f2 : fld x 0 11 = l := fld_eq (dig g0 l.isLt)
  have hz : x.toNat ≠ 0 := ne_zero q0 (by decide)
  intro k hk
  replace hk := mem_slots1 rfl hk
  subst hk; simp [hz, decodeMap, decodeMx, q0, q1, f0, f1, f2]

theorem frecvMaxF32 (a : BitVec 5) (b : BitVec 5) (l : BitVec 11) : Statement (.frecvMaxF32 a b l) := by
  have h0 := a.isLt
  have h1 := b.isLt
  have h2 := l.isLt
  have hv : (syl 0x44600000 [(a.toNat, 16), (b.toNat, 11), (l.toNat, 0)]).toNat = _ := toNat_syl (by simp only [sylValue]; omega)
  simp only [sylValue] at hv
  refine statement_of rfl ?_
  generalize syl 0x44600000 [(a.toNat, 16), (b.toNat, 11), (l.toNat, 0)] = x at hv ⊢
  have g0 : x.toNat / 2 ^ 0 = l.toNat + 2 ^ 11 * (b.toNat + 2 ^ 5 * (a.toNat + 2 ^ 5 * (3 + 2 ^ 5 * (17 + 2 ^ 6 * 0)))) := by rw [Nat.pow_zero, Nat.div_one, hv]; omega
  have g1 : x.toNat / 2 ^ 11 = b.toNat + 2 ^ 5 * (a.toNat + 2 ^ 5 * (3 + 2 ^ 5 * (17 + 2 ^ 6 * 0))) := nxt g0 l.isLt
  have g2 : x.toNat / 2 ^ 16 = a.toNat + 2 ^ 5 * (3 + 2 ^ 5 * (17 + 2 ^ 6 * 0)) := nxt g1 b.isLt
  have g3 : x.toNat / 2 ^ 21 = 3 + 2 ^ 5 * (17 + 2 ^ 6 * 0) := nxt g2 a.isLt
  have g4 : x.toNat / 2 ^ 26 = 17 + 2 ^ 6 * 0 := nxt g3 (by decide)
  have q0 : bits x 26 6 = 17 := dig g4 (by decide)
  have q1 : bits x 21 5 = 3 := dig g3 (by decide)
  have f0 : fld x 16 5 = a := fld_eq (dig g2 a.isLt)
  have f1 : fld x 11 5 = b := fld_eq (dig g1 b.isLt)
  have f2 : fld x 0 11 = l := fld_eq (dig g0 l.isLt)
  have hz : x.toNat ≠ 0 := ne_zero q0 (by decide)
  intro k hk
  replace hk := mem_slots1 rfl hk
  subst hk; simp [hz, decodeMap, decodeMx, q0, q1, f0, f1, f2]

theorem lnch (a : BitVec 5) (b : BitVec 5) (l : BitVec 11) : Statement (.lnch a b l) := by
  have h0 := a.isLt
  have h1 := b.isLt
  have h2 := l.isLt
  have hv : (syl 0x48000000 [(a.toNat, 16), (b.toNat, 11), (l.toNat, 0)]).toNat = _ := toNat_syl (by simp only [sylValue]; omega)
  simp only [sylValue] at hv
  refine statement_of rfl ?_
  generalize syl 0x48000000 [(a.toNat, 16), (b.toNat, 11), (l.toNat, 0)] = x at hv ⊢
  have g0 : x.toNat / 2 ^ 0 = l.toNat + 2 ^ 11 * (b.toNat + 2 ^ 5 * (a.toNat + 2 ^ 5 * (0 + 2 ^ 5 * (18 + 2 ^ 6 * 0)))) := by rw [Nat.pow_zero, Nat.div_one, hv]; omega
  have g1 : x.toNat / 2 ^ 11 = b.toNat + 2 ^ 5 * (a.toNat + 2 ^ 5 * (0 + 2 ^ 5 * (18 + 2 ^ 6 * 0))) := nxt g0 l.isLt
  have g2 : x.toNat / 2 ^ 16 = a.toNat + 2 ^ 5 * (0 + 2 ^ 5 * (18 + 2 ^ 6 * 0)) := nxt g1 b.isLt
  have g3 : x.toNat / 2 ^ 21 = 0 + 2 ^ 5 * (18 + 2 ^ 6 * 0) := nxt g2 a.isLt
  have g4 : x.toNat / 2 ^ 26 = 18 + 2 ^ 6 * 0 := nxt g3 (by decide)
  have q0 : bits x 26 6 = 18 := dig g4 (by decide)
  have q1 : bits x 21 5 = 0 := dig g3 (by decide)
  have f0 : fld x 16 5 = a := fld_eq (dig g2 a.isLt)
  have f1 : fld x 11 5 = b := fld_eq (dig g1 b.isLt)
  have f2 : fld x 0 11 = l := fld_eq (dig g0 l.isLt)
  have hz : x.toNat ≠ 0 := ne_zero q0 (by decide)
  intro k hk
  replace hk := mem_slots1 rfl hk
  subst hk; simp [hz, decodeMap, decodeMx, q0, q1, f0, f1, f2]

theorem cwait : Statement .cwait := by
  have hv : (syl 0x4C000000 []).toNat = 0x4C000000 := rfl
  refine statement_of rfl ?_
  generalize syl 0x4C000000 [] = x at hv ⊢
  have g0 : x.toNat / 2 ^ 0 = 0 + 2 ^ 26 * (19 + 2 ^ 6 * 0) := by rw [Nat.pow_zero, Nat.div_one]; exact hv
  have g1 : x.toNat / 2 ^ 26 = 19 + 2 ^ 6 * 0 := nxt g0 (by decide)
  have q0 : bits x 26 6 = 19 := dig g1 (by decide)
  have q1 : bits x 0 26 = 0 := dig g0 (by decide)
  have hz : x.toNat ≠ 0 := ne_zero q0 (by decide)
  intro k hk
  replace hk := mem_slots1 rfl hk
  subst hk; simp [hz, decodeMap, decodeMx, q0, q1]

theorem waittExpiry : ∀ x0, Statement (.waittExpiry x0) := by
  intro _ w k _ he
  cases he

theorem waitgExpiry : ∀ x0, Statement (.waitgExpiry x0) := by
  intro _ w k _ he
  cases he

theorem barrierRelease : ∀ x0 x1 x2, Statement (.barrierRelease x0 x1 x2) := by
  intro _ _ _ w k _ he
  cases he

theorem cycleBoundary : ∀ x0, Statement (.cycleBoundary x0) := by
  intro _ w k _ he
  cases he

theorem resultLanding : ∀ x0 x1, Statement (.resultLanding x0 x1) := by
  intro _ _ w k _ he
  cases he

theorem storeLanding : ∀ x0 x1, Statement (.storeLanding x0 x1) := by
  intro _ _ w k _ he
  cases he

theorem loadSample : ∀ x0 x1, Statement (.loadSample x0 x1) := by
  intro _ _ w k _ he
  cases he

theorem freezeStaggerStop : ∀ x0, Statement (.freezeStaggerStop x0) := by
  intro _ w k _ he
  cases he

theorem thaw : ∀ x0, Statement (.thaw x0) := by
  intro _ w k _ he
  cases he

theorem handlerStart : ∀ x0, Statement (.handlerStart x0) := by
  intro _ w k _ he
  cases he

theorem tretComplete : ∀ x0, Statement (.tretComplete x0) := by
  intro _ w k _ he
  cases he

theorem cwaitEnd : ∀ x0, Statement (.cwaitEnd x0) := by
  intro _ w k _ he
  cases he

theorem killFreeze : ∀ x0, Statement (.killFreeze x0) := by
  intro _ w k _ he
  cases he

theorem dumpWrite : Statement .dumpWrite := by
  intro w k _ he
  cases he

theorem timerInterrupt : ∀ x0, Statement (.timerInterrupt x0) := by
  intro _ w k _ he
  cases he

theorem belfryInterruptRequest : ∀ x0, Statement (.belfryInterruptRequest x0) := by
  intro _ w k _ he
  cases he

theorem debugInterruptRequest : ∀ x0, Statement (.debugInterruptRequest x0) := by
  intro _ w k _ he
  cases he

theorem queueGeneratorStart : ∀ x0 x1, Statement (.queueGeneratorStart x0 x1) := by
  intro _ _ w k _ he
  cases he

theorem generatorSample : ∀ x0 x1, Statement (.generatorSample x0 x1) := by
  intro _ _ w k _ he
  cases he

theorem generatorDelivery : ∀ x0 x1, Statement (.generatorDelivery x0 x1) := by
  intro _ _ w k _ he
  cases he

theorem generatorTake : ∀ x0 x1, Statement (.generatorTake x0 x1) := by
  intro _ _ w k _ he
  cases he

theorem generatorLanding : ∀ x0 x1, Statement (.generatorLanding x0 x1) := by
  intro _ _ w k _ he
  cases he

theorem copyStart : ∀ x0 x1, Statement (.copyStart x0 x1) := by
  intro _ _ w k _ he
  cases he

theorem pageWalkComplete : ∀ x0 x1, Statement (.pageWalkComplete x0 x1) := by
  intro _ _ w k _ he
  cases he

theorem chunkSample : ∀ x0 x1, Statement (.chunkSample x0 x1) := by
  intro _ _ w k _ he
  cases he

theorem chunkLanding : ∀ x0 x1, Statement (.chunkLanding x0 x1) := by
  intro _ _ w k _ he
  cases he

theorem gatherIndexSample : ∀ x0 x1, Statement (.gatherIndexSample x0 x1) := by
  intro _ _ w k _ he
  cases he

theorem gatherElementSample : ∀ x0 x1, Statement (.gatherElementSample x0 x1) := by
  intro _ _ w k _ he
  cases he

theorem gatherElementLanding : ∀ x0 x1, Statement (.gatherElementLanding x0 x1) := by
  intro _ _ w k _ he
  cases he

theorem overlayLanding : ∀ x0 x1, Statement (.overlayLanding x0 x1) := by
  intro _ _ w k _ he
  cases he

theorem handlerChannelLanding : ∀ x0 x1, Statement (.handlerChannelLanding x0 x1) := by
  intro _ _ w k _ he
  cases he

theorem matrixCommandStart : ∀ x0 x1, Statement (.matrixCommandStart x0 x1) := by
  intro _ _ w k _ he
  cases he

theorem mcallStart : ∀ x0 x1, Statement (.mcallStart x0 x1) := by
  intro _ _ w k _ he
  cases he

theorem passSample : ∀ x0 x1, Statement (.passSample x0 x1) := by
  intro _ _ w k _ he
  cases he

theorem passLanding : ∀ x0 x1, Statement (.passLanding x0 x1) := by
  intro _ _ w k _ he
  cases he

theorem mzeroBlockLanding : ∀ x0 x1, Statement (.mzeroBlockLanding x0 x1) := by
  intro _ _ w k _ he
  cases he

theorem mrdStepSample : ∀ x0 x1, Statement (.mrdStepSample x0 x1) := by
  intro _ _ w k _ he
  cases he

theorem mrdStepLanding : ∀ x0 x1, Statement (.mrdStepLanding x0 x1) := by
  intro _ _ w k _ he
  cases he

theorem mwrStepSample : ∀ x0 x1, Statement (.mwrStepSample x0 x1) := by
  intro _ _ w k _ he
  cases he

theorem mwrStepLanding : ∀ x0 x1, Statement (.mwrStepLanding x0 x1) := by
  intro _ _ w k _ he
  cases he

theorem mldSample : ∀ x0 x1, Statement (.mldSample x0 x1) := by
  intro _ _ w k _ he
  cases he

theorem mldLanding : ∀ x0 x1, Statement (.mldLanding x0 x1) := by
  intro _ _ w k _ he
  cases he

theorem amoApply : ∀ x0 x1, Statement (.amoApply x0 x1) := by
  intro _ _ w k _ he
  cases he

theorem gamoStart : ∀ x0 x1, Statement (.gamoStart x0 x1) := by
  intro _ _ w k _ he
  cases he

theorem gamoApply : ∀ x0 x1, Statement (.gamoApply x0 x1) := by
  intro _ _ w k _ he
  cases he

theorem gamoOldValueLanding : ∀ x0 x1, Statement (.gamoOldValueLanding x0 x1) := by
  intro _ _ w k _ he
  cases he

theorem relIncrement : ∀ x0 x1, Statement (.relIncrement x0 x1) := by
  intro _ _ w k _ he
  cases he

theorem acqSample : ∀ x0 x1, Statement (.acqSample x0 x1) := by
  intro _ _ w k _ he
  cases he

theorem lnchStart : ∀ x0 x1, Statement (.lnchStart x0 x1) := by
  intro _ _ w k _ he
  cases he

theorem lnchArrival : ∀ x0 x1, Statement (.lnchArrival x0 x1) := by
  intro _ _ w k _ he
  cases he

theorem flitSample : ∀ x0 x1, Statement (.flitSample x0 x1) := by
  intro _ _ w k _ he
  cases he

theorem streamFlitSample : ∀ x0 x1, Statement (.streamFlitSample x0 x1) := by
  intro _ _ w k _ he
  cases he

theorem streamPacketReceive : ∀ x0, Statement (.streamPacketReceive x0) := by
  intro _ w k _ he
  cases he

theorem flitReceive : ∀ x0 x1, Statement (.flitReceive x0 x1) := by
  intro _ _ w k _ he
  cases he

theorem skewFlitArrival : ∀ x0, Statement (.skewFlitArrival x0) := by
  intro _ w k _ he
  cases he

theorem skewBudgetExpiry : ∀ x0, Statement (.skewBudgetExpiry x0) := by
  intro _ w k _ he
  cases he

theorem skewThaw : ∀ x0, Statement (.skewThaw x0) := by
  intro _ w k _ he
  cases he

theorem frameSend : ∀ x0, Statement (.frameSend x0) := by
  intro _ w k _ he
  cases he

theorem frameReceive : ∀ x0, Statement (.frameReceive x0) := by
  intro _ w k _ he
  cases he

theorem retryRequest : ∀ x0 x1, Statement (.retryRequest x0 x1) := by
  intro _ _ w k _ he
  cases he

theorem flitArrivalTimeout : ∀ x0, Statement (.flitArrivalTimeout x0) := by
  intro _ w k _ he
  cases he

theorem portRetrain : ∀ x0, Statement (.portRetrain x0) := by
  intro _ w k _ he
  cases he

theorem portTrained : ∀ x0, Statement (.portTrained x0) := by
  intro _ w k _ he
  cases he

theorem barrierArrivalMessage : ∀ x0 x1 x2, Statement (.barrierArrivalMessage x0 x1 x2) := by
  intro _ _ _ w k _ he
  cases he

theorem freezeMessage : ∀ x0 x1, Statement (.freezeMessage x0 x1) := by
  intro _ _ w k _ he
  cases he

theorem ptpEventMessage : ∀ x0, Statement (.ptpEventMessage x0) := by
  intro _ w k _ he
  cases he

theorem syncInterval : Statement .syncInterval := by
  intro w k _ he
  cases he

theorem lossOfMaster : Statement .lossOfMaster := by
  intro w k _ he
  cases he

theorem linkHealthTick : ∀ x0, Statement (.linkHealthTick x0) := by
  intro _ w k _ he
  cases he

theorem submit : ∀ x0, Statement (.submit x0) := by
  intro _ w k _ he
  cases he

theorem kill : ∀ x0, Statement (.kill x0) := by
  intro _ w k _ he
  cases he

theorem preempt : ∀ x0, Statement (.preempt x0) := by
  intro _ w k _ he
  cases he

theorem queueEvaluation : Statement .queueEvaluation := by
  intro w k _ he
  cases he

theorem priorityAging : ∀ x0, Statement (.priorityAging x0) := by
  intro _ w k _ he
  cases he

theorem startTick : ∀ x0, Statement (.startTick x0) := by
  intro _ w k _ he
  cases he

theorem preemptionFreeze : ∀ x0, Statement (.preemptionFreeze x0) := by
  intro _ w k _ he
  cases he

theorem contextSave : ∀ x0, Statement (.contextSave x0) := by
  intro _ w k _ he
  cases he

theorem launchComplete : ∀ x0, Statement (.launchComplete x0) := by
  intro _ w k _ he
  cases he

theorem query : ∀ x0, Statement (.query x0) := by
  intro _ w k _ he
  cases he

theorem readtt : ∀ x0, Statement (.readtt x0) := by
  intro _ w k _ he
  cases he

theorem readunit : ∀ x0, Statement (.readunit x0) := by
  intro _ w k _ he
  cases he

theorem condemn : ∀ x0, Statement (.condemn x0) := by
  intro _ w k _ he
  cases he

theorem selftest : ∀ x0, Statement (.selftest x0) := by
  intro _ w k _ he
  cases he

theorem setthr : ∀ x0, Statement (.setthr x0) := by
  intro _ w k _ he
  cases he

theorem install : ∀ x0, Statement (.install x0) := by
  intro _ w k _ he
  cases he

theorem setresv : ∀ x0, Statement (.setresv x0) := by
  intro _ w k _ he
  cases he

theorem unitReplacement : ∀ x0, Statement (.unitReplacement x0) := by
  intro _ w k _ he
  cases he

theorem marktag : Statement .marktag := by
  intro w k _ he
  cases he

theorem inval : Statement .inval := by
  intro w k _ he
  cases he

theorem regobj : Statement .regobj := by
  intro w k _ he
  cases he

theorem unreg : Statement .unreg := by
  intro w k _ he
  cases he

theorem setdesc : Statement .setdesc := by
  intro w k _ he
  cases he

theorem settimer : Statement .settimer := by
  intro w k _ he
  cases he

theorem resumehost : Statement .resumehost := by
  intro w k _ he
  cases he

theorem dombubble : Statement .dombubble := by
  intro w k _ he
  cases he

theorem hostRead : ∀ x0 x1, Statement (.hostRead x0 x1) := by
  intro _ _ w k _ he
  cases he

theorem hostWrite : ∀ x0 x1 x2, Statement (.hostWrite x0 x1 x2) := by
  intro _ _ _ w k _ he
  cases he

theorem hostAtomic : ∀ x0 x1 x2 x3 x4, Statement (.hostAtomic x0 x1 x2 x3 x4) := by
  intro _ _ _ _ _ w k _ he
  cases he

theorem stop : ∀ x0, Statement (.stop x0) := by
  intro _ w k _ he
  cases he

theorem run : ∀ x0, Statement (.run x0) := by
  intro _ w k _ he
  cases he

theorem step : ∀ x0, Statement (.step x0) := by
  intro _ w k _ he
  cases he

theorem snap : ∀ x0, Statement (.snap x0) := by
  intro _ w k _ he
  cases he

theorem stepEnd : ∀ x0, Statement (.stepEnd x0) := by
  intro _ w k _ he
  cases he

theorem thermalBubble : Statement .thermalBubble := by
  intro w k _ he
  cases he

theorem bubbleEnd : Statement .bubbleEnd := by
  intro w k _ he
  cases he

theorem telemetryUpdate : ∀ x0, Statement (.telemetryUpdate x0) := by
  intro _ w k _ he
  cases he

theorem powerCapUpdate : ∀ x0 x1 x2, Statement (.powerCapUpdate x0 x1 x2) := by
  intro _ _ _ w k _ he
  cases he

theorem hbmScrub : ∀ x0 x1, Statement (.hbmScrub x0 x1) := by
  intro _ _ w k _ he
  cases he

theorem packageReset : Statement .packageReset := by
  intro w k _ he
  cases he

theorem powerOff : Statement .powerOff := by
  intro w k _ he
  cases he

theorem registerWrite : ∀ x0 x1, Statement (.registerWrite x0 x1) := by
  intro _ _ w k _ he
  cases he

theorem illop : ∀ x0, Statement (.illop x0) := by
  intro _ w k _ he
  cases he

theorem belfryIssuedAccess : ∀ x0 x1 x2, Statement (.belfryIssuedAccess x0 x1 x2) := by
  intro _ _ _ w k _ he
  cases he

theorem malformedPacket : ∀ x0, Statement (.malformedPacket x0) := by
  intro _ w k _ he
  cases he

theorem submissionDigestExchange : ∀ x0 x1, Statement (.submissionDigestExchange x0 x1) := by
  intro _ _ w k _ he
  cases he

theorem stackAboveMaximumTemperature : ∀ x0, Statement (.stackAboveMaximumTemperature x0) := by
  intro _ w k _ he
  cases he

end Sys2Proof.Laws.RoundTrip
end

