-- ==== Sys2Proof/Safety.lean ====
section
/-! DEFINITION. What a safe state and a safe run are, and the terms the statements use: a syllable's context, when its class has a
free unit and the buffer has room, and the state behind the issue of one pending result. -/

namespace Sys2Proof.Machine

/-- Memory keeps its canonical form. -/
def State.memOk (s : State) : Prop := s.mem.wf = true

/-- Every one of `n` steps answers a next state. -/
def runsOk : Nat → State → Prop
  | 0, _ => True
  | n + 1, s => ∃ t, step s = .next t ∧ runsOk n t

/-- An invariant that every step keeps, from every state that meets it. -/
def StepKeeps (inv : State → Prop) : Prop := ∀ s t, inv s → step s = .next t → inv t

/-! The syllable at the cursor. -/

/-- What the meaning of the syllable at a cursor reads (R13). -/
def State.ctx (s : State) (q : Cursor) : Ctx :=
  ⟨s, q.core, q.slot, s.core q.core, s.fetch q.core (s.core q.core).f.pc.toNat q.slot⟩

/-- The cursor stands on a syllable whose class has a free unit (R112, R150), and the pending-result buffer has room (R15). -/
structure State.Ready (s : State) (q : Cursor) (cls : Nat) : Prop where
  cur : s.cur = some q
  free : alGet 0 (s.core q.core).p.busy (unitKey q.slot cls) ≤ (s.core q.core).now
  room : (s.core q.core).p.prb.length < 96

/-- The pending entry of a syllable at a cursor, landing `lat` and sampling `samp` cycles after its issue. -/
def State.pending (s : State) (q : Cursor) (cls : Nat) (kind : EKind) (lat samp : Nat) : Entry :=
  { uid := (s.core q.core).p.uid, kind := kind, due := (s.core q.core).now + lat, samp := (s.core q.core).now + samp,
    bundle := (s.core q.core).f.pc.toNat, slot := q.slot, issue := (s.core q.core).now, held := false, suspect := false,
    poison := 0, paddr := 0, sthr := none, fpu := false, forced := false, unit := unitOf cls q.slot (q.core % 2) }

/-- A core behind the issue of one pending entry of a class: the entry stands last in the buffer, the unit is busy for the class's
repeat interval, and the ports popped by the bundle are `pops`. -/
def State.coreWith (s : State) (q : Cursor) (cls : Nat) (e : Entry) (pops : BitVec 4) : Core :=
  let c := s.core q.core
  { c with
    p := { c.p with prb := c.p.prb ++ [e], uid := c.p.uid + 1,
                    busy := alSet c.p.busy (unitKey q.slot cls) (c.now + (s.tt q.core cls).rep) }
    f := { c.f with popNow := pops } }

/-- The state behind the issue of one pending entry: only the issuing core changes. -/
def State.queued (s : State) (q : Cursor) (cls : Nat) (e : Entry) (pops : BitVec 4) : State :=
  s.setCore q.core (s.coreWith q cls e pops)

/-- The state behind the issue of a scalar result `v` to s(d) in a class, landing at the class's latency (R111). -/
def State.scalarResult (s : State) (q : Cursor) (cls : Nat) (d : BitVec 5) (v : Word) : State :=
  s.queued q cls (s.pending q cls (.scalar ((s.core q.core).physS d) v) (s.tt q.core cls).lat (s.tt q.core cls).lat)
    (s.core q.core).f.popNow

/-- The state behind the issue of another result without port operands. -/
def State.plainResult (s : State) (q : Cursor) (cls : Nat) (kind : EKind) (lat samp : Nat) : State :=
  s.queued q cls (s.pending q cls kind lat samp) (s.core q.core).f.popNow

/-- The state behind a syllable that changes only its core. -/
def State.withCore (s : State) (q : Cursor) (g : Core → Core) : State := s.setCore q.core (g (s.core q.core))

/-- A syllable's trap taken at issue (R179, R182): the next state of the cursor's syllable where it raises `cause`, `sub` with XADDR. -/
def State.trapped (s : State) (q : Cursor) (cause sub : Nat) (addr : Word) (lane : Nat := 0) : State :=
  s.trapAtIssue q.core q.slot ⟨cause, sub, addr, lane, false⟩

/-- What a trap taken at issue leaves (R176 to R183): the level one higher, its bank, the handler's bundle as the next one, an empty
pending-result buffer, no shadow and no wait; every other register and system register as it was, but for the handler generator. -/
structure State.TrapTaken (s t : State) (q : Cursor) (cause sub slot lane : Nat) (addr : Word) : Prop where
  cur : t.cur = none
  sstat : (t.core q.core).x.sstat = setField (s.core q.core).x.sstat 24 2 ((s.core q.core).tl + 1)
  bank : (if (s.core q.core).tl = 0 then (t.core q.core).x.bank1 else (t.core q.core).x.bank2) =
    ⟨BitVec.ofNat 64 (cause * 2 ^ 32 + sub % 2 ^ 16), (s.core q.core).f.pc.setWidth 64, BitVec.ofNat 64 slot, BitVec.ofNat 64 lane, addr,
      (s.core q.core).x.schc⟩
  other : (if (s.core q.core).tl = 0 then (t.core q.core).x.bank2 else (t.core q.core).x.bank1) =
    if (s.core q.core).tl = 0 then (s.core q.core).x.bank2 else (s.core q.core).x.bank1
  pc : (t.core q.core).f.pc = BitVec.ofNat 12 (field (s.core q.core).x.xvec 6 6 * 64 + 32 * (s.core q.core).tl + cause)
  empty : (t.core q.core).p.prb = []
  shadow : (t.core q.core).f.shadow = none
  wait : (t.core q.core).f.wait = .none
  loops : (t.core q.core).l = (s.core q.core).l
  scalars : (t.core q.core).r.s = (s.core q.core).r.s
  vectors : (t.core q.core).r.v = (s.core q.core).r.v
  preds : (t.core q.core).r.p = (s.core q.core).r.p
  params : (t.core q.core).r.ag = (s.core q.core).r.ag ∧ (t.core q.core).r.mp = (s.core q.core).r.mp ∧
    (t.core q.core).r.eng = (s.core q.core).r.eng
  system : (t.core q.core).x.xvec = (s.core q.core).x.xvec ∧ (t.core q.core).x.ovp = (s.core q.core).x.ovp ∧
    (t.core q.core).x.splb = (s.core q.core).x.splb ∧ (t.core q.core).x.xinj = (s.core q.core).x.xinj ∧
    (t.core q.core).x.schc = (s.core q.core).x.schc

/-- A trap at the cursor's issue enters a handler: not at TL2, in no task that has halted, in no launch that a pre-emption has frozen,
and not taken by a debugger (R182, R191, R322, R350, R402). -/
structure State.Enters (s : State) (q : Cursor) : Prop where
  cur : s.cur = some q
  level : (s.core q.core).tl ≤ 1
  runs : (s.core q.core).f.mode ≠ .halted
  free : (s.launchOf q.core).holdsTraps = false
  plain : s.attached q.core = false

/-- A command of the cursor's syllable. -/
def State.command (s : State) (q : Cursor) (kind : CmdKind) (queue start land : Nat) : Cmd :=
  { uid := (s.core q.core).p.uid, kind := kind, queue := queue, bundle := (s.core q.core).f.pc.toNat, slot := q.slot,
    syll := s.fetch q.core (s.core q.core).f.pc.toNat q.slot, issue := (s.core q.core).clk, start := start, land := land,
    started := false, sPos := 0, lPos := 0, flights := [], pages := [], regs := [] }

/-- The state behind a syllable that hands a command to its core's engines and changes their occupancy. -/
def State.commanded (s : State) (q : Cursor) (m : Cmd) (g : Engines → Engines := id) : State :=
  s.withCore q fun c => (c.modE fun e => let e := g e; { e with cmds := e.cmds ++ [m] }).modP fun p => { p with uid := p.uid + 1 }

/-- The entry of a vector result: lanes that land in a vector register or a write port, checked against STHR and compared with the shadow
unit by an element type as the issue says (R77, R151, R363). -/
def State.vecEntry (s : State) (q : Cursor) (cls : Nat) (d : BitVec 5) (lanes : List (Option LaneW)) (chk : Bool)
    (sh : Option Nat) : Entry :=
  let c := s.core q.core
  { s.pending q cls (if isPort d then .port (portOf d) lanes else .vector (c.physV d) lanes) (s.tt q.core cls).lat (s.tt q.core cls).lat with
    sthr := if chk && c.ste then some c.sthr else none, fpu := sh.isSome, typ := sh.getD 0 }

/-- The syllable `i` lands a vector result in a class (R37, R147): an active lane `l` takes a word that `ok` describes, any other lane
keeps what it holds; the ports among `pops` are popped. -/
def State.VectorLands (s : State) (q : Cursor) (cls : Nat) (i : Instr) (d : BitVec 5) (m : BitVec 64) (chk : Bool)
    (sh : Option Nat) (pops : List (BitVec 5)) (ok : Nat → LaneW → Prop) : Prop :=
  ∃ lanes : List (Option LaneW),
    exec i s = .next (s.queued q cls (s.vecEntry q cls d lanes chk sh) ((s.ctx q).popped pops)) ∧ lanes.length = 64 ∧
    ∀ l < 64, if m.getLsbD l then ∃ w, lanes.getD l none = some w ∧ ok l w else lanes.getD l none = none

/-- A word of integer elements of width `w`: element `e` is `g e` modulo 2^w, and the tag is 24 (R148, R155). -/
def LaneW.elems (x : LaneW) (w : Nat) (g : Nat → Int) : Prop :=
  x.tag = 24 ∧ ∀ e < 32 / w, (elemOf x.w w e : Int) = g e % (2 ^ w : Nat)

/-- A word of floating-point elements of width `w`: element `e` holds the bits of `g e`, and the tag is the least of 24 and the elements'
tags (R75, R148). -/
def LaneW.fpElems (x : LaneW) (w : Nat) (g : Nat → El) : Prop :=
  (∀ e < 32 / w, elemOf x.w w e = (g e).1 % 2 ^ w ∧ x.tag ≤ (g e).2) ∧ x.tag ≤ 24 ∧ (x.tag = 24 ∨ ∃ e < 32 / w, x.tag = (g e).2)

/-- A word of `n` packed elements of width `w`, zero above them, with the least of 24 and their tags. -/
def LaneW.packs (x : LaneW) (w n : Nat) (g : Nat → El) : Prop :=
  (∀ e < n, elemOf x.w w e = (g e).1 % 2 ^ w ∧ x.tag ≤ (g e).2) ∧ x.w.toNat < 2 ^ (w * n) ∧ x.tag ≤ 24 ∧
    (x.tag = 24 ∨ ∃ e < n, x.tag = (g e).2)

/-- The rounding mode of element `e` of lane `l` of a conversion with rounding code `r`: code 4 is RSR with the bundle's random word, the
head of the task's queue at TL0 and the handler generator's next word at TL ≥ 1 (R48, R67, R91). -/
def Core.convMode (c : Core) (r : BitVec 4) (l e : Nat) : Rm :=
  if r = 4 then .rsr (rngBits (if c.tl = 0 then c.r.rngQ.headD 0 else c.r.hrng.next.1) l e) else Rm.ofCode r.toNat

/-- The syllable `i` lands a converted vector; with rounding code 4 its bundle takes a random word, whatever lanes are active (R48, R171):
the task's queue drops its head and takes the generator's next word, or the handler generator steps. -/
def State.ConversionLands (s : State) (q : Cursor) (i : Instr) (d : BitVec 5) (m : BitVec 64) (r : BitVec 4) (chk : Bool)
    (pops : List (BitVec 5)) (ok : Nat → LaneW → Prop) : Prop :=
  ∃ lanes : List (Option LaneW),
    (let c := s.coreWith q 19 (s.vecEntry q 19 d lanes chk none) ((s.ctx q).popped pops)
     exec i s = .next (s.setCore q.core
      (if r ≠ 4 then c
       else if c.tl = 0 then c.modR fun r =>
         { r with rngQ := r.rngQ.drop 1 ++ [r.rng.next.1], rng := r.rng.next.2, rngPops := r.rngPops + 1 }
       else c.modR fun r => { r with hrng := r.hrng.next.2 }))) ∧
    lanes.length = 64 ∧
    ∀ l < 64, if m.getLsbD l then ∃ w, lanes.getD l none = some w ∧ ok l w else lanes.getD l none = none

/-- The syllable `i` lands a predicate result in a class: bit `l` of the value is `ok l`, and the bits of `m` are written (R42). -/
def State.PredicateLands (s : State) (q : Cursor) (i : Instr) (d : BitVec 5) (m : BitVec 64) (pops : List (BitVec 5)) (ok : Nat → Prop) :
    Prop :=
  ∃ v : BitVec 64, (∀ l < 64, v.getLsbD l = true ↔ ok l) ∧
    exec i s = .next (s.queued q 15 (s.pending q 15 (.pred d.toNat v m) (s.tt q.core 15).lat (s.tt q.core 15).lat) ((s.ctx q).popped pops))

/-- The syllable `i` lands a scalar result and pops the ports among `pops`. -/
def State.ScalarLands (s : State) (q : Cursor) (cls : Nat) (i : Instr) (d : BitVec 5) (pops : List (BitVec 5)) (v : Word) : Prop :=
  exec i s = .next (s.queued q cls (s.pending q cls (.scalar ((s.core q.core).physS d) v) (s.tt q.core cls).lat (s.tt q.core cls).lat)
    ((s.ctx q).popped pops))

/-! Events. -/

/-- The memory of `t` is that of `s` with the bytes `bs` from the flat address `a`: every other byte reads as before. -/
def State.Writes (s t : State) (a : Nat) (bs : List Byte) : Prop :=
  ∀ b, t.mem.get b = if a ≤ b ∧ b < a + bs.length then bs.getD (b - a) 0 else s.mem.get b

/-- The lantern of a core's tower records nothing (R343: LCTL.EN = 0). -/
def State.Quiet (s : State) (k : Nat) : Prop := (s.lantern (towerOf k)).lctl.toNat % 2 = 0

/-- The registers, system registers and loop state of every core are those of `s`. -/
def State.KeepsRegisters (s t : State) : Prop :=
  ∀ j, (t.core j).r = (s.core j).r ∧ (t.core j).x = (s.core j).x ∧ (t.core j).l = (s.core j).l

/-- The core with a pending entry gone. -/
def Core.without (c : Core) (uid : Nat) : Core := { c with p := { c.p with prb := c.p.prb.filter (·.uid ≠ uid) } }

/-- The core with a pending entry replaced. -/
def Core.withEntry (c : Core) (e : Entry) : Core :=
  { c with p := { c.p with prb := c.p.prb.map fun x => if x.uid == e.uid then e else x } }

/-- Lane `l` of a result, or what the destination holds there. -/
def laneOr (ls : List (Option LaneW)) (l : Nat) (old : LaneW) : LaneW := (ls.getD l none).getD old

/-- The keys of the core and launch tables rise, so that each core and launch stands once. -/
def State.keysOk (s : State) : Prop :=
  (s.cores.Pairwise fun a b => a.1 < b.1) ∧ s.launches.Pairwise fun a b => a.1 < b.1

/-- What the entry to the next trap level leaves (R177, R182, R183): its status, its bank, the handler's bundle, an emptied buffer, and,
from TL0, a freeze of the launch that the core begins. -/
structure State.Entered (s t : State) (k : Nat) (b : Bank) : Prop where
  sstat : (t.core k).x.sstat = setField (s.core k).x.sstat 24 2 ((s.core k).tl + 1)
  bank : (if (s.core k).tl = 0 then (t.core k).x.bank1 else (t.core k).x.bank2) = b
  other : (if (s.core k).tl = 0 then (t.core k).x.bank2 else (t.core k).x.bank1) =
    if (s.core k).tl = 0 then (s.core k).x.bank2 else (s.core k).x.bank1
  pc : (t.core k).f.pc = BitVec.ofNat 12 (field (s.core k).x.xvec 6 6 * 64 + 32 * (s.core k).tl + field b.cause 32 5)
  empty : (t.core k).p.prb = []
  values : (t.core k).r.s = (s.core k).r.s ∧ (t.core k).r.v = (s.core k).r.v ∧ (t.core k).r.p = (s.core k).r.p ∧ (t.core k).l = (s.core k).l
  frozen : (s.core k).tl = 0 → Cause.trap k ∈ (t.launchOf k).causes

/-- The core with another control flow. -/
def Core.flow (c : Core) (g : Flow → Flow) : Core := { c with f := g c.f }

/-- An event of priority 5 stands among a core's due events for a command, with its fault (R181, R209). -/
def State.FaultDue (t : State) (k : Nat) (m : Cmd) (f : Trap) : Prop :=
  ∃ d ∈ (t.core k).p.dues, d.prio = 5 ∧ d.cause = f.cause ∧ d.sub = f.sub ∧ d.lane = f.lane ∧ d.addr = f.addr ∧ d.bundle = m.bundle ∧
    d.slot = m.slot ∧ d.issue = m.issue ∧ d.hch = (m.queue == 1) ∧ d.cmd = some (m.uid, m.queue, m.syll)

/-- A core holds an uncut command in a queue other than the handler's, under a uid, and no fault of it is due. -/
structure State.Holds (s : State) (k uid : Nat) (m : Cmd) : Prop where
  cmd : (s.core k).cmd uid = some m
  uncut : m.cut = false
  queue : m.queue ≠ 1
  sound : ∀ d ∈ (s.core k).p.dues, d.cmd ≠ some (m.uid, m.queue, m.syll)

/-- No register, system register or loop state of any core changes, and no byte of memory. -/
def State.KeepsAll (s t : State) : Prop := s.KeepsRegisters t ∧ t.mem = s.mem

/-! Engine commands. -/

/-- No fence of the core bars a start at cycle `start` on timed queue `n` (R137). -/
def Core.unfenced (c : Core) (n start : Nat) : Prop := ∀ f ∈ c.e.fences, f.mask.getLsbD n = true → f.at_ ≤ start

/-- A timed copy-engine command with path `p` and occupancy `occ` may start (R137, R143, R202, R208, R212, R270, R284): its channel, its beat
port and, for a gather, the gather path of both cores are free, no fence, order form or guard bars it, and grants cover a command with a global endpoint. -/
structure State.CopyFree (s : State) (q : Cursor) (p : PathArgs) (m : Cmd) (occ : Nat) (gather : Bool) : Prop where
  channel : alGet 0 (s.core q.core).e.chan p.ch ≤ m.start
  port : (if p.global then (s.core q.core).e.hbmPort else (s.core q.core).e.winPort) ≤ m.start
  gathers : gather = true → (s.core q.core).e.gather ≤ m.start ∧ (s.core (q.core / 2 * 2 + (1 - q.core % 2))).e.gather ≤ m.start
  fence : (s.core q.core).unfenced 0 m.start
  acquired : (s.core q.core).e.acqCopy ≤ m.start ∧ (s.core q.core).e.acqAtom ≤ m.start
  released : p.order = 2 → (s.core q.core).e.last 0 ≤ m.start
  guard : (s.core q.core).guarded m = false
  granted : p.global = true →
    (s.launchOf q.core).granted (s.core q.core).f.task.lsp (s.core q.core).half p.grantKind m.start occ = true

/-- The state behind the issue of a timed copy-engine command: the command in flight, its channel busy to its landing and its port and, for
a gather, the gather path for its occupancy. -/
def State.copyQueued (s : State) (q : Cursor) (p : PathArgs) (m : Cmd) (occ : Nat) (gather : Bool) : State :=
  s.commanded q m fun e =>
    { e with
      chan := alSet e.chan p.ch m.land
      hbmPort := if p.global then m.start + occ else e.hbmPort
      winPort := if p.global then e.winPort else m.start + occ
      gather := if gather then m.start + occ else e.gather
      lastLand := e.lastLand.set 0 (max (e.last 0) m.land)
      acqCopy := if p.order = 1 then max e.acqCopy m.land else e.acqCopy }

/-- A handler-channel command of the cursor's syllable: it starts in the handler cycle of its issue (R216). -/
def State.handlerCommand (s : State) (q : Cursor) (kind : CmdKind) (late : Nat) : Cmd :=
  { s.command q kind 1 (s.core q.core).hclk ((s.core q.core).hclk + late) with issue := (s.core q.core).hclk }

/-- A matrix command of the cursor's syllable: it starts one cycle after issue and keeps the SCHC and the SIGLOSS control of its issue
(R77, R227). -/
def State.mxCommand (s : State) (q : Cursor) (a : MxArgs) : Cmd :=
  let c := s.core q.core
  { s.command q (.mx a) 2 (c.clk + 1) (c.clk + 1) with
    regs := [c.x.schc, BitVec.ofNat 64 ((if c.ste then 1 else 0) + 2 * c.sthr)] }

/-- A matrix command may start (R137, R184, R192, R193, R227): at TL0, by the core that owns the array or inside its window, not before
the release of the previous command, behind no fence, and active in no cycle in which the other core's commands are. -/
structure State.MatrixFree (s : State) (q : Cursor) (a : MxArgs) : Prop where
  level : (s.core q.core).tl = 0
  owner : (s.core q.core).amode ≠ 2 → (s.core q.core).half = (s.core q.core).amode
  window : (s.core q.core).amode = 2 →
    ((s.core q.core).x.schc.toNat + 1) / (8 * 2 ^ (s.core q.core).awin) % 2 = (s.core q.core).half
  released : (s.core q.core).e.mxRelease ≤ (s.core q.core).clk + 1
  fence : (s.core q.core).unfenced 2 ((s.core q.core).clk + 1)
  apart : (s.core q.core).amode = 2 → s.mxClash q.core (s.mxCommand q a) = false

/-! The matrix array. -/

/-- A core's command under a uid has one native run, of the operation `op`. -/
structure State.Runs (s : State) (k uid : Nat) (m : Cmd) (r : MxRun) : Prop where
  cmd : (s.core k).cmd uid = some m
  runs : m.runs = [r]
  uncut : m.cut = false

/-- The accumulator memory of the core's spire stands in its window behind its own logical spire, no word of the machine is poisoned,
the core's MIRROR, ECC and FABUNIT detectors of the array are not armed, and no hardware fails. -/
structure State.ArrayClear (s : State) (k : Nat) (r : MxRun) : Prop where
  window : ∀ off < 2 ^ 20, ∃ w, (s.launchOf k).window (s.accWin k off) 1 = some w ∧ w.flat = accBase (k / 2) + off
  poison : s.poison = []
  plain : ∀ b ∈ [1, 2, 3, 7], (s.core k).inj b = false
  sound : s.bel.upsets = []
  tiles : r.acc < (if r.m = 64 then 7 else 8)
  rows : r.m = 64 ∨ r.m = 32 ∨ (r.m = 16 ∧ r.row16 < 2)
  cols : r.col + r.n ≤ 1024

/-- What lands at the flat address of accumulator word `off` of the core's spire. -/
def State.accHolds (t : State) (k off : Nat) (e : El) : Prop :=
  t.mem.value (accBase (k / 2) + off) 4 = e.1 % 2 ^ 32 ∧ t.tagAt (accBase (k / 2) + off) = e.2

/-- Only the accumulator words of a block of a run change in memory: its rows `i` and columns `j` from (`row`, `col`). -/
def State.accOnly (s t : State) (k : Nat) (r : MxRun) (row rows col cols : Nat) : Prop :=
  ∀ b, (∀ i < rows, ∀ j < cols, ¬(accBase (k / 2) + r.accOff (row + i) (col + j) ≤ b ∧ b < accBase (k / 2) + r.accOff (row + i) (col + j) + 4)) →
    t.mem.get b = s.mem.get b

/-- A matrix command goes on behind a landing: it has one landing more and keeps none of its samples for it, or, behind its last, ends. -/
def State.MxGoesOn (t : State) (k uid : Nat) (m : Cmd) (r : MxRun) : Prop :=
  (t.core k).cmd uid =
    if r.landings ≤ r.l + 1 then none
    else some { m with runs := [{ r with l := r.l + 1 }], got := m.got.filter fun g => !(g.run == 0 && g.q == r.l) }

/-! Launches. -/

/-- A launch has ended with a status and a reason: its tasks' cores are idle, no freeze of it is left, no other launch changes, and an
evaluation of the queues is due (R144, R314, R324, R329). -/
structure State.Ended (s t : State) (l status reason : Nat) : Prop where
  phase : (t.launch l).phase = .ended
  status : (t.launch l).status = status
  reason : (t.launch l).reason = reason
  time : (t.launch l).gend = s.gtime
  causes : (t.launch l).causes = []
  cores : ∀ k, (s.core k).f.task.launch = l → (t.core k).f.mode = .idle
  others : ∀ k, (s.core k).f.task.launch ≠ l → t.core k = s.core k
  rest : ∀ j, j ≠ l → t.launch j = s.launch j
  due : t.seq.evalDue = true

/-- A launch is queued under a number with a record, a CORR and a queue, and an evaluation of the queues is due (R311). -/
structure State.Queued (t : State) (l corr queue : Nat) (record : List Byte) : Prop where
  phase : (t.launch l).phase = .queued
  corr : (t.launch l).corr = corr
  queue : (t.launch l).queue = queue
  record : (t.launch l).record = record
  due : t.seq.evalDue = true

/-! Mailboxes and host commands. -/

/-- A mailbox serves a command whose time has come (R254, R255). -/
structure State.Serves (s : State) (box cmd : Nat) (m : MailCmd) : Prop where
  mail : s.bel.mail.find? (·.1 == box) = some (box, m)
  cmd : m.cmd = cmd
  due : m.due ≤ s.wall

/-- A mailbox has its final code, and serves no command (R254). -/
structure State.Replied (t : State) (box code : Nat) : Prop where
  code : (t.boxWord box 8).toNat % 2 ^ 32 = code
  idle : ∀ x ∈ t.bel.mail, x.1 ≠ box

/-- A host command with its arguments is under way and its time has come (R357). -/
structure State.HostServes (s : State) (cmd : Nat) : Prop where
  busy : s.host.hcode = 1
  cmd : (s.host.cargs.headD 0).toNat = cmd
  due : s.host.due ≤ s.wall

/-- A lantern is to carry out a debugger's command for a launch (R343, R351). -/
structure State.DebugServes (s : State) (t cmd l : Nat) : Prop where
  tower : t < s.lanterns.length
  todo : (s.lantern t).todo = true
  attached : (s.lantern t).datt.getLsbD 63 = true
  cmd : (s.lantern t).dcmd.toNat % 2 ^ 16 = cmd
  target : s.byCorr ((s.lantern t).datt.toNat % 2 ^ 32) = some l

/-! Events as instructions. -/

/-- An event stands for the instruction of its own name and operands. -/
def Event.Is : Event → Instr → Prop
  | .waittExpiry core, i => i = .waittExpiry core
  | .waitgExpiry core, i => i = .waitgExpiry core
  | .barrierRelease launch level unit, i => i = .barrierRelease launch level unit
  | .cycleBoundary core, i => i = .cycleBoundary core
  | .resultLanding core uid, i => i = .resultLanding core uid
  | .storeLanding core uid, i => i = .storeLanding core uid
  | .loadSample core uid, i => i = .loadSample core uid
  | .freezeStaggerStop core, i => i = .freezeStaggerStop core
  | .thaw launch, i => i = .thaw launch
  | .handlerStart core, i => i = .handlerStart core
  | .tretComplete core, i => i = .tretComplete core
  | .cwaitEnd core, i => i = .cwaitEnd core
  | .killFreeze launch, i => i = .killFreeze launch
  | .dumpWrite, i => i = .dumpWrite
  | .timerInterrupt core, i => i = .timerInterrupt core
  | .belfryInterruptRequest core, i => i = .belfryInterruptRequest core
  | .debugInterruptRequest core, i => i = .debugInterruptRequest core
  | .queueGeneratorStart core uid, i => i = .queueGeneratorStart core uid
  | .generatorSample core uid, i => i = .generatorSample core uid
  | .generatorDelivery core uid, i => i = .generatorDelivery core uid
  | .generatorTake core uid, i => i = .generatorTake core uid
  | .generatorLanding core uid, i => i = .generatorLanding core uid
  | .copyStart core uid, i => i = .copyStart core uid
  | .pageWalkComplete core uid, i => i = .pageWalkComplete core uid
  | .chunkSample core uid, i => i = .chunkSample core uid
  | .chunkLanding core uid, i => i = .chunkLanding core uid
  | .gatherIndexSample core uid, i => i = .gatherIndexSample core uid
  | .gatherElementSample core uid, i => i = .gatherElementSample core uid
  | .gatherElementLanding core uid, i => i = .gatherElementLanding core uid
  | .overlayLanding core uid, i => i = .overlayLanding core uid
  | .handlerChannelLanding core uid, i => i = .handlerChannelLanding core uid
  | .matrixCommandStart core uid, i => i = .matrixCommandStart core uid
  | .mcallStart core uid, i => i = .mcallStart core uid
  | .passSample core uid, i => i = .passSample core uid
  | .passLanding core uid, i => i = .passLanding core uid
  | .mzeroBlockLanding core uid, i => i = .mzeroBlockLanding core uid
  | .mrdStepSample core uid, i => i = .mrdStepSample core uid
  | .mrdStepLanding core uid, i => i = .mrdStepLanding core uid
  | .mwrStepSample core uid, i => i = .mwrStepSample core uid
  | .mwrStepLanding core uid, i => i = .mwrStepLanding core uid
  | .mldSample core uid, i => i = .mldSample core uid
  | .mldLanding core uid, i => i = .mldLanding core uid
  | .amoApply core uid, i => i = .amoApply core uid
  | .gamoStart core uid, i => i = .gamoStart core uid
  | .gamoApply core uid, i => i = .gamoApply core uid
  | .gamoOldValueLanding core uid, i => i = .gamoOldValueLanding core uid
  | .relIncrement core uid, i => i = .relIncrement core uid
  | .acqSample core uid, i => i = .acqSample core uid
  | .lnchStart core uid, i => i = .lnchStart core uid
  | .lnchArrival core uid, i => i = .lnchArrival core uid
  | .flitSample core uid, i => i = .flitSample core uid
  | .streamFlitSample core uid, i => i = .streamFlitSample core uid
  | .streamPacketReceive pkt, i => i = .streamPacketReceive pkt
  | .flitReceive core uid, i => i = .flitReceive core uid
  | .skewFlitArrival launch, i => i = .skewFlitArrival launch
  | .skewBudgetExpiry core, i => i = .skewBudgetExpiry core
  | .skewThaw launch, i => i = .skewThaw launch
  | .frameSend port, i => i = .frameSend port
  | .frameReceive fr, i => i = .frameReceive fr
  | .retryRequest port fnum, i => i = .retryRequest port fnum
  | .flitArrivalTimeout port, i => i = .flitArrivalTimeout port
  | .portRetrain port, i => i = .portRetrain port
  | .portTrained port, i => i = .portTrained port
  | .barrierArrivalMessage corr req schc, i => i = .barrierArrivalMessage corr req schc
  | .freezeMessage corr kind, i => i = .freezeMessage corr kind
  | .ptpEventMessage msg, i => i = .ptpEventMessage msg
  | .syncInterval, i => i = .syncInterval
  | .lossOfMaster, i => i = .lossOfMaster
  | .linkHealthTick lanes, i => i = .linkHealthTick lanes
  | .submit queue, i => i = .submit queue
  | .kill queue, i => i = .kill queue
  | .preempt queue, i => i = .preempt queue
  | .queueEvaluation, i => i = .queueEvaluation
  | .priorityAging launch, i => i = .priorityAging launch
  | .startTick launch, i => i = .startTick launch
  | .preemptionFreeze launch, i => i = .preemptionFreeze launch
  | .contextSave launch, i => i = .contextSave launch
  | .launchComplete launch, i => i = .launchComplete launch
  | .query mailbox, i => i = .query mailbox
  | .readtt mailbox, i => i = .readtt mailbox
  | .readunit mailbox, i => i = .readunit mailbox
  | .condemn mailbox, i => i = .condemn mailbox
  | .selftest mailbox, i => i = .selftest mailbox
  | .setthr mailbox, i => i = .setthr mailbox
  | .install mailbox, i => i = .install mailbox
  | .setresv mailbox, i => i = .setresv mailbox
  | .unitReplacement tower, i => i = .unitReplacement tower
  | .marktag, i => i = .marktag
  | .inval, i => i = .inval
  | .regobj, i => i = .regobj
  | .unreg, i => i = .unreg
  | .setdesc, i => i = .setdesc
  | .settimer, i => i = .settimer
  | .resumehost, i => i = .resumehost
  | .dombubble, i => i = .dombubble
  | .hostRead offset size, i => i = .hostRead offset size
  | .hostWrite offset data relaxed, i => i = .hostWrite offset data relaxed
  | .hostAtomic op offset width operand comparand, i => i = .hostAtomic op offset width operand comparand
  | .stop tower, i => i = .stop tower
  | .run tower, i => i = .run tower
  | .step tower, i => i = .step tower
  | .snap tower, i => i = .snap tower
  | .stepEnd launch, i => i = .stepEnd launch
  | .thermalBubble, i => i = .thermalBubble
  | .bubbleEnd, i => i = .bubbleEnd
  | .telemetryUpdate rails, i => i = .telemetryUpdate rails
  | .powerCapUpdate tower watts margin, i => i = .powerCapUpdate tower watts margin
  | .hbmScrub line err, i => i = .hbmScrub line err
  | .packageReset, i => i = .packageReset
  | .powerOff, i => i = .powerOff
  | .registerWrite offset value, i => i = .registerWrite offset value
  | .illop w, i => i = .illop w
  | .belfryIssuedAccess belfry queue op, i => i = .belfryIssuedAccess belfry queue op
  | .malformedPacket queue, i => i = .malformedPacket queue
  | .submissionDigestExchange corr part, i => i = .submissionDigestExchange corr part
  | .stackAboveMaximumTemperature stack, i => i = .stackAboveMaximumTemperature stack

end Sys2Proof.Machine
end

