-- ==== Sys2Proof/Certificates/Slice0/Obligations.lean ====
section
/-! DEFINITION. The statements for the provers.

Where a syllable is said to complete, the hypotheses are those of `State.Ready`: the cursor stands on it, its class has a free unit
(R112, R150) and the pending-result buffer has room (R15). `(s.ctx q).sc i r` is the scalar operand `r` of the syllable, `i`-th of its
scalars: the register, or its latch on a resumed slot (R187). `State.scalarResult`, `State.plainResult` and `State.queued` are the state
with one pending entry more; they change nothing but the buffer, the unit's busy cycle and the popped ports of the issuing core, so a
statement that gives one of them as the whole next state gives the frame as well. -/

open Sys2Proof Sys2Proof.Machine

/-! ## Scalar results (05_scalar_control.md) -/

/-- R111, R113, R114: each instruction of the integer group lands the value the table gives, in the scalar alu class. -/
def Claims.IntegerGroupResults : Prop :=
  ∀ (s : State) (q : Cursor) (d a b : BitVec 5), s.Ready q 0 →
    let x := (s.ctx q).sc 0 a
    let y := (s.ctx q).sc 1 b
    let lands := fun (v : Word) => (.next (s.scalarResult q 0 d v) : Host.Outcome State Fault Refusal)
    exec (.add d a b) s = lands (BitVec.ofNat 64 (x.toNat + y.toNat)) ∧
    exec (.sub d a b) s = lands (BitVec.ofInt 64 (x.toInt - y.toInt)) ∧
    exec (.and d a b) s = lands (BitVec.ofNat 64 (x.toNat &&& y.toNat)) ∧
    exec (.or d a b) s = lands (BitVec.ofNat 64 (x.toNat ||| y.toNat)) ∧
    exec (.xor d a b) s = lands (BitVec.ofNat 64 (x.toNat ^^^ y.toNat)) ∧
    exec (.shl d a b) s = lands (BitVec.ofNat 64 (x.toNat * 2 ^ (y.toNat % 64))) ∧
    exec (.shr d a b) s = lands (BitVec.ofNat 64 (x.toNat / 2 ^ (y.toNat % 64))) ∧
    exec (.sra d a b) s = lands (BitVec.ofInt 64 (x.toInt / ((2 ^ (y.toNat % 64) : Nat) : Int))) ∧
    exec (.slt d a b) s = lands (if x.toInt < y.toInt then 1 else 0) ∧
    exec (.sltn d a b) s = lands (if x.toNat < y.toNat then 1 else 0) ∧
    exec (.min d a b) s = lands (BitVec.ofInt 64 (min x.toInt y.toInt)) ∧
    exec (.max d a b) s = lands (BitVec.ofInt 64 (max x.toInt y.toInt)) ∧
    exec (.minn d a b) s = lands (BitVec.ofNat 64 (min x.toNat y.toNat)) ∧
    exec (.maxn d a b) s = lands (BitVec.ofNat 64 (max x.toNat y.toNat)) ∧
    exec (.addW d a b) s = lands (BitVec.ofInt 64 ((BitVec.ofNat 32 (x.toNat + y.toNat)).toInt)) ∧
    exec (.subW d a b) s = lands (BitVec.ofInt 64 ((BitVec.ofInt 32 ((x.toNat : Int) - y.toNat)).toInt))

/-- R111, R113, R114: the multiply forms, in the scalar mul class. -/
def Claims.MultiplyResults : Prop :=
  ∀ (s : State) (q : Cursor) (d a b : BitVec 5), s.Ready q 1 →
    let x := (s.ctx q).sc 0 a
    let y := (s.ctx q).sc 1 b
    let lands := fun (v : Word) => (.next (s.scalarResult q 1 d v) : Host.Outcome State Fault Refusal)
    exec (.mul d a b) s = lands (BitVec.ofInt 64 (x.toInt * y.toInt)) ∧
    exec (.mulh d a b) s = lands (BitVec.ofInt 64 (x.toInt * y.toInt / 2 ^ 64)) ∧
    exec (.mulhn d a b) s = lands (BitVec.ofNat 64 (x.toNat * y.toNat / 2 ^ 64)) ∧
    exec (.mulW d a b) s = lands (BitVec.ofInt 64 ((BitVec.ofNat 32 (x.toNat * y.toNat)).toInt))

/-- R111, R113, R114: a divide or remainder with a divisor other than zero lands its quotient or remainder, in the div class (64 bits)
or the div.w class (32 bits). -/
def Claims.DivideResults : Prop :=
  ∀ (s : State) (q : Cursor) (d a b : BitVec 5),
    let x := (s.ctx q).sc 0 a
    let y := (s.ctx q).sc 1 b
    let x32 := BitVec.ofNat 32 x.toNat
    let y32 := BitVec.ofNat 32 y.toNat
    let lands := fun (cls : Nat) (v : Word) => (.next (s.scalarResult q cls d v) : Host.Outcome State Fault Refusal)
    (s.Ready q 3 → y ≠ 0 →
      exec (.div d a b) s = lands 3 (BitVec.ofInt 64 (x.toInt.tdiv y.toInt)) ∧
      exec (.divn d a b) s = lands 3 (BitVec.ofNat 64 (x.toNat / y.toNat)) ∧
      exec (.rem d a b) s = lands 3 (BitVec.ofInt 64 (x.toInt.tmod y.toInt)) ∧
      exec (.remn d a b) s = lands 3 (BitVec.ofNat 64 (x.toNat % y.toNat))) ∧
    (s.Ready q 2 → y32 ≠ 0 →
      exec (.divW d a b) s = lands 2 (BitVec.ofInt 64 ((BitVec.ofInt 32 (x32.toInt.tdiv y32.toInt)).toInt)) ∧
      exec (.divnW d a b) s = lands 2 (BitVec.ofNat 64 (x32.toNat / y32.toNat)) ∧
      exec (.remW d a b) s = lands 2 (BitVec.ofInt 64 (x32.toInt.tmod y32.toInt)) ∧
      exec (.remnW d a b) s = lands 2 (BitVec.ofNat 64 (x32.toNat % y32.toNat)))

/-- R114: a zero divisor raises INTDIV0 (cause 4) at the slot of the divide, whether or not its unit is free, and no result lands: the
next state is that of a trap taken at issue, whatever the registers hold. -/
def Claims.ZeroDivisorTraps : Prop :=
  ∀ (s : State) (q : Cursor) (d a b : BitVec 5), s.cur = some q →
    let y := (s.ctx q).sc 1 b
    let trapped := (.next (s.trapAtIssue q.core q.slot ⟨4, 0, 0, 0, false⟩) : Host.Outcome State Fault Refusal)
    (y = 0 → exec (.div d a b) s = trapped ∧ exec (.divn d a b) s = trapped ∧ exec (.rem d a b) s = trapped ∧
      exec (.remn d a b) s = trapped) ∧
    (y.toNat % 2 ^ 32 = 0 → exec (.divW d a b) s = trapped ∧ exec (.divnW d a b) s = trapped ∧ exec (.remW d a b) s = trapped ∧
      exec (.remnW d a b) s = trapped)

/-- R111, R113: clz and ctz count zeros of A from the top and from the bottom, 0 to 64, and popc the ones. -/
def Claims.BitCountResults : Prop :=
  ∀ (s : State) (q : Cursor) (d a : BitVec 5), s.Ready q 0 →
    let x := (s.ctx q).sc 0 a
    (∃ n, n ≤ 64 ∧ exec (.clz d a) s = .next (s.scalarResult q 0 d (BitVec.ofNat 64 n)) ∧
      (∀ i < n, x.getLsbD (63 - i) = false) ∧ (n < 64 → x.getLsbD (63 - n) = true)) ∧
    (∃ n, n ≤ 64 ∧ exec (.ctz d a) s = .next (s.scalarResult q 0 d (BitVec.ofNat 64 n)) ∧
      (∀ i < n, x.getLsbD i = false) ∧ (n < 64 → x.getLsbD n = true)) ∧
    exec (.popc d a) s = .next (s.scalarResult q 0 d (BitVec.ofNat 64 ((List.range 64).filter x.getLsbD).length))

/-- R116: sel writes A where s(c) ≠ 0 and B otherwise, and lea writes A + (B << sh); c is fn[10:6] and sh is fn[1:0], and a word with another
bit of fn set does not decode (its step is that of an illegal syllable). -/
def Obligations.SelectAndAddressResults : Prop :=
  (∀ (s : State) (q : Cursor) (d a b c : BitVec 5) (h : BitVec 2), s.Ready q 0 →
    let x := (s.ctx q).sc 0 a
    let y := (s.ctx q).sc 1 b
    let z := (s.ctx q).sc 2 c
    (z ≠ 0 → exec (.sel d a b c) s = .next (s.scalarResult q 0 d x)) ∧
    (z = 0 → exec (.sel d a b c) s = .next (s.scalarResult q 0 d y)) ∧
    exec (.lea d a b h) s = .next (s.scalarResult q 0 d (BitVec.ofNat 64 (x.toNat + y.toNat * 2 ^ h.toNat)))) ∧
  ∀ (w : BitVec 32), ∀ k ∈ [1, 2],
    (bits w 26 6 = 4 → decodeSlot k w =
      if bits w 0 6 = 0 then some (.sel (fld w 21 5) (fld w 16 5) (fld w 11 5) (fld w 6 5)) else none) ∧
    (bits w 26 6 = 5 → decodeSlot k w =
      if bits w 2 9 = 0 then some (.lea (fld w 21 5) (fld w 16 5) (fld w 11 5) (fld w 0 2)) else none)

/-- R115: the immediate forms; movhi replaces bits [16k+15:16k] of s(d) and keeps the others. -/
def Claims.ImmediateResults : Prop :=
  ∀ (s : State) (q : Cursor) (d a : BitVec 5) (i : BitVec 16) (h : BitVec 6) (k : BitVec 2), s.Ready q 0 →
    let x := (s.ctx q).sc 0 a
    let lands := fun (v : Word) => (.next (s.scalarResult q 0 d v) : Host.Outcome State Fault Refusal)
    exec (.addi d a i) s = lands (BitVec.ofInt 64 (x.toInt + i.toInt)) ∧
    exec (.andi d a i) s = lands (x &&& BitVec.ofInt 64 i.toInt) ∧
    exec (.ori d a i) s = lands (x ||| BitVec.ofNat 64 i.toNat) ∧
    exec (.xori d a i) s = lands (x ^^^ BitVec.ofNat 64 i.toNat) ∧
    exec (.slti d a i) s = lands (if x.toInt < i.toInt then 1 else 0) ∧
    exec (.shli d a h) s = lands (BitVec.ofNat 64 (x.toNat * 2 ^ h.toNat)) ∧
    exec (.shri d a h) s = lands (BitVec.ofNat 64 (x.toNat / 2 ^ h.toNat)) ∧
    exec (.srai d a h) s = lands (BitVec.ofInt 64 (x.toInt / ((2 ^ h.toNat : Nat) : Int))) ∧
    exec (.movi d i) s = lands (BitVec.ofInt 64 i.toInt) ∧
    ∃ v : Word, exec (.movhi d k i) s = lands v ∧ ∀ j < 64, v.getLsbD j =
      if 16 * k.toNat ≤ j ∧ j < 16 * k.toNat + 16 then i.getLsbD (j - 16 * k.toNat) else ((s.ctx q).sc 0 d).getLsbD j

/-- R117: ext writes the zero-extended field A[pos+len−1:pos], and ins replaces that field of s(d) by A[len−1:0]; pos is imm[5:0] and len − 1 is
imm[11:6], and a word with pos + len > 64 or another bit of imm set does not decode (its step is that of an illegal syllable). -/
def Obligations.BitFieldResults : Prop :=
  (∀ (s : State) (q : Cursor) (d a : BitVec 5) (l p : BitVec 6), s.Ready q 0 → p.toNat + (l.toNat + 1) ≤ 64 →
    exec (.ext d a l p) s =
      .next (s.scalarResult q 0 d (BitVec.ofNat 64 (((s.ctx q).sc 0 a).toNat / 2 ^ p.toNat % 2 ^ (l.toNat + 1)))) ∧
    ∃ v : Word, exec (.ins d a l p) s = .next (s.scalarResult q 0 d v) ∧ ∀ j < 64, v.getLsbD j =
      if p.toNat ≤ j ∧ j < p.toNat + (l.toNat + 1) then ((s.ctx q).sc 1 a).getLsbD (j - p.toNat)
      else ((s.ctx q).sc 0 d).getLsbD j) ∧
  ∀ (w : BitVec 32), ∀ k ∈ [1, 2],
    let legal := bits w 12 4 = 0 ∧ bits w 0 6 + (bits w 6 6 + 1) ≤ 64
    (bits w 26 6 = 0x12 → decodeSlot k w = if legal then some (.ext (fld w 21 5) (fld w 16 5) (fld w 6 6) (fld w 0 6)) else none) ∧
    (bits w 26 6 = 0x13 → decodeSlot k w = if legal then some (.ins (fld w 21 5) (fld w 16 5) (fld w 6 6) (fld w 0 6)) else none)


/-! ## Parameters, counters and system registers (02_task_state.md, 05_scalar_control.md) -/

/-- R118, R136, R142: a parameter write, a bind and a reseed queue their landing with the operand as read at issue. -/
def Claims.ParameterWritesComplete : Prop :=
  ∀ (s : State) (q : Cursor) (d a b sel : BitVec 5) (n : BitVec 8),
    let x := (s.ctx q).sc 0 a
    let lands := fun (k : EKind) => (.next (s.plainResult q 5 k (s.tt q.core 5).lat (s.tt q.core 5).lat) : Host.Outcome State Fault Refusal)
    let e : Binding := ⟨(s.ctx q).sc 0 d, (s.ctx q).sc 1 a, (s.ctx q).sc 2 b⟩
    (s.Ready q 5 →
      exec (.wrag d a sel) s = lands (.ag d.toNat sel.toNat x) ∧
      exec (.wrmp d a) s = lands (.mp d.toNat x) ∧
      exec (.wreng a n) s = lands (.eng n.toNat x) ∧
      (e.obj.toNat % 8 = 0 → (e.len = 0 ∨ (s.core q.core).r.bind.length < 16 ∨ ∃ t ∈ (s.core q.core).r.bind, t.obj = e.obj) →
        exec (.bind d a b) s = lands (.binding e)) ∧
      (e.obj.toNat % 8 ≠ 0 → exec (.bind d a b) s = .next (s.trapped q 14 6 e.obj))) ∧
    (s.Ready q 62 → exec (.rngseed a) s = .next (s.plainResult q 62 (.reseed x) 1 1))

/-- R120: `rdsched` lands the issue cycle's SCHC and `rdgtime` the GTIME of the issue's wall cycle, in the scalar alu class. -/
def Claims.CounterReads : Prop :=
  ∀ (s : State) (q : Cursor) (d : BitVec 5), s.Ready q 0 →
    exec (.rdsched d) s = .next (s.scalarResult q 0 d (s.core q.core).x.schc) ∧
    exec (.rdgtime d) s = .next (s.scalarResult q 0 d s.gtime)

/-- R50, R51, R135: what `rdsys` lands for each register at each trap level, and the PROT of a level that may not read one. -/
def Claims.SystemRegisterReads : Prop :=
  ∀ (s : State) (q : Cursor) (d : BitVec 5), s.Ready q 4 →
    let c := s.core q.core
    let lands := fun (n : BitVec 8) (v : Word) => exec (.rdsys d n) s = .next (s.scalarResult q 4 d v)
    let prot := fun (n : BitVec 8) => exec (.rdsys d n) s = .next (s.trapped q 12 9 0)
    lands 0x00 c.x.sstat ∧ lands 0x01 c.x.schc ∧ lands 0x02 s.gtime ∧ lands 0x04 c.x.ovp ∧ lands 0x05 c.x.splb ∧
    lands 0x06 (c.l.rrb.setWidth 64) ∧ lands 0x07 (c.l.sen.setWidth 64) ∧ lands 0x08 (ttdig (s.spire (q.core / 2)).tt) ∧
    lands 0x09 c.x.xinj ∧
    (∀ k : Nat, k < 4 → lands (BitVec.ofNat 8 (0x0C + k)) (BitVec.ofNat 64 (c.l.levels.getD k LoopLevel.zero).word) ∧
      lands (BitVec.ofNat 8 (0x20 + k)) (c.l.levels.getD k LoopLevel.zero).lpc) ∧
    (1 ≤ c.tl → lands 0x03 c.x.xvec ∧ lands 0x10 c.x.bank1.cause ∧ lands 0x11 c.x.bank1.epc ∧ lands 0x12 c.x.bank1.slot ∧
      lands 0x13 c.x.bank1.lane ∧ lands 0x14 c.x.bank1.addr ∧ lands 0x15 c.x.bank1.schc) ∧
    (c.tl = 2 → lands 0x18 c.x.bank2.cause ∧ lands 0x19 c.x.bank2.epc ∧ lands 0x1A c.x.bank2.slot ∧ lands 0x1B c.x.bank2.lane ∧
      lands 0x1C c.x.bank2.addr ∧ lands 0x1D c.x.bank2.schc) ∧
    (c.tl = 0 → prot 0x03 ∧ ∀ k : Nat, k < 6 → prot (BitVec.ofNat 8 (0x10 + k))) ∧
    (c.tl ≠ 2 → ∀ k : Nat, k < 6 → prot (BitVec.ofNat 8 (0x18 + k)))

/-- R50, R52, R135: a `wrsys` that the level permits queues its landing; PROT turns away a write to XVEC, OVP, RRB, SEN, a loop level,
LPC or bank 1 at TL0, to bank 2 below TL2, and to XINJ at every level; ILLOP a rounding mode of 4 to 7 and a loop level of KIND 3. -/
def Claims.SystemRegisterWrites : Prop :=
  ∀ (s : State) (q : Cursor) (a : BitVec 5) (n : BitVec 8), s.Ready q 5 →
    let c := s.core q.core
    let v := (s.ctx q).sc 0 a
    let k := n.toNat
    let lands := exec (.wrsys a n) s = .next (s.plainResult q 5 (.sys k v) (s.tt q.core 5).lat (s.tt q.core 5).lat)
    let prot := exec (.wrsys a n) s = .next (s.trapped q 12 9 0)
    let illop := exec (.wrsys a n) s = .next (s.trapped q 1 0 ((s.ctx q).syll.setWidth 64))
    (k = 0 → if 4 ≤ v.toNat / 2 ^ 21 % 8 then illop else lands) ∧
    ((0x0C ≤ k ∧ k ≤ 0x0F) → if v.toNat / 2 ^ 62 = 3 then illop else if c.tl = 0 then prot else lands) ∧
    (k ∈ [1, 2, 5, 8] → lands) ∧
    (k = 9 → prot) ∧
    (k ∈ [3, 4, 6, 7, 0x10, 0x11, 0x12, 0x13, 0x14, 0x15, 0x20, 0x21, 0x22, 0x23] → if c.tl = 0 then prot else lands) ∧
    (k ∈ [0x18, 0x19, 0x1A, 0x1B, 0x1C, 0x1D] → if c.tl = 2 then lands else prot)

/-! ## Control flow (05_scalar_control.md) -/

/-- R102, R121 to R124: outside a delay shadow a branch, jump, call or return opens a shadow of two bundles with its condition and
target; a call lands (P + 3) mod 4,096 in s31 one cycle later, in no class of R111 (class 62 has no repeat interval); `br.p` on a mixed predicate raises NONUNIF with the predicate. -/
def Claims.BranchResults : Prop :=
  ∀ (s : State) (q : Cursor) (c a : BitVec 5) (o : BitVec 21), s.cur = some q → (s.core q.core).f.shadow = none →
    let k := s.core q.core
    let t := BitVec.ofInt 12 (k.f.pc.toNat + o.toInt)
    let x := (s.ctx q).sc 0 c
    let p := (s.ctx q).pr 0 c.toNat
    let goes := fun (i : Instr) (taken : Bool) => exec i s = .next (s.setCore q.core (k.branch taken true t))
    goes (.brZ c o) (decide (x = 0)) ∧ goes (.brNz c o) (decide (x ≠ 0)) ∧
    goes (.brLz c o) (decide (x.toInt < 0)) ∧ goes (.brGez c o) (decide (0 ≤ x.toInt)) ∧
    goes (.brAny c o) (decide (p ≠ 0)) ∧ goes (.brAll c o) (decide (p = BitVec.allOnes 64)) ∧ goes (.brNone c o) (decide (p = 0)) ∧
    (p = BitVec.allOnes 64 → goes (.brP c o) true) ∧ (p = 0 → goes (.brP c o) false) ∧
    (p ≠ BitVec.allOnes 64 → p ≠ 0 → exec (.brP c o) s = .next (s.trapped q 3 0 p)) ∧
    goes (.jmp o) true ∧
    exec (.jmpi a) s = .next (s.setCore q.core (k.branch true true (((s.ctx q).sc 0 a).setWidth 12))) ∧
    exec .ret s = .next (s.setCore q.core (k.branch true false (((s.ctx q).sc 0 31).setWidth 12))) ∧
    (s.Ready q 62 →
      let e := s.pending q 62 (.scalar (k.physS 31) (BitVec.ofNat 64 ((k.f.pc.toNat + 3) % 4096))) 1 1
      let k' := s.coreWith q 62 e k.f.popNow
      exec (.call o) s = .next (s.setCore q.core (k'.branch true false t)) ∧
      exec (.calli a) s = .next (s.setCore q.core (k'.branch true false (((s.ctx q).sc 0 a).setWidth 12))))

/-- R122, R126: a branch leaves a shadow of two bundles with its outcome and target, and touches no register and no pending result; only
a taken branch that may leave loops changes a loop level, and then it ends exactly the innermost levels in turn that hold the branch and
not its target. -/
def Claims.BranchesLeaveLoops : Prop :=
  ∀ (c : Core) (taken leaves : Bool) (t : BitVec 12),
    let c' := c.branch taken leaves t
    c'.f = { c.f with shadow := some ⟨2, taken, t⟩ } ∧ c'.r = c.r ∧ c'.x = c.x ∧ c'.p = c.p ∧ c'.e = c.e ∧ c'.clk = c.clk ∧
    (taken = false ∨ leaves = false ∨ c.tl ≠ 0 → c'.l = c.l) ∧
    (taken = true → leaves = true → c.tl = 0 → c'.l.sen = c.l.sen ∧ c'.l.rrb = c.l.rrb ∧
      let out := fun i => (c.l.levels.getD i LoopLevel.zero).start ≤ c.f.pc ∧ c.f.pc ≤ (c.l.levels.getD i LoopLevel.zero).last ∧
        ¬((c.l.levels.getD i LoopLevel.zero).start ≤ t ∧ t ≤ (c.l.levels.getD i LoopLevel.zero).last)
      ∃ n ≤ c.depth, (∀ i, n ≤ i → i < c.depth → out i) ∧ (0 < n → ¬out (n - 1)) ∧
        ∀ i < c.l.levels.length, c'.l.levels.getD i LoopLevel.zero =
          if n ≤ i ∧ i < c.depth then { c.l.levels.getD i LoopLevel.zero with kind := 0 } else c.l.levels.getD i LoopLevel.zero)

/-- R123: in a delay shadow a branch, jump, call, return, `tret` or `halt` raises ILLDELAY. -/
def Claims.ShadowForbidsBranches : Prop :=
  ∀ (s : State) (q : Cursor) (c : BitVec 5) (o : BitVec 21), s.cur = some q → (s.core q.core).f.shadow ≠ none →
    ∀ i ∈ [Instr.brZ c o, .brNz c o, .brLz c o, .brGez c o, .brP c o, .brAny c o, .brAll c o, .brNone c o, .jmp o, .jmpi c, .call o,
      .calli c, .ret, .tret, .halt], exec i s = .next (s.trapped q 2 0 0)

/-- R47, R125, R126: `zloop` at TL0, outside a shadow, with a body of L = l + 1 bundles that ends at 4,095 at the latest, has no branch,
`tret` or `halt` in its last three bundles and nests in the innermost level, and whose sequencer reports no failed self-check (R251), opens a level of KIND 1 with LPC = N − 1, or skips the body
where N = s(d)[47:0] is 0. -/
def Claims.ZloopOpensALevel : Prop :=
  ∀ (s : State) (q : Cursor) (d a : BitVec 5) (l : BitVec 12), s.cur = some q →
    let c := s.core q.core
    let last := c.f.pc.toNat + (l.toNat + 1)
    let n := ((s.ctx q).sc 0 d).toNat % 2 ^ 48
    let op := fun b => (s.fetch q.core b 0).toNat / 2 ^ 26
    s.fabReport q.core (loopId q.core) = none → c.tl = 0 → c.f.shadow = none → last ≤ 4095 →
    (∀ i < min 3 (l.toNat + 1), ¬(1 ≤ op (last - i) ∧ op (last - i) ≤ 13) ∧ op (last - i) ≠ 0x15 ∧ op (last - i) ≠ 0x16) →
    (∀ v, c.inner = some v → v.start ≤ c.f.pc → c.f.pc ≤ v.last → last ≤ v.last.toNat) →
    (n = 0 → exec (.zloop d a l) s = .next (s.withCore q fun c => c.modF fun f => { f with next := some (BitVec.ofNat 12 last + 1) })) ∧
    (n ≠ 0 → c.depth < 4 →
      exec (.zloop d a l) s = .next (s.withCore q fun c => c.modL fun x =>
        { x with levels := x.levels.set c.depth ⟨1, 0, 0, c.f.pc + 1, BitVec.ofNat 12 last, BitVec.ofNat 64 (n - 1), a, 0, false⟩ })) ∧
    (n ≠ 0 → 4 ≤ c.depth → exec (.zloop d a l) s = .next (s.trapped q 1 0 ((s.ctx q).syll.setWidth 64)))

/-- R103, R104, R127: `ploop` at TL0, outside a shadow, with II = i + 1 kernel bundles that end at 4,095 at the latest, a legal stage map
of S = st + 1 stages, legal control syllables and a sequencer that reports no failed self-check, opens a level of KIND 2 with LPC = N + S − 2, SEN 1 and the latched stage map, and goes
on at P + 2; with N = 0 it goes on behind the kernel. -/
def Claims.PloopOpensALevel : Prop :=
  ∀ (s : State) (q : Cursor) (d a : BitVec 5) (st : BitVec 4) (i : BitVec 3), s.cur = some q →
    let c := s.core q.core
    let last := c.f.pc.toNat + 1 + (i.toNat + 1)
    let n := ((s.ctx q).sc 0 d).toNat % 2 ^ 48
    let map := fun j => s.fetch q.core (c.f.pc.toNat + 1) j
    s.fabReport q.core (loopId q.core) = none → c.tl = 0 → c.f.shadow = none → last ≤ 4095 →
    (∀ j < i.toNat + 1, let w := s.fetch q.core (c.f.pc.toNat + 2 + j) 0
      decodeSlot 0 w ≠ none ∧ w.toNat / 2 ^ 26 ∈ [0, 0x10, 0x14, 0x17, 0x18, 0x19, 0x1A, 0x1B]) →
    (∀ j < 8, if i.toNat + 1 ≤ j then map j = 0
      else ∀ k < 8, s.fetch q.core (c.f.pc.toNat + 2 + j) k = 0 ∨ (map j).toNat / 2 ^ (4 * k) % 16 < st.toNat + 1) →
    (∀ v, c.inner = some v → v.start ≤ c.f.pc → c.f.pc ≤ v.last → last ≤ v.last.toNat) →
    (n = 0 → exec (.ploop d a st i) s =
      .next (s.withCore q fun c => c.modF fun f => { f with next := some (BitVec.ofNat 12 last + 1) })) ∧
    (n ≠ 0 → c.depth < 4 →
      exec (.ploop d a st i) s = .next (s.withCore q fun c => (c.modL fun x =>
        { x with levels := x.levels.set c.depth ⟨2, st, i, c.f.pc + 2, BitVec.ofNat 12 last, BitVec.ofNat 64 (n + (st.toNat + 1) - 2), a, 0, false⟩,
                 sen := 1, smap := (List.range (i.toNat + 1)).map map }).modF fun f => { f with next := some (c.f.pc + 2) }))

/-- R129: at TL0 `lbrk` with s(a) ≠ 0 names the innermost active level, and behind its bundle that level's LPC is cut to 0 (`zloop`) or to
min(LPC, STG) (`ploop`); with s(a) = 0 or no active level nothing changes. At TL ≥ 1 it raises PROT (R184). -/
def Claims.LoopsBreak : Prop :=
  (∀ (s : State) (q : Cursor) (a : BitVec 5), s.cur = some q → s.fabReport q.core (loopId q.core) = none →
    let c := s.core q.core
    (c.tl = 0 → exec (.lbrk a) s = .next (s.withCore q fun c => c.modF fun f =>
      { f with lbrk := if (s.ctx q).sc 0 a = 0 ∨ c.inner = none then f.lbrk else some (c.depth - 1) })) ∧
    (1 ≤ c.tl → exec (.lbrk a) s = .next (s.trapped q 12 10 0))) ∧
  ∀ (c : Core) (i : Nat) (v : LoopLevel), c.f.lbrk = some i → c.l.levels[i]? = some v →
    c.applyLbrk.l.levels = c.l.levels.set i { v with lpc := BitVec.ofNat 64 (if v.kind = 1 then 0 else min v.lpc.toNat v.stg.toNat) } ∧
    c.applyLbrk.f = { c.f with lbrk := none } ∧ c.applyLbrk.r = c.r ∧ c.applyLbrk.x = c.x

/-- R29 to R31, R131: at TL0 `waitt` and `waitg` begin a wait with the target s(a) + sext(imm), and `syncb` arrives at its level's barrier, at
`domain` in a launch without a fabric timetable at that of `package`; each notes the cycle and SCHC of its issue and changes nothing else. At
TL ≥ 1 they raise PROT (R184). -/
def Claims.WaitsBegin : Prop :=
  ∀ (s : State) (q : Cursor) (a : BitVec 5) (i : BitVec 16) (l : BitVec 3), s.cur = some q →
    let c := s.core q.core
    let target := BitVec.ofInt 64 (((s.ctx q).sc 0 a).toInt + i.toInt)
    let waits := fun (i : Instr) (w : Wait) => exec i s = .next (s.withCore q fun c => c.modF fun f => { f with wait := w, arr := (c.clk, c.x.schc) })
    (c.tl = 0 → waits (.waitt a i) (.waitt target) ∧ waits (.waitg a i) (.waitg target) ∧
      waits (.syncb l) (.syncb (if l = 4 ∧ (s.launchOf q.core).ftt = none then 3 else l.toNat))) ∧
    (1 ≤ c.tl → ∀ y ∈ [Instr.waitt a i, .waitg a i, .syncb l], exec y s = .next (s.trapped q 12 10 0))

/-- R133, R134: outside a shadow `halt` at TL0 ends the task behind its bundle, with every loop level discarded and no timer or interrupt left,
and `tret` at TL ≥ 1 begins the return; `halt` at TL ≥ 1 and `tret` at TL0 raise PROT (R184). -/
def Claims.HaltsAndReturnsBegin : Prop :=
  (∀ (s : State) (q : Cursor), s.cur = some q → (s.core q.core).f.shadow = none →
    ((s.core q.core).tl = 0 → exec .halt s = .next (s.withCore q fun c => c.modF fun f => { f with halting := true }) ∧
      exec .tret s = .next (s.trapped q 12 10 0)) ∧
    (1 ≤ (s.core q.core).tl → exec .tret s = .next (s.withCore q fun c => c.modF fun f => { f with mode := .tret }) ∧
      exec .halt s = .next (s.trapped q 12 10 0))) ∧
  ∀ c : Core, c.f.halting = true →
    c.applyHalt.f.mode = .halted ∧ c.applyHalt.f.arr = (c.clk, c.x.schc) ∧ c.applyHalt.f.timer = none ∧ c.applyHalt.f.irq = none ∧
    c.applyHalt.depth = 0 ∧ c.applyHalt.r = c.r ∧ c.applyHalt.x = c.x

/-- R137: at TL0 `fenceq` holds the named timed queues behind the last landing so far of any named one; at every level it marks the handler
channel where it is named, behind the commands issued to it so far. -/
def Claims.FencesMark : Prop :=
  ∀ (s : State) (q : Cursor) (m : BitVec 6), s.cur = some q →
    let c := s.core q.core
    ∃ fs hs, exec (.fenceq m) s = .next (s.withCore q fun c => c.modE fun e => { e with fences := fs, hFences := hs }) ∧
      (m &&& 0b111101#6 = 0 ∨ 1 ≤ c.tl → fs = c.e.fences) ∧
      (m &&& 0b111101#6 ≠ 0 → c.tl = 0 → ∃ n, fs = c.e.fences ++ [⟨m &&& 0b111101#6, n⟩] ∧
        (∀ j < 6, j ≠ 1 → m.getLsbD j = true → c.e.lastLand.getD j 0 ≤ n) ∧
        (n = 0 ∨ ∃ j < 6, j ≠ 1 ∧ m.getLsbD j = true ∧ n = c.e.lastLand.getD j 0)) ∧
      (m.getLsbD 1 = false → hs = c.e.hFences) ∧ (m.getLsbD 1 = true → c.p.uid ∈ hs)

/-- R145: `cwait` in a handler holds its core until the handler channel has no command left, and completes at once where it has none; at TL0
it raises PROT (R184). -/
def Claims.HandlerWaitsBegin : Prop :=
  ∀ (s : State) (q : Cursor), s.cur = some q →
    let c := s.core q.core
    (1 ≤ c.tl → (∃ m ∈ c.e.cmds, m.queue = 1) →
      exec .cwait s = .next (s.withCore q fun c => c.modF fun f => { f with mode := .cwait })) ∧
    (1 ≤ c.tl → (∀ m ∈ c.e.cmds, m.queue ≠ 1) → exec .cwait s = .next (s.withCore q id)) ∧
    (c.tl = 0 → exec .cwait s = .next (s.trapped q 12 10 0))

/-- R84, R132, R179: `trap`, `brk` and an illegal syllable take their exception at issue: USER and BRK with the immediate as sub-cause and
slot 1, ILLOP with the syllable in XADDR and its own slot. -/
def Claims.SoftwareTraps : Prop :=
  ∀ (s : State) (q : Cursor) (i : BitVec 16) (w : BitVec 32), s.Enters q →
    (∃ t, exec (.trap i) s = .next t ∧ s.TrapTaken t q 22 i.toNat (q.slot + 1) 0 0) ∧
    (∃ t, exec (.brk i) s = .next t ∧ s.TrapTaken t q 19 i.toNat (q.slot + 1) 0 0) ∧
    (∃ t, exec (.illop w) s = .next t ∧ s.TrapTaken t q 1 0 q.slot 0 (w.setWidth 64))

/-- R176 to R183: every trap taken at a slot's issue enters the handler of the next level with the cause, bundle, slot, lane, address and
SCHC in that level's bank. -/
def Claims.TrapEntry : Prop :=
  ∀ (s : State) (q : Cursor) (cause sub lane : Nat) (addr : Word), s.Enters q →
    s.TrapTaken (s.trapped q cause sub addr lane) q cause sub q.slot lane addr

/-- R43, R119, R184: at TL0 `qgo` queues the port's generator to start dly cycles after issue, where that is no earlier than the last
delivery or take of the port's previous generator, by the counts its set holds then; else it raises LATESTART, and at TL ≥ 1 PROT. -/
def Claims.QueueGeneratorStarts : Prop :=
  ∀ (s : State) (q : Cursor) (p g : BitVec 3) (l : BitVec 11), s.cur = some q →
    let c := s.core q.core
    let start := c.clk + l.toNat
    let last := fun (m : GenMark) => m.start + (s.tt q.core 22).lat + (c.r.ag.getD m.ag AgSet.zero).total - 1
    (c.tl = 0 → (∀ m, c.lastGen p.toNat = some m → last m ≤ start) →
      exec (.qgo p g l) s = .next (s.commanded q (s.command q (.gen p.toNat g.toNat AgSet.zero) 6 start 0)
        fun e => e.markGen ⟨p.toNat, c.p.uid, start, g.toNat⟩)) ∧
    (c.tl = 0 → (∃ m, c.lastGen p.toNat = some m ∧ start < last m) → exec (.qgo p g l) s = .next (s.trapped q 8 3 0)) ∧
    (1 ≤ c.tl → exec (.qgo p g l) s = .next (s.trapped q 12 10 0))

/-- R183: the handler of a class at level k starts at XVEC.BASE × 64 + 32 × (k − 1) + class: shown on every trap taken at a slot's issue and on every
event that a boundary takes; XVEC.BASE is 0 in every task that a launch starts. -/
def Obligations.HandlersStartAtTheirEntries : Prop :=
  (∀ (s : State) (q : Cursor) (cause sub lane : Nat) (addr : Word), s.Enters q →
    let t := (s.trapped q cause sub addr lane).core q.core
    t.tl = (s.core q.core).tl + 1 ∧
      t.f.pc = BitVec.ofNat 12 (field (s.core q.core).x.xvec 6 6 * 64 + 32 * (t.tl - 1) + cause)) ∧
  (∀ (s : State) (k : Nat) (d : Due), (s.core k).tl ≤ 1 → (s.core k).f.mode ≠ .halted → (s.launchOf k).holdsTraps = false →
    d ∈ (s.core k).p.dues → d.lvl = (s.core k).tl → d.cause < 32 →
    (∀ d' ∈ (s.core k).p.dues, d'.lvl = (s.core k).tl → d' ≠ d → d.before d' = true) →
    ∃ u, exec (.cycleBoundary k) s = .next u ∧ (u.core k).tl = (s.core k).tl + 1 ∧
      (u.core k).f.pc = BitVec.ofNat 12 (field (s.core k).x.xvec 6 6 * 64 + 32 * ((u.core k).tl - 1) + d.cause)) ∧
  ∀ (s : State) (l : Nat), s.startNow (s.launch l) = true → ((s.launch l).place.map Prod.snd).Nodup → (s.launch l).halves ≤ 2 →
    (s.launch l).ftt = none →
    ∃ u, exec (.startTick l) s = .next u ∧ ∀ y ∈ (s.launch l).place, ∀ h < (s.launch l).halves, (u.core (2 * y.2 + h)).x.xvec = 0

/-- R29: `waitt` waits for its target T = s(a) + sext(imm): a core that waits, and that no trap has cut off from slots of its bundle, issues nothing; in each of its cycles its wait ends, before its bundle
issues, where SCHC has reached T, and goes on otherwise. -/
def Obligations.WaittEndsAtItsTarget : Prop :=
  (∀ (s : State) (q : Cursor) (a : BitVec 5) (i : BitVec 16), s.cur = some q → (s.core q.core).tl = 0 →
    exec (.waitt a i) s = .next (s.withCore q fun c => c.modF fun f =>
      { f with wait := .waitt (BitVec.ofInt 64 (((s.ctx q).sc 0 a).toInt + i.toInt)), arr := (c.clk, c.x.schc) })) ∧
  ∀ (s : State) (k : Nat) (g : Word), (s.core k).f.wait = .waitt g → (s.core k).f.mode = .task → (s.core k).f.latch = [] →
    (s.keysOk → ∀ q, s.nextIssuer = some q → q.core ≠ k) ∧
    (s.ticks k = true → s.waitDue k (s.core k) = if g.toNat ≤ (s.core k).x.schc.toNat then some (.waittExpiry k) else none) ∧
    exec (.waittExpiry k) s = .next (if g.toNat ≤ (s.core k).x.schc.toNat
      then s.setCore k ((s.core k).flow fun f => { f with wait := .none }) else s)

/-! ## Loads, stores, spills, scratchpad atomics and sync objects (02_task_state.md, 05_scalar_control.md, 06_vector.md) -/

/-- R138, R152, R196: the checks of a plain access of `n` bytes, in their order: bits [63:40] zero, the alignment, the window with its unit
and offset, what the unit permits at the trap level, and no plain store of a TL0 task into a trap-frame slot (R54, R184). -/
def Claims.PlainAccessChecks : Prop :=
  ∀ (s : State) (k n : Nat) (a : Word) (store : Bool), 0 < n →
    let kind := if store then 2 else 1
    let c := s.core k
    let check := s.plainCheck k kind a n
    (2 ^ 40 ≤ a.toNat → check = .error ⟨12, kind, a, 0, false⟩) ∧
    (a.toNat < 2 ^ 40 → a.toNat % n ≠ 0 → check = .error ⟨14, kind, a, 0, false⟩) ∧
    (a.toNat < 2 ^ 40 → a.toNat % n = 0 → (s.launchOf k).window a.toNat n = none → check = .error ⟨12, kind, a, 0, false⟩) ∧
    ∀ w, a.toNat < 2 ^ 40 → a.toNat % n = 0 → (s.launchOf k).window a.toNat n = some w →
      let frame := w.off < field c.x.splb 32 10 * 4096 ∧ field c.x.splb 32 10 * 4096 - 65536 < w.off + n
      let banned := (1 ≤ c.tl ∧ ¬ w.own c.f.task.lsp = true) ∨
        (if store then storePermitted w.unit c.tl n = false ∨ (w.unit = 0 ∧ c.tl = 0 ∧ frame) else loadPermitted w.unit c.tl n = false)
      (banned → check = .error ⟨12, kind, a, 0, false⟩) ∧ (¬banned → check = .ok w)

/-- R195: a task's own tile scratchpad is every aligned address of its spire's unit 0 below 3 MiB: a plain load or store there resolves to
the flat address of that byte, and at TL0 only the trap-frame slots turn a store away. -/
def Claims.OwnScratchpadIsReachable : Prop :=
  ∀ (s : State) (k off n ps : Nat) (store : Bool),
    let c := s.core k
    let l := s.launchOf k
    c.tl = 0 → c.f.task.lsp < 512 → l.physOf c.f.task.lsp = some ps → n ∈ [1, 2, 4, 8, 256] → off % n = 0 → off + n ≤ 3 * 2 ^ 20 →
    (store = true → off + n ≤ field c.x.splb 32 10 * 4096 - 65536 ∨ field c.x.splb 32 10 * 4096 ≤ off) →
    ∃ w, s.plainCheck k (if store then 2 else 1) (BitVec.ofNat 64 (windowOf c.f.task.lsp off)) n = .ok w ∧
      w.flat = tileBase ps + off ∧ w.unit = 0 ∧ w.off = off ∧ w.own c.f.task.lsp = true ∧ pathClass c.f.task.lsp w = 6

/-- R16, R96, R138, R139: a scalar load queues its sample at the class's sample offset and its landing in sD at the class's load latency,
for the address s(a) + sext(imm); a check that fails is taken at the slot. -/
def Claims.ScalarLoads : Prop :=
  ∀ (s : State) (q : Cursor) (d a : BitVec 5) (i : BitVec 16),
    let c := s.core q.core
    let addr := BitVec.ofInt 64 (((s.ctx q).sc 0 a).toInt + i.toInt)
    ∀ p ∈ [(0, Instr.ldB d a i), (1, .ldH d a i), (2, .ldW d a i), (3, .ldD d a i)],
      (∀ w, s.plainCheck q.core 1 addr (2 ^ p.1) = .ok w → s.Ready q (pathClass c.f.task.lsp w) →
        let t := s.tt q.core (pathClass c.f.task.lsp w)
        exec p.2 s = .next (s.plainResult q (pathClass c.f.task.lsp w) (.load (p.1 + 1) (c.physS d) addr.toNat) t.lat t.aux)) ∧
      ∀ e, s.cur = some q → s.plainCheck q.core 1 addr (2 ^ p.1) = .error e → exec p.2 s = .next (s.trapAtIssue q.core q.slot e)

/-- R16, R96, R138, R139: a scalar store queues the landing of s(d), as read at issue, at the class's store offset, for the address
s(a) + sext(imm); a check that fails is taken at the slot. -/
def Claims.ScalarStores : Prop :=
  ∀ (s : State) (q : Cursor) (d a : BitVec 5) (i : BitVec 16),
    let c := s.core q.core
    let addr := BitVec.ofInt 64 (((s.ctx q).sc 1 a).toInt + i.toInt)
    ∀ p ∈ [(0, Instr.stB d a i), (1, .stH d a i), (2, .stW d a i), (3, .stD d a i)],
      (∀ w, s.plainCheck q.core 2 addr (2 ^ p.1) = .ok w → s.Ready q (pathClass c.f.task.lsp w) →
        let t := s.tt q.core (pathClass c.f.task.lsp w)
        exec p.2 s = .next (s.plainResult q (pathClass c.f.task.lsp w) (.store p.1 addr.toNat ((s.ctx q).sc 0 d)) t.aux t.aux)) ∧
      ∀ e, s.cur = some q → s.plainCheck q.core 2 addr (2 ^ p.1) = .error e → exec p.2 s = .next (s.trapAtIssue q.core q.slot e)

/-- R152: `vld` and `vst` move 256 bytes at s(a) + sext(imm), from or to a vector register or a port. -/
def Claims.VectorLoadsAndStores : Prop :=
  ∀ (s : State) (q : Cursor) (d a : BitVec 5) (i : BitVec 16) (w : Win),
    let c := s.core q.core
    let addr := BitVec.ofInt 64 (((s.ctx q).sc 0 a).toInt + i.toInt)
    let cls := pathClass c.f.task.lsp w
    let t := s.tt q.core cls
    s.Ready q cls →
    ((s.ctx q).vd d = .ok () → s.plainCheck q.core 1 addr 256 = .ok w →
      exec (.vld d a i) s = .next (s.plainResult q cls (.vload 5 (isPort d) (if isPort d then portOf d else c.physV d) addr.toNat) t.lat t.aux)) ∧
    ∀ v, (s.ctx q).ve 0 d = .ok v → s.plainCheck q.core 2 addr 256 = .ok w →
      exec (.vst d a i) s = .next (s.queued q cls (s.pending q cls (.vstore addr.toNat v) t.aux t.aux) ((s.ctx q).popped [d]))

/-- R153, R154: `vldx` and `vstx` take the addresses s(a) + zext(lane) of the active lanes, which must be aligned words of the own tile
scratchpad, and under `vstx` distinct in a lane group and outside the trap frames of a TL0 task; the result of `vldx` lands at the class's
latency, and the last of the 16 groups of `vstx` 15 cycles after the first. -/
def Claims.IndexedAccesses : Prop :=
  ∀ (s : State) (q : Cursor) (d a b : BitVec 5) (p : BitVec 3) (o : Vec), s.Ready q 21 →
    let c := s.core q.core
    let base := (s.ctx q).sc 0 a
    let m := (s.ctx q).pr 0 p.toNat
    let addr := fun l => base + BitVec.setWidth 64 (o.at l).w
    let reach := fun (store : Bool) => ∀ l < 64, m.getLsbD l = true → (addr l).toNat < 2 ^ 40 ∧ (addr l).toNat % 4 = 0 ∧
      ∃ w, (s.launchOf q.core).window (addr l).toNat 1 = some w ∧ w.unit = 0 ∧ w.own c.f.task.lsp = true ∧
        (store = true → c.tl = 0 → c.inFrames w.off 4 = false)
    let apart := ∀ l < 64, ∀ l' < 64, l ≠ l' → l / 4 = l' / 4 → m.getLsbD l = true → m.getLsbD l' = true →
      (addr l).toNat / 4 ≠ (addr l').toNat / 4
    let t := s.tt q.core 21
    ((s.ctx q).vd d = .ok () → (s.ctx q).ve 0 b = .ok o → reach false →
      exec (.vldx d a b p) s = .next (s.queued q 21
        (s.pending q 21 (.vldx (isPort d) (if isPort d then portOf d else c.physV d) (base.toNat % 2 ^ 40) (o.map fun y => y.w.toNat) m
          (List.replicate 64 none) 0) t.lat t.aux) ((s.ctx q).popped [b]))) ∧
    ∀ v, (s.ctx q).ve 0 d = .ok v → (s.ctx q).ve 1 b = .ok o → reach true → apart →
      exec (.vstx d a b p) s = .next (s.queued q 21
        (s.pending q 21 (.vstx (base.toNat % 2 ^ 40) (o.map fun y => y.w.toNat) m v 0) (t.aux + 15) t.aux) ((s.ctx q).popped [d, b]))

/-- R54, R55, R140, R184: where a spill goes. Inside the spill area it moves between the register and the carve-out; beyond it, in overflowing
mode at TL0, between the register and the overflow area, always in the spill class; in bounded mode it raises SPILLOVF with the offset, and in a
handler PROT. -/
def Obligations.Spills : Prop :=
  ∀ (s : State) (q : Cursor) (d a : BitVec 5) (k : BitVec 16),
    let c := s.core q.core
    let spsz := (field c.x.splb 32 10 - field c.x.splb 0 10) * 4096 - 65536
    let o := fun (i : Nat) (size : Nat) => BitVec.ofNat 64 (((s.ctx q).sc i a).toNat + size * k.toNat)
    let pad := fun (w : Word) => windowOf c.f.task.lsp (field c.x.splb 0 10 * 4096 + w.toNat)
    let beyond := fun (w : Word) => field c.x.ovp 12 45 * 4096 + (w.toNat - spsz)
    let cls := if c.spm then 11 else 6
    let t := s.tt q.core cls
    let goes := fun (i : Instr) (kind : EKind) (load : Bool) (pops : BitVec 4) =>
      exec i s = .next (s.queued q cls (s.pending q cls kind (if load then t.lat else t.aux) t.aux) pops)
    let pop := c.f.popNow
    let n := if isPort d then portOf d else c.physV d
    s.Ready q cls →
    ((o 0 8).toNat % 8 = 0 → (o 0 8).toNat + 8 ≤ spsz → goes (.spldScalar d a k) (.load 6 (c.physS d) (pad (o 0 8))) true pop) ∧
    ((o 1 8).toNat % 8 = 0 → (o 1 8).toNat + 8 ≤ spsz → goes (.spstScalar d a k) (.store 3 (pad (o 1 8)) ((s.ctx q).sc 0 d)) false pop) ∧
    ((s.ctx q).vd d = .ok () → (o 0 256).toNat % 256 = 0 → (o 0 256).toNat + 256 ≤ spsz →
      goes (.spldVector d a k) (.vload 7 (isPort d) n (pad (o 0 256))) true pop) ∧
    (∀ v, (s.ctx q).ve 0 d = .ok v → (o 0 256).toNat % 256 = 0 → (o 0 256).toNat + 256 ≤ spsz →
      goes (.spstVector d a k) (.vstore (pad (o 0 256)) v) false ((s.ctx q).popped [d])) ∧
    (c.spm = true → c.tl = 0 →
      ((o 0 8).toNat % 8 = 0 → spsz < (o 0 8).toNat + 8 → goes (.spldScalar d a k) (.load 8 (c.physS d) (beyond (o 0 8))) true pop) ∧
      ((o 1 8).toNat % 8 = 0 → spsz < (o 1 8).toNat + 8 → goes (.spstScalar d a k) (.spillStore (beyond (o 1 8)) ((s.ctx q).sc 0 d)) false pop) ∧
      ((s.ctx q).vd d = .ok () → (o 0 256).toNat % 256 = 0 → spsz < (o 0 256).toNat + 256 →
        goes (.spldVector d a k) (.vload 9 (isPort d) n (beyond (o 0 256))) true pop) ∧
      (∀ v, (s.ctx q).ve 0 d = .ok v → (o 0 256).toNat % 256 = 0 → spsz < (o 0 256).toNat + 256 →
        goes (.spstVector d a k) (.spillVStore (beyond (o 0 256)) v) false ((s.ctx q).popped [d]))) ∧
    (c.spm = false →
      ((o 0 8).toNat % 8 = 0 → spsz < (o 0 8).toNat + 8 → exec (.spldScalar d a k) s = .next (s.trapped q 17 0 (o 0 8))) ∧
      ((o 1 8).toNat % 8 = 0 → spsz < (o 1 8).toNat + 8 → exec (.spstScalar d a k) s = .next (s.trapped q 17 0 (o 1 8)))) ∧
    (c.spm = true → 1 ≤ c.tl →
      ((o 0 8).toNat % 8 = 0 → spsz < (o 0 8).toNat + 8 → exec (.spldScalar d a k) s = .next (s.trapped q 12 1 0)) ∧
      ((o 1 8).toNat % 8 = 0 → spsz < (o 1 8).toNat + 8 → exec (.spstScalar d a k) s = .next (s.trapped q 12 2 0))) ∧
    ((o 0 8).toNat % 8 ≠ 0 → exec (.spldScalar d a k) s = .next (s.trapped q 14 1 (o 0 8))) ∧
    ((o 1 8).toNat % 8 ≠ 0 → exec (.spstScalar d a k) s = .next (s.trapped q 14 2 (o 1 8)))

/-- R141: a scratchpad atomic on an aligned word of the issuing spire's tile scratchpad queues its landing with its operands as read at
issue; a target elsewhere raises PROT. -/
def Claims.ScratchpadAtomicsIssue : Prop :=
  ∀ (s : State) (q : Cursor) (d a b r : BitVec 5) (w : BitVec 1), s.Ready q 10 →
    let c := s.core q.core
    let addr := (s.ctx q).sc 0 a
    let y := (s.ctx q).sc 1 b
    let z := (s.ctx q).sc 2 r
    let t := s.tt q.core 10
    ∀ p ∈ [(AtomicOp.add, (0 : Word), Instr.amoAdd d a b w), (.and, 0, .amoAnd d a b w), (.or, 0, .amoOr d a b w), (.xor, 0, .amoXor d a b w),
        (.min, 0, .amoMin d a b w), (.max, 0, .amoMax d a b w), (.swap, 0, .amoSwap d a b w), (.cas, z, .amoCas d a b r w)],
      (∀ win, s.plainCheck q.core 5 addr (if w = 1 then 8 else 4) = .ok win → win.unit = 0 → win.own c.f.task.lsp = true →
        exec p.2.2 s = .next (s.plainResult q 10 (.amo p.1 (w == 1) (c.physS d) addr.toNat y p.2.1) t.lat t.aux)) ∧
      (∀ win, s.plainCheck q.core 5 addr (if w = 1 then 8 else 4) = .ok win → win.unit ≠ 0 ∨ win.own c.f.task.lsp = false →
        exec p.2.2 s = .next (s.trapped q 12 5 addr))

/-- R141, R283: what an atomic writes, for the old value and its operands: of a .w form the low 32 bits count, and the new word is below
2^32. -/
def Claims.AtomicOperations : Prop :=
  ∀ (old y z : Word),
    (atomicNew .add true old y z = BitVec.ofNat 64 (old.toNat + y.toNat) ∧
     atomicNew .and true old y z = old &&& y ∧ atomicNew .or true old y z = old ||| y ∧ atomicNew .xor true old y z = old ^^^ y ∧
     atomicNew .min true old y z = BitVec.ofInt 64 (min old.toInt y.toInt) ∧
     atomicNew .max true old y z = BitVec.ofInt 64 (max old.toInt y.toInt) ∧
     atomicNew .swap true old y z = y ∧ atomicNew .cas true old y z = if old = z then y else old) ∧
    (let o := BitVec.ofNat 32 old.toNat
     let u := BitVec.ofNat 32 y.toNat
     let v := BitVec.ofNat 32 z.toNat
     atomicNew .add false old y z = (o + u).setWidth 64 ∧
     atomicNew .and false old y z = (o &&& u).setWidth 64 ∧ atomicNew .or false old y z = (o ||| u).setWidth 64 ∧
     atomicNew .xor false old y z = (o ^^^ u).setWidth 64 ∧
     atomicNew .min false old y z = (BitVec.ofInt 32 (min o.toInt u.toInt)).setWidth 64 ∧
     atomicNew .max false old y z = (BitVec.ofInt 32 (max o.toInt u.toInt)).setWidth 64 ∧
     atomicNew .swap false old y z = u.setWidth 64 ∧
     atomicNew .cas false old y z = (if o = v then u else o).setWidth 64)

/-- R143, R184: `acq` and `rel` at TL0 on an 8-byte-aligned object queue their action at the class's latency; an `acq` leaves a guard on
its object until then; a `rel` with an earlier command that writes a bound region and has not landed raises LATESTART; a misaligned object
raises ALIGN, and at TL ≥ 1 both raise PROT. -/
def Claims.SyncObjectsIssue : Prop :=
  ∀ (s : State) (q : Cursor) (a : BitVec 5) (sc : BitVec 3), s.cur = some q →
    let c := s.core q.core
    let o := (s.ctx q).sc 0 a
    let at_ := c.clk + (s.tt q.core 23).lat
    (o.toNat % 8 = 0 → c.tl = 0 →
      exec (.acq a sc) s = .next (s.commanded q (s.command q (.acq o sc.toNat) 7 at_ at_) fun e => { e with guards := e.guards ++ [⟨o, at_⟩] }) ∧
      ((∀ m ∈ c.e.cmds, c.clk < m.land → c.boundTo o m.writes = false) →
        exec (.rel a sc) s = .next (s.commanded q (s.command q (.rel o sc.toNat) 7 at_ at_))) ∧
      ((∃ m ∈ c.e.cmds, c.clk < m.land ∧ c.boundTo o m.writes = true) → exec (.rel a sc) s = .next (s.trapped q 8 3 0))) ∧
    (o.toNat % 8 = 0 → 1 ≤ c.tl → exec (.acq a sc) s = .next (s.trapped q 12 6 0) ∧ exec (.rel a sc) s = .next (s.trapped q 12 6 0)) ∧
    (o.toNat % 8 ≠ 0 → exec (.acq a sc) s = .next (s.trapped q 14 6 o) ∧ exec (.rel a sc) s = .next (s.trapped q 14 6 o))

/-! ## Vector, predicate and tag instructions (06_vector.md)

`(s.ctx q).ve i a = .ok u` says that the vector operand `a`, `i`-th of the syllable's vectors, is readable and holds `u`: a register, the
head of a read port, or a latch (R39, R88, R187). `(s.ctx q).vd d = .ok ()` says that the destination may be used at the trap level
(R184). -/

/-- R146 to R148, R155: the integer group works element by element modulo 2^w, signed or natural by type, in the active lanes, with tag
24. -/
def Claims.VectorIntegerResults : Prop :=
  ∀ (s : State) (q : Cursor) (d a b : BitVec 5) (p : BitVec 3) (t : BitVec 4) (w : Nat) (u v : Vec), s.Ready q 12 →
    (t.toNat, w) ∈ [(8, 8), (9, 16), (10, 32), (12, 8), (13, 16), (14, 32)] →
    (s.ctx q).vd d = .ok () → (s.ctx q).ve 0 a = .ok u → (s.ctx q).ve 1 b = .ok v →
    let m := (s.ctx q).pr 0 p.toNat
    let iv := fun (n : Nat) => if t.toNat < 12 then sElem n w else (n : Int)
    let lands := fun (i : Instr) (g : Nat → Nat → Int) => s.VectorLands q 12 i d m false none [a, b]
      fun l r => r.elems w fun e => g (elemOf (u.at l).w w e) (elemOf (v.at l).w w e)
    lands (.vadd d a b p t) (fun x y => x + y) ∧
    lands (.vsub d a b p t) (fun x y => x - y) ∧
    lands (.vand d a b p t) (fun x y => ((x &&& y : Nat) : Int)) ∧
    lands (.vor d a b p t) (fun x y => ((x ||| y : Nat) : Int)) ∧
    lands (.vxor d a b p t) (fun x y => ((x ^^^ y : Nat) : Int)) ∧
    lands (.vshl d a b p t) (fun x y => x * 2 ^ (y % w)) ∧
    lands (.vshr d a b p t) (fun x y => (x / 2 ^ (y % w) : Nat)) ∧
    lands (.vsra d a b p t) (fun x y => sElem x w / 2 ^ (y % w)) ∧
    lands (.vmin d a b p t) (fun x y => min (iv x) (iv y)) ∧
    lands (.vmax d a b p t) (fun x y => max (iv x) (iv y)) ∧
    s.VectorLands q 12 (.vabs d a p t) d m false none [a] fun l r => r.elems w fun e => (sElem (elemOf (u.at l).w w e) w).natAbs

/-- R156, R157: the vector multiplies write the low or the high half of the exact element product, and `vmadd` one 32-bit sum of the
signed element products and C a lane, wrapped once. -/
def Claims.VectorMultiplyResults : Prop :=
  ∀ (s : State) (q : Cursor) (d a b c : BitVec 5) (p k : BitVec 3) (t : BitVec 4) (w w' : Nat) (u v z : Vec), s.Ready q 13 →
    (t.toNat, w) ∈ [(8, 8), (9, 16), (10, 32), (12, 8), (13, 16), (14, 32)] → (k.toNat, w') ∈ [(4, 8), (5, 16), (6, 32)] →
    (s.ctx q).vd d = .ok () → (s.ctx q).ve 0 a = .ok u → (s.ctx q).ve 1 b = .ok v →
    let m := (s.ctx q).pr 0 p.toNat
    let iv := fun (n : Nat) => if t.toNat < 12 then sElem n w else (n : Int)
    s.VectorLands q 13 (.vmul d a b p t) d m false none [a, b]
      (fun l r => r.elems w fun e => (elemOf (u.at l).w w e : Int) * elemOf (v.at l).w w e) ∧
    s.VectorLands q 13 (.vmulh d a b p t) d m false none [a, b]
      (fun l r => r.elems w fun e => iv (elemOf (u.at l).w w e) * iv (elemOf (v.at l).w w e) / 2 ^ w) ∧
    ((s.ctx q).ve 2 c = .ok z → s.VectorLands q 13 (.vmadd d a b c p k) d m false none [a, b, c] fun l r => r.tag = 24 ∧
      r.w = BitVec.ofInt 32 ((z.at l).w.toInt +
        ((List.range (32 / w')).map fun e => sElem (elemOf (u.at l).w w' e) w' * sElem (elemOf (v.at l).w w' e) w').sum))

/-- R64, R68, R70, R72 to R74, R158, R159: the FP group and the FMA forms compute each element exactly and round it once under SSTAT.FRM;
the tag of the result follows the rule of the operation. Every result is compared with the shadow unit, and those of the arithmetic forms
are checked against STHR. -/
def Claims.VectorFloatResults : Prop :=
  ∀ (s : State) (q : Cursor) (d a b c : BitVec 5) (p : BitVec 3) (t : BitVec 4) (t3 : BitVec 3) (f : Fmt) (u v z : Vec), s.Ready q 14 →
    (t.toNat, f) ∈ [(0, fp32), (1, bf16), (2, fp16)] → t3.toNat = t.toNat →
    (s.ctx q).vd d = .ok () → (s.ctx q).ve 0 a = .ok u → (s.ctx q).ve 1 b = .ok v →
    let m := (s.ctx q).pr 0 p.toNat
    let rm := (s.core q.core).frm
    let w := f.width
    let el := fun (x : Vec) (l e : Nat) => ((elemOf (x.at l).w w e, (x.at l).tag) : El)
    let tv := fun (x : Vec) (l e : Nat) => f.tv (elemOf (x.at l).w w e) (x.at l).tag
    let two := fun (i : Instr) (chk : Bool) (g : Nat → Nat → El) => s.VectorLands q 14 i d m chk (some t.toNat) [a, b] fun l r => r.fpElems w (g l)
    let one := fun (i : Instr) (g : Nat → Nat → El) => s.VectorLands q 14 i d m false (some t.toNat) [a] fun l r => r.fpElems w (g l)
    two (.vfadd d a b p t) true (fun l e => f.addEl rm (tv u l e) (tv v l e)) ∧
    two (.vfsub d a b p t) true (fun l e => f.addEl rm (tv u l e) (tv v l e).neg) ∧
    two (.vfmul d a b p t) true (fun l e => f.mulEl rm (tv u l e) (tv v l e)) ∧
    two (.vfmin d a b p t) false (fun l e => f.minMaxEl false (el u l e) (el v l e)) ∧
    two (.vfmax d a b p t) false (fun l e => f.minMaxEl true (el u l e) (el v l e)) ∧
    one (.vfabs d a p t) (fun l e => f.signEl false (el u l e)) ∧
    one (.vfneg d a p t) (fun l e => f.signEl true (el u l e)) ∧
    ((s.ctx q).ve 2 c = .ok z →
      let three := fun (i : Instr) (g : Nat → Nat → El) => s.VectorLands q 14 i d m true (some t.toNat) [a, b, c] fun l r => r.fpElems w (g l)
      three (.vfma d a b c p t3) (fun l e => f.fmaEl rm (tv u l e) (tv v l e) (tv z l e) false) ∧
      three (.vfms d a b c p t3) (fun l e => f.fmaEl rm (tv u l e) (tv v l e) (tv z l e).neg false) ∧
      three (.vfnma d a b c p t3) (fun l e => f.fmaEl rm (tv u l e) (tv v l e) (tv z l e) true))

/-- R160: an approximation rounds the exact function value once onto the FP32 values of at most 22 significant bits, with tag min(ta, 22)
under R72. -/
def Claims.ApproximationResults : Prop :=
  ∀ (s : State) (q : Cursor) (d a : BitVec 5) (p : BitVec 3) (u : Vec), s.Ready q 18 →
    (s.ctx q).vd d = .ok () → (s.ctx q).ve 0 a = .ok u →
    let rm := (s.core q.core).frm
    let lands := fun (i : Instr) (fn : Val → Val) => s.VectorLands q 18 i d ((s.ctx q).pr 0 p.toNat) true (some 0) [a] fun l r =>
      let y := fn (fp32.read (u.at l).w.toNat)
      let x := approxRound rm y
      r.fpElems 32 fun _ => (x.bits, fp32.limit y x (min (min (u.at l).tag 24) 22))
    lands (.vfrcp d a p) rcpVal ∧ lands (.vfrsq d a p) rsqVal ∧ lands (.vfexp2 d a p) exp2Val ∧ lands (.vflog2 d a p) log2Val

/-- R68, R161, R162: compares set bit l of pD in the active lanes, a NaN being unordered and −0 equal to +0, and `vfclass` writes the class
mask of each active lane. -/
def Claims.CompareResults : Prop :=
  ∀ (s : State) (q : Cursor) (d a b : BitVec 5) (p : BitVec 3) (f : BitVec 4) (u v : Vec),
    (s.ctx q).ve 0 a = .ok u → (s.ctx q).ve 1 b = .ok v →
    let m := (s.ctx q).pr 0 p.toNat
    let holds := fun (c : Nat) (lt eq : Prop) => (c = 0 ∧ eq) ∨ (c = 1 ∧ ¬eq) ∨ (c = 2 ∧ lt) ∨ (c = 3 ∧ (lt ∨ eq)) ∨ (c = 4 ∧ ¬lt ∧ ¬eq) ∨ (c = 5 ∧ ¬lt)
    let x := fun l => fp32.read (u.at l).w.toNat
    let y := fun l => fp32.read (v.at l).w.toNat
    (s.Ready q 15 → f.toNat ≤ 5 →
      s.PredicateLands q (.vcmp d a b p 10 f) d m [a, b]
        (fun l => holds f.toNat ((u.at l).w.toInt < (v.at l).w.toInt) ((u.at l).w = (v.at l).w)) ∧
      s.PredicateLands q (.vcmp d a b p 14 f) d m [a, b]
        (fun l => holds f.toNat ((u.at l).w.toNat < (v.at l).w.toNat) ((u.at l).w = (v.at l).w))) ∧
    (s.Ready q 15 → f.toNat ≤ 6 → s.PredicateLands q (.vfcmp d a b p f) d m [a, b] fun l =>
      if (x l).isNan = true ∨ (y l).isNan = true then f.toNat = 1 ∨ f.toNat = 6
      else holds f.toNat (Val.cmp (x l) (y l) < 0) (Val.cmp (x l) (y l) = 0)) ∧
    (s.Ready q 12 → (s.ctx q).vd d = .ok () → s.VectorLands q 12 (.vfclass d a p) d m false none [a] fun l r => r.tag = 24 ∧ r.w =
      match x l with
      | .inf n => if n then 1 else 128
      | .nan => 256
      | .zero n => (if n then 8 else 16) + if (u.at l).tag < 24 then 512 else 0
      | .fin n k e => if expOf k e < -126 then (if n then 4 else 32) else if n then 2 else 64)

/-- R163 to R166: selects, permutes and lane transfers move whole words with their tags. -/
def Claims.PermuteResults : Prop :=
  ∀ (s : State) (q : Cursor) (d a b c : BitVec 5) (p : BitVec 3) (u v : Vec), (s.ctx q).vd d = .ok () →
    let m := (s.ctx q).pr 0 p.toNat
    ((s.ctx q).ve 0 a = .ok u → (s.ctx q).ve 1 b = .ok v →
      (s.Ready q 12 → s.VectorLands q 12 (.vsel d a b c p) d ((s.ctx q).pr 1 p.toNat) false none [a, b] fun l r =>
        r = if ((s.ctx q).pr 0 c.toNat).getLsbD l then u.at l else v.at l) ∧
      (s.Ready q 16 →
        (s.VectorLands q 16 (.vperm d a b p) d m false none [a, b] fun l r => r = u.at ((v.at l).w.toNat % 64)) ∧
        (let k := ((s.ctx q).sc 0 c).toNat
         s.VectorLands q 16 (.vslide d a b c p) d m false none [a, b] fun l r =>
           r = if l + min k 64 < 64 then u.at (l + min k 64) else v.at (l + min k 64 - 64)))) ∧
    (s.Ready q 16 → (s.ctx q).ve 0 a = .ok u →
      (s.VectorLands q 16 (.vrot d a c p) d m false none [a] fun l r => r = u.at ((l + ((s.ctx q).sc 0 c).toNat) % 64)) ∧
      s.ScalarLands q 16 (.vext d a b) d [a] (BitVec.ofNat 64 (u.at (((s.ctx q).sc 0 b).toNat % 64)).w.toNat)) ∧
    (s.Ready q 16 → s.VectorLands q 16 (.vbcast d a p) d m false none [] fun _ r =>
      r = ⟨BitVec.ofNat 32 ((s.ctx q).sc 0 a).toNat, 24⟩) ∧
    (s.Ready q 16 → (if isPort d then u = Vec.zero else (s.ctx q).ve 0 d = .ok u) →
      s.VectorLands q 16 (.vins d a b) d (BitVec.allOnes 64) false none [] fun l r =>
        r = if l = ((s.ctx q).sc 1 b).toNat % 64 then ⟨BitVec.ofNat 32 ((s.ctx q).sc 0 a).toNat, 24⟩ else u.at l)

/-- R70, R73, R167: a reduction writes one word into every active lane: the sum modulo 2^32, the least or the greatest of the active lanes
with the identity of the type where none is active, and for `vfredadd` the root of the pairwise tree; with no active lane nothing lands, in a write port neither. -/
def Claims.ReductionResults : Prop :=
  ∀ (s : State) (q : Cursor) (d a : BitVec 5) (p : BitVec 3) (t : BitVec 4) (u : Vec), s.Ready q 17 → t = 10 ∨ t = 14 →
    (s.ctx q).vd d = .ok () → (s.ctx q).ve 0 a = .ok u →
    let m := (s.ctx q).pr 0 p.toNat
    let val := fun (l : Nat) => if t = 10 then (u.at l).w.toInt else ((u.at l).w.toNat : Int)
    let on := (List.range 64).filter m.getLsbD
    let lo : Int := if t = 10 then -2 ^ 31 else 0
    let hi : Int := if t = 10 then 2 ^ 31 - 1 else 2 ^ 32 - 1
    let lands := fun (i : Instr) (ok : Int → Prop) =>
      ∃ n : Int, ok n ∧ s.VectorLands q 17 i (if m = 0 then 0 else d) m false none [a] fun _ r => r = ⟨BitVec.ofInt 32 n, 24⟩
    lands (.vredadd d a p t) (fun n => n = (on.map val).sum) ∧
    lands (.vredmin d a p t) (fun n => (∀ l ∈ on, n ≤ val l) ∧ (n = hi ∨ ∃ l ∈ on, n = val l) ∧ n ≤ hi) ∧
    lands (.vredmax d a p t) (fun n => (∀ l ∈ on, val l ≤ n) ∧ (n = lo ∨ ∃ l ∈ on, n = val l) ∧ lo ≤ n) ∧
    let root := redTree (s.core q.core).frm ((List.range 64).map fun l => if m.getLsbD l then ((u.at l).w.toNat, (u.at l).tag) else (0, 24))
    s.VectorLands q 17 (.vfredadd d a p) (if m = 0 then 0 else d) m true (some 0) [a] fun _ r => r = ⟨BitVec.ofNat 32 root.1, root.2⟩

/-- R42, R168: the predicate group. -/
def Claims.PredicateResults : Prop :=
  ∀ (s : State) (q : Cursor) (d a b : BitVec 5) (p : BitVec 3), s.Ready q 15 →
    let x := (s.ctx q).pr 0 a.toNat
    let y := (s.ctx q).pr 1 b.toNat
    s.PredicateLands q (.pand d a b p) d ((s.ctx q).pr 2 p.toNat) [] (fun l => x.getLsbD l = true ∧ y.getLsbD l = true) ∧
    s.PredicateLands q (.por d a b p) d ((s.ctx q).pr 2 p.toNat) [] (fun l => x.getLsbD l = true ∨ y.getLsbD l = true) ∧
    s.PredicateLands q (.pxor d a b p) d ((s.ctx q).pr 2 p.toNat) [] (fun l => x.getLsbD l ≠ y.getLsbD l) ∧
    s.PredicateLands q (.pnot d a p) d ((s.ctx q).pr 1 p.toNat) [] (fun l => x.getLsbD l = false) ∧
    s.PredicateLands q (.pset d p) d ((s.ctx q).pr 0 p.toNat) [] (fun _ => True) ∧
    s.PredicateLands q (.pclr d p) d ((s.ctx q).pr 0 p.toNat) [] (fun _ => False) ∧
    let both := (List.range 64).filter fun l => x.getLsbD l && ((s.ctx q).pr 1 p.toNat).getLsbD l
    s.ScalarLands q 15 (.pcnt d a p) d [] (BitVec.ofNat 64 both.length) ∧
    s.ScalarLands q 15 (.pfirst d a p) d [] (BitVec.ofNat 64 (both.headD 64))

/-- R36, R61, R71, R169: the tag group, in VA and VB and in CV. -/
def Claims.TagResults : Prop :=
  ∀ (s : State) (q : Cursor) (d a n : BitVec 5) (p : BitVec 3) (t : BitVec 4) (u : Vec), (s.ctx q).ve 0 a = .ok u →
    let m := (s.ctx q).pr 0 p.toNat
    let least := ((List.range 64).filter m.getLsbD).foldl (fun k l => min k (u.at l).tag) 31
    let prec := fun (t : Nat) => ([24, 8, 11, 4, 3, 2, 4] : List Nat).getD t 0
    (s.Ready q 12 → (s.ctx q).vd d = .ok () →
      (∀ i ∈ [Instr.vsig d a p, .vsigCv d a p], s.VectorLands q 12 i d m false none [a] fun l r => r = ⟨BitVec.ofNat 32 (u.at l).tag, 24⟩) ∧
      (t.toNat ≤ 6 → ∀ i ∈ [Instr.vsigset d a n p t, .vsigsetCv d a n p t], s.VectorLands q 12 i d m false none [a] fun l r =>
        r = ⟨(u.at l).w, min n.toNat (prec t.toNat)⟩)) ∧
    (s.Ready q 15 →
      (∀ i ∈ [Instr.vsiglt d a n p, .vsigltCv d a n p], s.PredicateLands q i d m [a] fun l => (u.at l).tag < n.toNat) ∧
      (∀ i ∈ [Instr.vzmask d a p, .vzmaskCv d a p], s.PredicateLands q i d m [a] fun l => (u.at l).w = 0)) ∧
    (s.Ready q 17 → ∀ i ∈ [Instr.sigmin d a p, .sigminCv d a p], s.ScalarLands q 17 i d [a] (BitVec.ofNat 64 least))

/-- R64, R65, R67, R69 to R73, R170, R171: `vcvt` converts the elements of each active lane into elements of the destination type, zero
above them: FP to FP with one rounding, FP to integer with one rounding and saturation, integer to FP with one rounding. -/
def Claims.ConversionResults : Prop :=
  ∀ (s : State) (q : Cursor) (d a : BitVec 5) (sr t r : BitVec 4) (p : BitVec 3) (u : Vec), s.Ready q 19 →
    (s.ctx q).vd d = .ok () → (s.ctx q).ve 0 a = .ok u →
    let m := (s.ctx q).pr 0 p.toNat
    let mode := (s.core q.core).convMode r
    let lands := fun (ws wd : Nat) (chk : Bool) (g : Rm → Nat → Nat → El) => wd ≤ ws → ws ∣ 32 →
      s.ConversionLands q (.vcvt d a sr p t r) d m r chk [a]
        fun l x => x.packs wd (32 / ws) fun e => g (mode l e) (elemOf (u.at l).w ws e) (u.at l).tag
    ((sr.toNat ≤ 5 → t.toNat ≤ 5 → sr ≠ t →
      let f := fmtOfType sr.toNat
      let k := fmtOfType t.toNat
      lands f.width k.width true fun rm x tag =>
        let y := k.round rm (f.read x)
        (y.bits, k.limit (f.read x) y (min (min tag f.p) k.p))) ∧
     (∀ wd, sr.toNat ≤ 5 → (t.toNat, wd) ∈ [(8, 8), (9, 16), (10, 32), (12, 8), (13, 16), (14, 32)] →
      let f := fmtOfType sr.toNat
      lands f.width wd false fun rm x _ => (((f.read x).toInt rm (t.toNat < 12) wd % (2 ^ wd : Nat)).toNat, 24)) ∧
     (∀ ws, t.toNat ≤ 5 → (sr.toNat, ws) ∈ [(8, 8), (9, 16), (10, 32), (12, 8), (13, 16), (14, 32)] →
      let k := fmtOfType t.toNat
      lands ws k.width true fun rm x _ =>
        let i := if sr.toNat < 12 then sElem x ws else (x : Int)
        let y := k.round rm (valOfInt i)
        (y.bits, k.limit (valOfInt i) y k.p)))

/-- R146, R172, R173, R175: packing narrows 128 lanes to dense elements and leaves zero words behind them, unpacking widens 64 dense
elements exactly, and `vscale` multiplies by 2^(e − 127) with one rounding. -/
def Obligations.PackAndScaleResults : Prop :=
  ∀ (s : State) (q : Cursor) (d a b : BitVec 5) (t r e : BitVec 4) (p : BitVec 3) (u v : Vec), s.Ready q 19 →
    (s.ctx q).vd d = .ok () → (s.ctx q).ve 0 a = .ok u →
    let m := (s.ctx q).pr 0 p.toNat
    let mode := (s.core q.core).convMode r
    let f := fmtOfType t.toNat
    let lane := fun (j : Nat) => if j < 64 then u.at j else v.at (j - 64)
    let dense := fun (w j : Nat) => (elemOf (u.at (j / (32 / w))).w w (j % (32 / w)), (u.at (j / (32 / w))).tag)
    ((s.ctx q).ve 1 b = .ok v →
      (t.toNat ∈ [1, 2, 3, 4, 5] → s.ConversionLands q (.vpack d a b p t r) d m r true [a, b] fun l x =>
        if 128 ≤ l * (32 / f.width) then x = ⟨0, f.p⟩
        else x.fpElems f.width fun i =>
          let y := lane (l * (32 / f.width) + i)
          let z := f.round (mode l i) (fp32.read y.w.toNat)
          (z.bits, f.limit (fp32.read y.w.toNat) z (min (min y.tag 24) f.p))) ∧
      (∀ w, (t.toNat, w) ∈ [(8, 8), (9, 16), (12, 8), (13, 16)] → s.ConversionLands q (.vpack d a b p t 0) d m 0 false [a, b] fun l x =>
        if 128 ≤ l * (32 / w) then x = ⟨0, 24⟩
        else x.elems w fun i =>
          let n := (lane (l * (32 / w) + i)).w.toInt
          let lo : Int := if t.toNat < 12 then -2 ^ (w - 1) else 0
          let hi : Int := if t.toNat < 12 then 2 ^ (w - 1) - 1 else 2 ^ w - 1
          max lo (min n hi)) ∧
      (t.toNat ≤ 5 → s.ConversionLands q (.vscale d a b p t r) d m r true [a, b] fun l x =>
        let y := Val.mul (fp32.read (u.at l).w.toNat)
          (if (v.at l).w.toNat % 256 = 255 then .nan else .fin false 1 (((v.at l).w.toNat % 256 : Nat) - 127))
        let z := f.round (mode l 0) y
        x = ⟨BitVec.ofNat 32 z.bits, f.limit y z (min (min (u.at l).tag 24) f.p)⟩)) ∧
    (t.toNat ∈ [1, 2, 3, 4, 5] → s.ConversionLands q (.vunpack d a p t e) d m 0 true [a] fun l x =>
      let y := dense f.width (64 * e.toNat + l)
      let z := fp32.round .rne (f.read y.1)
      x = ⟨BitVec.ofNat 32 z.bits, fp32.limit (f.read y.1) z (min y.2 f.p)⟩) ∧
    ∀ w, (t.toNat, w) ∈ [(8, 8), (9, 16), (12, 8), (13, 16)] → s.ConversionLands q (.vunpack d a p t e) d m 0 false [a] fun l x =>
      let n := (dense w (64 * e.toNat + l)).1
      x = ⟨BitVec.ofInt 32 (if t.toNat < 12 then sElem n w else n), 24⟩

/-- R61, R174: `vcbdec` writes the weights of its indices, weight g being weight g mod 8 of index g div 8, with tag 4; a weight is
±(m + h/2)/2 with the magnitude code m of the codebook entry and the coset bit h, and a zero weight is positive. -/
def Claims.CodebookDecodeResults : Prop :=
  ∀ (s : State) (q : Cursor) (d a : BitVec 5) (t e : BitVec 4) (p : BitVec 3) (u : Vec), s.Ready q 20 →
    (s.ctx q).vd d = .ok () → (s.ctx q).ve 0 a = .ok u → t.toNat ≤ 2 →
    let f := fmtOfType t.toNat
    let k := 32 / f.width
    let index := fun (g : Nat) => (u.at (g / 16)).w.toNat / 2 ^ (16 * (g / 8 % 2)) % 2 ^ 16
    let entry := fun (g : Nat) => s.mem.value (codebookBase (q.core / 2) + 4 * (index g / 256)) 4
    let ones := fun (g : Nat) => ((List.range 7).filter fun i => index g / 2 ^ (i + 1) % 2 == 1).length
    let neg := fun (g : Nat) => if g % 8 < 7 then index g / 2 ^ (g % 8 + 1) % 2 = 1 else ones g % 2 = 1
    let num := fun (g : Nat) => 2 * (entry g / 2 ^ (4 * (g % 8)) % 16) + index g % 2
    let weight := fun (g : Nat) => if num g = 0 then Val.zero false else .fin (neg g) (num g) (-2)
    s.VectorLands q 20 (.vcbdec d a p t e) d ((s.ctx q).pr 0 p.toNat) false none [a] fun l x => x.tag = 4 ∧
      ∀ j < k, elemOf x.w f.width j = (f.round .rne (weight (64 * k * e.toNat + l * k + j))).bits % 2 ^ f.width

/-- R61, R174: every LQ2 weight is exact in FP32, FP16 and BF16, in every rounding mode. -/
def Claims.WeightsAreExact : Prop :=
  ∀ (index entry k : Nat) (f : Fmt) (rm : Rm), k < 8 → f ∈ [fp32, fp16, bf16] →
    Val.cmp (f.read (f.round rm (lq2Weight index entry k)).bits) (lq2Weight index entry k) = 0

/-! ## Engine commands at issue (08_spire.md, 09_matrix.md, 11_tower_memory.md, 13_launch.md, 17_fabric.md) -/

/-- R192, R223 to R227, R229, R232, R235, R236, R238, R239, R244: a matrix command whose shape and operands are legal and that may start is
queued to start at issue + 1, with its descriptor pairs as read at issue. -/
def Claims.MatrixCommandsIssue : Prop :=
  ∀ (s : State) (q : Cursor) (m ob : BitVec 2) (n : BitVec 6) (c : BitVec 3) (d a b : BitVec 5) (z0 z1 : BitVec 1) (p : BitVec 3) (t : BitVec 4)
    (i : BitVec 8), s.cur = some q →
    let rows := 16 * 2 ^ m.toNat
    let cols := 16 * n.toNat
    let x := s.ctx q
    let issues := fun (i : Instr) (args : MxArgs) => s.MatrixFree q args → exec i s = .next (s.commanded q (s.mxCommand q args))
    let next := fun (code : BitVec 5) => if 16 ≤ code.toNat then 2 else 0
    (shapeOk m n c = true →
      issues (.mzero m n c) ⟨3, rows, cols, c.toNat, 0, (0, 0), 0, (0, 0), false, false, 0, 0, 0⟩ ∧
      (descOk a = true → mrdType t = true →
        issues (.mrd m n c a b t) ⟨4, rows, cols, c.toNat, a.toNat, x.pair 0 a, 0, (0, 0), false, false, 0, t.toNat, x.sc 2 b⟩) ∧
      (descOk a = true → mwrType t = true →
        issues (.mwr m n c a t) ⟨5, rows, cols, c.toNat, a.toNat, x.pair 0 a, 0, (0, 0), false, false, 0, t.toNat, 0⟩) ∧
      (msOk a = true → msOk b = true → (a.toNat < 4 → m ≠ 2) → (b.toNat < 4 → n.toNat ≤ 2) →
        issues (.mma m n c a b z0 z1 p)
          ⟨1, rows, cols, c.toNat, a.toNat, x.pair 0 a, b.toNat, x.pair (next a) b, z0 == 1, z1 == 1, p.toNat, 0, 0⟩ ∧
        issues (.mmaBin m n c a b z0 z1 p)
          ⟨2, rows, cols, c.toNat, a.toNat, x.pair 0 a, b.toNat, x.pair (next a) b, z0 == 1, z1 == 1, p.toNat, 0, 0⟩)) ∧
    (n.toNat = 1 ∨ n.toNat = 2 → descOk a = true →
      issues (.mld n ob a) ⟨6, 32, cols, ob.toNat, a.toNat, x.pair 0 a, 0, (0, 0), false, false, 0, 0, 0⟩) ∧
    issues (.mcall d a i) ⟨7, 0, 0, 0, 20, (x.sc 0 d, x.sc 1 a), 0, (0, 0), false, false, i.toNat, 0, 0⟩

/-- R45, R184, R192, R193, R227: what turns a legal matrix command away, shown on `mzero`: PROT at TL ≥ 1, WINDOW for a core that does not
own the array or a start outside its window, LATESTART before the release of the previous command or behind a fence. -/
def Claims.MatrixCommandsTurnedAway : Prop :=
  ∀ (s : State) (q : Cursor) (m : BitVec 2) (n : BitVec 6) (c : BitVec 3), s.cur = some q → shapeOk m n c = true →
    let k := s.core q.core
    let traps := fun (cause sub : Nat) => exec (.mzero m n c) s = .next (s.trapped q cause sub 0)
    let inside := (k.x.schc.toNat + 1) / (8 * 2 ^ k.awin) % 2 = k.half
    (1 ≤ k.tl → traps 12 10) ∧
    (k.tl = 0 → (k.amode ≠ 2 ∧ k.half ≠ k.amode) ∨ (k.amode = 2 ∧ ¬inside) → traps 8 4) ∧
    (k.tl = 0 → (k.amode ≠ 2 → k.half = k.amode) → (k.amode = 2 → inside) →
      k.clk + 1 < k.e.mxRelease ∨ (∃ f ∈ k.e.fences, f.mask.getLsbD 2 = true ∧ k.clk + 1 < f.at_) → traps 8 3)

/-- R204, R206 to R208, R211 to R213, R216: `cpy` and `cpyf` take their geometry, path and order from the engine registers at issue. A timed
command that may start is queued to start at issue + dly and to land at start + L_path + ⌈bytes / RATE⌉; one on the handler channel starts
at once. -/
def Claims.CopiesIssue : Prop :=
  ∀ (s : State) (q : Cursor) (o n : BitVec 2) (a b : BitVec 5) (l : BitVec 11) (fill : Bool) (g : CopyArgs), s.cur = some q → o ≠ 3 →
    let c := s.core q.core
    let x := s.ctx q
    let i := fun (h : BitVec 1) (l : BitVec 11) => if fill then Instr.cpyf h o n a l else .cpy h o n a b l
    c.copyArgs n.toNat (x.sc 0 a) (if fill then 0 else x.sc 1 b) (if fill then some (c.engReg 4) else none) = some g →
    (fill = false → c.ccfg.toNat / 2 ^ 2 % 2 ^ 2 ≠ 3) →
    let p := x.path (c.pathArgs o.toNat fill) g.src g.dst fill
    let dec := s.ratioAt q.core p.sg g.src
    let g' := { g with decSrc := dec.1, decDst := dec.2 }
    let occ := cdiv (g.total * dec.2 / max 1 dec.1) p.rate
    let m := s.command q (.copy p g') 0 (c.clk + l.toNat) (c.clk + l.toNat + (p.lpath + occ))
    (c.tl = 0 → s.CopyFree q p m occ false → exec (i 0 l) s = .next (s.copyQueued q p m occ false)) ∧
    (1 ≤ c.tl → exec (i 1 0) s = .next (s.commanded q (s.handlerCommand q (.copy p g') (p.lpath + occ))))

/-- R204, R207, R213: the geometry of a copy: LEN0, CNT1 and CNT2 count for as many dimensions as the syllable has and must not be zero
there, strides are signed, and an FFMT of 13 to 15 is invalid. -/
def Claims.CopyGeometry : Prop :=
  ∀ (c : Core) (n : Nat) (dst src : Word) (fill : Option Word), 1 ≤ n → n ≤ 3 →
    let len0 := (c.engReg 1).toNat % 2 ^ 24
    let cnt1 := (c.engReg 1).toNat / 2 ^ 24 % 2 ^ 16
    let cnt2 := (c.engReg 1).toNat / 2 ^ 40 % 2 ^ 16
    let ffmt := (c.engReg 0).toNat / 2 ^ 12 % 2 ^ 4
    let lo := fun (w : Word) => (BitVec.ofNat 32 w.toNat).toInt
    let hi := fun (w : Word) => (BitVec.ofNat 32 (w.toNat / 2 ^ 32)).toInt
    let ok := len0 ≠ 0 ∧ (2 ≤ n → cnt1 ≠ 0) ∧ (n = 3 → cnt2 ≠ 0) ∧ ffmt < 13
    (¬ok → c.copyArgs n dst src fill = none) ∧
    (ok → ∃ g, c.copyArgs n dst src fill = some g ∧ g.dst = dst.toNat ∧ g.src = src.toNat ∧ g.fill = fill ∧ g.len0 = len0 ∧
      g.cnt1 = (if n = 1 then 1 else cnt1) ∧ g.cnt2 = (if n = 3 then cnt2 else 1) ∧
      g.ss1 = (if n = 1 then 0 else lo (c.engReg 2)) ∧ g.ss2 = (if n = 3 then hi (c.engReg 2) else 0) ∧
      g.ds1 = (if n = 1 then 0 else lo (c.engReg 3)) ∧ g.ds2 = (if n = 3 then hi (c.engReg 3) else 0) ∧ g.ffmt = ffmt ∧
      g.total = len0 * (if n = 1 then 1 else cnt1) * (if n = 3 then cnt2 else 1))

/-- R101, R184, R206, R216: a timed copy at TL ≥ 1 and a handler-channel copy at TL0 raise PROT, and one with two global endpoints raises
PROT with its destination before any check of a channel or port. -/
def Claims.CopiesTurnedAway : Prop :=
  ∀ (s : State) (q : Cursor) (o n : BitVec 2) (a b : BitVec 5) (l : BitVec 11) (g : CopyArgs), s.cur = some q → o ≠ 3 →
    let c := s.core q.core
    let x := s.ctx q
    c.copyArgs n.toNat (x.sc 0 a) (x.sc 1 b) none = some g →
    (1 ≤ c.tl → exec (.cpy 0 o n a b l) s = .next (s.trapped q 12 10 0)) ∧
    (c.tl = 0 → exec (.cpy 1 o n a b 0) s = .next (s.trapped q 12 10 0)) ∧
    (c.tl = 0 → c.ccfg.toNat / 2 ^ 2 % 2 ^ 2 = 3 → exec (.cpy 0 o n a b l) s = .next (s.trapped q 12 4 (x.sc 0 a)))

/-- R205, R206, R214: `cpyg` and `cpys` queue n elements of E = 2^ESZ bytes at g cycles each, g being the gather-element latency for each
64 bytes of a global indexed side and ⌈E / RATE⌉ of a window one, on their beat port and the gather path for g × n cycles. -/
def Claims.GathersIssue : Prop :=
  ∀ (s : State) (q : Cursor) (o : BitVec 2) (a b : BitVec 5) (l : BitVec 11) (scatter : Bool), s.cur = some q → o ≠ 3 →
    let c := s.core q.core
    let x := s.ctx q
    let i := fun (h : BitVec 1) (l : BitVec 11) => if scatter then Instr.cpys h o a b l else .cpyg h o a b l
    let dst := x.sc 0 a
    let src := x.sc 1 b
    let w := c.engReg 5
    let esz := w.toNat / 2 ^ 60
    let n := w.toNat / 2 ^ 40 % 2 ^ 20
    2 ≤ esz → esz ≤ 12 → n ≠ 0 → c.ccfg.toNat / 2 ^ 12 % 2 ^ 4 < 13 → c.ccfg.toNat / 2 ^ 2 % 2 ^ 2 ≠ 3 →
    let p := x.path (c.pathArgs o.toNat false) src.toNat dst.toNat false
    let g := if (if scatter then p.dg else p.sg) then (s.tt q.core 30).lat * cdiv (2 ^ esz) 64 else cdiv (2 ^ esz) p.rate
    let args : GatherArgs :=
      { scatter := scatter, idxBase := (if scatter then dst else src).toNat, base := (if scatter then src else dst).toNat, esz := esz,
        n := n, list := w.toNat % 2 ^ 40, g := g, idx := [] }
    let m := s.command q (.gather p args) 0 (c.clk + l.toNat) (c.clk + l.toNat + (p.lpath + g * n))
    (c.tl = 0 → s.CopyFree q p m (g * n) true → exec (i 0 l) s = .next (s.copyQueued q p m (g * n) true)) ∧
    (1 ≤ c.tl → exec (i 1 0) s = .next (s.commanded q (s.handlerCommand q (.gather p args) (p.lpath + g * n))))

/-- R205, R215: `ovl` queues the load of n = OCNT.N + 1 bundles from the global address s(b), landing at start + L_path + ⌈32n / 64⌉ + V. -/
def Claims.OverlaysIssue : Prop :=
  ∀ (s : State) (q : Cursor) (a b : BitVec 5) (l : BitVec 11), s.cur = some q →
    let c := s.core q.core
    let x := s.ctx q
    c.ccfg.toNat / 2 ^ 12 % 2 ^ 4 < 13 →
    let p := x.path { c.pathArgs 0 false with sg := true, dg := false } (x.sc 1 b).toNat 0 false
    let n := (c.engReg 6).toNat % 2 ^ 12 + 1
    let d := cdiv (32 * n) 64
    let args : OvlArgs := ⟨x.sc 0 a, n, (x.sc 1 b).toNat, (c.engReg 7).toNat % 2 ^ 57, []⟩
    let late := p.lpath + d + (s.tt q.core 31).lat
    let m := s.command q (.ovl p args) 0 (c.clk + l.toNat) (c.clk + l.toNat + late)
    (c.tl = 0 → s.CopyFree q p m d false → exec (.ovl 0 a b l) s = .next (s.copyQueued q p m d false)) ∧
    (1 ≤ c.tl → exec (.ovl 1 a b 0) s = .next (s.commanded q (s.handlerCommand q (.ovl p args) late)))

/-- R143, R281, R283, R284: a `gamo` at TL0 that its channel, fences, guards and order forms allow is queued to start at issue + dly; it
lands two path latencies later, and a .w form takes the low 32 bits of its operands. -/
def Claims.GlobalAtomicsIssue : Prop :=
  ∀ (s : State) (q : Cursor) (w : BitVec 1) (a b : BitVec 5) (l : BitVec 11), s.cur = some q →
    let c := s.core q.core
    let x := s.ctx q
    let low := fun (v : Word) => if w = 1 then v else BitVec.ofNat 64 (v.toNat % 2 ^ 32)
    let start := c.clk + l.toNat
    let land := start + 2 * (s.tt q.core 23).lat
    let ch := (c.engReg 0x11).toNat / 2 ^ 40 % 2 ^ 4
    let m := fun (op : AtomicOp) (order : Nat) =>
      s.command q (.gamo ⟨op, w == 1, order, (x.sc 0 a).toNat, low (x.sc 1 b), low (c.engReg 0x10), c.engReg 0x11, 0⟩) 3 start land
    ∀ y ∈ [(Instr.gamoAdd w a b l, AtomicOp.add, 0), (.gamoAnd w a b l, .and, 0), (.gamoOr w a b l, .or, 0), (.gamoXor w a b l, .xor, 0),
        (.gamoMin w a b l, .min, 0), (.gamoMax w a b l, .max, 0), (.gamoSwap w a b l, .swap, 0), (.gamoCas w a b l, .cas, 0),
        (.gamoAcqAdd w a b l, .add, 1), (.gamoAcqAnd w a b l, .and, 1), (.gamoAcqOr w a b l, .or, 1), (.gamoAcqXor w a b l, .xor, 1),
        (.gamoAcqMin w a b l, .min, 1), (.gamoAcqMax w a b l, .max, 1), (.gamoAcqSwap w a b l, .swap, 1), (.gamoAcqCas w a b l, .cas, 1),
        (.gamoRelAdd w a b l, .add, 2), (.gamoRelAnd w a b l, .and, 2), (.gamoRelOr w a b l, .or, 2), (.gamoRelXor w a b l, .xor, 2),
        (.gamoRelMin w a b l, .min, 2), (.gamoRelMax w a b l, .max, 2), (.gamoRelSwap w a b l, .swap, 2), (.gamoRelCas w a b l, .cas, 2)],
      (c.tl = 0 → alGet 0 c.e.atomCh ch ≤ start → c.unfenced 3 start → c.e.acqAtom ≤ start →
        c.guarded (m y.2.1 y.2.2) = false → (y.2.2 = 2 → c.e.last 0 ≤ start ∧ c.e.last 3 ≤ start) →
        exec y.1 s = .next (s.commanded q (m y.2.1 y.2.2) fun e =>
          { e with atomCh := alSet e.atomCh ch land, lastLand := e.lastLand.set 3 (max (e.last 3) land),
                   acqAtom := if y.2.2 = 1 then max e.acqAtom land else e.acqAtom })) ∧
      (c.tl = 0 → start < alGet 0 c.e.atomCh ch → exec y.1 s = .next (s.trapped q 8 3 0)) ∧
      (1 ≤ c.tl → exec y.1 s = .next (s.trapped q 12 10 0))

/-- R370, R375 to R379: a send on a circuit of this task that starts on a granted frame, a stream transfer on a stream of the launch, and a
receive on a circuit of this task are queued with the landing their frames give. -/
def Obligations.FabricCommandsIssue : Prop :=
  ∀ (s : State) (q : Cursor) (a b : BitVec 5) (l : BitVec 11) (f : Ftt), s.cur = some q →
    let k := s.core q.core
    let x := s.ctx q
    let fsnd := k.engReg 0x18
    let fslt := k.engReg 0x1A
    let frcv := k.engReg 0x19
    let fskw := k.engReg 0x1B
    let start := k.clk + l.toNat
    let task := 2 * k.f.task.lsp + k.f.task.half
    let queued := fun (i : Instr) (args : FabArgs) (n0 land key : Nat) => alGet 0 k.e.fabLast key ≤ start → k.unfenced 4 start →
      exec i s = .next (s.commanded q { s.command q (.fab args) 4 start land with regs := [BitVec.ofNat 64 n0] } fun e =>
        { e with fabLast := alSet e.fabLast key land, lastLand := e.lastLand.set 4 (max (e.last 4) land) })
    k.tl = 0 → (s.launchOf q.core).ftt = some f →
    (∀ c : Circuit, f.circuits[fslt.toNat % 2 ^ 12]? = some c → fsnd.toNat / 2 ^ 63 = 0 → fsnd.toNat / 2 ^ 62 % 2 = 0 → b = 0 →
      let nfl := fsnd.toNat / 2 ^ 32 % 2 ^ 16
      1 ≤ nfl → nfl ≤ 16384 → c.spkg = f.self → c.stask = task → start % 8 = 0 → c.granted f.perf (start / 8) = true →
      queued (.fsend a b l) ⟨false, 0, x.sc 0 a, x.sc 1 b, fsnd, fslt, 0⟩ (start / 8) (8 * c.flitFrame f (start / 8) (nfl - 1) + 8)
        (sendKey (fslt.toNat % 2 ^ 12))) ∧
    (let nfl := fsnd.toNat / 2 ^ 32 % 2 ^ 16
     let rel := fsnd.toNat / 2 ^ 62 % 2
     let str := fslt.toNat / 2 ^ 12 % 2 ^ 6
     fsnd.toNat / 2 ^ 63 = 1 → (rel = 0 → 1 ≤ nfl ∧ nfl ≤ 16384) → (rel = 1 → nfl = 0) → str < f.streams.length →
      queued (.fsend a b l) ⟨false, 0, x.sc 0 a, x.sc 1 b, fsnd, fslt, 0⟩ 0 (start + 8 * (if rel = 1 then 1 else nfl)) (streamKey str)) ∧
    ∀ c : Circuit, f.circuits[frcv.toNat % 2 ^ 12]? = some c →
      let nfl := frcv.toNat / 2 ^ 32 % 2 ^ 16
      let n0 := c.next f (cdiv (start - f.hopmax) 8)
      1 ≤ nfl → nfl ≤ 16384 → fskw.toNat % 2 ^ 12 ≤ 2048 → c.dpkg = f.self → c.dtask = task →
      let takes := fun (i : Instr) (op : Nat) (sb : Word) => queued i ⟨true, op, x.sc 0 a, sb, frcv, 0, fskw⟩ n0
        (8 * c.flitFrame f n0 (nfl - 1) + f.hopmax + 4) (recvKey (frcv.toNat % 2 ^ 12))
      takes (.frecv a l) 0 0 ∧ takes (.frecvAddF32 a b l) 1 (x.sc 1 b) ∧ takes (.frecvAddBf16 a b l) 2 (x.sc 1 b) ∧
      takes (.frecvMaxF32 a b l) 3 (x.sc 1 b)

/-- R144, R294: `lnch` at TL0, not before the core's last one and behind no fence, queues its submission with the class's latency. -/
def Claims.LaunchesIssue : Prop :=
  ∀ (s : State) (q : Cursor) (a b : BitVec 5) (l : BitVec 11), s.cur = some q →
    let c := s.core q.core
    let start := c.clk + l.toNat
    let land := start + (s.tt q.core 24).lat
    (c.tl = 0 → alGet 0 c.e.fabLast launchQueue ≤ start → c.unfenced 5 start →
      exec (.lnch a b l) s = .next (s.commanded q (s.command q (.lnch ((s.ctx q).sc 0 a) ((s.ctx q).sc 1 b)) 5 start land) fun e =>
        { e with lastLand := e.lastLand.set 5 (max (e.last 5) land), fabLast := alSet e.fabLast launchQueue start })) ∧
    (1 ≤ c.tl → exec (.lnch a b l) s = .next (s.trapped q 12 10 0))

/-! ## Landings, samples and stores (01_tile_task.md, 02_task_state.md, 05_scalar_control.md, 06_vector.md) -/

/-- R13, R35 to R37, R41 to R44, R118, R136, R142, R203: a result that no check holds back lands: its entry goes, its register, port, set
or table takes the value, and nothing else of the machine changes. s0 and p0 discard theirs; a lane or a predicate bit outside the mask
keeps what it held, and enters a write port as a zero word with tag 24. -/
def Claims.ResultsLand : Prop :=
  ∀ (s : State) (k uid : Nat) (e : Entry), (s.core k).entryOf uid = some e → (s.core k).checked e = false → s.landFails k e = [] →
    let c := s.core k
    let lands := fun (r : Regs) => exec (.resultLanding k uid) s = .next (s.setCore k ({ c.without uid with r := r } : Core))
    (∀ v, e.kind = .scalar 0 v → lands c.r) ∧
    (∀ n v, e.kind = .scalar n v → n ≠ 0 → lands { c.r with s := c.r.s.set n v }) ∧
    (∀ n ls, e.kind = .vector n ls → ls.length = 64 → (c.r.v.getD n Vec.zero).length = 64 → ∃ u : Vec, u.length = 64 ∧
      lands { c.r with v := c.r.v.set n u } ∧ ∀ l < 64, u.at l = laneOr ls l ((c.r.v.getD n Vec.zero).at l)) ∧
    (∀ v m, e.kind = .pred 0 v m → lands c.r) ∧
    (∀ n v m, e.kind = .pred n v m → n ≠ 0 → ∃ p : BitVec 64, lands { c.r with p := c.r.p.set n p } ∧
      ∀ b < 64, p.getLsbD b = if m.getLsbD b then v.getLsbD b else (c.r.p.getD n 0).getLsbD b) ∧
    (∀ n ls, e.kind = .port n ls → ls.length = 64 → (c.r.wq.getD n []).length < 4 → ∃ u : Vec, u.length = 64 ∧
      lands { c.r with wq := c.r.wq.set n (c.r.wq.getD n [] ++ [u]) } ∧ ∀ l < 64, u.at l = laneOr ls l ⟨0, 24⟩) ∧
    (∀ n sel v, e.kind = .ag n sel v →
      let g := c.r.ag.getD n AgSet.zero
      let g' : AgSet :=
        { base := if sel = 0 then v.setWidth 40 else g.base, str0 := if sel = 1 then v.setWidth 24 else g.str0,
          str1 := if sel = 2 then v.setWidth 24 else g.str1, str2 := if sel = 3 then v.setWidth 24 else g.str2,
          cnt0 := if sel = 4 then v.setWidth 16 else g.cnt0, cnt1 := if sel = 5 then v.setWidth 16 else g.cnt1,
          cnt2 := if sel = 6 then v.setWidth 16 else g.cnt2, fmt := if 7 ≤ sel then v.setWidth 4 else g.fmt }
      lands { c.r with ag := c.r.ag.set n g' }) ∧
    (∀ n v, e.kind = .mp n v → lands { c.r with mp := c.r.mp.set n v }) ∧
    (∀ n v, e.kind = .eng n v → lands { c.r with eng := c.r.eng.set n (v &&& engMask n) }) ∧
    (∀ b, e.kind = .binding b → lands { c.r with bind := bindTable c.r.bind b }) ∧
    (∀ v, e.kind = .reseed v →
      let g := rngFill 16 (rngSeed v c.f.task.req)
      lands { c.r with rngQ := g.1, rng := g.2, rngPops := 0 }) ∧
    (∀ n v, e.kind = .sys n v → exec (.resultLanding k uid) s = .next (s.setCore k ((c.without uid).sysWrite n v)))

/-- R5, R47, R50, R52, R53, R177: what a landed `wrsys` writes: of SSTAT only FRM, STE and STHR, of every other register only the fields
that its map lists, of a read-only register nothing; no other register changes. -/
def Claims.SystemRegisterFields : Prop :=
  ∀ (c : Core) (v : Word),
    let x := fun n => (c.sysWrite n v).x
    let l := fun n => (c.sysWrite n v).l
    let sets := fun (w old : Word) (on : Nat → Prop) => ∀ j < 64, (on j → w.getLsbD j = v.getLsbD j) ∧ (¬on j → w.getLsbD j = old.getLsbD j)
    sets (x 0).sstat c.x.sstat (fun j => (21 ≤ j ∧ j ≤ 23) ∨ j = 26 ∨ (27 ≤ j ∧ j ≤ 31)) ∧
    sets (x 3).xvec 0 (fun j => 6 ≤ j ∧ j ≤ 11) ∧ sets (x 4).ovp 0 (fun j => 12 ≤ j ∧ j ≤ 56) ∧
    (l 6).rrb = v.setWidth 3 ∧ (l 7).sen = v.setWidth 16 ∧
    (∀ n ∈ [1, 2, 5, 8, 9], c.sysWrite n v = c) ∧
    (∀ k < 4, k < c.l.levels.length →
      (∀ j ≠ k, (l (0x0C + k)).levels.getD j LoopLevel.zero = c.l.levels.getD j LoopLevel.zero ∧
        (l (0x20 + k)).levels.getD j LoopLevel.zero = c.l.levels.getD j LoopLevel.zero) ∧
      ((l (0x0C + k)).levels.getD k LoopLevel.zero).word = v.toNat / 2 ^ 31 * 2 ^ 31 ∧
      ((l (0x0C + k)).levels.getD k LoopLevel.zero).lpc = (c.l.levels.getD k LoopLevel.zero).lpc ∧
      ((l (0x20 + k)).levels.getD k LoopLevel.zero).lpc = v ∧
      ((l (0x20 + k)).levels.getD k LoopLevel.zero).word = (c.l.levels.getD k LoopLevel.zero).word) ∧
    (x 0x10).bank1 = { c.x.bank1 with cause := v &&& 0xFF0000FFFF#64 } ∧ (x 0x11).bank1 = { c.x.bank1 with epc := v &&& 0xFFF#64 } ∧
    (x 0x12).bank1 = { c.x.bank1 with slot := v &&& 7#64 } ∧ (x 0x13).bank1 = { c.x.bank1 with lane := v &&& 63#64 } ∧
    (x 0x14).bank1 = { c.x.bank1 with addr := v } ∧ (x 0x15).bank1 = { c.x.bank1 with schc := v } ∧
    (x 0x18).bank2 = { c.x.bank2 with cause := v &&& 0xFF0000FFFF#64 } ∧ (x 0x19).bank2 = { c.x.bank2 with epc := v &&& 0xFFF#64 } ∧
    (x 0x1A).bank2 = { c.x.bank2 with slot := v &&& 7#64 } ∧ (x 0x1B).bank2 = { c.x.bank2 with lane := v &&& 63#64 } ∧
    (x 0x1C).bank2 = { c.x.bank2 with addr := v } ∧ (x 0x1D).bank2 = { c.x.bank2 with schc := v } ∧
    (∀ n, (c.sysWrite n v).r = c.r ∧ (c.sysWrite n v).f = c.f ∧ (c.sysWrite n v).e = c.e ∧ (c.sysWrite n v).p = c.p ∧
      (n ≠ 0 → (x n).sstat = c.x.sstat) ∧ (n ≠ 3 → (x n).xvec = c.x.xvec) ∧ (n ≠ 4 → (x n).ovp = c.x.ovp) ∧
      (x n).schc = c.x.schc ∧ (x n).splb = c.x.splb ∧ (x n).xinj = c.x.xinj)

/-- R77, R78, R181: a result that fails a check does not land: no register changes, its entry is held, and each cause it failed becomes due
at its core's boundary; with STE = 1 at issue, a vector result with a written lane whose tag is below STHR fails SIGLOSS at its slot and
lowest such lane. R151, R190, R363: where wrong bits (log 71) make elements of active lanes of an FP result mismatch the shadow unit's value, it fails SHADOW at
the lowest such lane, without the bit of a forced report; two NaNs never mismatch, and elements of different sign, one of them no NaN, do. -/
def Claims.FailingResultsAreHeld : Prop :=
  (∀ (s : State) (k uid : Nat) (e : Entry), (s.core k).entryOf uid = some e → e.result = true → (s.core k).checked e = false →
    s.landFails k e ≠ [] → ∃ t, exec (.resultLanding k uid) s = .next t ∧ t.mem = s.mem ∧
      (∀ j, (t.core j).r = (s.core j).r ∧ (t.core j).l = (s.core j).l) ∧ (∀ j, j ≠ k → t.core j = s.core j) ∧
      (∃ e', e' ∈ (t.core k).p.prb ∧ e'.uid = uid ∧ e'.held = true ∧ e'.kind = e.kind) ∧
      ∀ f ∈ s.landFails k e, ∃ d ∈ (t.core k).p.dues, d.prio = f.1 ∧ d.cause = f.2.1 ∧ d.sub = f.2.2.1 ∧ d.lane = f.2.2.2.1 ∧
        d.bundle = e.bundle ∧ d.slot = e.slot ∧ d.lvl = (s.core k).tl) ∧
  (∀ (s : State) (k : Nat) (e : Entry) (n thr l : Nat) (ls : List (Option LaneW)) (w : LaneW), e.kind = .vector n ls → e.held = false →
    e.sthr = some thr → l < 64 → ls.getD l none = some w → w.tag < thr →
    (∀ j < l, ∀ y, ls.getD j none = some y → thr ≤ y.tag) → (4, 5, e.slot, l, 0) ∈ s.landFails k e) ∧
  (∀ (s : State) (k : Nat) (e : Entry) (l w : Nat), e.fpu = true → e.held = false → (s.core k).inj 0 = false →
    s.switchedUnit (e.pipeId k) = false →
    let bad := fun (x : Nat × Nat) => e.compares x.1 = true ∧ laneMismatch e.typ (e.laneWord x.1) x.2 = true
    (l, w) ∈ s.wrongLanes (e.pipeId k) → bad (l, w) → (∀ x ∈ s.wrongLanes (e.pipeId k), bad x → l ≤ x.1) →
    (1, 6, e.slot, l, 0) ∈ s.landFails k e) ∧
  ∀ (f : Fmt) (m h : Nat), let g := fun (x : Nat) => (f.read x).isNan
    ((g m && (f.read h).top8.isNan) = true → f.mismatch m h = false) ∧
    ((g m && (f.read h).top8.isNan) = false → m / 2 ^ (f.width - 1) % 2 ≠ h / 2 ^ (f.width - 1) % 2 → f.mismatch m h = true)

/-- R16, R37, R79, R139, R152, R154: a store that no failed self-check of a replacement holds (R190) lands its bytes, and only them, at the flat address of its window address, and its entry goes;
no register of any core changes. A scatter lands the four lanes of one group. -/
def Claims.StoresLand : Prop :=
  ∀ (s : State) (k uid : Nat) (e : Entry) (w : Win), (s.core k).entryOf uid = some e → w.flat < 2 ^ 47 → w.unit ≠ 10 →
    e.held = true ∨ s.fabFails k e = none →
    let stored := fun (bs : List Byte) => ∃ t, exec (.storeLanding k uid) s = .next t ∧ s.Writes t w.flat bs ∧ s.KeepsRegisters t ∧
      (t.core k).p.prb = (s.core k).p.prb.filter (·.uid ≠ uid)
    (∀ sz a v, e.kind = .store sz a v → (s.launchOf k).window a 1 = some w → stored (leBytes v.toNat (2 ^ sz))) ∧
    (∀ a (v : Vec), e.kind = .vstore a v → (s.launchOf k).window a 1 = some w → stored (v.flatMap fun x => leBytes x.w.toNat 4)) ∧
    (∀ base offs m v g, e.kind = .vstx base offs m v g → g < 15 →
      (∀ j < 4, m.getLsbD (4 * g + j) = true → ∃ w', (s.launchOf k).window (base + offs.getD (4 * g + j) 0) 1 = some w' ∧ w'.unit = 0 ∧
        w'.flat = w.flat + offs.getD (4 * g + j) 0) →
      (∀ i < 4, ∀ j < 4, i ≠ j → offs.getD (4 * g + i) 0 + 4 ≤ offs.getD (4 * g + j) 0 ∨ offs.getD (4 * g + j) 0 + 4 ≤ offs.getD (4 * g + i) 0) →
      ∃ t, exec (.storeLanding k uid) s = .next t ∧ s.KeepsRegisters t ∧
        (∀ j < 4, m.getLsbD (4 * g + j) = true →
          t.mem.value (w.flat + offs.getD (4 * g + j) 0) 4 = (v.at (4 * g + j)).w.toNat) ∧
        (∀ b, (∀ j < 4, m.getLsbD (4 * g + j) = true →
          ¬(w.flat + offs.getD (4 * g + j) 0 ≤ b ∧ b < w.flat + offs.getD (4 * g + j) 0 + 4)) → t.mem.get b = s.mem.get b) ∧
        ∃ e', e' ∈ (t.core k).p.prb ∧ e'.uid = uid ∧ e'.kind = .vstx base offs m v (g + 1))

/-- R16, R17, R79, R139, R152: a plain load samples its bytes in the cycle of its sample, sign-extended, or the 64 words of a vector with
the tags its place gives them; its entry then stands for the result, and nothing else changes where no lantern records. -/
def Claims.LoadsSample : Prop :=
  ∀ (s : State) (k uid : Nat) (e : Entry) (w : Win), (s.core k).entryOf uid = some e → s.Quiet k →
    (∀ ldk n a, e.kind = .load ldk n a → ldk ∈ [1, 2, 3, 4, 6] → (s.launchOf k).window a 1 = some w →
      let size := if ldk = 6 then 8 else 2 ^ (ldk - 1)
      let v := leValue (s.bytes w.flat size)
      ∃ e', exec (.loadSample k uid) s = .next (s.setCore k ((s.core k).withEntry e')) ∧ e'.uid = uid ∧ e'.due = e.due ∧
        e'.kind = .scalar n (BitVec.ofInt 64 (if v < 2 ^ (8 * size - 1) then v else v - 2 ^ (8 * size)))) ∧
    (∀ ldk n a, e.kind = .vload ldk false n a → ldk ∈ [5, 7] → (s.launchOf k).window a 1 = some w →
      ∃ e' ls, exec (.loadSample k uid) s = .next (s.setCore k ((s.core k).withEntry e')) ∧ e'.uid = uid ∧ e'.due = e.due ∧
        e'.kind = .vector n ls ∧ ls.length = 64 ∧
        ∀ l < 64, ls.getD l none = some ⟨BitVec.ofNat 32 (leValue (s.bytes (w.flat + 4 * l) 4)), s.loadTag (w.flat + 4 * l)⟩)

/-- R19, R141: a scratchpad atomic rewrites its word in one landing and keeps the old value, sign-extended, for its result; every other
byte and every register stays. -/
def Claims.ScratchpadAtomicsApply : Prop :=
  ∀ (s : State) (k uid n a : Nat) (e : Entry) (op : AtomicOp) (w64 : Bool) (y z : Word) (w : Win),
    (s.core k).entryOf uid = some e → e.kind = .amo op w64 n a y z → (s.launchOf k).window a 1 = some w → w.flat < 2 ^ 47 →
    let size := if w64 then 8 else 4
    let old := leValue (s.bytes w.flat size)
    ∃ t e', exec (.amoApply k uid) s = .next t ∧ s.Writes t w.flat (leBytes (atomicNew op w64 (BitVec.ofNat 64 old) y z).toNat size) ∧
      s.KeepsRegisters t ∧ t.core k = (s.core k).withEntry e' ∧ e'.uid = uid ∧
      e'.kind = .scalar n (BitVec.ofInt 64 (if old < 2 ^ (8 * size - 1) then old else old - 2 ^ (8 * size)))

/-- R40, R41, R119, R200, R201: the five steps of a queue generator that reports no failed self-check (R220): it copies its set and runs; a read-port generator samples 256 aligned
bytes of the own tile scratchpad and delivers them, a fifth vector in the port raising QFULL; a write-port generator takes the head of its
port, an empty one raising QEMPTY, and lands the vector. -/
def Claims.GeneratorsRun : Prop :=
  ∀ (s : State) (k uid port ag : Nat) (m : Cmd) (set : AgSet), (s.core k).cmd uid = some m → m.kind = .gen port ag set → s.Quiet k →
    s.fabReport k (genId k port) = none →
    let c := s.core k
    let vec := fun (f : Flight) (l : Nat) => (⟨BitVec.ofNat 32 (leValue ((f.data.drop (4 * l)).take 4)), f.tags.getD l 24⟩ : LaneW)
    (m.started = false → ∃ t, exec (.queueGeneratorStart k uid) s = .next t ∧ s.KeepsRegisters t ∧ t.mem = s.mem ∧
      ∃ m', (t.core k).cmd uid = some m' ∧ m'.kind = .gen port ag (c.r.ag.getD ag AgSet.zero) ∧ m'.started = true) ∧
    (m.cut = false → port < 4 → m.sPos < set.total → ∀ flat, s.genCheck k set m.sPos 1 = .ok flat →
      ∃ t m' f, exec (.generatorSample k uid) s = .next t ∧ s.KeepsRegisters t ∧ t.mem = s.mem ∧ (t.core k).cmd uid = some m' ∧
        m'.sPos = m.sPos + 1 ∧ m'.flights = m.flights ++ [f] ∧ f.due = m.start + (s.tt k 22).lat + m.sPos ∧
        ∀ l < 64, vec f l = ⟨BitVec.ofNat 32 (leValue (s.bytes (flat + 4 * l) 4)), s.loadTag (flat + 4 * l)⟩) ∧
    (∀ f rest, m.flights = f :: rest → (c.r.q.getD port []).length < 4 →
      ∃ t u, exec (.generatorDelivery k uid) s = .next t ∧ (t.core k).r = { c.r with q := c.r.q.set port (c.r.q.getD port [] ++ [u]) } ∧
        t.mem = s.mem ∧ u.length = 64 ∧ ∀ l < 64, u.at l = vec f l) ∧
    (∀ f rest, m.flights = f :: rest → 4 ≤ (c.r.q.getD port []).length →
      ∃ t, exec (.generatorDelivery k uid) s = .next t ∧ (t.core k).r = c.r ∧
        (c.p.dues.any (fun d => d.cmd == some (uid, m.queue, m.syll)) = false →
          ∃ d ∈ (t.core k).p.dues, d.cause = 8 ∧ d.sub = 2 ∧ d.prio = 5 ∧ d.cmd = some (uid, m.queue, m.syll))) ∧
    (m.cut = false → 4 ≤ port → m.sPos < set.total → ∀ v rest, c.r.wq.getD (port - 4) [] = v :: rest →
      ∃ t m' f, exec (.generatorTake k uid) s = .next t ∧ (t.core k).r = { c.r with wq := c.r.wq.set (port - 4) rest } ∧ t.mem = s.mem ∧
        (t.core k).cmd uid = some m' ∧ m'.sPos = m.sPos + 1 ∧ m'.flights = m.flights ++ [f] ∧
        f.data = (v.flatMap fun x => leBytes x.w.toNat 4) ∧ f.tags = v.map (·.tag)) ∧
    (m.cut = false → 4 ≤ port → m.sPos < set.total → c.r.wq.getD (port - 4) [] = [] →
      ∃ t, exec (.generatorTake k uid) s = .next t ∧ (t.core k).r = c.r ∧
        (c.p.dues.any (fun d => d.cmd == some (uid, m.queue, m.syll)) = false →
          ∃ d ∈ (t.core k).p.dues, d.cause = 8 ∧ d.sub = 1 ∧ d.prio = 5 ∧ d.cmd = some (uid, m.queue, m.syll))) ∧
    (∀ f rest flat, m.flights = f :: rest → s.genCheck k set f.fmt 2 = .ok flat → flat < 2 ^ 47 →
      ∃ t, exec (.generatorLanding k uid) s = .next t ∧ s.Writes t flat f.data ∧ s.KeepsRegisters t)

/-! ## Waits, boundaries, handlers, freezes and interrupts (01_tile_task.md, 07_task_traps.md, 15_lantern.md) -/

/-- R29, R30: a `waitt` ends once SCHC has reached its target, a `waitg` once GTIME has; before that the core keeps waiting. -/
def Claims.WaitsEnd : Prop :=
  ∀ (s : State) (k : Nat),
    let ended := s.setCore k ((s.core k).flow fun f => { f with wait := .none })
    (∀ g, (s.core k).f.wait = .waitt g →
      exec (.waittExpiry k) s = .next (if g.toNat ≤ (s.core k).x.schc.toNat then ended else s)) ∧
    (∀ g, (s.core k).f.wait = .waitg g → exec (.waitgExpiry k) s = .next (if g.toNat ≤ s.gtime.toNat then ended else s))

/-- R26, R27: a barrier within a package that every participant has reached is released at slot-clock cycle L + latency of its level, L being
the last arrival: a participant that has come to that cycle takes V, the largest arrival SCHC plus the latency, as its SCHC and its wait is
over; one that has not keeps waiting for that cycle and V, and takes V when it comes to it. Nothing else of any core changes. -/
def Claims.BarriersRelease : Prop :=
  (∀ (s : State) (l level unit last top : Nat), level ≤ 3 → s.keysOk → (s.launch l).kill = none →
    let ms := s.members l level unit
    let lat := [4, 12, 40, 96].getD level 0
    let v := BitVec.ofNat 64 (top + lat)
    (∀ m ∈ ms, m.2.f.wait = .syncb level ∧ m.2.f.tw = .none) →
    (∀ m ∈ ms, m.2.f.arr.1 ≤ last ∧ m.2.f.arr.2.toNat ≤ top) → (∃ m ∈ ms, m.2.f.arr.1 = last) → (∃ m ∈ ms, m.2.f.arr.2.toNat = top) →
    (∃ m ∈ ms, s.ticks m.1 = true ∧ last + lat ≤ m.2.clk) →
    ∃ t, exec (.barrierRelease l level unit) s = .next t ∧ (∀ k, (∀ m ∈ ms, m.1 ≠ k) → t.core k = s.core k) ∧ t.mem = s.mem ∧
      ∀ m ∈ ms, t.core m.1 = if s.ticks m.1 = true ∧ last + lat ≤ m.2.clk
        then { m.2 with x := { m.2.x with schc := v }, f := { m.2.f with wait := .none } }
        else { m.2 with f := { m.2.f with wait := .leave level (last + lat) v } }) ∧
  ∀ (s : State) (k level at_ : Nat) (v : Word), level ≤ 3 → s.keysOk → (s.core k).f.wait = .leave level at_ v → (s.core k).f.tw = .none →
    (s.core k).f.mode = .task → s.ticks k = true → at_ ≤ (s.core k).clk → (s.launchOf k).kill = none →
    ∃ t, exec (.barrierRelease (s.core k).f.task.launch level ((s.core k).f.task.lsp / levelSpan level)) s = .next t ∧
      t.core k = { s.core k with x := { (s.core k).x with schc := v }, f := { (s.core k).f with wait := .none } }

/-- R180, R181, R199, R348, R349: what a boundary takes: the first due event, by priority, then issue, then slot; else a pending interrupt
where it is open; else the fault of a poisoned bundle; else a breakpoint, which begins a debugger stop; else a sample record where one is
due. Otherwise only the boundary is marked. -/
def Claims.BoundariesTakeEvents : Prop :=
  ∀ (s : State) (k : Nat), (s.core k).tl ≤ 1 → (s.core k).f.mode ≠ .halted → (s.launchOf k).holdsTraps = false →
    let c := s.core k
    let quiet := ∀ d ∈ c.p.dues, d.lvl ≠ c.tl
    let calm := c.f.irqTimer = false ∧ c.f.irqBelfry = false ∧ c.f.irqDebug = false
    let word := fun (cause sub : Nat) (d : Due) => BitVec.ofNat 64 (2 ^ 39 + (if d.hch then 2 ^ 38 else 0) + (if d.eng then 2 ^ 37 else 0) +
      cause * 2 ^ 32 + sub % 2 ^ 16)
    (∀ d ∈ c.p.dues, d.lvl = c.tl → d.cause < 32 → (∀ d' ∈ c.p.dues, d'.lvl = c.tl → d' ≠ d → d.before d' = true) →
      ∃ t, exec (.cycleBoundary k) s = .next t ∧
        s.Entered t k ⟨word d.cause d.sub d, BitVec.ofNat 64 d.bundle, BitVec.ofNat 64 d.slot, BitVec.ofNat 64 d.lane, d.addr, c.x.schc⟩ ∧
        ∀ u q y, d.cmd = some (u, q, y) → ∀ m ∈ (t.core k).e.cmds, m.uid = u → m.cut = true) ∧
    (∀ n, quiet → c.irqOpen = true →
      (n = 1 ∧ c.f.irqTimer = true) ∨ (n = 2 ∧ c.f.irqTimer = false ∧ c.f.irqBelfry = true) ∨
        (n = 3 ∧ c.f.irqTimer = false ∧ c.f.irqBelfry = false ∧ c.f.irqDebug = true) →
      ∃ t, exec (.cycleBoundary k) s = .next t ∧
        s.Entered t k ⟨BitVec.ofNat 64 (2 ^ 39 + 20 * 2 ^ 32 + n), c.f.pc.setWidth 64, 0, 0, 0, c.x.schc⟩ ∧
        (t.core k).f.irqTimer = (c.f.irqTimer && n != 1) ∧ (t.core k).f.irqBelfry = (c.f.irqBelfry && n != 2) ∧
        (t.core k).f.irqDebug = (c.f.irqDebug && n != 3)) ∧
    (k < 1024 → quiet → calm → c.issues = true → (s.spire (k / 2)).badBundles.contains (k % 2 * 4096 + c.f.pc.toNat) = true →
      ∃ t, exec (.cycleBoundary k) s = .next t ∧
        s.Entered t k ⟨BitVec.ofNat 64 (2 ^ 39 + 18 * 2 ^ 32 + 3), c.f.pc.setWidth 64, 0, 0,
          BitVec.ofNat 64 (windowOf c.f.task.lsp ((4 + k % 2) * 2 ^ 26 + 32 * c.f.pc.toNat)), c.x.schc⟩) ∧
    (∀ n, quiet → calm → s.fetchEcc k = none → s.breakpoint k = some n →
      ∃ t, exec (.cycleBoundary k) s = .next t ∧ Cause.debug ∈ (t.launchOf k).causes ∧ (t.core k).f.dev.isSome = true ∧
        (t.core k).f.pc = c.f.pc ∧ (t.core k).r = c.r ∧ (t.core k).x = c.x) ∧
    (quiet → calm → s.fetchEcc k = none → s.breakpoint k = none → s.sampleDue k = true →
      let tw := s.lantern (towerOf k)
      tw.lctl.getLsbD 0 = true → tw.lctl.getLsbD 10 = true → tw.dropped = 0 → tw.fits = true → towerOf k < s.lanterns.length →
      ∃ t, exec (.cycleBoundary k) s = .next t ∧ (t.lantern (towerOf k)).tprod = tw.tprod + 1 ∧ (t.core k).r = c.r ∧ (t.core k).x = c.x) ∧
    (quiet → calm → s.fetchEcc k = none → s.breakpoint k = none → s.sampleDue k = false →
      exec (.cycleBoundary k) s = .next (s.setCore k (c.flow fun f => { f with bnd := true })))

/-- R145, R182, R189: a handler starts F cycles after its core's stop; a `cwait` ends when no handler-channel command is left; a `tret`
with no result or handler command outstanding goes back one level to the frame's RESUME and re-injects each of its entries, and with a
header that fails its check raises PROT. -/
def Claims.HandlersRun : Prop :=
  ∀ (s : State) (k : Nat),
    let c := s.core k
    let f := s.readFrame k c.tl
    (∀ w, c.f.mode = .entry w →
      exec (.handlerStart k) s = .next (if w ≤ s.wall then s.setCore k (c.flow fun f => { f with mode := .handler }) else s)) ∧
    (c.f.mode = .cwait → c.f.latch = [] → (∀ m ∈ c.e.cmds, m.queue ≠ 1) →
      exec (.cwaitEnd k) s = .next (s.setCore k (c.flow fun f => { f with mode := .handler }))) ∧
    (c.f.mode = .tret → c.f.latch = [] → c.p.prb = [] → (∀ m ∈ c.e.cmds, m.queue ≠ 1) → 1 ≤ c.tl → c.tl ≤ 2 → f.ok c.tl = true → f.descs = [] → c.p.held = [] →
      ∃ t, exec (.tretComplete k) s = .next t ∧ (t.core k).x = { c.x with sstat := setField c.x.sstat 24 2 (c.tl - 1) } ∧
        (t.core k).f.pc = BitVec.ofNat 12 f.resume ∧ (t.core k).r = c.r ∧ (t.core k).p.prb = [] ∧
        (c.tl = 1 → (t.core k).f.mode = .task ∧ Cause.trap k ∉ (t.launchOf k).causes) ∧
        (c.tl = 2 → (t.core k).f.mode = c.f.tl1)) ∧
    (c.f.mode = .tret → c.f.latch = [] → c.p.prb = [] → (∀ m ∈ c.e.cmds, m.queue ≠ 1) → c.tl = 1 → f.ok 1 = false →
      ∃ t, exec (.tretComplete k) s = .next t ∧
        s.Entered t k ⟨BitVec.ofNat 64 (12 * 2 ^ 32 + akOther), c.f.pc.setWidth 64, 0, 0, 0, c.x.schc⟩) ∧
    ∀ (g : TrapFrame) (sides : List Side) (now i : Nat) (d : Nat × List Byte), d.1 / 2 ^ 61 < 5 →
      (s.reinject k g sides now i d).due = now + d.1 / 2 ^ 51 % 1024

/-- R24, R25, R191, R344: a running component of a frozen launch stops F cycles after the freeze began, or at the slot-clock cycle that another
package's freeze names, keeping the cycle, GTIME, SCHC and bundle of its stop for the deviation record; at the thaw each core resumes when the
slot clock has come back to its own cycle; a context kill freezes the launch 4,096 slot-clock cycles after the stop. -/
def Claims.FreezesStopAndThaw : Prop :=
  ∀ (s : State),
    (∀ k, let c := s.core k
      let l := s.launchOf k
      l.phase = .running → c.f.mode = .task → c.f.stopped = false → c.f.dev = none → c.f.stepTo = none →
      ((∃ z ∈ l.causes, (∀ n e, z ≠ .remote n e) ∧ l.fstart + l.stagger ≤ s.wall) ∨ ∃ n ≤ c.clk, ∃ e, Cause.remote n e ∈ l.causes) →
      exec (.freezeStaggerStop k) s =
        .next (s.setCore k (c.flow fun f => { f with stopped := true, dev := some ⟨s.wall, s.gtime, c.x.schc, c.f.pc.toNat⟩ }))) ∧
    (∀ l, s.keysOk → ∃ t, exec (.thaw l) s = .next t ∧ ∀ k, t.core k =
      if (s.core k).f.task.launch = l ∧ s.resumes k = true
        then (s.core k).flow fun f => { f with stopped := false, dev := none, lead := if f.lead = 0 then 0 else (s.core k).clk - (s.launch l).lclk }
        else s.core k) ∧
    (∀ k l, s.launchOf k = l → l.phase = .running → (s.core k).f.stopped = true → (s.core k).f.mode = .task → s.pkgFreeze = [] →
      l.causes = [] → (s.core k).f.lead = 0 → (s.resumes k = true ↔ (s.core k).clk ≤ l.lclk)) ∧
    ∀ l i, (s.launch l).kill = some i → i.stop + 4096 ≤ (s.launch l).lclk → Cause.kill ∉ (s.launch l).causes →
      ∃ t, exec (.killFreeze l) s = .next t ∧ t.KeepsRegisters s ∧ (t.launch l).causes = (s.launch l).causes ++ [Cause.kill]

/-- R180, R358, R402: the comparator makes INTR 1 pending once and disarms; a belfry or a debug request makes INTR 2 or 3 pending; a halted
or idle core discards a request. -/
def Claims.InterruptsPend : Prop :=
  ∀ (s : State) (k : Nat),
    let c := s.core k
    let live := c.f.mode ≠ .idle ∧ c.f.mode ≠ .halted ∧ c.f.mode ≠ .killed
    (∀ g, live → c.f.timer = some g →
      exec (.timerInterrupt k) s =
        if g.toNat ≤ s.gtime.toNat then .next (s.setCore k (c.flow fun f => { f with irqTimer := true, timer := none })) else .next s) ∧
    (live → exec (.belfryInterruptRequest k) s = .next (s.setCore k (c.flow fun f => { f with irqBelfry := true })) ∧
      exec (.debugInterruptRequest k) s = .next (s.setCore k (c.flow fun f => { f with irqDebug := true }))) ∧
    (¬live → exec (.belfryInterruptRequest k) s = .next (s.setCore k c) ∧ exec (.debugInterruptRequest k) s = .next (s.setCore k c))

/-! ## Copies, gathers, overlays and walks behind their start (08_spire.md, 11_tower_memory.md) -/

/-- R206 to R209, R273: a copy whose start checks pass starts with its pages; one whose fault they find falls due, and no register or byte
changes; one whose pages miss freezes its launch for a walk, and the walk's end lets it start again. -/
def Claims.CopiesStart : Prop :=
  ∀ (s : State) (k uid : Nat) (m : Cmd), s.Holds k uid m → m.started = false → s.Quiet k →
    let walked := (s.core k).e.walked.contains uid
    (∀ p c, m.kind = .copy p c →
      (∀ u ps, s.copyCheck k walked 0 p c = (u, .ok ps) →
        exec (.copyStart k uid) s = .next (u.setCmd k { m with started := true, pages := ps }) ∧ s.KeepsAll u) ∧
      (∀ u f, s.copyCheck k walked 0 p c = (u, .fault f) → ∃ t, exec (.copyStart k uid) s = .next t ∧ s.KeepsAll t ∧ t.FaultDue k m f) ∧
      (∀ u, s.copyCheck k walked 0 p c = (u, .miss) → ∃ t n, exec (.copyStart k uid) s = .next t ∧ s.KeepsAll t ∧ s.wall < n ∧
        Cause.walk k m.uid n ∈ (t.launchOf k).causes)) ∧
    (∀ p g, m.kind = .gather p g →
      (s.gatherCheck k 0 p g = none → exec (.copyStart k uid) s = .next (s.setCmd k { m with started := true, pages := [] })) ∧
      (∀ f, s.gatherCheck k 0 p g = some f → ∃ t, exec (.copyStart k uid) s = .next t ∧ s.KeepsAll t ∧ t.FaultDue k m f)) ∧
    (∀ p o u ps, m.kind = .ovl p o → s.ovlCheck k walked p o = (u, .ok ps) →
      exec (.copyStart k uid) s =
        .next (u.setCmd k { m with kind := .ovl p { o with digest := u.vbytes ps o.man 48 }, started := true, pages := ps }) ∧ s.KeepsAll u)

/-- R273: the walks of a command end with its freeze's cause, and it may be checked again. -/
def Claims.WalksEnd : Prop :=
  ∀ (s : State) (k uid : Nat), ∃ t, exec (.pageWalkComplete k uid) s = .next t ∧ s.KeepsAll t ∧ uid ∈ (t.core k).e.walked ∧
    ∀ n, Cause.walk k uid n ∉ (t.launchOf k).causes

/-- R207, R210, R213: a copy samples its chunks in traversal order: a chunk ends with the 64-byte line or with the row, its bytes are those of
the source addresses at that moment, passed through the decoder of their page where it needs one, or the pattern's by destination address for
a fill, and it lands at start + L_path + ⌈end / rate⌉. -/
def Claims.ChunksSample : Prop :=
  ∀ (s : State) (k uid : Nat) (m : Cmd) (p : PathArgs) (c : CopyArgs), s.Holds k uid m → m.kind = .copy p c → s.Quiet k → m.sPos < c.dstGeo.total →
    let n := c.dstGeo.chunk m.sPos
    let r := c.srcBytes m.sPos n
    let raw := (List.range r.2).flatMap fun i => s.bytes (s.sideFlat k p.sg m.pages (c.srcGeo.at (r.1 + i))) 1
    let dec := srcDec p.sg m.pages (c.srcGeo.at r.1)
    let dst := (c.dstGeo.at m.sPos).toNat
    ∃ f : Flight, exec (.chunkSample k uid) s = .next (s.setCmd k { m with sPos := m.sPos + n, flights := m.flights ++ [f] }) ∧
      f.dst = dst ∧ f.due = m.start + p.lpath + cdiv (m.sPos + n) p.rate ∧
      (c.fill = none → dec = 0 → f.data = raw) ∧
      (c.fill = none → dec ≠ 0 → f.data = decodeBytes dec (c.decSrc, c.decDst) m.sPos n raw) ∧ (c.decSrc = 1 → c.decDst = 1 → r = (m.sPos, n)) ∧
      ∀ w, c.fill = some w → f.data = (List.range n).map fun i => BitVec.ofNat 8 (w.toNat / 2 ^ (8 * ((dst + i) % 8)))

/-- R198, R207, R214: where the router reports no failed self-check (R220), a sampled chunk or element lands whole, and only its bytes change: at its window address, or at the frame of its
page; a scratchpad granule takes its format; the command ends behind its last one. -/
def Claims.ChunksLand : Prop :=
  ∀ (s : State) (k uid : Nat) (m : Cmd) (f : Flight) (rest : List Flight), (s.core k).cmd uid = some m → s.Quiet k → m.flights = f :: rest →
    s.fabReport k routerId = none →
    let lands := fun (i : Instr) (a : Nat) (done : Bool) => ∃ t, exec i s = .next t ∧ s.Writes t a f.data ∧ s.KeepsRegisters t ∧
      (t.core k).cmd uid = (if rest = [] ∧ (m.cut = true ∨ done = true) then none else some { m with flights := rest }) ∧
      (isPad a = true → f.data ≠ [] → t.granule a = (f.fmt, f.blk))
    (∀ p c, m.kind = .copy p c →
      (p.dg = false → ∀ w, (s.launchOf k).window f.dst 1 = some w → w.flat < 2 ^ 47 →
        lands (.chunkLanding k uid) w.flat (decide (c.dstGeo.total ≤ m.sPos))) ∧
      (p.dg = true → f.dst % 4096 + f.data.length ≤ 4096 → isPad (flatOf m.pages f.dst) = false →
        lands (.chunkLanding k uid) (flatOf m.pages f.dst) (decide (c.dstGeo.total ≤ m.sPos)))) ∧
    (∀ p g, m.kind = .gather p g →
      (p.dg = false → ∀ w, (s.launchOf k).window f.dst 1 = some w → w.flat < 2 ^ 47 →
        lands (.gatherElementLanding k uid) w.flat (decide (g.n ≤ m.lPos))) ∧
      (p.dg = true → f.dst % 4096 + f.data.length ≤ 4096 → isPad (flatOf m.pages f.dst) = false →
        lands (.gatherElementLanding k uid) (flatOf m.pages f.dst) (decide (g.n ≤ m.lPos))))

/-- R214: a gather samples element i's index from the own list, checks its element and keeps its page; an element that fails its check
falls due and withdraws the rest; the bytes of an element that needs no decoder are sampled in the order of the list and land one occupancy
after another. -/
def Claims.GathersSample : Prop :=
  ∀ (s : State) (k uid : Nat) (m : Cmd) (p : PathArgs) (g : GatherArgs), s.Holds k uid m → m.kind = .gather p g → s.Quiet k →
    let i := g.idx.length
    let idx := leValue (s.bytes (s.sideFlat k false [] (g.list + 4 * i : Nat)) 4)
    let chk := s.elemCheck k ((s.core k).e.walked.contains uid) 0 p g (g.idxBase + idx * 2 ^ g.esz) i
    (i < g.n →
      (∀ u ps, chk = (u, .ok ps) → ∃ t m', exec (.gatherIndexSample k uid) s = .next t ∧ s.KeepsAll t ∧ (t.core k).cmd uid = some m' ∧
        m'.kind = .gather p { g with idx := g.idx ++ [idx] } ∧ (∀ x ∈ m'.pages, x ∈ m.pages ∨ x ∈ ps)) ∧
      (∀ u f, chk = (u, .fault f) → ∃ t m', exec (.gatherIndexSample k uid) s = .next t ∧ s.KeepsAll t ∧ t.FaultDue k m f ∧
        (t.core k).cmd uid = some m' ∧ m'.cut = true)) ∧
    (m.lPos < i →
      let e := 2 ^ g.esz
      let src := if g.scatter then g.base + m.lPos * e else g.idxBase + g.idx.getD m.lPos 0 * e
      let dst := if g.scatter then g.idxBase + g.idx.getD m.lPos 0 * e else g.base + m.lPos * e
      ∃ f : Flight, exec (.gatherElementSample k uid) s = .next (s.setCmd k { m with lPos := m.lPos + 1, flights := m.flights ++ [f] }) ∧
        f.dst = dst ∧ f.due = m.start + p.lpath + g.g * (m.lPos + 1) ∧
        (srcDec p.sg m.pages (src : Nat) = 0 → f.data = (List.range e).flatMap fun j => s.bytes (s.sideFlat k p.sg m.pages (src + j : Nat)) 1))

/-- R215, R335: an overlay samples 64 bytes after another; with the digest of its manifest its bundles land together in the own ISP and it
joins the resident overlays; with another, its bundles are poisoned and the launch is killed with CODEINT. -/
def Claims.OverlaysLand : Prop :=
  ∀ (s : State) (k uid : Nat) (m : Cmd) (p : PathArgs) (o : OvlArgs), (s.core k).cmd uid = some m → m.kind = .ovl p o → s.Quiet k →
    (m.flights = [] → m.sPos = 0 → 2 ≤ o.n →
      ∃ f : Flight, exec (.chunkSample k uid) s = .next (s.setCmd k { m with sPos := 64, flights := [f] }) ∧ f.due = m.land ∧
        f.data = (List.range 64).flatMap fun i => s.bytes (flatOf m.pages (o.src + i)) 1) ∧
    ∀ f, s.fabReport k routerId = none → m.flights = [f] → f.data.length = 32 * o.n →
      (sha384 f.data = o.digest → ∃ t, exec (.overlayLanding k uid) s = .next t ∧ s.KeepsRegisters t ∧ (t.core k).cmd uid = none ∧
        s.Writes t (ispBase k + 32 * o.first.toNat) f.data ∧ (⟨o.first.toNat, o.n, o.src, o.man⟩ ∈ (t.core k).e.ovl) ∧
        ∀ b < o.n, (t.spire (k / 2)).badBundles.contains (k % 2 * 4096 + o.first.toNat + b) = false) ∧
      (sha384 f.data ≠ o.digest → ∃ t, exec (.overlayLanding k uid) s = .next t ∧ t.mem = s.mem ∧ (t.core k).f.mode = .killed ∧
        Cause.kill ∈ (t.launch (s.core k).f.task.launch).causes ∧
        ∀ b < o.n, (t.spire (k / 2)).badBundles.contains (k % 2 * 4096 + o.first.toNat + b) = true)

/-- R216: a handler-channel copy of one chunk without a decoder samples and lands it when its transfer ends, and the command ends. -/
def Claims.HandlerTransfersLand : Prop :=
  ∀ (s : State) (k uid : Nat) (m : Cmd) (p : PathArgs) (c : CopyArgs) (w : Win), (s.core k).cmd uid = some m → m.started = true →
    m.kind = .copy p c → s.Quiet k → s.fabReport k routerId = none → c.fill = none → p.dg = false →
    c.decSrc = 1 → c.decDst = 1 → srcDec p.sg m.pages (c.srcGeo.at 0) = 0 → 0 < c.dstGeo.total → c.dstGeo.chunk 0 = c.dstGeo.total →
    (s.launchOf k).window (c.dstGeo.at 0).toNat 1 = some w → w.flat < 2 ^ 47 →
    ∃ t, exec (.handlerChannelLanding k uid) s = .next t ∧ s.KeepsRegisters t ∧ (t.core k).cmd uid = none ∧
      s.Writes t w.flat ((List.range c.dstGeo.total).flatMap fun i => s.bytes (s.sideFlat k p.sg m.pages (c.srcGeo.at i)) 1)

/-! ## The array behind its start (09_matrix.md) -/

/-- R227, R233, R244, R245: a matrix command or an `mcall` whose checks pass starts with its runs and holds the array for their cycles;
one whose checks fail has a fault due, and no register or byte changes. -/
def Claims.MatrixCommandsStart : Prop :=
  ∀ (s : State) (k uid : Nat) (m : Cmd) (a : MxArgs), s.Holds k uid m → m.kind = .mx a → m.started = false → s.Quiet k →
    let starts := fun (i : Instr) =>
      (∀ r rs, s.mxPlan k m.syll a = .ok (r :: rs) → ∃ t m', exec i s = .next t ∧ s.KeepsAll t ∧ (t.core k).cmd uid = some m' ∧
        m'.started = true ∧ m'.runs = r :: rs ∧ ((s.core k).amode ≠ 2 → 0 < mxTotal (r :: rs) 0 → (t.core k).e.mxRelease = m.start + mxTotal (r :: rs) 0)) ∧
      ∀ f, s.mxPlan k m.syll a = .error f → ∃ t, exec i s = .next t ∧ s.KeepsAll t ∧ t.FaultDue k m f
    starts (.matrixCommandStart k uid) ∧ starts (.mcallStart k uid)

/-- R224, R230, R236, R238, R239: what one array cycle of a landing that no fault has withdrawn (R245) samples: a pass the operand rows of its slots, 128 bytes each from their row
addresses; an `mrd` step the words and tags of its accumulator row; an `mwr` step its source segment; an `mld` four source rows. -/
def Claims.ArraySamples : Prop :=
  ∀ (s : State) (k uid : Nat) (m : Cmd) (r : MxRun), s.Runs k uid m r → r.s < r.u → s.Quiet k →
    (if r.op ≤ 2 then r.s / r.per else if r.op = 6 then 0 else r.s) < r.lim →
    let more := fun (m' : Cmd) => m'.runs = [{ r with s := r.s + 1 }] ∧ (∀ g ∈ m.got, g ∈ m'.got) ∧
      m' = { m with runs := m'.runs, got := m'.got }
    let row := (r.stepOf r.s).1
    let nb := (r.stepOf r.s).2
    ((r.op = 1 ∨ r.op = 2) →
      let q := r.s / r.per
      ∃ m', exec (.passSample k uid) s = .next (s.setCmd k m') ∧ more m' ∧
        (∀ i < r.rowsIn (r.blockOf q).1, mxSlot r.a.rot i r.per = r.s % r.per → ∀ w0 w1 w, r.a = .desc w0 w1 → r.fa ≠ 8 →
          (s.launchOf k).window (rowAddr w0 w1 (32 * (r.blockOf q).1 + i)) 1 = some w →
          ∃ g ∈ m'.got, g.run = 0 ∧ g.q = q ∧ g.side = 0 ∧ g.idx = i ∧ g.data = s.bytes w.flat 128) ∧
        (∀ i < r.rowsIn (r.blockOf q).1, mxSlot r.a.rot i r.per = r.s % r.per → ∀ b, r.a = .ob b → r.fa ≠ 8 →
          ∃ g ∈ m'.got, g.run = 0 ∧ g.q = q ∧ g.side = 0 ∧ g.idx = i ∧
            g.data = ((s.obuf k b).rows.getD (32 * (r.blockOf q).1 + i) []).take 128) ∧
        ∀ i < r.colsIn (r.blockOf q).2, mxSlot r.b.rot i r.per = r.s % r.per → ∀ w0 w1 w, r.b = .desc w0 w1 → r.fb ≠ 8 →
          (s.launchOf k).window (rowAddr w0 w1 (32 * (r.blockOf q).2 + i)) 1 = some w →
          ∃ g ∈ m'.got, g.run = 0 ∧ g.q = q ∧ g.side = 1 ∧ g.idx = i ∧ g.data = s.bytes w.flat 128) ∧
    (r.op = 4 → r.s * r.per < r.u →
      ∃ m' g, exec (.mrdStepSample k uid) s = .next (s.setCmd k m') ∧ more m' ∧ g ∈ m'.got ∧ g.run = 0 ∧ g.q = r.s ∧
        g.data = (List.range (r.colsIn nb)).flatMap (fun i =>
          leBytes (leValue (s.bytes (accBase (k / 2) + r.accOff row (32 * nb + i)) 4) % 2 ^ 32) 4) ∧
        g.tags = (List.range (r.colsIn nb)).map fun i => min 24 (s.tagAt (accBase (k / 2) + r.accOff row (32 * nb + i)))) ∧
    (r.op = 5 → r.s * r.per < r.u → ∀ w0 w1 w, r.a = .desc w0 w1 →
      (s.launchOf k).window (rowAddr w0 w1 row + 32 * nb * mrdWidth r.typ / 8) 1 = some w →
      ∃ m' g, exec (.mwrStepSample k uid) s = .next (s.setCmd k m') ∧ more m' ∧ g ∈ m'.got ∧ g.run = 0 ∧ g.q = r.s ∧
        g.data = s.bytes w.flat (r.colsIn nb * mrdWidth r.typ / 8)) ∧
    (r.op = 6 → ∀ w0 w1, r.a = .desc w0 w1 →
      ∃ m', exec (.mldSample k uid) s = .next (s.setCmd k m') ∧ more m' ∧
        ∀ i < 4, ∀ w, (s.launchOf k).window (rowAddr w0 w1 (4 * r.s + i)) 1 = some w → r.fa ≠ 8 →
          ∃ g ∈ m'.got, g.run = 0 ∧ g.idx = 4 * r.s + i ∧ g.data = s.bytes w.flat 128)

/-- R223, R231, R232, R234: a pass lands all its output words at once: each takes the element of its sampled row and column over the word
it held, or over zero with tag 24 for the first block of a command that asks so; no other byte, register or core changes. -/
def Claims.PassesLand : Prop :=
  ∀ (s : State) (k uid : Nat) (m : Cmd) (r : MxRun) (ga gb : Nat → Got), s.Runs k uid m r → (r.op = 1 ∨ r.op = 2) → r.l < r.landings →
    s.Quiet k → s.ArrayClear k r →
    let mb := (r.blockOf r.l).1
    let nb := (r.blockOf r.l).2
    let off := fun i j => r.accOff (32 * mb + i) (32 * nb + j)
    let finds := fun side i (g : Got) => m.got.find? (fun x => x.run == 0 && x.q == r.l && x.side == side && x.idx == i) = some g
    (∀ g ∈ m.got, g.poison = (0, 0)) → (∀ i < r.rowsIn mb, finds 0 i (ga i)) → (∀ j < r.colsIn nb, finds 1 j (gb j)) →
    ∃ t, exec (.passLanding k uid) s = .next t ∧ s.KeepsRegisters t ∧ s.accOnly t k r (32 * mb) (r.rowsIn mb) (32 * nb) (r.colsIn nb) ∧
      t.MxGoesOn k uid m r ∧
      ∀ i < r.rowsIn mb, ∀ j < r.colsIn nb,
        let old : El := if r.za then (0, 24) else
          (leValue (s.bytes (accBase (k / 2) + off i j) 4) % 2 ^ 32, min 24 (s.tagAt (accBase (k / 2) + off i j)))
        t.accHolds k (off i j) (r.element old (ga i) (gb j))

/-- R76, R221, R231, R232: the element of a sampled row and column: INT8 adds the dot product modulo 2^32, the binary form the number of
ones of XOR or AND, each with tag 24; a block of floating-point products is added exactly and rounded once. -/
def Claims.MatrixElements : Prop :=
  (∀ (r : MxRun) (w : El) (a b : Got), r.op = 2 →
    (r.element w a b).2 = 24 ∧
    (r.element w a b).1 = (w.1 + ((List.range 1024).filter fun i =>
      if r.bop = 0 then (leValue a.data).testBit i != (leValue b.data).testBit i
      else (leValue a.data).testBit i && (leValue b.data).testBit i).length) % 2 ^ 32) ∧
  (∀ (r : MxRun) (w : El) (a b : Got), r.op = 1 → r.fa = 9 → a.data.length = 128 → b.data.length = 128 →
    (r.element w a b).2 = 24 ∧
    ((r.element w a b).1 : Int) =
      ((w.1 : Int) + ((List.range 128).map fun i => (a.data.getD i 0).toInt * (b.data.getD i 0).toInt).sum) % (2 ^ 32 : Nat)) ∧
  ∀ (w : El) (as bs : List Val) (sa sb pmin : Nat),
    (blockAdd w as bs sa sb pmin).1 = (fp32.round .rne (Val.add .rne (fp32.tv w.1 w.2).v
      (Val.mul (Val.mul ((List.zipWith Val.mul as bs).foldl (Val.add .rne) (.zero false)) (e8m0 sa)) (e8m0 sb)))).bits

/-- R235: an `mzero` block lands exact zeros with tag 24. -/
def Claims.ZeroBlocksLand : Prop :=
  ∀ (s : State) (k uid : Nat) (m : Cmd) (r : MxRun), s.Runs k uid m r → r.op = 3 → r.l < r.landings → s.Quiet k → s.ArrayClear k r →
    let mb := (r.blockOf r.l).1
    let nb := (r.blockOf r.l).2
    ∃ t, exec (.mzeroBlockLanding k uid) s = .next t ∧ s.KeepsRegisters t ∧
      s.accOnly t k r (32 * mb) (r.rowsIn mb) (32 * nb) (r.colsIn nb) ∧ t.MxGoesOn k uid m r ∧
      ∀ i < r.rowsIn mb, ∀ j < r.colsIn nb, t.accHolds k (r.accOff (32 * mb + i) (32 * nb + j)) (0, 24)

/-- R236 to R239: an `mrd` step lands its scaled and rounded elements at its row segment, an `mwr` step its widened ones in the accumulator
row, and an `mld` all its rows in the operand buffer with their format. -/
def Claims.TransfersLand : Prop :=
  ∀ (s : State) (k uid : Nat) (m : Cmd) (r : MxRun) (g : Got), s.Runs k uid m r → r.l < r.landings → s.Quiet k → s.ArrayClear k r →
    let row := (r.stepOf r.l).1
    let nb := (r.stepOf r.l).2
    let w := mrdWidth r.typ
    let n := r.colsIn nb
    let finds := m.got.find? (fun x => x.run == 0 && x.q == r.l) = some g ∧ ∀ x ∈ m.got, x.poison = (0, 0)
    (r.op = 4 → r.n % 16 = 0 → finds → (m.regs.getD 1 0).getLsbD 0 = false → ∀ w0 w1 x, r.a = .desc w0 w1 →
      (s.launchOf k).window (rowAddr w0 w1 row + 32 * nb * w / 8) 1 = some x → x.flat < 2 ^ 47 →
      ∃ t bs, exec (.mrdStepLanding k uid) s = .next t ∧ s.KeepsRegisters t ∧ t.MxGoesOn k uid m r ∧ s.Writes t x.flat bs ∧
        bs.length = n * w / 8 ∧ ∀ i < n, elemBits (leValue bs) w i =
          (mrdElement r.typ (r.scale.toNat % 2 ^ 32) (elemBits (leValue g.data) 32 i) (g.tags.getD i 24)).1 % 2 ^ w) ∧
    (r.op = 5 → finds →
      ∃ t, exec (.mwrStepLanding k uid) s = .next t ∧ s.KeepsRegisters t ∧ t.MxGoesOn k uid m r ∧ s.accOnly t k r row 1 (32 * nb) n ∧
        ∀ i < n, t.accHolds k (r.accOff row (32 * nb + i)) (mwrElement r.typ (elemBits (leValue g.data) w i) (g.tags.getD i 24) (r.fa == 12))) ∧
    (r.op = 6 → (∀ x ∈ m.got, x.run = 0 ∧ x.poison = (0, 0)) → r.acc < (s.spire (k / 2)).ob.length →
      ((s.spire (k / 2)).ob.getD r.acc OpBuf.zero).rows.length = 32 →
      ∃ t, exec (.mldLanding k uid) s = .next t ∧ s.KeepsAll t ∧ t.MxGoesOn k uid m r ∧ (t.obuf k r.acc).fmt = r.fa ∧
        (t.obuf k r.acc).blk = r.ba ∧
        ∀ i < 32, ∀ x ∈ m.got, x.idx = i → (∀ y ∈ m.got, y.idx = i → y.data = x.data) → (t.obuf k r.acc).rows.getD i [] = x.data)

/-! ## Global atomics, sync objects and launches from tasks behind their start (05_scalar_control.md, 12_tower_memory.md, 13_launch.md) -/

/-- R19, R281, R283, R287: a `gamo` whose checks pass starts; where the router reports no failed self-check (R220) it rewrites its word in one landing at start + T and keeps the old value,
which lands at its own window address unless GDST asks for none; the command ends with that. -/
def Claims.GlobalAtomicsRun : Prop :=
  ∀ (s : State) (k uid : Nat) (m : Cmd) (g : GamoArgs), s.Holds k uid m → m.kind = .gamo g → s.Quiet k →
    let chk := s.gamoCheck k ((s.core k).e.walked.contains uid) g
    let size := if g.w64 then 8 else 4
    (m.started = false → ∀ u ps, chk = (u, .ok ps) →
      exec (.gamoStart k uid) s = .next (u.setCmd k { m with started := true, pages := ps }) ∧ s.KeepsAll u) ∧
    (m.started = false → ∀ u f, chk = (u, .fault f) → ∃ t, exec (.gamoStart k uid) s = .next t ∧ s.KeepsAll t ∧ t.FaultDue k m f) ∧
    (s.fabReport k routerId = none → m.started = true → m.sPos = 0 →
      let old := leValue (s.bytes (flatOf m.pages g.addr) size)
      ∃ t m', exec (.gamoApply k uid) s = .next t ∧ s.KeepsRegisters t ∧ (t.core k).cmd uid = some m' ∧ m'.sPos = 1 ∧
        m'.regs.getD 0 0 = BitVec.ofNat 64 old ∧
        s.Writes t (flatOf m.pages g.addr) (leBytes (atomicNew g.op g.w64 (BitVec.ofNat 64 old) g.operand g.cmp).toNat size)) ∧
    (m.sPos = 1 →
      (g.gdst.getLsbD 63 = true → ∃ t, exec (.gamoOldValueLanding k uid) s = .next t ∧ s.KeepsAll t ∧ (t.core k).cmd uid = none) ∧
      (g.gdst.getLsbD 63 = false → ∀ w, (s.launchOf k).window (g.gdst.toNat % 2 ^ 40) size = some w → w.flat < 2 ^ 47 →
        ∃ t, exec (.gamoOldValueLanding k uid) s = .next t ∧ s.KeepsRegisters t ∧ (t.core k).cmd uid = none ∧
          s.Writes t w.flat (leBytes (m.regs.getD 0 0).toNat size)))

/-- R19, R143: where the router reports no failed self-check, the increment of a `rel` adds 1 to its 64-bit object, an `acq` samples its object without a result, and each command ends;
a page fault or a missing right falls due. -/
def Claims.SyncObjectsRun : Prop :=
  ∀ (s : State) (k uid : Nat) (m : Cmd) (o : Word) (sc : Nat), s.Holds k uid m → s.fabReport k routerId = none →
    let page := fun r w => s.wordPage k ((s.core k).e.walked.contains uid) o.toNat r w false akSync
    (m.kind = .rel o sc →
      (∀ u ps, page false true = (u, .ok ps) → ∃ t, exec (.relIncrement k uid) s = .next t ∧ s.KeepsRegisters t ∧ (t.core k).cmd uid = none ∧
        s.Writes t (flatOf ps o.toNat) (leBytes (leValue (s.bytes (flatOf ps o.toNat) 8) + 1) 8)) ∧
      (∀ u f, page false true = (u, .fault f) → ∃ t, exec (.relIncrement k uid) s = .next t ∧ s.KeepsAll t ∧ t.FaultDue k m f)) ∧
    (m.kind = .acq o sc →
      (∀ u ps, page true false = (u, .ok ps) → ∃ t, exec (.acqSample k uid) s = .next t ∧ s.KeepsAll t ∧ (t.core k).cmd uid = none) ∧
      (∀ u f, page true false = (u, .fault f) → ∃ t, exec (.acqSample k uid) s = .next t ∧ s.KeepsAll t ∧ t.FaultDue k m f))

/-- R144, R311, R312, R329: a `lnch` reads the 512 bytes of its record at its start; a record or object address that is not aligned falls due
as ALIGN; at its landing, where the router reports no failed self-check, the launch is queued where the checks of a submission pass, and refused otherwise. -/
def Claims.TaskLaunchesArrive : Prop :=
  ∀ (s : State) (k uid : Nat) (m : Cmd) (rcd parent : Word), s.Holds k uid m → m.kind = .lnch rcd parent → s.Quiet k →
    let page := s.wordPage k ((s.core k).e.walked.contains uid) rcd.toNat true false false akRecord
    (m.started = false → rcd.toNat % 512 = 0 → parent.toNat % 8 = 0 → ∀ u ps, page = (u, .ok ps) →
      ∃ f : Flight, exec (.lnchStart k uid) s = .next (u.setCmd k { m with flights := [f], started := true, pages := ps }) ∧ s.KeepsAll u ∧
        f.data = (List.range 512).map fun i => u.mem.get (flatOf ps (rcd.toNat + i))) ∧
    (m.started = false → rcd.toNat % 512 ≠ 0 →
      ∃ t, exec (.lnchStart k uid) s = .next t ∧ s.KeepsAll t ∧ t.FaultDue k m (engTrap 14 akRecord rcd.toNat)) ∧
    (m.started = false → rcd.toNat % 512 = 0 → parent.toNat % 8 ≠ 0 →
      ∃ t, exec (.lnchStart k uid) s = .next t ∧ s.KeepsAll t ∧ t.FaultDue k m (engTrap 14 akRecord parent.toNat)) ∧
    ∀ f, s.fabReport k routerId = none → m.started = true → m.flights = [f] →
      let u := s.setCore k ((s.core k).endCmd uid)
      let corr := leValue ((f.data.drop 8).take 4)
      let queue := leValue ((f.data.drop 0x86).take 1)
      (s.byCorr corr = none → (queue < 12 ∨ 15 < queue ∨
          (s.launches.filter fun x => (x.2.phase == .queued || x.2.phase == .saved) && x.2.queue == queue).length < 64) →
        (u.submitCheck f.data parent.toNat true).reason = 0 → (∀ p ∈ s.seq.early, p.1 ≠ corr) →
        ∃ t, exec (.lnchArrival k uid) s = .next t ∧ s.KeepsRegisters t ∧ (t.core k).cmd uid = none ∧
          t.Queued s.seq.nextLaunch corr queue f.data) ∧
      ((s.byCorr corr).isSome = true →
        ∃ t, exec (.lnchArrival k uid) s = .next t ∧ s.KeepsRegisters t ∧ (t.core k).cmd uid = none ∧ t.launches = s.launches)

/-! ## Fabric circuits, streams, frames and global time behind issue (17_fabric.md) -/

/-- R367, R370, R377: a circuit send whose range check passes starts; it samples flit i from its window address with the granule's format
into its port for its granted frame and position, and ends behind its last flit; a range that fails its check falls due. -/
def Claims.CircuitSends : Prop :=
  ∀ (s : State) (k uid : Nat) (m : Cmd) (f : FabArgs), s.Holds k uid m → m.kind = .fab f → f.recv = false → f.desc.getLsbD 63 = false →
    s.Quiet k →
    (m.started = false → s.fabCheck k f = none → exec (.flitSample k uid) s = .next (s.setCmd k { m with started := true, pages := [] })) ∧
    (m.started = false → ∀ e, s.fabCheck k f = some e →
      ∃ t, exec (.flitSample k uid) s = .next t ∧ s.KeepsAll t ∧ t.FaultDue k m e) ∧
    (m.started = true → m.sPos < f.nfl → (s.core k).inj 6 = false →
      ∀ ft c w, (s.launchOf k).circuit (f.slt.toNat % 2 ^ 12) = some (ft, c) → (s.launchOf k).window (f.sa.toNat + 64 * m.sPos) 1 = some w →
      ∃ (t : State) (x : TxFlit), exec (.flitSample k uid) s = .next t ∧ s.KeepsAll t ∧ (t.core k).cmd uid = some { m with sPos := m.sPos + 1 } ∧
        (t.port c.sport).tx = (s.port c.sport).tx ++ [x] ∧ (∀ p, p ≠ c.sport → t.port p = s.port p) ∧
        x.frame = c.flitFrame ft m.frame0 m.sPos ∧ x.pos = c.flitPos m.sPos ∧ x.launch = (s.core k).f.task.launch ∧
        x.flit.data = s.bytes w.flat 64 ∧ (x.flit.fmt, x.flit.blk) = s.chipFmt w.flat) ∧
    (m.started = true → f.nfl ≤ m.sPos → ∃ t, exec (.flitSample k uid) s = .next t ∧ s.KeepsAll t ∧ (t.core k).cmd uid = none)

/-- R302, R378: a stream transfer samples one 64-byte flit or one release after another into its bridge port's buffer; an address of its
destination that is not aligned raises ALIGN at the start, a full buffer SLIP/QFULL; at the destination a packet's flit lands where its
page may be written, a release adds 1 to its word, and a flit that fails breaks the stream. -/
def Claims.StreamTransfers : Prop :=
  ∀ (s : State),
    (∀ (k uid : Nat) (m : Cmd) (f : FabArgs), s.Holds k uid m → m.kind = .fab f → f.recv = false → f.desc.getLsbD 63 = true →
      let str := f.slt.toNat / 2 ^ 12 % 2 ^ 6
      let port := (((s.launchOf k).ftt.map fun t => t.streams.getD str default).map StreamDef.port).getD 0
      (m.started = false → f.nfl ≠ 0 → f.sb.toNat % 64 ≠ 0 →
        ∃ t, exec (.streamFlitSample k uid) s = .next t ∧ s.KeepsAll t ∧ t.FaultDue k m (engTrap 14 akDst f.sb.toNat)) ∧
      (m.started = true → m.sPos < max 1 f.nfl → 1024 ≤ (s.port port).stream.length →
        ∃ t, exec (.streamFlitSample k uid) s = .next t ∧ s.KeepsAll t ∧ t.FaultDue k m (trapSlip 2)) ∧
      (m.started = true → m.sPos < max 1 f.nfl → (s.port port).stream.length < 1024 →
        ∃ (t : State) (x : StreamItem), exec (.streamFlitSample k uid) s = .next t ∧ s.KeepsAll t ∧
          (t.core k).cmd uid = some { m with sPos := m.sPos + 1 } ∧ (t.port port).stream = (s.port port).stream ++ [x] ∧
          x.stream = str ∧ x.va = f.sb.toNat + 64 * m.sPos ∧ x.release = (f.nfl == 0) ∧
          ∀ w, f.nfl ≠ 0 → (s.launchOf k).window (f.sa.toNat + 64 * m.sPos) 1 = some w → x.data = s.bytes w.flat 64)) ∧
    ∀ (pkt : StreamPacket), (s.port pkt.port).broken.contains (pkt.stream, pkt.asid) = false →
      let root := alGet 0 s.seq.roots pkt.asid
      (∀ e d, s.walk pkt.asid root pkt.va = .ok e →
        let flat := pteFrame (e.leaf pkt.va) * 4096 + pkt.va % 4096
        (pkt.release = false → pkt.flits = [d] → pteW (e.leaf pkt.va) = true → pteOwn (e.leaf pkt.va) = true →
          ∃ t, exec (.streamPacketReceive pkt) s = .next t ∧ s.Writes t flat d ∧ s.KeepsRegisters t) ∧
        (pkt.release = false → pkt.flits = [d] → pteW (e.leaf pkt.va) = false →
          ∃ t, exec (.streamPacketReceive pkt) s = .next t ∧ s.KeepsRegisters t ∧
            (pkt.stream, pkt.asid) ∈ (t.port pkt.port).broken) ∧
        (pkt.release = true → pteW (e.leaf pkt.va) = true → pteOwn (e.leaf pkt.va) = true ∨ pteCtl (e.leaf pkt.va) = true →
          ∃ t, exec (.streamPacketReceive pkt) s = .next t ∧ s.Writes t flat (leBytes (s.mem.value flat 8 + 1) 8) ∧ s.KeepsRegisters t)) ∧
      (∀ n, pkt.release = true → s.walk pkt.asid root pkt.va = .error n →
        ∃ t, exec (.streamPacketReceive pkt) s = .next t ∧ s.KeepsRegisters t ∧ (pkt.stream, pkt.asid) ∈ (t.port pkt.port).broken)

/-- R379 to R382: a receive starts with its range checks; at its flit's expected cycle it takes the head of its circuit's queue where frame
and position are the expected ones, waits in a launch-scope freeze where the flit is not there, and raises SLIP/SKEW where a stale flit
stands there; a taken flit lands four cycles later at its window address. -/
def Claims.CircuitReceives : Prop :=
  ∀ (s : State) (k uid : Nat) (m : Cmd) (f : FabArgs), s.Holds k uid m → m.kind = .fab f → f.recv = true → s.Quiet k →
    (m.started = false → s.fabCheck k f = none → exec (.flitReceive k uid) s = .next (s.setCmd k { m with started := true, pages := [] })) ∧
    (m.started = false → ∀ e, s.fabCheck k f = some e →
      ∃ t, exec (.flitReceive k uid) s = .next t ∧ s.KeepsAll t ∧ t.FaultDue k m e) ∧
    (m.started = true → m.flights = [] → m.sPos < f.nfl → ∀ ft c, (s.launchOf k).circuit (f.desc.toNat % 2 ^ 12) = some (ft, c) →
      let n := c.flitFrame ft m.frame0 m.sPos
      let pos := c.flitPos m.sPos
      let queue := fun (u : State) => alGet [] (u.launchOf k).rq (f.desc.toNat % 2 ^ 12)
      (∀ h rest, queue s = h :: rest → h.frame = n → h.pos = pos → f.op = 0 →
        ∃ (t : State) (x : Flight), exec (.flitReceive k uid) s = .next t ∧ s.KeepsAll t ∧ queue t = rest ∧
          (t.core k).cmd uid = some { m with sPos := m.sPos + 1, flights := [x] } ∧ x.data = h.flit.data ∧ x.fmt = h.flit.fmt ∧
          x.dst = f.sa.toNat + 64 * m.sPos ∧ x.due = (s.core k).clk + 4) ∧
      (queue s = [] → ∃ t, exec (.flitReceive k uid) s = .next t ∧ s.KeepsAll t ∧ Cause.skew k m.uid ∈ (t.launchOf k).causes) ∧
      (∀ h rest, queue s = h :: rest → n < h.frame →
        ∃ t, exec (.flitReceive k uid) s = .next t ∧ s.KeepsAll t ∧ Cause.skew k m.uid ∈ (t.launchOf k).causes ∧ queue t = h :: rest) ∧
      (∀ h rest, queue s = h :: rest → h.frame < n →
        ∃ t, exec (.flitReceive k uid) s = .next t ∧ s.KeepsAll t ∧ t.FaultDue k m (trapSlip 6))) ∧
    (∀ (x : Flight) (rest : List Flight) (w : Win), m.started = true → m.flights = x :: rest → x.due ≤ (s.core k).clk →
      (s.launchOf k).window x.dst 1 = some w → w.flat < 2 ^ 47 →
      ∃ t, exec (.flitReceive k uid) s = .next t ∧ s.Writes t w.flat x.data ∧ s.KeepsRegisters t ∧
        (t.core k).cmd uid = if rest = [] ∧ f.nfl ≤ m.sPos then none else some { m with flights := rest })

/-- R380: a reduce adds, element by element, the received flit and the local 64 bytes, or takes their larger value. -/
def Claims.ReducesAdd : Prop :=
  ∀ (op : Nat) (recv loc : List Byte) (tags : List Nat), 1 ≤ op → op ≤ 3 →
    let w := if op = 2 then 2 else 4
    let p := if op = 2 then 8 else 24
    let val := fun (bs : List Byte) i => leValue ((bs.drop (i * w)).take w)
    (reduceBytes op recv loc tags).1.length = 64 ∧
    ∀ i < 64 / w, val (reduceBytes op recv loc tags).1 i =
      (reduceEl op (val recv i, p) (val loc i, tags.getD (i * w / 4) p)).1 % 2 ^ (8 * w)

/-- R24, R382: when every awaited flit has come, the thaw is set for F_dom cycles later; a wait whose budget runs out raises SLIP/SKEW at
its receive's bundle; at the announced GTIME the skew waits end. -/
def Claims.SkewWaitsEnd : Prop :=
  ∀ (s : State) (l : Nat),
    (∀ t, (s.launch l).ftt = some t → (s.launch l).skews ≠ [] → (s.launch l).thawAt = none →
      (∀ w ∈ (s.launch l).skews, s.skewMet w.1 w.2 = true) →
      ∃ u, exec (.skewFlitArrival l) s = .next u ∧ s.KeepsAll u ∧ (u.launch l).thawAt = some (s.gtimeIn t.fdom) ∧
        (u.launch l).causes = (s.launch l).causes) ∧
    (∀ k m, s.skewExpired k = some m → (s.core k).tl = 0 → (s.core k).f.mode ≠ .halted →
      ∃ u, exec (.skewBudgetExpiry k) s = .next u ∧
        s.Entered u k ⟨BitVec.ofNat 64 (2 ^ 39 + 2 ^ 37 + 8 * 2 ^ 32 + 6), BitVec.ofNat 64 m.bundle, BitVec.ofNat 64 m.slot, 0, 0,
          (s.core k).x.schc⟩ ∧
        Cause.skew k m.uid ∉ (u.launchOf k).causes) ∧
    (∀ g, (s.launch l).thawAt = some g → g.toNat ≤ s.gtime.toNat → (s.launch l).thaws = [] →
      let cs := (s.launch l).causes.filter fun c => match c with | .skew _ _ => false | _ => true
      exec (.skewThaw l) s = .next (s.setLaunch l { s.launch l with
        thawAt := none, causes := cs, dbg := (s.launch l).dbg && cs.any Cause.stops }))

/-- R366 to R368, R370, R381: outside a freeze a port sends the flits of one launch frame, once the slot clock has reached it, at their
positions, with FNUM the frame number modulo 2^16 and the CRC-24 of the frame; a forced CRC failure resends them; a good frame's flit enters its circuit's queue, or is discarded and counted where the queue is full; a
frame with a bad CRC is asked for again, and a retry request puts its flits up for a resend. -/
def Claims.FramesCross : Prop :=
  ∀ (s : State) (p : Nat),
    (∀ n, let l := s.launch ((s.portLaunch p).getD 0)
      (s.port p).stream = [] → l.causes = [] → n ≤ l.lclk / 8 → (s.port p).tx ≠ [] → (∀ x ∈ (s.port p).tx, x.frame = n ∧ x.pos < 6) → ((s.port p).tx.map (·.pos)).Nodup →
      ∃ (t : State) (o : Frame), exec (.frameSend p) s = .next t ∧ s.KeepsAll t ∧ (t.port p).tx = [] ∧ (t.port p).out = some o ∧
        o.fnum = n % 65536 ∧ o.crcOk = true ∧ o.port = p ∧ o.crc = Config.crc24 (frameCovered o) ∧
        (∀ x ∈ (s.port p).tx, o.flits.getD x.pos ⟨0, 0, 0, []⟩ = { x.flit with kind := 1 }) ∧
        (∀ i < 6, (∀ x ∈ (s.port p).tx, x.pos ≠ i) → (o.flits.getD i ⟨0, 0, 1, []⟩).kind = 0) ∧
        ((s.port p).forced = true → (t.port p).crcRetries = (s.port p).crcRetries + 1 ∧ ∀ x ∈ (s.port p).tx, x ∈ (t.port p).resend)) ∧
    (∀ (fr : Frame) l f ci i, s.portLaunch fr.port = some l → (s.launch l).ftt = some f → i < 6 →
      let n := frameOfNum ((s.launch l).lclk / 8) fr.fnum
      let q := alGet [] (s.launch l).rq ci
      (fr.crcOk = true → fr.flits.length = 6 → (∀ j < 6, j ≠ i → (fr.flits.getD j ⟨0, 0, 1, []⟩).kind = 0) →
        ∀ x, fr.flits.getD i ⟨0, 0, 0, []⟩ = x → x.kind = 1 → f.recvCircuit fr.port n i = some ci →
        (q.length < ((f.circuits[ci]?).map Circuit.rqd).getD 0 →
          ∃ t, exec (.frameReceive fr) s = .next t ∧ s.KeepsAll t ∧ (⟨n, i, x⟩ ∈ alGet [] (t.launch l).rq ci) ∧
            (alGet [] (t.launch l).rq ci).length = q.length + 1) ∧
        (((f.circuits[ci]?).map Circuit.rqd).getD 0 ≤ q.length →
          ∃ t, exec (.frameReceive fr) s = .next t ∧ s.KeepsAll t ∧ alGet [] (t.launch l).rq ci = q ∧
            (t.port fr.port).crcRetries = (s.port fr.port).crcRetries + 1)) ∧
      (fr.crcOk = false → ∃ t, exec (.frameReceive fr) s = .next t ∧ s.KeepsAll t ∧ alGet [] (t.launch l).rq ci = q ∧
        (t.port fr.port).crcRetries = (s.port fr.port).crcRetries + 1 ∧ fr.fnum ∈ (t.port fr.port).retries)) ∧
    ∀ fnum, ∃ t, exec (.retryRequest p fnum) s = .next t ∧ s.KeepsAll t ∧ (t.port p).crcRetries = (s.port p).crcRetries + 1 ∧
      ∀ x ∈ (s.port p).sent, x.frame % 65536 = fnum % 65536 → x ∈ (t.port p).resend

/-- R368, R386: a flit that has not come in time exhausts its port's slack and freezes every running launch of the domain; a port that
retrains kills the launches that hold it; a trained port starts with no retries, and its broken streams stay broken (R378). -/
def Claims.PortsRecover : Prop :=
  ∀ (s : State) (p : Nat),
    (s.lateFlit p = true → s.keysOk → ∃ t, exec (.flitArrivalTimeout p) s = .next t ∧ s.KeepsAll t ∧ (t.port p).exhausted = some s.gtime ∧
      ∀ x ∈ s.launches, x.2.phase = .running → x.2.ftt.isSome = true → Cause.slack p ∈ (t.launch x.1).causes) ∧
    (∃ t, exec (.portTrained p) s = .next t ∧ s.KeepsRegisters t ∧ (t.port p).trained = true ∧ (t.port p).crcRetries = 0 ∧
      (t.port p).broken = (s.port p).broken) ∧
    (s.retrainDue p = true → s.keysOk → ∃ t, exec (.portRetrain p) s = .next t ∧ (t.port p).trained = false ∧ (t.port p).tx = [] ∧
      ∀ x ∈ s.launches, x.2.phase = .running → x.2.kill = none → (∃ f, x.2.ftt = some f ∧ f.ports.contains p = true) →
        Cause.kill ∈ (t.launch x.1).causes)

/-- R26, R373, R374, R382: what another package's part of a launch sends: an arrival at a domain barrier, a `halt`, which stands as an arrival,
a freeze that stops this part at a slot-clock cycle, with the code of its cause, and a thaw at a GTIME. -/
def Claims.PartMessagesArrive : Prop :=
  ∀ (s : State) (corr l : Nat), s.byCorr corr = some l →
    (∀ req schc, exec (.barrierArrivalMessage corr req schc) s =
      .next (s.setLaunch l { s.launch l with arrs := (s.launch l).arrs ++ [(req, schc)] })) ∧
    (∀ req schc, exec (.freezeMessage corr (.arrival req schc)) s = exec (.barrierArrivalMessage corr req schc) s ∧
      exec (.freezeMessage corr (.halted req schc)) s =
        .next (s.setLaunch l { s.launch l with halts := (s.launch l).halts ++ [(req, schc)] })) ∧
    (∀ slot stop code, (s.launch l).phase = .running →
      ∃ t, exec (.freezeMessage corr (.freeze slot stop code)) s = .next t ∧ s.KeepsAll t ∧
        (t.launch l).causes = (s.launch l).causes ++ [Cause.remote stop code] ∧
        (t.launch l).lclk = if (s.launch l).causes = [] then slot else (s.launch l).lclk) ∧
    (∀ g, exec (.freezeMessage corr (.thaw g)) s =
      .next (s.setLaunch l { s.launch l with thaws := (s.launch l).thaws ++ [BitVec.ofNat 64 g] }))

/-- R383 to R387: the best clock heard in the own domain becomes the master; a sync interval counts the samples within 8 ns and sets CONV
with the sixty-fourth in a row; the loss of the master clears CONV; once in each second a lane's health record counts the port's retries. -/
def Claims.GlobalTimeIsKept : Prop :=
  ∀ (s : State),
    (∀ m : PtpMessage, m.domain = field s.host.ptpcfg 44 4 → s.host.master = none → better (rankOf m) s.ownRank = true →
      exec (.ptpEventMessage m) s = .next { s with host := { s.host with master := some m, gm := false, ofs := satOfs m.offset } }) ∧
    (∀ m : PtpMessage, m.domain ≠ field s.host.ptpcfg 44 4 → exec (.ptpEventMessage m) s = .next s) ∧
    (∃ t, exec .syncInterval s = .next t ∧ s.KeepsAll t ∧
      t.host.within = (if (match s.host.master with | some m => m.offset | none => 0).natAbs ≤ 8 * 65536 then s.host.within + 1 else 0) ∧
      (t.host.conv = true ↔ 64 ≤ t.host.within) ∧ (s.host.settled = true → t.gtime9 = s.gtime9)) ∧
    exec .lossOfMaster s = .next { s with host := { s.host with master := none, conv := false, within := 0 } } ∧
    (∀ lanes, s.secDue = false → exec (.linkHealthTick lanes) s = .next s) ∧
    ∀ lanes, s.secDue = true → ∃ t, exec (.linkHealthTick lanes) s = .next t ∧ s.KeepsRegisters t ∧ t.host.sec = s.secNow ∧
      (s.kindOn 0 5 = false → t.mem = s.mem) ∧
      ∀ h ∈ lanes, laneBad h = true → alGet 0 (t.port h.port).breach h.lane = s.gtime.toNat / 65536 / (3600 * 10 ^ 9) + 1

/-! ## The launch sequencer (13_launch.md) -/

/-- R311, R312, R324: a SUBMIT packet queues its launch where its record's page and the checks pass, and adds none under a CORR in use; a KILL ends a launch that
does not run and freezes a running one; a PREEMPT marks a running launch that has a save area; a malformed packet is skipped and counted. -/
def Claims.PacketsAreTaken : Prop :=
  ∀ (s : State) (q : Nat) (bs : List Byte),
    let u := s.popPacket q
    let corr := leValue ((bs.drop 4).take 4)
    (s.packetOf q 1 = some bs →
      let a := leValue ((bs.drop 8).take 8)
      let r := s.mem.read a 512
      (s.byCorr corr = none → s.recordPage a r = true → (u.submitCheck r (leValue ((bs.drop 0x10).take 8)) false).reason = 0 → (∀ p ∈ s.seq.early, p.1 ≠ corr) →
        ∃ t, exec (.submit q) s = .next t ∧ s.KeepsRegisters t ∧ t.Queued s.seq.nextLaunch corr q r) ∧
      ((s.byCorr corr).isSome = true → ∃ t, exec (.submit q) s = .next t ∧ s.KeepsRegisters t ∧ t.launches = s.launches)) ∧
    (s.packetOf q 2 = some bs → ∀ l, s.byCorr corr = some l →
      ((s.launch l).phase = .running → (s.launch l).kill = none → Cause.kill ∉ (s.launch l).causes →
        ∃ t, exec (.kill q) s = .next t ∧ s.KeepsRegisters t ∧ (t.launch l).causes = (s.launch l).causes ++ [Cause.kill] ∧
          ((t.launch l).kill.map KillInfo.reason) = some 8) ∧
      ((s.launch l).phase = .queued → s.keysOk → ∃ t, exec (.kill q) s = .next t ∧ s.Ended t l 8 8)) ∧
    (s.packetOf q 3 = some bs → ∀ l, s.byCorr corr = some l → (s.launch l).phase = .running → (s.launch l).saveVa ≠ 0 →
      (s.launch l).pre = .none → (s.launch l).kill = none →
      ∃ t, exec (.preempt q) s = .next t ∧ s.KeepsRegisters t ∧ (t.launch l).pre = .wait) ∧
    (s.packetOf q 0 = some bs → ∀ f, s.seq.desc = some f →
      ∃ t, exec (.malformedPacket q) s = .next t ∧ s.KeepsRegisters t ∧ t.launches = s.launches ∧
        (t.queueDesc q).head = ((s.queueDesc q).head + 1) % 2 ^ 64 ∧ (t.queueDesc q).bad = ((s.queueDesc q).bad + 1) % 2 ^ 64)

/-- R312, R314, R316, R317, R320: an evaluation that finds nothing to admit and none that may trigger a pre-emption only notes its time; a queued launch whose awaited launch failed
ends as cancelled; a waiting launch that is eligible and has a place is admitted there, or is refused with one of the reasons of
admission. -/
def Claims.EvaluationsAdmit : Prop :=
  ∀ (s : State),
    (s.evalNow = false → exec .queueEvaluation s = .next s) ∧
    (s.evalNow = true → s.seq.reserved = none → (∀ x ∈ s.launches, x.2.phase = .queued → s.depEnded x.2 = false) →
      (∀ x ∈ s.launches, s.eligible x.1 = false ∧ (s.depsMet x.1 = true → (s.launch x.1).preRight = false)) →
      exec .queueEvaluation s = .next { s with seq := { s.seq with evalDue := false, evalAt := s.gtime } }) ∧
    ∀ l, s.evalNow = true → s.keysOk → s.seq.reserved = none → (∀ x ∈ s.launches, x.1 ≠ l → x.2.phase = .ended) →
      ((s.launch l).phase = .queued → s.depEnded (s.launch l) = true →
        ∃ t, exec .queueEvaluation s = .next t ∧ (t.launch l).phase = .ended ∧ (t.launch l).status = 7 ∧ (t.launch l).reason = 7) ∧
      ((s.launch l).phase = .queued → s.depEnded (s.launch l) = false → (s.launch l).saved = none → s.eligible l = true →
        ∀ m, s.placeLaunch l none = some m →
        ∃ t, exec .queueEvaluation s = .next t ∧
          (((t.launch l).phase = .admitted ∧ (t.launch l).place = m ∧ (t.launch l).status = 2) ∨
            ((t.launch l).phase = .ended ∧ (t.launch l).status = 6 ∧ (t.launch l).reason ∈ [5, 6, 11, 12]) ∨
            ((t.launch l).phase = .ended ∧ (t.launch l).status = 8 ∧ (t.launch l).reason = 11)))

/-- R313: a launch that has waited full periods of 4 ms gains one effective priority for each, up to its queue's ceiling. -/
def Claims.WaitingLaunchesAge : Prop :=
  ∀ (s : State) (l : Nat), s.ages (s.launch l) = true →
    ∃ t, exec (.priorityAging l) s = .next t ∧ s.KeepsAll t ∧ (∀ j, j ≠ l → t.launch j = s.launch j) ∧
      (t.launch l).aged = (s.gtime.toNat - (s.launch l).garr.toNat) / (4 * 10 ^ 6 * 65536) ∧
      (t.launch l).ep = min (s.queueDesc (s.launch l).queue).ceil ((s.launch l).ep + ((t.launch l).aged - (s.launch l).aged))

/-- R31, R49, R312: at its start tick every task of a launch starts in the same wall cycle, at SCHC 0, TL0 and its entry bundle, with its
requester number in s1, the base of its tile in s2 and the argument in s3, and every other scalar, vector and predicate register zero. -/
def Claims.LaunchesStart : Prop :=
  ∀ (s : State) (l : Nat), let x := s.launch l
    s.startNow x = true → x.ftt = none → (x.place.map Prod.snd).Nodup → x.halves ≤ 2 →
    ∃ t, exec (.startTick l) s = .next t ∧ (t.launch l).phase = .running ∧ (t.launch l).status = 3 ∧ (t.launch l).gstart = s.gtime ∧
      (t.launch l).lclk = 0 ∧
      ∀ y ∈ x.place, ∀ h < x.halves,
        let c := t.core (2 * y.2 + h)
        c.f.mode = .task ∧ c.f.task.launch = l ∧ c.f.task.lsp = y.1 ∧ c.f.task.half = h ∧ c.clk = 0 ∧ c.x.schc = 0 ∧ c.tl = 0 ∧
          c.f.pc = BitVec.ofNat 12 (leValue ((x.record.drop 0x58).take 8) / 2 ^ (12 * h)) ∧
          c.r.s.getD 1 0 = BitVec.ofNat 64 (1024 * x.pkg + 2 * y.1 + h) ∧ c.r.s.getD 2 0 = BitVec.ofNat 64 (windowOf y.1 0) ∧
          c.r.s.getD 3 0 = BitVec.ofNat 64 (leValue ((x.record.drop 0x60).take 8)) ∧
          (∀ i, i ≠ 1 → i ≠ 2 → i ≠ 3 → c.r.s.getD i 0 = 0) ∧ (∀ i < 64, ∀ j < 64, (c.r.v.getD i Vec.zero).at j = ⟨0, 24⟩) ∧
          c.p.prb = [] ∧ c.e.cmds = []

/-- R322, R324 to R327: a pre-emption freezes its launch; when everything has stopped its drain begins, and after the drain its context is
kept, its tiles are free and its state is saved; a save that cannot be written kills the launch with reason 10. -/
def Claims.PreemptionsSave : Prop :=
  ∀ (s : State) (l : Nat),
    (s.preemptDue l = true → ∃ t, exec (.preemptionFreeze l) s = .next t ∧ s.KeepsAll t ∧
      (t.launch l).causes = (s.launch l).causes ++ [Cause.preempt]) ∧
    (s.saveDue l = true → (s.launch l).pre = .wait →
      exec (.contextSave l) s = .next (s.setLaunch l { s.launch l with pre := PrePhase.drain 0 })) ∧
    (∀ n, s.saveDue l = true → (s.launch l).pre = .drain n → s.keysOk →
      let u : State := { s with cores := s.cores.map fun x =>
        if x.2.f.task.launch = l then (x.1, { x.2 with clk := x.2.clk - n }) else x }
      ((u.writeSave l true).2 = true →
        ∃ t, exec (.contextSave l) s = .next t ∧ (t.launch l).phase = .saved ∧ (t.launch l).status = 4 ∧ (t.launch l).place = [] ∧
          (t.launch l).saved.isSome = true ∧ t.seq.evalDue = true ∧
          ∀ k, (s.core k).f.task.launch = l → (s.core k).f.mode ≠ .idle → (t.core k).f.mode = .idle) ∧
      ((u.writeSave l true).2 = false → ∃ t, exec (.contextSave l) s = .next t ∧ Cause.kill ∈ (t.launch l).causes ∧
        ((t.launch l).kill.map KillInfo.reason) = some 10))

/-- R134, R191, R328, R329: a launch whose tasks have all halted and whose work has landed ends as complete; a killed one that has stopped
everywhere ends with its kill's reason, behind its dump where one is due. -/
def Claims.LaunchesEnd : Prop :=
  ∀ (s : State) (l : Nat), s.keysOk →
    (s.endDue l = true → (s.launch l).kill = none → ∃ t, exec (.launchComplete l) s = .next t ∧ s.Ended t l 5 0) ∧
    (∀ i, s.endDue l = true → (s.launch l).kill = some i → ∃ t, exec (.launchComplete l) s = .next t ∧ s.Ended t l 8 i.reason) ∧
    (∀ d rest i, s.seq.dumps = d :: rest → d.launch = l → s.killStopped l = true → (s.launch l).kill = some i →
      ∃ t, exec .dumpWrite s = .next t ∧ s.Ended t l 8 i.reason)

/-- R320, R374: the report of another part is kept with its launch where its timetable and digests agree, and an evaluation of the queues is
due; a launch that differs is refused with reason 4, one whose other part would need retiming with reason 6. -/
def Claims.DigestsAreExchanged : Prop :=
  ∀ (s : State) (corr : Nat) (p : PartDigest),
    (∀ l, s.byCorr corr = some l → (s.launch l).phase = .queued ∨ (s.launch l).phase = .admitted →
      (p.timetable = (s.ownPart l false false).timetable → p.ttdig = (s.ownPart l false false).ttdig →
        (p.needsRetime = false → ∃ t, exec (.submissionDigestExchange corr p) s = .next t ∧ s.KeepsAll t ∧ p ∈ (t.launch l).parts ∧
          (t.launch l).phase = (s.launch l).phase ∧ t.seq.evalDue = true) ∧
        (p.needsRetime = true → ∃ t, exec (.submissionDigestExchange corr p) s = .next t ∧ (t.launch l).phase = .ended ∧
          (t.launch l).status = 6 ∧ (t.launch l).reason = 6)) ∧
      (p.timetable ≠ (s.ownPart l false false).timetable ∨ p.ttdig ≠ (s.ownPart l false false).ttdig →
        ∃ t, exec (.submissionDigestExchange corr p) s = .next t ∧ (t.launch l).phase = .ended ∧ (t.launch l).status = 6 ∧
          (t.launch l).reason = 4)) ∧
    (s.byCorr corr = none →
      exec (.submissionDigestExchange corr p) s = .next { s with seq := { s.seq with early := s.seq.early ++ [(corr, p)] } })

/-! ## The belfries (10_cupola.md, 13_launch.md) -/

/-- R252, R254, R255, R257, R363: what the read and setting commands of a mailbox leave: the reply bytes from 0x100 on, the threshold or
reserve set, and code 2; code 6 for an argument out of range or a mailbox of an I/O die; code 7 for a task's setting. -/
def Claims.MailboxCommands : Prop :=
  ∀ (s : State) (box : Nat) (m : MailCmd),
    let done := fun (i : Instr) (code : Nat) => ∃ t, exec i s = .next t ∧ s.KeepsRegisters t ∧ t.Replied box code
    let replies := fun (i : Instr) (bs : List Byte) => ∃ t, exec i s = .next t ∧ s.KeepsRegisters t ∧ t.Replied box 2 ∧
      t.mem.read (mailboxBase box + 0x100) bs.length = bs
    (s.Serves box 1 m →
      (box < 512 → m.arg 0 < 8 → replies (.query box) (s.allocMap (box / 128 * 8 + m.arg 0)).image) ∧
      (8 ≤ m.arg 0 → done (.query box) 6) ∧ (512 ≤ box → done (.query box) 6)) ∧
    (s.Serves box 2 m → box < 512 →
      (ruidIn box (m.ruid 0) = true → replies (.readtt box) (ttImage (s.spire (ruidSpire (m.ruid 0))).tt)) ∧
      (ruidIn box (m.ruid 0) = false → done (.readtt box) 6)) ∧
    (s.Serves box 3 m →
      (box < 512 → ruidIn box (m.ruid 0) = true → let u := s.unit (m.ruid 0)
        replies (.readunit box) (leBytes u.divc 8 ++ leBytes u.injc 8 ++
          ((List.range 16).flatMap fun i => leBytes ((u.times.drop (u.times.length - 16)).getD i 0).toNat 8) ++
          if ruidType (m.ruid 0) = 7 then
            (List.range 4).flatMap fun i => leBytes (alGet 0 s.bel.ecc (16 + 4 * ruidSpire (m.ruid 0) + i)) 8 else [])) ∧
      (512 ≤ box → m.arg 0 < 12 → replies (.readunit box) (leBytes (alGet 0 s.bel.ecc (m.arg 0)) 8)) ∧
      (512 ≤ box → 12 ≤ m.arg 0 → done (.readunit box) 6)) ∧
    (s.Serves box 6 m → box < 512 →
      (m.task = false → m.arg 0 < 8 → 1 ≤ m.arg 1 → m.arg 1 ≤ 255 →
        ∃ t, exec (.setthr box) s = .next t ∧ t.Replied box 2 ∧ s.KeepsRegisters t ∧
          alGet (0, 0) t.bel.thr (box / 128 * 16 + m.arg 0) = (m.arg 1, m.arg 2)) ∧
      (m.task = false → (8 ≤ m.arg 0 ∨ m.arg 1 = 0 ∨ 255 < m.arg 1) → done (.setthr box) 6) ∧
      (m.task = true → done (.setthr box) 7)) ∧
    (s.Serves box 8 m → box < 512 → m.task = false →
      (m.arg 0 < 8 → m.arg 1 ≤ 384 → ∃ t, exec (.setresv box) s = .next t ∧ t.Replied box 2 ∧ s.KeepsRegisters t ∧
        t.allocMap (box / 128 * 8 + m.arg 0) = { s.allocMap (box / 128 * 8 + m.arg 0) with resv := m.arg 1 }) ∧
      (8 ≤ m.arg 0 ∨ 384 < m.arg 1 → done (.setresv box) 6))

/-- R253, R255, R256, R258: CONDEMN marks its unit as condemned and puts it up for replacement, or answers 4 where its spire is dropped;
between launches the lowest such unit is replaced, or, with no image in flash, its spire is dropped. -/
def Claims.UnitsAreReplaced : Prop :=
  ∀ (s : State),
    (∀ box m, s.Serves box 4 m → box < 512 → m.task = false → ruidIn box (m.ruid 0) = true →
      ((s.spire (ruidSpire (m.ruid 0))).dropped = false →
        ∃ t, exec (.condemn box) s = .next t ∧ s.KeepsAll t ∧ (t.unit (m.ruid 0)).condemned = true ∧
          (∃ x ∈ t.bel.repairs, x.ruid = m.ruid 0 ∧ x.box = some box)) ∧
      ((s.spire (ruidSpire (m.ruid 0))).dropped = true → ∃ t, exec (.condemn box) s = .next t ∧ t.Replied box 4)) ∧
    (∀ box m, s.Serves box 5 m → box < 512 → m.task = false → ruidIn box (m.ruid 0) = true →
      (s.spire (ruidSpire (m.ruid 0))).dropped = false →
      (s.spireHeld (ruidSpire (m.ruid 0)) = false → ∃ t, exec (.selftest box) s = .next t ∧ s.KeepsRegisters t ∧ t.Replied box 2) ∧
      (s.spireHeld (ruidSpire (m.ruid 0)) = true → ∃ t, exec (.selftest box) s = .next t ∧ s.KeepsRegisters t ∧ t.Replied box 6)) ∧
    ∀ tower x, s.nextRepair tower = some x → (s.spire (ruidSpire x.ruid)).dropped = false →
      (s.imageFor (ruidType x.ruid) = none →
        ∃ t, exec (.unitReplacement tower) s = .next t ∧ s.KeepsRegisters t ∧ (t.spire (ruidSpire x.ruid)).dropped = true ∧
          ∀ y ∈ t.bel.repairs, y.ruid ≠ x.ruid) ∧
      (∀ i, s.imageFor (ruidType x.ruid) = some i → s.imageRefused i (ruidType x.ruid) (ruidSpire x.ruid) = false →
        (s.switchUnit x.ruid i 0 0).2 = true →
        ∃ t, exec (.unitReplacement tower) s = .next t ∧ s.KeepsRegisters t ∧ (t.unit x.ruid).condemned = false ∧
          ruidLocal x.ruid ∈ (t.spire (ruidSpire x.ruid)).switched ∧ ∀ y ∈ t.bel.repairs, y.ruid ≠ x.ruid)

/-- R255, R259, R260: INSTALL answers 3 without a verified image, 6 for a patch of another unit type, 5 without room, and switches the unit
of a patch that fits. -/
def Claims.ImagesInstall : Prop :=
  ∀ (s : State) (box : Nat) (m : MailCmd), s.Serves box 7 m → box < 512 → m.task = false → s.installReady m = true →
    (s.slotImage (m.arg 0) = none → ∃ t, exec (.install box) s = .next t ∧ s.KeepsRegisters t ∧ t.Replied box 3) ∧
    ∀ i, s.slotImage (m.arg 0) = some i → i.kind = 1 →
      (i.target ≠ ruidType (m.ruid 1) → ∃ t, exec (.install box) s = .next t ∧ s.KeepsRegisters t ∧ t.Replied box 6) ∧
      (ruidIn box (m.ruid 1) = true → s.hasBeenCondemned (m.ruid 1) = false → i.target = ruidType (m.ruid 1) → s.imageRefused i i.target (ruidSpire (m.ruid 1)) = false →
        (s.spire (ruidSpire (m.ruid 1))).dropped = false →
        let sw := s.switchUnit (m.ruid 1) i 1 (s.allocMap (ruidSpire (m.ruid 1) / 16)).resv
        (sw.2 = true → ∃ t, exec (.install box) s = .next t ∧ s.KeepsRegisters t ∧ t.Replied box 2 ∧
          ruidLocal (m.ruid 1) ∈ (t.spire (ruidSpire (m.ruid 1))).switched) ∧
        (sw.2 = false → ∃ t, exec (.install box) s = .next t ∧ s.KeepsRegisters t ∧ t.Replied box 5))

/-- R294, R336: a command of a belfry's queue writes frame space, adds to a word, or arms a core's detectors; a fence changes nothing, and
the enrolment of a key puts it into its slot. -/
def Claims.BelfriesAccess : Prop :=
  ∀ (s : State) (b q : Nat),
    (∀ a bs, a + bs.length ≤ hbmSize →
      ∃ t, exec (.belfryIssuedAccess b q (.writeFrame a bs)) s = .next t ∧ s.Writes t a bs ∧ s.KeepsRegisters t) ∧
    (∀ a v, a + 8 ≤ hbmSize →
      ∃ t, exec (.belfryIssuedAccess b q (.atomicAdd a 8 v)) s = .next t ∧ s.KeepsRegisters t ∧
        s.Writes t a (leBytes (leValue (s.bytes a 8) + v.toNat) 8)) ∧
    (∀ k mask, exec (.belfryIssuedAccess b q (.setXinj k mask)) s =
      .next (s.setCore k { s.core k with x := { (s.core k).x with xinj := mask.setWidth 64 } })) ∧
    (∀ n, exec (.belfryIssuedAccess b q (.fence n)) s = .next s) ∧
    (∀ slot key, slot ≤ 7 → key.length = 2592 →
      ∃ t, exec (.belfryIssuedAccess b q (.enrolKey slot key)) s = .next t ∧ s.KeepsAll t ∧ alGet [] t.bel.keys slot = key ∧
        ∀ n, n ≠ slot → alGet [] t.bel.keys n = alGet [] s.bel.keys n)

/-! ## The host interface, power and reset (16_package.md, 12_consistency.md, 11_tower_memory.md) -/

/-- R180, R266, R276, R311, R333, R336, R357 to R359, R362: what each host command leaves, with HRES code 2 at its success, 6 where its
arguments are out of range and 8 where its state refuses it. -/
def Obligations.HostCommands : Prop :=
  ∀ (s : State),
    (s.HostServes 1 → s.harg 0 + s.harg 1 ≤ extents → s.harg 2 = 1 → (∀ x ∈ s.launches, x.2.holds = false) →
      s.seq.tagged.length + s.harg 1 ≤ Config.shadowExtents →
      ∃ t, exec .marktag s = .next t ∧ s.KeepsAll t ∧ t.host.hcode = 2 ∧
        ∀ e, s.harg 0 ≤ e → e < s.harg 0 + s.harg 1 → e ∈ t.seq.tagged ∧ ∀ a, a / 2 ^ 21 = e → t.tagAt a = 24) ∧
    (s.HostServes 1 → extents < s.harg 0 + s.harg 1 → ∃ t, exec .marktag s = .next t ∧ s.KeepsAll t ∧ t.host.hcode = 6 ∧ t.seq = s.seq) ∧
    (s.host.inval = none → s.HostServes 2 → s.harg 0 < 65536 → s.harg 1 < 2 ^ 57 → s.harg 1 % 4096 = 0 →
      let drops := fun (t : State) => (∀ k, ∀ e ∈ (t.core k).e.tlb, e.hit (s.harg 0) (s.harg 1) (s.harg 2) = false) ∧
        ∀ x ∈ t.l2, ∀ e ∈ x.2, e.hit (s.harg 0) (s.harg 1) (s.harg 2) = false
      ((∀ x ∈ s.launches, x.2.phase = .running → x.2.asid ≠ s.harg 0) →
        ∃ t, exec .inval s = .next t ∧ s.KeepsAll t ∧ drops t ∧ t.host.hcode = 2) ∧
      ((∃ x ∈ s.launches, x.2.phase = .running ∧ x.2.asid = s.harg 0) →
        ∃ t n, exec .inval s = .next t ∧ s.KeepsAll t ∧ drops t ∧ stallCode ∈ t.pkgFreeze ∧ t.host.inval = some (s.wall, n) ∧ s.wall < n)) ∧
    (∀ a b, s.host.inval = some (a, b) → b ≤ s.wall →
      ∃ t, exec .inval s = .next t ∧ s.KeepsRegisters t ∧ t.host.hcode = 2 ∧ t.host.inval = none ∧ stallCode ∉ t.pkgFreeze) ∧
    (s.HostServes 3 → s.harg 0 < 2 ^ 57 → s.harg 1 < 65536 →
      let root := match s.seq.roots.find? (·.1 == s.harg 1) with
        | some r => r.2
        | none => Config.asidRoot (s.harg 1)
      (s.readKco (s.harg 0) (s.harg 1, root) = none → ∃ t, exec .regobj s = .next t ∧ s.KeepsAll t ∧ t.host.hcode = 8 ∧ t.seq = s.seq) ∧
      ∀ kco, s.readKco (s.harg 0) (s.harg 1, root) = some kco →
      (kco.ok = true → s.kcoRecords kco = true → s.profileOk kco = true → s.kcoSigned kco = true → ∀ n, (∀ o ∈ s.seq.objects, ¬(o.2.va = s.harg 0 ∧ o.2.asid = s.harg 1)) →
        s.objectNumber = some n →
        ∃ t, exec .regobj s = .next t ∧ s.KeepsAll t ∧ t.host.hcode = 2 ∧ t.host.hval = BitVec.ofNat 64 n ∧
          ∃ o, (n, o) ∈ t.seq.objects ∧ o.va = s.harg 0 ∧ o.asid = s.harg 1) ∧
      (kco.ok = false ∨ s.kcoRecords kco = false → ∃ t, exec .regobj s = .next t ∧ s.KeepsAll t ∧ t.host.hcode = 8 ∧ t.seq = s.seq)) ∧
    (s.HostServes 4 → (∃ o ∈ s.seq.objects, o.1 = s.harg 0) →
      ((∀ x ∈ s.launches, x.2.phase ≠ .ended → x.2.code ≠ s.harg 0) →
        ∃ t, exec .unreg s = .next t ∧ s.KeepsAll t ∧ t.host.hcode = 2 ∧ ∀ o ∈ t.seq.objects, o.1 ≠ s.harg 0) ∧
      ((∃ x ∈ s.launches, x.2.phase ≠ .ended ∧ x.2.code = s.harg 0) →
        ∃ t, exec .unreg s = .next t ∧ s.KeepsAll t ∧ t.host.hcode = 8 ∧ t.seq = s.seq)) ∧
    (s.HostServes 5 → s.harg 0 < frameCount →
      ((∀ q < 16, (s.queueDesc q).en = false) → ∃ t, exec .setdesc s = .next t ∧ s.KeepsAll t ∧ t.host.hcode = 2 ∧ t.seq.desc = some (s.harg 0)) ∧
      ((∃ q < 16, (s.queueDesc q).en = true) → ∃ t, exec .setdesc s = .next t ∧ s.KeepsAll t ∧ t.host.hcode = 8 ∧ t.seq.desc = s.seq.desc)) ∧
    (∀ l k, s.HostServes 6 → s.keysOk → s.byCorr (s.harg 1) = some l → (s.core k).f.task.launch = l → (s.core k).f.mode ≠ .idle →
      (s.core k).f.task.req = s.harg 0 →
      ∃ t, exec .settimer s = .next t ∧ s.KeepsAll t ∧ t.host.hcode = 2 ∧
        (t.core k).f.timer = if (s.core k).f.mode = .halted then (s.core k).f.timer else some (BitVec.ofNat 64 (s.harg 2))) ∧
    (s.HostServes 7 → ∃ t, exec .resumehost s = .next t ∧ s.KeepsAll t ∧ t.host.hcode = 2 ∧ t.host.hviol.msb = false) ∧
    (s.HostServes 8 → s.harg 0 ≤ 1 → ∃ t, exec .dombubble s = .next t ∧ s.KeepsAll t ∧ t.host.hcode = 2 ∧ t.host.joined = (s.harg 0 == 1)) ∧
    (s.HostServes 8 → 1 < s.harg 0 → ∃ t, exec .dombubble s = .next t ∧ s.KeepsAll t ∧ t.host.hcode = 6 ∧ t.host.joined = s.host.joined)

/-- R277, R292, R296, R304, R311, R355, R356, R358, R359: a host read of a host-owned frame completes with its bytes, poisoned where its lines
are; a posted write lands line by line, but not in the RO and RSV bits of a queue descriptor; an atomic on a control page completes with the old value and applies in one landing; an access to
device memory is an Unsupported Request with a migration record; one beyond the end freezes the port. -/
def Claims.HostAccesses : Prop :=
  ∀ (s : State), s.host.powered = true → 4 ≤ s.host.stage →
    let lands := fun (t : State) (off : Nat) (bs : List Byte) => ∀ b, t.mem.get b =
      if off ≤ b ∧ b < off + bs.length then (bs.getD (b - off) 0 &&& s.hostMask b) ||| (s.mem.get b &&& ~~~s.hostMask b) else s.mem.get b
    (∀ a, s.seq.desc ≠ some (a / 4096) → s.hostMask a = 0xFF#8) ∧
    (∀ f q i, s.seq.desc = some f → q < 16 → i < 8 → let a := f * 4096 + 64 * q + 8 * 3 + i
      s.hostMask a = 0 ∧ s.hostMask (a - 8) = 0xFF#8) ∧
    (∀ off n, off + n ≤ hbmSize → s.host.hviol.msb = false → (∀ a, s.ownerOf (off / 4096) ≠ .device a) → s.poison = [] →
      exec (.hostRead off n) s = .next { s with host := { s.host with reply := (0, s.bytes off n) } }) ∧
    (∀ off n, off < 2 ^ 40 → hbmSize < off + n → s.host.hviol.msb = false →
      ∃ t, exec (.hostRead off n) s = .next t ∧ s.KeepsAll t ∧ t.host.hviol.msb = true ∧ t.host.reply = (2, [])) ∧
    (∀ off n a, off + n ≤ hbmSize → s.host.hviol.msb = false → s.ownerOf (off / 4096) = .device a →
      ∃ t, exec (.hostRead off n) s = .next t ∧ s.KeepsRegisters t ∧ t.host.reply = (1, [])) ∧
    (∀ off bs rlx, off + bs.length ≤ hbmSize → off % 64 + bs.length ≤ 64 → s.host.hviol.msb = false →
      (∀ a, s.ownerOf (off / 4096) ≠ .device a) →
      ∃ t, exec (.hostWrite off bs rlx) s = .next t ∧ lands t off bs ∧ s.KeepsRegisters t ∧ t.inputs = s.inputs) ∧
    (∀ off bs rlx, off + bs.length ≤ hbmSize → 64 < off % 64 + bs.length → s.host.hviol.msb = false →
      (∀ a, s.ownerOf (off / 4096) ≠ .device a) →
      ∃ t, exec (.hostWrite off bs rlx) s = .next t ∧ lands t off (bs.take (64 - off % 64)) ∧ s.KeepsRegisters t ∧
        t.inputs.head? = some (s.wall, .hostWrite (off + (64 - off % 64)) (bs.drop (64 - off % 64)) rlx)) ∧
    (∀ op off (w64 : Bool) v cmp, off + 8 ≤ hbmSize → s.host.hviol.msb = false → s.poison = [] →
      let w := if w64 then 8 else 4
      let old := leValue (s.bytes off w)
      (s.hostAtomicOk op off w = true →
        ∃ t, exec (.hostAtomic op off w v cmp) s = .next t ∧ s.KeepsRegisters t ∧ t.host.reply = (0, leBytes old w) ∧
          lands t off (leBytes (match op with
            | .swap => v.toNat
            | .cas => if old = cmp.toNat % 256 ^ w then v.toNat else old
            | _ => old + v.toNat) w)) ∧
      (s.hostAtomicOk op off w = false → exec (.hostAtomic op off w v cmp) s = .next { s with host := { s.host with reply := (1, []) } }))

/-- R5, R6, R254, R343, R357, R361, R385: a register write changes only the writable fields of its word: shown on the doorbell arguments,
the ring registers, the capping words, PTPCFG and the lanterns' words; an offset that is not a multiple of 8 changes nothing. -/
def Claims.RegisterWrites : Prop :=
  ∀ (s : State) (v : Word), s.host.powered = true → 4 ≤ s.host.stage →
    let host := fun (h : HostIf) => { s with host := h }
    (∀ i < 6, exec (.registerWrite (0x10 + 8 * i) v) s = .next (host { s.host with harg := s.host.harg.set i v })) ∧
    exec (.registerWrite 0x50 v) s = .next (host { s.host with mring := v &&& 0xFFFFFFFFFFFFF01F#64 }) ∧
    exec (.registerWrite 0x60 v) s = .next (host { s.host with mcons := v }) ∧
    (∀ off ∈ [0x00, 0x40, 0x48, 0x58, 0x68, 0x90], exec (.registerWrite off v) s = .next s) ∧
    ((∀ x ∈ s.launches, x.2.phase = .running → x.2.ftt = none) →
      exec (.registerWrite 0x98 v) s = .next (host { s.host with ptpcfg := v &&& 0xFFFFF00000000000#64 })) ∧
    (∀ t < 4, ∃ c : Cap, exec (.registerWrite (0x70 + 8 * t) v) s = .next (s.setCap t c) ∧ c.minm = v.toNat / 2 ^ 32 % 2 ^ 12 ∧
      c.capw = v.toNat / 2 ^ 12 % 2 ^ 10 ∧ c.duty = (s.cap t).duty ∧ c.pwr = (s.cap t).pwr ∧ c.margin = (s.cap t).margin) ∧
    (∀ t < 4, exec (.registerWrite (0x1000 * (t + 1) + 0x20) v) s = .next (s.modLantern t fun l => { l with tcons := v }) ∧
      exec (.registerWrite (0x1000 * (t + 1) + 0x18) v) s = .next (s.modLantern t fun l => l)) ∧
    (∀ t < 4, t < s.lanterns.length → (s.lantern t).datt.getLsbD 63 = false → 1 ≤ v.toNat % 2 ^ 16 → v.toNat % 2 ^ 16 ≤ 4 →
      ∃ u, exec (.registerWrite (0x1000 * (t + 1) + 0x38) v) s = .next u ∧ s.KeepsAll u ∧ u.launches = s.launches ∧
        (u.lantern t).dstat = 4 ∧ (u.lantern t).todo = false) ∧
    (∀ off, off % 8 ≠ 0 → exec (.registerWrite off v) s = .next s)

/-- R349 to R351: STOP freezes a running launch; RUN thaws a stopped one; STEP gives it COUNT cycles and lets it freeze behind them; SNAP
writes the save area of a stopped launch; each is refused with code 4 in another state. -/
def Obligations.DebuggerCommands : Prop :=
  ∀ (s : State) (t l : Nat),
    let refused := fun (i : Instr) => ∃ u, exec i s = .next u ∧ s.KeepsAll u ∧ u.launches = s.launches ∧ (u.lantern t).dstat = 4
    (s.DebugServes t 1 l →
      ((s.launch l).runsFree = true → ∃ u, exec (.stop t) s = .next u ∧ s.KeepsAll u ∧ (u.launch l).causes = (s.launch l).causes ++ [Cause.stop] ∧
        (u.lantern t).dstat = 3) ∧ ((s.launch l).runsFree = false → refused (.stop t))) ∧
    (s.DebugServes t 2 l →
      ((s.launch l).isStopped = true → ∃ u, exec (.run t) s = .next u ∧ s.KeepsAll u ∧ Cause.debug ∉ (u.launch l).causes ∧ Cause.stop ∉ (u.launch l).causes ∧
        ((∀ n, Cause.remote n 8 ∉ (s.launch l).causes) → (u.launch l).dbg = false) ∧ (u.lantern t).dstat = 1) ∧ ((s.launch l).isStopped = false → refused (.run t))) ∧
    (s.DebugServes t 3 l → s.keysOk →
      ((s.launch l).isStopped = true →
        let n := max 1 ((s.lantern t).dcmd.toNat / 2 ^ 32 % 2 ^ 16)
        ∃ u, exec (.step t) s = .next u ∧ s.KeepsAll u ∧ Cause.debug ∉ (u.launch l).causes ∧ Cause.stop ∉ (u.launch l).causes ∧ (u.launch l).steps = some n ∧
          ∀ k, (∃ x ∈ s.cores, x.1 = k) → (s.core k).f.task.launch = l → (u.core k).f.stepTo = some ((s.core k).clk + n)) ∧
      ((s.launch l).isStopped = false → refused (.step t))) ∧
    (s.DebugServes t 4 l →
      ((s.launch l).isStopped = true → (s.launch l).saveVa ≠ 0 →
        (∀ u, (s.tookCmd t).writeSave l false = (u, true) → ∃ u', exec (.snap t) s = .next u' ∧ u'.mem = u.mem ∧ s.KeepsRegisters u' ∧
          u'.launches = s.launches) ∧
        (∀ u, (s.tookCmd t).writeSave l false = (u, false) → (s.launch l).kill = none →
          ∃ u', exec (.snap t) s = .next u' ∧ Cause.kill ∈ (u'.launch l).causes)) ∧
      ((s.launch l).isStopped = false → refused (.snap t))) ∧
    ((s.launch l).stepOver = true → ∃ u, exec (.stepEnd l) s = .next u ∧ s.KeepsAll u ∧
      (u.launch l).causes = (s.launch l).causes ++ [Cause.debug] ∧ (u.launch l).steps = none)

/-- R271, R360, R361: a bubble period begins with a package freeze of D × 2^16 wall cycles, a stack above its maximum temperature begins or
lengthens one, and the package goes on at its end; a tower's duty follows its power and its margin; a telemetry page has a record for each
rail and its own GTIME. -/
def Claims.PowerIsCapped : Prop :=
  ∀ (s : State),
    (s.bubbleDue = true → s.host.joined = false → s.host.bubble = none →
      let d := s.host.caps.foldl (fun n c => max n c.duty) 0
      ∃ t, exec .thermalBubble s = .next t ∧ s.KeepsAll t ∧ t.host.period = s.wall / 2 ^ 20 ∧
        (d ≠ 0 → t.pkgFreeze = s.pkgFreeze ++ [bubbleCode] ∧ t.host.bubble = some (s.wall, s.wall + d * 2 ^ 16)) ∧
        (d = 0 → t.pkgFreeze = s.pkgFreeze)) ∧
    (∀ n, s.host.bubble = none → ∃ t b, exec (.stackAboveMaximumTemperature n) s = .next t ∧ s.KeepsAll t ∧
      bubbleCode ∈ t.pkgFreeze ∧ t.host.bubble = some (s.wall, b) ∧ s.wall < b) ∧
    (∀ a b, s.host.bubble = some (a, b) → b ≤ s.wall →
      ∃ t, exec .bubbleEnd s = .next t ∧ s.KeepsRegisters t ∧ t.host.bubble = none ∧ bubbleCode ∉ t.pkgFreeze) ∧
    (∀ a b, s.host.bubble = some (a, b) → s.wall < b → exec .bubbleEnd s = .next s) ∧
    (∀ (tw watts : Nat) (margin : Int), s.capDue tw = true → tw < s.host.caps.length →
      ∃ t, exec (.powerCapUpdate tw watts margin) s = .next t ∧ s.KeepsAll t ∧ (t.cap tw).pwr = min 4095 watts ∧ (t.cap tw).margin = margin ∧
        (min 1000 (s.cap tw).capw < watts ∨ margin < (s.cap tw).minm → (t.cap tw).duty = min 15 ((s.cap tw).duty + 1)) ∧
        (watts + 50 < min 1000 (s.cap tw).capw → ((s.cap tw).minm : Int) + 128 ≤ margin → (t.cap tw).duty = (s.cap tw).duty - 1)) ∧
    ∀ rails : List RailSample, rails.length = 32 → s.msDue = true →
      ∃ t, exec (.telemetryUpdate rails) s = .next t ∧ s.KeepsAll t ∧
        (∀ i < 32, t.host.telemetry.getD (2 * i) 0 = BitVec.ofNat 64 ((rails.getD i default).millivolt % 2 ^ 16 * 2 ^ 48 +
          (rails.getD i default).milliamp % 2 ^ 32 * 2 ^ 16 + (rails.getD i default).temp % 2 ^ 16)) ∧
        t.host.telemetry.getD 64 0 = BitVec.ofNat 64 (s.gtime.toNat / (65536 * 10 ^ 6) * (65536 * 10 ^ 6))

/-- R286, R363: the scrubber counts a corrected line in its stack's counter and poisons the 16 words of an uncorrectable one. -/
def Claims.ScrubsPoison : Prop :=
  ∀ (s : State) (line : Nat), 64 * line < hbmSize →
    exec (.hbmScrub line .clean) s = .next s ∧
    (∃ t k, exec (.hbmScrub line .single) s = .next t ∧ s.KeepsAll t ∧ k < 12 ∧ alGet 0 t.bel.ecc k = alGet 0 s.bel.ecc k + 1) ∧
    ∃ t, exec (.hbmScrub line .uncorrectable) s = .next t ∧ s.KeepsAll t ∧
      ∀ i, alGet 0 t.poison i = if 16 * line ≤ i ∧ i < 16 * line + 16 then 4 else alGet 0 s.poison i

/-- R365: a package reset and a power-off leave every core, launch, tag and byte at its reset value, every spire under TT0 and bring-up at stage
0; what flash holds stays; without power a register write changes nothing. -/
def Claims.ResetsClear : Prop :=
  ∀ (s : State),
    let cleared := fun (t : State) => t.cores = [] ∧ t.launches = [] ∧ t.mem = [] ∧ t.tags = [] ∧ t.poison = [] ∧ t.pkgFreeze = [] ∧
      t.gtime9 = 0 ∧ t.seq = Seq.zero ∧ t.ports = [] ∧ t.host.stage = 0 ∧ t.bel.flash = s.bel.flash ∧ t.bel.condemnLog = s.bel.condemnLog ∧
      t.bel.units = [] ∧ t.bel.mail = [] ∧ (∀ n, (t.spire n).tt = tt0 ∧ (t.spire n).switched = [])
    (∃ t, exec .packageReset s = .next t ∧ cleared t ∧ t.host.powered = true) ∧
    (∃ t, exec .powerOff s = .next t ∧ cleared t ∧ t.host.powered = false) ∧
    ∀ off v, s.host.powered = false → exec (.registerWrite off v) s = .next s

/-! ## Decoding, steps and the whole machine (00_scope.md, 01_tile_task.md, 02_task_state.md, 04_encoding.md) -/

/-- R93, R94, R96, R97, R99, R100: the words whose encodings the spec's own examples write out decode, in the slot they are given for, to the
syllables they are given for. -/
def Obligations.ExampleWordsDecode : Prop :=
  decodeSlot 0 0x28000040 = some (.call 0x40) ∧
  decodeSlot 0 0x3D252000 = some (.ploop 9 5 2 0) ∧
  decodeSlot 0 0x3D232200 = some (.ploop 9 3 2 1) ∧
  decodeSlot 0 0x089FFFFF = some (.brNz 4 0x1FFFFF) ∧
  decodeSlot 0 0x0D000008 = some (.brLz 8 8) ∧
  decodeSlot 0 0x48090000 = some (.waitg 9 0) ∧
  decodeSlot 1 0x04845801 = some (.sub 4 4 11) ∧
  decodeSlot 1 0x04A63800 = some (.add 5 6 7) ∧
  decodeSlot 2 0x2108FFE0 = some (.addi 8 8 0xFFE0) ∧
  decodeSlot 3 0x2AAB0000 = some (.vst 21 11 0) ∧
  decodeSlot 4 0x10611200 = some (.vfadd 3 1 2 2 0) ∧
  decodeSlot 4 0x1601C640 = some (.vfma 16 1 24 25 0 0) ∧
  decodeSlot 5 0x0C8110CD = some (.vmadd 4 1 2 3 1 5) ∧
  decodeSlot 5 0x3F140000 = some (.vrot 24 20 0 0) ∧
  decodeSlot 6 0x05085202 = some (.mma 1 2 0 20 16 0 0 2) ∧
  decodeSlot 6 0x1CC70005 = some (.mcall 6 7 5) ∧
  decodeSlot 6 0x204A5805 = some (.cpy 0 0 2 10 11 5) ∧
  decodeSlot 6 0x22308800 = some (.cpy 1 0 1 16 17 0) ∧
  decodeSlot 6 0x21346000 = some (.cpy 0 2 1 20 12 0) ∧
  decodeSlot 6 0x30107800 = some (.ovl 0 16 15 0) ∧
  decodeSlot 6 0x442D68C7 = some (.frecvAddF32 13 13 199) ∧
  decodeSlot 6 0x440A00C7 = some (.frecv 10 199) ∧
  decodeSlot 7 0x05230034 = some (.vcvt 9 3 0 0 3 4)

/-- R83, R84, R86: every well-formed syllable has a word, which decodes to it in every slot whose class holds it; and a word that decodes gives a
well-formed syllable of the slot's class. -/
def Obligations.EncodeAndDecodeAgree : Prop :=
  (∀ (i : Instr) (w : BitVec 32) (k : Nat), i.wellFormed = true → encode i = some w → k ∈ i.slots → decodeSlot k w = some i) ∧
  (∀ i : Instr, i.slots ≠ [] → (∀ w, i ≠ .illop w) → ∃ w, encode i = some w) ∧
  ∀ (k : Nat) (w : BitVec 32) (i : Instr), decodeSlot k w = some i → k < 8 → i.wellFormed = true ∧ k ∈ i.slots

/-- R9, R82 to R84, R103: the step at a cursor is the meaning of what the word of its slot, in the bundle at its core's pc, decodes to: of `nop` where
the stage of a kernel syllable is disabled, of an illegal syllable where it does not decode. Behind it comes the next slot, behind slot 7 the end of
the bundle, and behind a trap, which leaves no cursor, nothing of the bundle. The step for an event or input that is due is the meaning
of the instruction of its name; with nothing due, the next stage of the wall cycle follows. -/
def Obligations.StepsRunTheDecodedInstruction : Prop :=
  ∀ s : State,
    (∀ q, s.stage = .issue → s.cur = some q →
      let c := s.core q.core
      let w := BitVec.ofNat 32 (s.mem.value (ispBase q.core + c.f.pc.toNat * 32 + 4 * q.slot) 4)
      (c.masked q.slot = true → step s = issued (exec .nop s)) ∧
      (c.masked q.slot = false → ∀ i, decodeSlot q.slot w = some i → step s = issued (exec i s)) ∧
      (c.masked q.slot = false → decodeSlot q.slot w = none → step s = issued (exec (.illop w) s))) ∧
    (∀ t : State, t.cur = none → issued (.next t) = .next t) ∧
    (∀ (t : State) (q : Cursor), t.cur = some q →
      issued (.next t) = .next (if q.slot < 7 then { t with cur := some ⟨q.core, q.slot + 1⟩ } else t.finishBundle q.core)) ∧
    (∀ e i, s.due = some (.event e) → e.Is i → step s = exec i s) ∧
    (∀ e i, s.due = some (.input e) → e.Is i → step s = exec i (s.dropInput e)) ∧
    (∀ e : Event, ∃ i, e.Is i) ∧
    (s.due = none → step s = .next s.advance)

/-- R85: the all-zero syllable is `nop` in every slot and changes nothing; an opcode of zero with another bit set decodes to nothing; a bundle counts in
SCHC whatever its syllables are, at the end of the wall cycle. -/
def Obligations.TheZeroSyllableIsNop : Prop :=
  (∀ k < 8, decodeSlot k 0 = some .nop) ∧
  (∀ (s : State) (q : Cursor), s.cur = some q →
    exec .nop s = .next (s.setCore q.core (s.core q.core)) ∧ ∀ j, (s.setCore q.core (s.core q.core)).core j = s.core j) ∧
  (∀ (k : Nat) (w : BitVec 32), w ≠ 0 → w.toNat < 2 ^ 26 → decodeSlot k w = none) ∧
  ∀ (s : State) (k : Nat), s.host.powered = true → s.ticks k = true → (s.core k).f.mode = .task →
    ((s.endCycle).core k).x.schc = (s.core k).x.schc + 1 ∧ ((s.endCycle).core k).clk = (s.core k).clk + 1

/-- R13, R35, R38, R39, R42, R88, R184: what a syllable's operand reads at issue outside a resumed bundle: s0 zero and p0 ones; s24 to s31 and v16 to v23
the registers that RRB selects; a read port its head, with SLIP/QEMPTY where it is empty, and PROT for a queue port at TL ≥ 1. -/
def Obligations.OperandsRead : Prop :=
  ∀ x : Ctx, x.c.f.latch = [] →
    (∀ i, x.sc i 0 = 0) ∧
    (∀ i (r : BitVec 5), 0 < r.toNat → r.toNat < 24 → x.sc i r = x.c.r.s.getD r.toNat 0) ∧
    (∀ i (r : BitVec 5), 24 ≤ r.toNat → ∃ j < 8, (j + x.c.l.rrb.toNat) % 8 = (r.toNat - 24) % 8 ∧ x.sc i r = x.c.r.s.getD (24 + j) 0) ∧
    (∀ i, x.pr i 0 = BitVec.allOnes 64) ∧
    (∀ i n, 0 < n → x.pr i n = x.c.r.p.getD n 0) ∧
    (∀ i (r : BitVec 5), r.toNat < 16 → x.ve i r = .ok (x.c.r.v.getD r.toNat Vec.zero)) ∧
    (∀ i (r : BitVec 5), 16 ≤ r.toNat → r.toNat < 24 →
      ∃ j < 8, (j + x.c.l.rrb.toNat) % 8 = (r.toNat - 16) % 8 ∧ x.ve i r = .ok (x.c.r.v.getD (16 + j) Vec.zero)) ∧
    (∀ i (r : BitVec 5), 24 ≤ r.toNat → x.c.tl = 0 →
      (x.c.r.q.getD (r.toNat % 4) [] = [] → x.ve i r = .error slipEmpty) ∧
      ∀ v vs, x.c.r.q.getD (r.toNat % 4) [] = v :: vs → x.ve i r = .ok v) ∧
    (∀ i (r : BitVec 5), 24 ≤ r.toNat → 1 ≤ x.c.tl → x.ve i r = .error (trapProt 10) ∧ x.vd r = .error (trapProt 10))

/-- R6, R9, R13, R84: a syllable that commits changes only its own core, and there no register but the random queue and its generators, no system
register, no clock, no due fault and not its pc; loop levels change only under a branch or a loop; its results and commands are one more
pending entry or one more engine command at most. Every byte, tag and poison mark of memory, every other core and every launch stays. -/
def Obligations.CommittedSyllablesKeepTheRest : Prop :=
  ∀ (s t : State) (q : Cursor) (i : Instr), i.slots ≠ [] → s.cur = some q → exec i s = .next t → t.cur = some q →
    t = s.setCore q.core (t.core q.core) ∧
    let c := s.core q.core
    let d := t.core q.core
    (∃ rq rg n h, d.r = { c.r with rngQ := rq, rng := rg, rngPops := n, hrng := h }) ∧ d.x = c.x ∧ d.clk = c.clk ∧ d.hclk = c.hclk ∧
      d.f.pc = c.f.pc ∧ d.p.dues = c.p.dues ∧
      (∃ es, d.p.prb = c.p.prb ++ es ∧ es.length ≤ 1) ∧ (∃ ms, d.e.cmds = c.e.cmds ++ ms ∧ ms.length ≤ 1) ∧
      (branchFamily i = false → (∀ a b l, i ≠ .zloop a b l) → (∀ a b u v, i ≠ .ploop a b u v) → d.l = c.l)

/-- The machine goes on: every step answers a next state. What goes wrong on this hardware is a trap, a refusal of a launch or a completion
code. -/
def Obligations.StepsNeverStop : Prop :=
  (∀ s : State, ∃ t, step s = .next t) ∧ ∀ (n : Nat) (s : State), runsOk n s

/-- The forms of the model's own tables: memory lists rising addresses and no byte that an unlisted address reads as, and the core and
launch tables list each core and launch once. Every step keeps both, from every state that has them. -/
def Obligations.TablesStayCanonical : Prop :=
  StepKeeps State.memOk ∧ StepKeeps State.keysOk

/-- R34 to R36, R42, R47, R49, R52, R53, R217, R365: what reset leaves, at bring-up stage 0: scalars zero, vector words zero with tag 24, p0 ones and the
other predicates zero, empty ports, no loop level, TL0, no pending result and no command in any core; TT0 in every spire; no launch; HRES and the rings
zero. The model's tables then have their forms. -/
def Obligations.ResetState : Prop :=
  let s := State.reset
  s.host.stage = 0 ∧ s.host.fail = 0 ∧ s.host.hcode = 0 ∧ s.launches = [] ∧ s.gtime = 0 ∧
    (∀ n, (s.spire n).tt = tt0 ∧ (s.spire n).dropped = false) ∧
    (∀ k, let c := s.core k
      (∀ n, c.readS n = 0) ∧ (∀ i < 24, ∀ l < 64, (c.r.v.getD i Vec.zero).at l = ⟨0, 24⟩) ∧ c.readP 0 = BitVec.allOnes 64 ∧
      (∀ n, 0 < n → n < 8 → c.readP n = 0) ∧ (∀ n < 4, c.r.q.getD n [] = [] ∧ c.r.wq.getD n [] = []) ∧ (∀ l ∈ c.l.levels, l.kind = 0) ∧
      c.l.rrb = 0 ∧ c.l.sen = 0 ∧ c.tl = 0 ∧ c.x.xvec = 0 ∧ c.x.schc = 0 ∧ c.f.mode = .idle ∧ c.p.prb = [] ∧ c.e.cmds = []) ∧
    s.memOk ∧ s.keysOk

/-! ## The statements that join claims of one kind -/

/-- R111, R113, R114: the integer, multiply and divide groups. -/
def Obligations.IntegerArithmetic : Prop :=
  Claims.IntegerGroupResults ∧ Claims.MultiplyResults ∧ Claims.DivideResults ∧ Claims.ZeroDivisorTraps

/-- R111, R113, R115: the bit-count group and the immediate forms. -/
def Obligations.BitCountsAndImmediates : Prop :=
  Claims.BitCountResults ∧ Claims.ImmediateResults

/-- R118, R120, R136, R142: parameter writes, bind, reseed and the counter reads. -/
def Obligations.ParametersAndCounters : Prop :=
  Claims.ParameterWritesComplete ∧ Claims.CounterReads

/-- R5, R47, R50, R51, R52, R53, R135, R177: reads, writes and fields of the system registers. -/
def Obligations.SystemRegisters : Prop :=
  Claims.SystemRegisterReads ∧ Claims.SystemRegisterWrites ∧ Claims.SystemRegisterFields

/-- R102, R121 to R124, R122, R123, R126: branches, jumps, calls and returns. -/
def Obligations.Branches : Prop :=
  Claims.BranchResults ∧ Claims.BranchesLeaveLoops ∧ Claims.ShadowForbidsBranches

/-- R47, R103, R104, R125, R126, R127: zloop and ploop open a loop level. -/
def Obligations.LoopsOpen : Prop :=
  Claims.ZloopOpensALevel ∧ Claims.PloopOpensALevel

/-- R29 to R31, R129, R131, R133, R134, R137, R145: lbrk, waits, barriers, halt, tret, fences and cwait at issue. -/
def Obligations.ControlSyllables : Prop :=
  Claims.LoopsBreak ∧ Claims.WaitsBegin ∧ Claims.HaltsAndReturnsBegin ∧ Claims.FencesMark ∧ Claims.HandlerWaitsBegin

/-- R84, R132, R176 to R183, R179: taking a trap at issue: trap, brk, an illegal syllable, and every other cause. -/
def Obligations.TrapsAreTaken : Prop :=
  Claims.SoftwareTraps ∧ Claims.TrapEntry

/-- R16, R96, R138, R139, R152, R195, R196: the checks of plain accesses; scalar loads and stores at issue. -/
def Obligations.PlainAccesses : Prop :=
  Claims.PlainAccessChecks ∧ Claims.OwnScratchpadIsReachable ∧ Claims.ScalarLoads ∧ Claims.ScalarStores

/-- R152, R153, R154: vector loads and stores, and the indexed forms, at issue. -/
def Obligations.VectorAccesses : Prop :=
  Claims.VectorLoadsAndStores ∧ Claims.IndexedAccesses

/-- R19, R141, R283: scratchpad atomics: issue, operations and landing. -/
def Obligations.ScratchpadAtomics : Prop :=
  Claims.ScratchpadAtomicsIssue ∧ Claims.AtomicOperations ∧ Claims.ScratchpadAtomicsApply

/-- R19, R143, R184: acq and rel: issue, increment and sample. -/
def Obligations.SyncObjects : Prop :=
  Claims.SyncObjectsIssue ∧ Claims.SyncObjectsRun

/-- R70, R73, R146 to R148, R155, R156, R157, R167: vector integer groups and reductions. -/
def Obligations.VectorIntegers : Prop :=
  Claims.VectorIntegerResults ∧ Claims.VectorMultiplyResults ∧ Claims.ReductionResults

/-- R64, R68, R70, R72 to R74, R158, R159, R160: vector floating-point groups and approximations. -/
def Obligations.VectorFloats : Prop :=
  Claims.VectorFloatResults ∧ Claims.ApproximationResults

/-- R42, R68, R161, R162, R168: vector compares, classes and the predicate group. -/
def Obligations.ComparesAndPredicates : Prop :=
  Claims.CompareResults ∧ Claims.PredicateResults

/-- R36, R61, R71, R163 to R166, R169: selects, permutes, lane transfers and the tag group. -/
def Obligations.PermutesAndTags : Prop :=
  Claims.PermuteResults ∧ Claims.TagResults

/-- R61, R64, R65, R67, R69 to R73, R170, R171, R174: conversions and codebook weights. -/
def Obligations.Conversions : Prop :=
  Claims.ConversionResults ∧ Claims.CodebookDecodeResults ∧ Claims.WeightsAreExact

/-- R45, R184, R192, R193, R223 to R227, R227, R229, R232, R235, R236, R238, R239, R244: matrix commands at issue, and what turns them away.
-/
def Obligations.MatrixIssue : Prop :=
  Claims.MatrixCommandsIssue ∧ Claims.MatrixCommandsTurnedAway

/-- R101, R184, R204, R206, R206 to R208, R207, R211 to R213, R213, R216: copies and fills at issue. -/
def Obligations.CopiesAtIssue : Prop :=
  Claims.CopiesIssue ∧ Claims.CopyGeometry ∧ Claims.CopiesTurnedAway

/-- R205, R206, R214, R215: gathers, scatters and overlays at issue. -/
def Obligations.GathersAndOverlaysAtIssue : Prop :=
  Claims.GathersIssue ∧ Claims.OverlaysIssue

/-- R19, R143, R281, R283, R284, R287: global atomics: issue, start, application and old value. -/
def Obligations.GlobalAtomics : Prop :=
  Claims.GlobalAtomicsIssue ∧ Claims.GlobalAtomicsRun

/-- R144, R294, R311, R312, R329: lnch: issue, start and arrival. -/
def Obligations.TaskLaunches : Prop :=
  Claims.LaunchesIssue ∧ Claims.TaskLaunchesArrive

/-- R13, R35 to R37, R41 to R44, R77, R78, R118, R136, R142, R181, R203: results land, or are held where a check fails. -/
def Obligations.ResultsLandOrAreHeld : Prop :=
  Claims.ResultsLand ∧ Claims.FailingResultsAreHeld

/-- R16, R17, R37, R79, R139, R152, R154: stores land and loads sample. -/
def Obligations.StoresAndLoadsLand : Prop :=
  Claims.StoresLand ∧ Claims.LoadsSample

/-- R40, R41, R43, R119, R184, R200, R201: queue generators: start, delivery and take. -/
def Obligations.QueueGenerators : Prop :=
  Claims.QueueGeneratorStarts ∧ Claims.GeneratorsRun

/-- R26, R27, R29, R30: waits end and barriers release. -/
def Obligations.WaitsAndBarriersEnd : Prop :=
  Claims.WaitsEnd ∧ Claims.BarriersRelease

/-- R180, R181, R199, R348, R349, R358, R402: what a boundary takes; pending interrupts. -/
def Obligations.BoundariesAndInterrupts : Prop :=
  Claims.BoundariesTakeEvents ∧ Claims.InterruptsPend

/-- R24, R25, R145, R182, R189, R191, R344: handlers start and return; freezes stop and thaw. -/
def Obligations.HandlersAndFreezes : Prop :=
  Claims.HandlersRun ∧ Claims.FreezesStopAndThaw

/-- R198, R206 to R209, R207, R210, R213, R214, R216, R273: copies start, sample and land. -/
def Obligations.CopiesRun : Prop :=
  Claims.CopiesStart ∧ Claims.WalksEnd ∧ Claims.ChunksSample ∧ Claims.ChunksLand ∧ Claims.HandlerTransfersLand

/-- R214, R215, R335: gathers sample and overlays land. -/
def Obligations.GathersAndOverlaysRun : Prop :=
  Claims.GathersSample ∧ Claims.OverlaysLand

/-- R224, R227, R230, R233, R236, R238, R239, R244, R245: matrix commands start, and what each array cycle samples. -/
def Obligations.MatrixStartsAndSamples : Prop :=
  Claims.MatrixCommandsStart ∧ Claims.ArraySamples

/-- R76, R221, R223, R231, R232, R234, R235, R236 to R239: what matrix commands land. -/
def Obligations.MatrixLandings : Prop :=
  Claims.PassesLand ∧ Claims.MatrixElements ∧ Claims.ZeroBlocksLand ∧ Claims.TransfersLand

/-- R302, R367, R370, R377, R378: circuit sends and stream transfers. -/
def Obligations.FabricSends : Prop :=
  Claims.CircuitSends ∧ Claims.StreamTransfers

/-- R24, R379 to R382, R380, R382: circuit receives, reduces and skew waits. -/
def Obligations.FabricReceives : Prop :=
  Claims.CircuitReceives ∧ Claims.ReducesAdd ∧ Claims.SkewWaitsEnd

/-- R366 to R368, R368, R370, R381, R386: frames cross a port, and ports recover. -/
def Obligations.FabricPorts : Prop :=
  Claims.FramesCross ∧ Claims.PortsRecover

/-- R26, R320, R373, R374, R382, R383 to R387: parts of a launch in other packages, and global time. -/
def Obligations.FabricParts : Prop :=
  Claims.PartMessagesArrive ∧ Claims.GlobalTimeIsKept ∧ Claims.DigestsAreExchanged

/-- R311, R312, R313, R314, R316, R317, R320, R324: packets, admission and priority aging. -/
def Obligations.Submissions : Prop :=
  Claims.PacketsAreTaken ∧ Claims.EvaluationsAdmit ∧ Claims.WaitingLaunchesAge

/-- R31, R49, R134, R191, R312, R322, R324 to R327, R328, R329: launches start, are saved and end. -/
def Obligations.LaunchLives : Prop :=
  Claims.LaunchesStart ∧ Claims.PreemptionsSave ∧ Claims.LaunchesEnd

/-- R252, R254, R255, R257, R294, R336, R363: mailbox commands and the accesses of belfry queues. -/
def Obligations.MailboxesAndBelfryAccesses : Prop :=
  Claims.MailboxCommands ∧ Claims.BelfriesAccess

/-- R253, R255, R256, R258, R259, R260: units are condemned and replaced, and images installed. -/
def Obligations.UnitsAndImages : Prop :=
  Claims.UnitsAreReplaced ∧ Claims.ImagesInstall

/-- R5, R6, R254, R277, R292, R296, R304, R311, R343, R355, R356, R357, R358, R359, R361, R385: host reads, writes, atomics and register
writes. -/
def Obligations.HostInterface : Prop :=
  Claims.HostAccesses ∧ Claims.RegisterWrites

/-- R271, R286, R360, R361, R363, R365: power, memory health and reset. -/
def Obligations.PowerHealthAndReset : Prop :=
  Claims.PowerIsCapped ∧ Claims.ScrubsPoison ∧ Claims.ResetsClear
end

