-- ==== Sys2Proof/Laws/Exec.lean ====
section
/-! SUPPORT. `exec` of each constructor is the call of its meaning: by definition, so that no proof unfolds the dispatch. -/

namespace Sys2Proof.Machine

@[simp] theorem exec_nop (s : State) : exec (.nop) s = execNop s := rfl
@[simp] theorem exec_brZ c o (s : State) : exec (.brZ c o) s = execBrZ c o s := rfl
@[simp] theorem exec_brNz c o (s : State) : exec (.brNz c o) s = execBrNz c o s := rfl
@[simp] theorem exec_brLz c o (s : State) : exec (.brLz c o) s = execBrLz c o s := rfl
@[simp] theorem exec_brGez c o (s : State) : exec (.brGez c o) s = execBrGez c o s := rfl
@[simp] theorem exec_brP c o (s : State) : exec (.brP c o) s = execBrP c o s := rfl
@[simp] theorem exec_brAny c o (s : State) : exec (.brAny c o) s = execBrAny c o s := rfl
@[simp] theorem exec_brAll c o (s : State) : exec (.brAll c o) s = execBrAll c o s := rfl
@[simp] theorem exec_brNone c o (s : State) : exec (.brNone c o) s = execBrNone c o s := rfl
@[simp] theorem exec_jmp o (s : State) : exec (.jmp o) s = execJmp o s := rfl
@[simp] theorem exec_call o (s : State) : exec (.call o) s = execCall o s := rfl
@[simp] theorem exec_jmpi a (s : State) : exec (.jmpi a) s = execJmpi a s := rfl
@[simp] theorem exec_calli a (s : State) : exec (.calli a) s = execCalli a s := rfl
@[simp] theorem exec_ret (s : State) : exec (.ret) s = execRet s := rfl
@[simp] theorem exec_zloop d a l (s : State) : exec (.zloop d a l) s = execZloop d a l s := rfl
@[simp] theorem exec_ploop d a s_ i_ (s : State) : exec (.ploop d a s_ i_) s = execPloop d a s_ i_ s := rfl
@[simp] theorem exec_lbrk a (s : State) : exec (.lbrk a) s = execLbrk a s := rfl
@[simp] theorem exec_waitt a i_ (s : State) : exec (.waitt a i_) s = execWaitt a i_ s := rfl
@[simp] theorem exec_waitg a i_ (s : State) : exec (.waitg a i_) s = execWaitg a i_ s := rfl
@[simp] theorem exec_syncb l (s : State) : exec (.syncb l) s = execSyncb l s := rfl
@[simp] theorem exec_trap i_ (s : State) : exec (.trap i_) s = execTrap i_ s := rfl
@[simp] theorem exec_tret (s : State) : exec (.tret) s = execTret s := rfl
@[simp] theorem exec_halt (s : State) : exec (.halt) s = execHalt s := rfl
@[simp] theorem exec_rdsys d n (s : State) : exec (.rdsys d n) s = execRdsys d n s := rfl
@[simp] theorem exec_wrsys a n (s : State) : exec (.wrsys a n) s = execWrsys a n s := rfl
@[simp] theorem exec_fenceq m (s : State) : exec (.fenceq m) s = execFenceq m s := rfl
@[simp] theorem exec_brk i_ (s : State) : exec (.brk i_) s = execBrk i_ s := rfl
@[simp] theorem exec_rngseed a (s : State) : exec (.rngseed a) s = execRngseed a s := rfl
@[simp] theorem exec_add d a b (s : State) : exec (.add d a b) s = execAdd d a b s := rfl
@[simp] theorem exec_sub d a b (s : State) : exec (.sub d a b) s = execSub d a b s := rfl
@[simp] theorem exec_and d a b (s : State) : exec (.and d a b) s = execAnd d a b s := rfl
@[simp] theorem exec_or d a b (s : State) : exec (.or d a b) s = execOr d a b s := rfl
@[simp] theorem exec_xor d a b (s : State) : exec (.xor d a b) s = execXor d a b s := rfl
@[simp] theorem exec_shl d a b (s : State) : exec (.shl d a b) s = execShl d a b s := rfl
@[simp] theorem exec_shr d a b (s : State) : exec (.shr d a b) s = execShr d a b s := rfl
@[simp] theorem exec_sra d a b (s : State) : exec (.sra d a b) s = execSra d a b s := rfl
@[simp] theorem exec_slt d a b (s : State) : exec (.slt d a b) s = execSlt d a b s := rfl
@[simp] theorem exec_sltn d a b (s : State) : exec (.sltn d a b) s = execSltn d a b s := rfl
@[simp] theorem exec_min d a b (s : State) : exec (.min d a b) s = execMin d a b s := rfl
@[simp] theorem exec_max d a b (s : State) : exec (.max d a b) s = execMax d a b s := rfl
@[simp] theorem exec_minn d a b (s : State) : exec (.minn d a b) s = execMinn d a b s := rfl
@[simp] theorem exec_maxn d a b (s : State) : exec (.maxn d a b) s = execMaxn d a b s := rfl
@[simp] theorem exec_addW d a b (s : State) : exec (.addW d a b) s = execAddW d a b s := rfl
@[simp] theorem exec_subW d a b (s : State) : exec (.subW d a b) s = execSubW d a b s := rfl
@[simp] theorem exec_mul d a b (s : State) : exec (.mul d a b) s = execMul d a b s := rfl
@[simp] theorem exec_mulh d a b (s : State) : exec (.mulh d a b) s = execMulh d a b s := rfl
@[simp] theorem exec_mulhn d a b (s : State) : exec (.mulhn d a b) s = execMulhn d a b s := rfl
@[simp] theorem exec_div d a b (s : State) : exec (.div d a b) s = execDiv d a b s := rfl
@[simp] theorem exec_divn d a b (s : State) : exec (.divn d a b) s = execDivn d a b s := rfl
@[simp] theorem exec_rem d a b (s : State) : exec (.rem d a b) s = execRem d a b s := rfl
@[simp] theorem exec_remn d a b (s : State) : exec (.remn d a b) s = execRemn d a b s := rfl
@[simp] theorem exec_mulW d a b (s : State) : exec (.mulW d a b) s = execMulW d a b s := rfl
@[simp] theorem exec_divW d a b (s : State) : exec (.divW d a b) s = execDivW d a b s := rfl
@[simp] theorem exec_divnW d a b (s : State) : exec (.divnW d a b) s = execDivnW d a b s := rfl
@[simp] theorem exec_remW d a b (s : State) : exec (.remW d a b) s = execRemW d a b s := rfl
@[simp] theorem exec_remnW d a b (s : State) : exec (.remnW d a b) s = execRemnW d a b s := rfl
@[simp] theorem exec_clz d a (s : State) : exec (.clz d a) s = execClz d a s := rfl
@[simp] theorem exec_ctz d a (s : State) : exec (.ctz d a) s = execCtz d a s := rfl
@[simp] theorem exec_popc d a (s : State) : exec (.popc d a) s = execPopc d a s := rfl
@[simp] theorem exec_sel d a b c (s : State) : exec (.sel d a b c) s = execSel d a b c s := rfl
@[simp] theorem exec_lea d a b h (s : State) : exec (.lea d a b h) s = execLea d a b h s := rfl
@[simp] theorem exec_addi d a i_ (s : State) : exec (.addi d a i_) s = execAddi d a i_ s := rfl
@[simp] theorem exec_andi d a i_ (s : State) : exec (.andi d a i_) s = execAndi d a i_ s := rfl
@[simp] theorem exec_ori d a i_ (s : State) : exec (.ori d a i_) s = execOri d a i_ s := rfl
@[simp] theorem exec_xori d a i_ (s : State) : exec (.xori d a i_) s = execXori d a i_ s := rfl
@[simp] theorem exec_slti d a i_ (s : State) : exec (.slti d a i_) s = execSlti d a i_ s := rfl
@[simp] theorem exec_shli d a h (s : State) : exec (.shli d a h) s = execShli d a h s := rfl
@[simp] theorem exec_shri d a h (s : State) : exec (.shri d a h) s = execShri d a h s := rfl
@[simp] theorem exec_srai d a h (s : State) : exec (.srai d a h) s = execSrai d a h s := rfl
@[simp] theorem exec_movi d i_ (s : State) : exec (.movi d i_) s = execMovi d i_ s := rfl
@[simp] theorem exec_movhi d k i_ (s : State) : exec (.movhi d k i_) s = execMovhi d k i_ s := rfl
@[simp] theorem exec_ext d a l p (s : State) : exec (.ext d a l p) s = execExt d a l p s := rfl
@[simp] theorem exec_ins d a l p (s : State) : exec (.ins d a l p) s = execIns d a l p s := rfl
@[simp] theorem exec_wrag d a s_ (s : State) : exec (.wrag d a s_) s = execWrag d a s_ s := rfl
@[simp] theorem exec_wrmp d a (s : State) : exec (.wrmp d a) s = execWrmp d a s := rfl
@[simp] theorem exec_wreng a n (s : State) : exec (.wreng a n) s = execWreng a n s := rfl
@[simp] theorem exec_qgo p g l (s : State) : exec (.qgo p g l) s = execQgo p g l s := rfl
@[simp] theorem exec_rdsched d (s : State) : exec (.rdsched d) s = execRdsched d s := rfl
@[simp] theorem exec_rdgtime d (s : State) : exec (.rdgtime d) s = execRdgtime d s := rfl
@[simp] theorem exec_ldB d a i_ (s : State) : exec (.ldB d a i_) s = execLdB d a i_ s := rfl
@[simp] theorem exec_ldH d a i_ (s : State) : exec (.ldH d a i_) s = execLdH d a i_ s := rfl
@[simp] theorem exec_ldW d a i_ (s : State) : exec (.ldW d a i_) s = execLdW d a i_ s := rfl
@[simp] theorem exec_ldD d a i_ (s : State) : exec (.ldD d a i_) s = execLdD d a i_ s := rfl
@[simp] theorem exec_stB d a i_ (s : State) : exec (.stB d a i_) s = execStB d a i_ s := rfl
@[simp] theorem exec_stH d a i_ (s : State) : exec (.stH d a i_) s = execStH d a i_ s := rfl
@[simp] theorem exec_stW d a i_ (s : State) : exec (.stW d a i_) s = execStW d a i_ s := rfl
@[simp] theorem exec_stD d a i_ (s : State) : exec (.stD d a i_) s = execStD d a i_ s := rfl
@[simp] theorem exec_vld d a i_ (s : State) : exec (.vld d a i_) s = execVld d a i_ s := rfl
@[simp] theorem exec_vst d a i_ (s : State) : exec (.vst d a i_) s = execVst d a i_ s := rfl
@[simp] theorem exec_vldx d a b p (s : State) : exec (.vldx d a b p) s = execVldx d a b p s := rfl
@[simp] theorem exec_vstx d a b p (s : State) : exec (.vstx d a b p) s = execVstx d a b p s := rfl
@[simp] theorem exec_spldScalar d a k (s : State) : exec (.spldScalar d a k) s = execSpldScalar d a k s := rfl
@[simp] theorem exec_spstScalar d a k (s : State) : exec (.spstScalar d a k) s = execSpstScalar d a k s := rfl
@[simp] theorem exec_spldVector d a k (s : State) : exec (.spldVector d a k) s = execSpldVector d a k s := rfl
@[simp] theorem exec_spstVector d a k (s : State) : exec (.spstVector d a k) s = execSpstVector d a k s := rfl
@[simp] theorem exec_amoAdd d a b w (s : State) : exec (.amoAdd d a b w) s = execAmoAdd d a b w s := rfl
@[simp] theorem exec_amoAnd d a b w (s : State) : exec (.amoAnd d a b w) s = execAmoAnd d a b w s := rfl
@[simp] theorem exec_amoOr d a b w (s : State) : exec (.amoOr d a b w) s = execAmoOr d a b w s := rfl
@[simp] theorem exec_amoXor d a b w (s : State) : exec (.amoXor d a b w) s = execAmoXor d a b w s := rfl
@[simp] theorem exec_amoMin d a b w (s : State) : exec (.amoMin d a b w) s = execAmoMin d a b w s := rfl
@[simp] theorem exec_amoMax d a b w (s : State) : exec (.amoMax d a b w) s = execAmoMax d a b w s := rfl
@[simp] theorem exec_amoSwap d a b w (s : State) : exec (.amoSwap d a b w) s = execAmoSwap d a b w s := rfl
@[simp] theorem exec_amoCas d a b c w (s : State) : exec (.amoCas d a b c w) s = execAmoCas d a b c w s := rfl
@[simp] theorem exec_bind d a b (s : State) : exec (.bind d a b) s = execBind d a b s := rfl
@[simp] theorem exec_acq a s_ (s : State) : exec (.acq a s_) s = execAcq a s_ s := rfl
@[simp] theorem exec_rel a s_ (s : State) : exec (.rel a s_) s = execRel a s_ s := rfl
@[simp] theorem exec_vadd d a b p t (s : State) : exec (.vadd d a b p t) s = execVadd d a b p t s := rfl
@[simp] theorem exec_vsub d a b p t (s : State) : exec (.vsub d a b p t) s = execVsub d a b p t s := rfl
@[simp] theorem exec_vand d a b p t (s : State) : exec (.vand d a b p t) s = execVand d a b p t s := rfl
@[simp] theorem exec_vor d a b p t (s : State) : exec (.vor d a b p t) s = execVor d a b p t s := rfl
@[simp] theorem exec_vxor d a b p t (s : State) : exec (.vxor d a b p t) s = execVxor d a b p t s := rfl
@[simp] theorem exec_vshl d a b p t (s : State) : exec (.vshl d a b p t) s = execVshl d a b p t s := rfl
@[simp] theorem exec_vshr d a b p t (s : State) : exec (.vshr d a b p t) s = execVshr d a b p t s := rfl
@[simp] theorem exec_vsra d a b p t (s : State) : exec (.vsra d a b p t) s = execVsra d a b p t s := rfl
@[simp] theorem exec_vmin d a b p t (s : State) : exec (.vmin d a b p t) s = execVmin d a b p t s := rfl
@[simp] theorem exec_vmax d a b p t (s : State) : exec (.vmax d a b p t) s = execVmax d a b p t s := rfl
@[simp] theorem exec_vabs d a p t (s : State) : exec (.vabs d a p t) s = execVabs d a p t s := rfl
@[simp] theorem exec_vmul d a b p t (s : State) : exec (.vmul d a b p t) s = execVmul d a b p t s := rfl
@[simp] theorem exec_vmulh d a b p t (s : State) : exec (.vmulh d a b p t) s = execVmulh d a b p t s := rfl
@[simp] theorem exec_vmadd d a b c p t (s : State) : exec (.vmadd d a b c p t) s = execVmadd d a b c p t s := rfl
@[simp] theorem exec_vfadd d a b p t (s : State) : exec (.vfadd d a b p t) s = execVfadd d a b p t s := rfl
@[simp] theorem exec_vfsub d a b p t (s : State) : exec (.vfsub d a b p t) s = execVfsub d a b p t s := rfl
@[simp] theorem exec_vfmul d a b p t (s : State) : exec (.vfmul d a b p t) s = execVfmul d a b p t s := rfl
@[simp] theorem exec_vfmin d a b p t (s : State) : exec (.vfmin d a b p t) s = execVfmin d a b p t s := rfl
@[simp] theorem exec_vfmax d a b p t (s : State) : exec (.vfmax d a b p t) s = execVfmax d a b p t s := rfl
@[simp] theorem exec_vfabs d a p t (s : State) : exec (.vfabs d a p t) s = execVfabs d a p t s := rfl
@[simp] theorem exec_vfneg d a p t (s : State) : exec (.vfneg d a p t) s = execVfneg d a p t s := rfl
@[simp] theorem exec_vfma d a b c p t (s : State) : exec (.vfma d a b c p t) s = execVfma d a b c p t s := rfl
@[simp] theorem exec_vfms d a b c p t (s : State) : exec (.vfms d a b c p t) s = execVfms d a b c p t s := rfl
@[simp] theorem exec_vfnma d a b c p t (s : State) : exec (.vfnma d a b c p t) s = execVfnma d a b c p t s := rfl
@[simp] theorem exec_vfrcp d a p (s : State) : exec (.vfrcp d a p) s = execVfrcp d a p s := rfl
@[simp] theorem exec_vfrsq d a p (s : State) : exec (.vfrsq d a p) s = execVfrsq d a p s := rfl
@[simp] theorem exec_vfexp2 d a p (s : State) : exec (.vfexp2 d a p) s = execVfexp2 d a p s := rfl
@[simp] theorem exec_vflog2 d a p (s : State) : exec (.vflog2 d a p) s = execVflog2 d a p s := rfl
@[simp] theorem exec_vcmp d a b p t f (s : State) : exec (.vcmp d a b p t f) s = execVcmp d a b p t f s := rfl
@[simp] theorem exec_vfcmp d a b p f (s : State) : exec (.vfcmp d a b p f) s = execVfcmp d a b p f s := rfl
@[simp] theorem exec_vfclass d a p (s : State) : exec (.vfclass d a p) s = execVfclass d a p s := rfl
@[simp] theorem exec_vsel d a b c p (s : State) : exec (.vsel d a b c p) s = execVsel d a b c p s := rfl
@[simp] theorem exec_vperm d a b p (s : State) : exec (.vperm d a b p) s = execVperm d a b p s := rfl
@[simp] theorem exec_vslide d a b c p (s : State) : exec (.vslide d a b c p) s = execVslide d a b c p s := rfl
@[simp] theorem exec_vrot d a c p (s : State) : exec (.vrot d a c p) s = execVrot d a c p s := rfl
@[simp] theorem exec_vbcast d a p (s : State) : exec (.vbcast d a p) s = execVbcast d a p s := rfl
@[simp] theorem exec_vext d a b (s : State) : exec (.vext d a b) s = execVext d a b s := rfl
@[simp] theorem exec_vins d a b (s : State) : exec (.vins d a b) s = execVins d a b s := rfl
@[simp] theorem exec_vredadd d a p t (s : State) : exec (.vredadd d a p t) s = execVredadd d a p t s := rfl
@[simp] theorem exec_vredmin d a p t (s : State) : exec (.vredmin d a p t) s = execVredmin d a p t s := rfl
@[simp] theorem exec_vredmax d a p t (s : State) : exec (.vredmax d a p t) s = execVredmax d a p t s := rfl
@[simp] theorem exec_vfredadd d a p (s : State) : exec (.vfredadd d a p) s = execVfredadd d a p s := rfl
@[simp] theorem exec_pand d a b p (s : State) : exec (.pand d a b p) s = execPand d a b p s := rfl
@[simp] theorem exec_por d a b p (s : State) : exec (.por d a b p) s = execPor d a b p s := rfl
@[simp] theorem exec_pxor d a b p (s : State) : exec (.pxor d a b p) s = execPxor d a b p s := rfl
@[simp] theorem exec_pnot d a p (s : State) : exec (.pnot d a p) s = execPnot d a p s := rfl
@[simp] theorem exec_pset d p (s : State) : exec (.pset d p) s = execPset d p s := rfl
@[simp] theorem exec_pclr d p (s : State) : exec (.pclr d p) s = execPclr d p s := rfl
@[simp] theorem exec_pcnt d a p (s : State) : exec (.pcnt d a p) s = execPcnt d a p s := rfl
@[simp] theorem exec_pfirst d a p (s : State) : exec (.pfirst d a p) s = execPfirst d a p s := rfl
@[simp] theorem exec_vsig d a p (s : State) : exec (.vsig d a p) s = execVsig d a p s := rfl
@[simp] theorem exec_vsigset d a n p t (s : State) : exec (.vsigset d a n p t) s = execVsigset d a n p t s := rfl
@[simp] theorem exec_vsiglt d a n p (s : State) : exec (.vsiglt d a n p) s = execVsiglt d a n p s := rfl
@[simp] theorem exec_sigmin d a p (s : State) : exec (.sigmin d a p) s = execSigmin d a p s := rfl
@[simp] theorem exec_vzmask d a p (s : State) : exec (.vzmask d a p) s = execVzmask d a p s := rfl
@[simp] theorem exec_vsigCv d a p (s : State) : exec (.vsigCv d a p) s = execVsigCv d a p s := rfl
@[simp] theorem exec_vsigsetCv d a n p t (s : State) : exec (.vsigsetCv d a n p t) s = execVsigsetCv d a n p t s := rfl
@[simp] theorem exec_vsigltCv d a n p (s : State) : exec (.vsigltCv d a n p) s = execVsigltCv d a n p s := rfl
@[simp] theorem exec_sigminCv d a p (s : State) : exec (.sigminCv d a p) s = execSigminCv d a p s := rfl
@[simp] theorem exec_vzmaskCv d a p (s : State) : exec (.vzmaskCv d a p) s = execVzmaskCv d a p s := rfl
@[simp] theorem exec_vcvt d a s_ p t r (s : State) : exec (.vcvt d a s_ p t r) s = execVcvt d a s_ p t r s := rfl
@[simp] theorem exec_vpack d a b p t r (s : State) : exec (.vpack d a b p t r) s = execVpack d a b p t r s := rfl
@[simp] theorem exec_vunpack d a p t e (s : State) : exec (.vunpack d a p t e) s = execVunpack d a p t e s := rfl
@[simp] theorem exec_vcbdec d a p t e (s : State) : exec (.vcbdec d a p t e) s = execVcbdec d a p t e s := rfl
@[simp] theorem exec_vscale d a b p t r (s : State) : exec (.vscale d a b p t r) s = execVscale d a b p t r s := rfl
@[simp] theorem exec_mma m n c a b k z p (s : State) : exec (.mma m n c a b k z p) s = execMma m n c a b k z p s := rfl
@[simp] theorem exec_mmaBin m n c a b k z p (s : State) : exec (.mmaBin m n c a b k z p) s = execMmaBin m n c a b k z p s := rfl
@[simp] theorem exec_mzero m n c (s : State) : exec (.mzero m n c) s = execMzero m n c s := rfl
@[simp] theorem exec_mrd m n c a b t (s : State) : exec (.mrd m n c a b t) s = execMrd m n c a b t s := rfl
@[simp] theorem exec_mwr m n c a t (s : State) : exec (.mwr m n c a t) s = execMwr m n c a t s := rfl
@[simp] theorem exec_mld n k a (s : State) : exec (.mld n k a) s = execMld n k a s := rfl
@[simp] theorem exec_mcall d a i_ (s : State) : exec (.mcall d a i_) s = execMcall d a i_ s := rfl
@[simp] theorem exec_cpy h o n a b l (s : State) : exec (.cpy h o n a b l) s = execCpy h o n a b l s := rfl
@[simp] theorem exec_cpyg h o a b l (s : State) : exec (.cpyg h o a b l) s = execCpyg h o a b l s := rfl
@[simp] theorem exec_cpys h o a b l (s : State) : exec (.cpys h o a b l) s = execCpys h o a b l s := rfl
@[simp] theorem exec_cpyf h o n a l (s : State) : exec (.cpyf h o n a l) s = execCpyf h o n a l s := rfl
@[simp] theorem exec_ovl h a b l (s : State) : exec (.ovl h a b l) s = execOvl h a b l s := rfl
@[simp] theorem exec_gamoAdd w a b l (s : State) : exec (.gamoAdd w a b l) s = execGamoAdd w a b l s := rfl
@[simp] theorem exec_gamoAnd w a b l (s : State) : exec (.gamoAnd w a b l) s = execGamoAnd w a b l s := rfl
@[simp] theorem exec_gamoOr w a b l (s : State) : exec (.gamoOr w a b l) s = execGamoOr w a b l s := rfl
@[simp] theorem exec_gamoXor w a b l (s : State) : exec (.gamoXor w a b l) s = execGamoXor w a b l s := rfl
@[simp] theorem exec_gamoMin w a b l (s : State) : exec (.gamoMin w a b l) s = execGamoMin w a b l s := rfl
@[simp] theorem exec_gamoMax w a b l (s : State) : exec (.gamoMax w a b l) s = execGamoMax w a b l s := rfl
@[simp] theorem exec_gamoSwap w a b l (s : State) : exec (.gamoSwap w a b l) s = execGamoSwap w a b l s := rfl
@[simp] theorem exec_gamoCas w a b l (s : State) : exec (.gamoCas w a b l) s = execGamoCas w a b l s := rfl
@[simp] theorem exec_gamoAcqAdd w a b l (s : State) : exec (.gamoAcqAdd w a b l) s = execGamoAcqAdd w a b l s := rfl
@[simp] theorem exec_gamoAcqAnd w a b l (s : State) : exec (.gamoAcqAnd w a b l) s = execGamoAcqAnd w a b l s := rfl
@[simp] theorem exec_gamoAcqOr w a b l (s : State) : exec (.gamoAcqOr w a b l) s = execGamoAcqOr w a b l s := rfl
@[simp] theorem exec_gamoAcqXor w a b l (s : State) : exec (.gamoAcqXor w a b l) s = execGamoAcqXor w a b l s := rfl
@[simp] theorem exec_gamoAcqMin w a b l (s : State) : exec (.gamoAcqMin w a b l) s = execGamoAcqMin w a b l s := rfl
@[simp] theorem exec_gamoAcqMax w a b l (s : State) : exec (.gamoAcqMax w a b l) s = execGamoAcqMax w a b l s := rfl
@[simp] theorem exec_gamoAcqSwap w a b l (s : State) : exec (.gamoAcqSwap w a b l) s = execGamoAcqSwap w a b l s := rfl
@[simp] theorem exec_gamoAcqCas w a b l (s : State) : exec (.gamoAcqCas w a b l) s = execGamoAcqCas w a b l s := rfl
@[simp] theorem exec_gamoRelAdd w a b l (s : State) : exec (.gamoRelAdd w a b l) s = execGamoRelAdd w a b l s := rfl
@[simp] theorem exec_gamoRelAnd w a b l (s : State) : exec (.gamoRelAnd w a b l) s = execGamoRelAnd w a b l s := rfl
@[simp] theorem exec_gamoRelOr w a b l (s : State) : exec (.gamoRelOr w a b l) s = execGamoRelOr w a b l s := rfl
@[simp] theorem exec_gamoRelXor w a b l (s : State) : exec (.gamoRelXor w a b l) s = execGamoRelXor w a b l s := rfl
@[simp] theorem exec_gamoRelMin w a b l (s : State) : exec (.gamoRelMin w a b l) s = execGamoRelMin w a b l s := rfl
@[simp] theorem exec_gamoRelMax w a b l (s : State) : exec (.gamoRelMax w a b l) s = execGamoRelMax w a b l s := rfl
@[simp] theorem exec_gamoRelSwap w a b l (s : State) : exec (.gamoRelSwap w a b l) s = execGamoRelSwap w a b l s := rfl
@[simp] theorem exec_gamoRelCas w a b l (s : State) : exec (.gamoRelCas w a b l) s = execGamoRelCas w a b l s := rfl
@[simp] theorem exec_fsend a b l (s : State) : exec (.fsend a b l) s = execFsend a b l s := rfl
@[simp] theorem exec_frecv a l (s : State) : exec (.frecv a l) s = execFrecv a l s := rfl
@[simp] theorem exec_frecvAddF32 a b l (s : State) : exec (.frecvAddF32 a b l) s = execFrecvAddF32 a b l s := rfl
@[simp] theorem exec_frecvAddBf16 a b l (s : State) : exec (.frecvAddBf16 a b l) s = execFrecvAddBf16 a b l s := rfl
@[simp] theorem exec_frecvMaxF32 a b l (s : State) : exec (.frecvMaxF32 a b l) s = execFrecvMaxF32 a b l s := rfl
@[simp] theorem exec_lnch a b l (s : State) : exec (.lnch a b l) s = execLnch a b l s := rfl
@[simp] theorem exec_cwait (s : State) : exec (.cwait) s = execCwait s := rfl
@[simp] theorem exec_waittExpiry core (s : State) : exec (.waittExpiry core) s = execWaittExpiry core s := rfl
@[simp] theorem exec_waitgExpiry core (s : State) : exec (.waitgExpiry core) s = execWaitgExpiry core s := rfl
@[simp] theorem exec_barrierRelease launch level unit (s : State) : exec (.barrierRelease launch level unit) s = execBarrierRelease launch level unit s := rfl
@[simp] theorem exec_cycleBoundary core (s : State) : exec (.cycleBoundary core) s = execCycleBoundary core s := rfl
@[simp] theorem exec_resultLanding core uid (s : State) : exec (.resultLanding core uid) s = execResultLanding core uid s := rfl
@[simp] theorem exec_storeLanding core uid (s : State) : exec (.storeLanding core uid) s = execStoreLanding core uid s := rfl
@[simp] theorem exec_loadSample core uid (s : State) : exec (.loadSample core uid) s = execLoadSample core uid s := rfl
@[simp] theorem exec_freezeStaggerStop core (s : State) : exec (.freezeStaggerStop core) s = execFreezeStaggerStop core s := rfl
@[simp] theorem exec_thaw launch (s : State) : exec (.thaw launch) s = execThaw launch s := rfl
@[simp] theorem exec_handlerStart core (s : State) : exec (.handlerStart core) s = execHandlerStart core s := rfl
@[simp] theorem exec_tretComplete core (s : State) : exec (.tretComplete core) s = execTretComplete core s := rfl
@[simp] theorem exec_cwaitEnd core (s : State) : exec (.cwaitEnd core) s = execCwaitEnd core s := rfl
@[simp] theorem exec_killFreeze launch (s : State) : exec (.killFreeze launch) s = execKillFreeze launch s := rfl
@[simp] theorem exec_dumpWrite (s : State) : exec (.dumpWrite) s = execDumpWrite s := rfl
@[simp] theorem exec_timerInterrupt core (s : State) : exec (.timerInterrupt core) s = execTimerInterrupt core s := rfl
@[simp] theorem exec_belfryInterruptRequest core (s : State) : exec (.belfryInterruptRequest core) s = execBelfryInterruptRequest core s := rfl
@[simp] theorem exec_debugInterruptRequest core (s : State) : exec (.debugInterruptRequest core) s = execDebugInterruptRequest core s := rfl
@[simp] theorem exec_queueGeneratorStart core uid (s : State) : exec (.queueGeneratorStart core uid) s = execQueueGeneratorStart core uid s := rfl
@[simp] theorem exec_generatorSample core uid (s : State) : exec (.generatorSample core uid) s = execGeneratorSample core uid s := rfl
@[simp] theorem exec_generatorDelivery core uid (s : State) : exec (.generatorDelivery core uid) s = execGeneratorDelivery core uid s := rfl
@[simp] theorem exec_generatorTake core uid (s : State) : exec (.generatorTake core uid) s = execGeneratorTake core uid s := rfl
@[simp] theorem exec_generatorLanding core uid (s : State) : exec (.generatorLanding core uid) s = execGeneratorLanding core uid s := rfl
@[simp] theorem exec_copyStart core uid (s : State) : exec (.copyStart core uid) s = execCopyStart core uid s := rfl
@[simp] theorem exec_pageWalkComplete core uid (s : State) : exec (.pageWalkComplete core uid) s = execPageWalkComplete core uid s := rfl
@[simp] theorem exec_chunkSample core uid (s : State) : exec (.chunkSample core uid) s = execChunkSample core uid s := rfl
@[simp] theorem exec_chunkLanding core uid (s : State) : exec (.chunkLanding core uid) s = execChunkLanding core uid s := rfl
@[simp] theorem exec_gatherIndexSample core uid (s : State) : exec (.gatherIndexSample core uid) s = execGatherIndexSample core uid s := rfl
@[simp] theorem exec_gatherElementSample core uid (s : State) : exec (.gatherElementSample core uid) s = execGatherElementSample core uid s := rfl
@[simp] theorem exec_gatherElementLanding core uid (s : State) : exec (.gatherElementLanding core uid) s = execGatherElementLanding core uid s := rfl
@[simp] theorem exec_overlayLanding core uid (s : State) : exec (.overlayLanding core uid) s = execOverlayLanding core uid s := rfl
@[simp] theorem exec_handlerChannelLanding core uid (s : State) : exec (.handlerChannelLanding core uid) s = execHandlerChannelLanding core uid s := rfl
@[simp] theorem exec_matrixCommandStart core uid (s : State) : exec (.matrixCommandStart core uid) s = execMatrixCommandStart core uid s := rfl
@[simp] theorem exec_mcallStart core uid (s : State) : exec (.mcallStart core uid) s = execMcallStart core uid s := rfl
@[simp] theorem exec_passSample core uid (s : State) : exec (.passSample core uid) s = execPassSample core uid s := rfl
@[simp] theorem exec_passLanding core uid (s : State) : exec (.passLanding core uid) s = execPassLanding core uid s := rfl
@[simp] theorem exec_mzeroBlockLanding core uid (s : State) : exec (.mzeroBlockLanding core uid) s = execMzeroBlockLanding core uid s := rfl
@[simp] theorem exec_mrdStepSample core uid (s : State) : exec (.mrdStepSample core uid) s = execMrdStepSample core uid s := rfl
@[simp] theorem exec_mrdStepLanding core uid (s : State) : exec (.mrdStepLanding core uid) s = execMrdStepLanding core uid s := rfl
@[simp] theorem exec_mwrStepSample core uid (s : State) : exec (.mwrStepSample core uid) s = execMwrStepSample core uid s := rfl
@[simp] theorem exec_mwrStepLanding core uid (s : State) : exec (.mwrStepLanding core uid) s = execMwrStepLanding core uid s := rfl
@[simp] theorem exec_mldSample core uid (s : State) : exec (.mldSample core uid) s = execMldSample core uid s := rfl
@[simp] theorem exec_mldLanding core uid (s : State) : exec (.mldLanding core uid) s = execMldLanding core uid s := rfl
@[simp] theorem exec_amoApply core uid (s : State) : exec (.amoApply core uid) s = execAmoApply core uid s := rfl
@[simp] theorem exec_gamoStart core uid (s : State) : exec (.gamoStart core uid) s = execGamoStart core uid s := rfl
@[simp] theorem exec_gamoApply core uid (s : State) : exec (.gamoApply core uid) s = execGamoApply core uid s := rfl
@[simp] theorem exec_gamoOldValueLanding core uid (s : State) : exec (.gamoOldValueLanding core uid) s = execGamoOldValueLanding core uid s := rfl
@[simp] theorem exec_relIncrement core uid (s : State) : exec (.relIncrement core uid) s = execRelIncrement core uid s := rfl
@[simp] theorem exec_acqSample core uid (s : State) : exec (.acqSample core uid) s = execAcqSample core uid s := rfl
@[simp] theorem exec_lnchStart core uid (s : State) : exec (.lnchStart core uid) s = execLnchStart core uid s := rfl
@[simp] theorem exec_lnchArrival core uid (s : State) : exec (.lnchArrival core uid) s = execLnchArrival core uid s := rfl
@[simp] theorem exec_flitSample core uid (s : State) : exec (.flitSample core uid) s = execFlitSample core uid s := rfl
@[simp] theorem exec_streamFlitSample core uid (s : State) : exec (.streamFlitSample core uid) s = execStreamFlitSample core uid s := rfl
@[simp] theorem exec_streamPacketReceive pkt (s : State) : exec (.streamPacketReceive pkt) s = execStreamPacketReceive pkt s := rfl
@[simp] theorem exec_flitReceive core uid (s : State) : exec (.flitReceive core uid) s = execFlitReceive core uid s := rfl
@[simp] theorem exec_skewFlitArrival launch (s : State) : exec (.skewFlitArrival launch) s = execSkewFlitArrival launch s := rfl
@[simp] theorem exec_skewBudgetExpiry core (s : State) : exec (.skewBudgetExpiry core) s = execSkewBudgetExpiry core s := rfl
@[simp] theorem exec_skewThaw launch (s : State) : exec (.skewThaw launch) s = execSkewThaw launch s := rfl
@[simp] theorem exec_frameSend port (s : State) : exec (.frameSend port) s = execFrameSend port s := rfl
@[simp] theorem exec_frameReceive fr (s : State) : exec (.frameReceive fr) s = execFrameReceive fr s := rfl
@[simp] theorem exec_retryRequest port fnum (s : State) : exec (.retryRequest port fnum) s = execRetryRequest port fnum s := rfl
@[simp] theorem exec_flitArrivalTimeout port (s : State) : exec (.flitArrivalTimeout port) s = execFlitArrivalTimeout port s := rfl
@[simp] theorem exec_portRetrain port (s : State) : exec (.portRetrain port) s = execPortRetrain port s := rfl
@[simp] theorem exec_portTrained port (s : State) : exec (.portTrained port) s = execPortTrained port s := rfl
@[simp] theorem exec_barrierArrivalMessage corr req schc (s : State) : exec (.barrierArrivalMessage corr req schc) s = execBarrierArrivalMessage corr req schc s := rfl
@[simp] theorem exec_freezeMessage corr kind (s : State) : exec (.freezeMessage corr kind) s = execFreezeMessage corr kind s := rfl
@[simp] theorem exec_ptpEventMessage msg (s : State) : exec (.ptpEventMessage msg) s = execPtpEventMessage msg s := rfl
@[simp] theorem exec_syncInterval (s : State) : exec (.syncInterval) s = execSyncInterval s := rfl
@[simp] theorem exec_lossOfMaster (s : State) : exec (.lossOfMaster) s = execLossOfMaster s := rfl
@[simp] theorem exec_linkHealthTick lanes (s : State) : exec (.linkHealthTick lanes) s = execLinkHealthTick lanes s := rfl
@[simp] theorem exec_submit queue (s : State) : exec (.submit queue) s = execSubmit queue s := rfl
@[simp] theorem exec_kill queue (s : State) : exec (.kill queue) s = execKill queue s := rfl
@[simp] theorem exec_preempt queue (s : State) : exec (.preempt queue) s = execPreempt queue s := rfl
@[simp] theorem exec_queueEvaluation (s : State) : exec (.queueEvaluation) s = execQueueEvaluation s := rfl
@[simp] theorem exec_priorityAging launch (s : State) : exec (.priorityAging launch) s = execPriorityAging launch s := rfl
@[simp] theorem exec_startTick launch (s : State) : exec (.startTick launch) s = execStartTick launch s := rfl
@[simp] theorem exec_preemptionFreeze launch (s : State) : exec (.preemptionFreeze launch) s = execPreemptionFreeze launch s := rfl
@[simp] theorem exec_contextSave launch (s : State) : exec (.contextSave launch) s = execContextSave launch s := rfl
@[simp] theorem exec_launchComplete launch (s : State) : exec (.launchComplete launch) s = execLaunchComplete launch s := rfl
@[simp] theorem exec_query mailbox (s : State) : exec (.query mailbox) s = execQuery mailbox s := rfl
@[simp] theorem exec_readtt mailbox (s : State) : exec (.readtt mailbox) s = execReadtt mailbox s := rfl
@[simp] theorem exec_readunit mailbox (s : State) : exec (.readunit mailbox) s = execReadunit mailbox s := rfl
@[simp] theorem exec_condemn mailbox (s : State) : exec (.condemn mailbox) s = execCondemn mailbox s := rfl
@[simp] theorem exec_selftest mailbox (s : State) : exec (.selftest mailbox) s = execSelftest mailbox s := rfl
@[simp] theorem exec_setthr mailbox (s : State) : exec (.setthr mailbox) s = execSetthr mailbox s := rfl
@[simp] theorem exec_install mailbox (s : State) : exec (.install mailbox) s = execInstall mailbox s := rfl
@[simp] theorem exec_setresv mailbox (s : State) : exec (.setresv mailbox) s = execSetresv mailbox s := rfl
@[simp] theorem exec_unitReplacement tower (s : State) : exec (.unitReplacement tower) s = execUnitReplacement tower s := rfl
@[simp] theorem exec_marktag (s : State) : exec (.marktag) s = execMarktag s := rfl
@[simp] theorem exec_inval (s : State) : exec (.inval) s = execInval s := rfl
@[simp] theorem exec_regobj (s : State) : exec (.regobj) s = execRegobj s := rfl
@[simp] theorem exec_unreg (s : State) : exec (.unreg) s = execUnreg s := rfl
@[simp] theorem exec_setdesc (s : State) : exec (.setdesc) s = execSetdesc s := rfl
@[simp] theorem exec_settimer (s : State) : exec (.settimer) s = execSettimer s := rfl
@[simp] theorem exec_resumehost (s : State) : exec (.resumehost) s = execResumehost s := rfl
@[simp] theorem exec_dombubble (s : State) : exec (.dombubble) s = execDombubble s := rfl
@[simp] theorem exec_hostRead offset size (s : State) : exec (.hostRead offset size) s = execHostRead offset size s := rfl
@[simp] theorem exec_hostWrite offset data relaxed (s : State) : exec (.hostWrite offset data relaxed) s = execHostWrite offset data relaxed s := rfl
@[simp] theorem exec_hostAtomic op offset width operand comparand (s : State) : exec (.hostAtomic op offset width operand comparand) s = execHostAtomic op offset width operand comparand s := rfl
@[simp] theorem exec_stop tower (s : State) : exec (.stop tower) s = execStop tower s := rfl
@[simp] theorem exec_run tower (s : State) : exec (.run tower) s = execRun tower s := rfl
@[simp] theorem exec_step tower (s : State) : exec (.step tower) s = execStep tower s := rfl
@[simp] theorem exec_snap tower (s : State) : exec (.snap tower) s = execSnap tower s := rfl
@[simp] theorem exec_stepEnd launch (s : State) : exec (.stepEnd launch) s = execStepEnd launch s := rfl
@[simp] theorem exec_thermalBubble (s : State) : exec (.thermalBubble) s = execThermalBubble s := rfl
@[simp] theorem exec_bubbleEnd (s : State) : exec (.bubbleEnd) s = execBubbleEnd s := rfl
@[simp] theorem exec_telemetryUpdate rails (s : State) : exec (.telemetryUpdate rails) s = execTelemetryUpdate rails s := rfl
@[simp] theorem exec_powerCapUpdate tower watts margin (s : State) : exec (.powerCapUpdate tower watts margin) s = execPowerCapUpdate tower watts margin s := rfl
@[simp] theorem exec_hbmScrub line err (s : State) : exec (.hbmScrub line err) s = execHbmScrub line err s := rfl
@[simp] theorem exec_packageReset (s : State) : exec (.packageReset) s = execPackageReset s := rfl
@[simp] theorem exec_powerOff (s : State) : exec (.powerOff) s = execPowerOff s := rfl
@[simp] theorem exec_registerWrite offset value (s : State) : exec (.registerWrite offset value) s = execRegisterWrite offset value s := rfl
@[simp] theorem exec_illop w (s : State) : exec (.illop w) s = execIllop w s := rfl
@[simp] theorem exec_belfryIssuedAccess belfry queue op (s : State) : exec (.belfryIssuedAccess belfry queue op) s = execBelfryIssuedAccess belfry queue op s := rfl
@[simp] theorem exec_malformedPacket queue (s : State) : exec (.malformedPacket queue) s = execMalformedPacket queue s := rfl
@[simp] theorem exec_submissionDigestExchange corr part (s : State) : exec (.submissionDigestExchange corr part) s = execSubmissionDigestExchange corr part s := rfl
@[simp] theorem exec_stackAboveMaximumTemperature stack (s : State) : exec (.stackAboveMaximumTemperature stack) s = execStackAboveMaximumTemperature stack s := rfl

end Sys2Proof.Machine
end

