-- ==== Sys2Proof/Laws/Fields.lean ====
section
/-! SUPPORT. Fields of 64-bit registers, and the scalar helpers in terms of bits and integers. -/

namespace Sys2Proof.Machine

/-- A value with a field cut out and another put in, bit by bit. -/
theorem testBit_setField (x lo n v : Nat) (j : Nat) :
    (x - x / 2 ^ lo % 2 ^ n * 2 ^ lo + v % 2 ^ n * 2 ^ lo).testBit j =
      if lo ≤ j ∧ j < lo + n then v.testBit (j - lo) else x.testBit j := by
  have h1 : x = 2 ^ lo * (2 ^ n * (x / 2 ^ (lo + n)) + x / 2 ^ lo % 2 ^ n) + x % 2 ^ lo := by
    have a := Nat.div_add_mod x (2 ^ lo)
    have b := Nat.div_add_mod (x / 2 ^ lo) (2 ^ n)
    rw [Nat.div_div_eq_div_mul, ← Nat.pow_add] at b
    rw [b, a]
  have h2 : x - x / 2 ^ lo % 2 ^ n * 2 ^ lo + v % 2 ^ n * 2 ^ lo =
      2 ^ lo * (2 ^ n * (x / 2 ^ (lo + n)) + v % 2 ^ n) + x % 2 ^ lo := by
    generalize x / 2 ^ (lo + n) = t at h1 ⊢
    generalize x / 2 ^ lo % 2 ^ n = f at h1 ⊢
    generalize x % 2 ^ lo = r at h1 ⊢
    generalize v % 2 ^ n = u at h1 ⊢
    rw [Nat.mul_add] at h1 ⊢
    rw [Nat.mul_comm f, Nat.mul_comm u]
    omega
  have hr : x % 2 ^ lo < 2 ^ lo := Nat.mod_lt _ (Nat.two_pow_pos lo)
  have hv : v % 2 ^ n < 2 ^ n := Nat.mod_lt _ (Nat.two_pow_pos n)
  have hf : x / 2 ^ lo % 2 ^ n < 2 ^ n := Nat.mod_lt _ (Nat.two_pow_pos n)
  rw [h2, Nat.testBit_two_pow_mul_add _ hr, Nat.testBit_two_pow_mul_add _ hv]
  conv => rhs; rw [h1, Nat.testBit_two_pow_mul_add _ hr, Nat.testBit_two_pow_mul_add _ hf]
  by_cases c1 : j < lo
  · rw [if_pos c1, if_neg (by omega), if_pos c1]
  · rw [if_neg c1, if_neg c1]
    by_cases c2 : j - lo < n
    · rw [if_pos c2, if_pos ⟨by omega, by omega⟩, Nat.testBit_mod_two_pow]
      simp [c2]
    · rw [if_neg c2, if_neg (by omega), if_neg c2]

/-- The bits of a register with a field replaced. -/
theorem getLsbD_setField (w : Word) (lo n v : Nat) {j : Nat} (hj : j < 64) :
    (setField w lo n v).getLsbD j = if lo ≤ j ∧ j < lo + n then v.testBit (j - lo) else w.getLsbD j := by
  unfold setField field
  rw [BitVec.getLsbD_ofNat, testBit_setField]
  simp [hj, BitVec.getLsbD]

/-- The bits of a field. -/
theorem testBit_field (w : Word) (lo n j : Nat) : (field w lo n).testBit j = (decide (j < n) && w.getLsbD (lo + j)) := by
  unfold field
  rw [Nat.testBit_mod_two_pow, Nat.testBit_div_two_pow, Nat.add_comm]
  rfl

theorem field_lt (w : Word) (lo n : Nat) : field w lo n < 2 ^ n := Nat.mod_lt _ (Nat.two_pow_pos n)

/-- Reading a field that was set. -/
theorem field_setField_same (w : Word) {lo n : Nat} (h : lo + n ≤ 64) (v : Nat) : field (setField w lo n v) lo n = v % 2 ^ n := by
  apply Nat.eq_of_testBit_eq
  intro j
  rw [testBit_field, Nat.testBit_mod_two_pow]
  by_cases hj : j < n
  · rw [getLsbD_setField _ _ _ _ (by omega), if_pos ⟨by omega, by omega⟩]
    simp [hj]
  · simp [hj]

/-- Reading a field apart from the one that was set. -/
theorem field_setField_other (w : Word) {lo n lo' n' : Nat} (h : lo' + n' ≤ 64) (hd : lo' + n' ≤ lo ∨ lo + n ≤ lo') (v : Nat) :
    field (setField w lo n v) lo' n' = field w lo' n' := by
  apply Nat.eq_of_testBit_eq
  intro j
  rw [testBit_field, testBit_field]
  by_cases hj : j < n'
  · rw [getLsbD_setField _ _ _ _ (by omega), if_neg (by omega)]
  · simp [hj]

/-! Bit counts. -/

theorem clzFrom_spec (w : Word) (n : Nat) : clzFrom w n ≤ n ∧ (∀ i < clzFrom w n, w.getLsbD (n - 1 - i) = false) ∧
    (clzFrom w n < n → w.getLsbD (n - 1 - clzFrom w n) = true) := by
  induction n with
  | zero => simp [clzFrom]
  | succ n ih =>
    obtain ⟨h1, h2, h3⟩ := ih
    unfold clzFrom
    split
    · rename_i h
      simp [h]
    · rename_i h
      simp only [Bool.not_eq_true] at h
      refine ⟨by omega, fun i hi => ?_, fun hl => ?_⟩
      · cases i with
        | zero => simpa using h
        | succ i => have := h2 i (by omega); rw [← this]; congr 1; omega
      · have := h3 (by omega); rw [← this]; congr 1; omega

theorem ctzFrom_spec (w : Word) (n i : Nat) : ctzFrom w n i ≤ n ∧ (∀ j < ctzFrom w n i, w.getLsbD (i + j) = false) ∧
    (ctzFrom w n i < n → w.getLsbD (i + ctzFrom w n i) = true) := by
  induction n generalizing i with
  | zero => simp [ctzFrom]
  | succ n ih =>
    obtain ⟨h1, h2, h3⟩ := ih (i + 1)
    unfold ctzFrom
    split
    · rename_i h
      simp [h]
    · rename_i h
      simp only [Bool.not_eq_true] at h
      refine ⟨by omega, fun j hj => ?_, fun hl => ?_⟩
      · cases j with
        | zero => simpa using h
        | succ j => have := h2 j (by omega); rw [← this]; congr 1; omega
      · have := h3 (by omega); rw [← this]; congr 1; omega

theorem popFrom_eq (w : BitVec 64) (n : Nat) : popFrom w n = ((List.range n).filter w.getLsbD).length := by
  induction n with
  | zero => rfl
  | succ n ih =>
    rw [popFrom, ih, List.range_succ, List.filter_append, List.length_append]
    by_cases h : w.getLsbD n = true
    · simp [h, Nat.add_comm]
    · simp [h]

end Sys2Proof.Machine
end

