-- ==== Sys2Proof/Laws/Memory.lean ====
section
/-! SUPPORT. Laws of memory and of sorted key-value lists: reads after writes, and the canonical form that every write keeps. -/

namespace Sys2Proof.Machine

/-! Key-value lists. -/

@[simp] theorem alGet_alSet_same {α : Type} (d : α) (l : List (Nat × α)) (k : Nat) (v : α) : alGet d (alSet l k v) k = v := by
  induction l with
  | nil => simp [alSet, alGet]
  | cons x r ih =>
    unfold alSet
    split
    · simp [alGet]
    · split
      · simp [alGet]
      · rename_i h1 h2
        have : (x.1 == k) = false := by simp; omega
        simpa [alGet, this] using ih

theorem alGet_alSet_other {α : Type} (d : α) (l : List (Nat × α)) {j k : Nat} (v : α) (h : j ≠ k) :
    alGet d (alSet l k v) j = alGet d l j := by
  induction l with
  | nil => simp [alSet, alGet, Ne.symm h]
  | cons x r ih =>
    unfold alSet
    split
    · simp [alGet, Ne.symm h]
    · split
      · rename_i h1 h2
        have : (x.1 == j) = false := by simp; omega
        simp [alGet, this, Ne.symm h]
      · by_cases hx : x.1 = j
        · simp [alGet, hx]
        · simpa [alGet, hx] using ih

/-- The later of two sets at one key stands. -/
@[simp] theorem alSet_alSet_same {α : Type} (l : List (Nat × α)) (k : Nat) (v w : α) : alSet (alSet l k v) k w = alSet l k w := by
  induction l with
  | nil => simp [alSet]
  | cons x r ih =>
    by_cases h : k < x.1
    · simp [alSet, h]
    · by_cases e : k = x.1
      · simp [alSet, e]
      · simp [alSet, h, e, ih]

/-- Reading after a set: the new value at its key, the old one elsewhere. -/
theorem alGet_alSet {α : Type} (d : α) (l : List (Nat × α)) (j k : Nat) (v : α) :
    alGet d (alSet l k v) j = if j = k then v else alGet d l j := by
  split
  · subst j; simp
  · exact alGet_alSet_other d l v ‹_›

/-! Cells of a run. -/

theorem mem_cellsFrom {a : Nat} {bs : List Byte} {c : Host.Cell} (h : c ∈ cellsFrom a bs) :
    a ≤ c.1 ∧ c.1 < a + bs.length ∧ c.2 ≠ blank c.1 := by
  induction bs generalizing a with
  | nil => simp [cellsFrom] at h
  | cons b r ih =>
    simp only [cellsFrom] at h
    split at h
    · obtain ⟨h1, h2, h3⟩ := ih h
      simp only [List.length_cons]
      exact ⟨by omega, by omega, h3⟩
    · rcases List.mem_cons.mp h with rfl | h
      · simp only [List.length_cons]
        exact ⟨by omega, by omega, ‹_›⟩
      · obtain ⟨h1, h2, h3⟩ := ih h
        simp only [List.length_cons]
        exact ⟨by omega, by omega, h3⟩

theorem cellsFrom_rising (a : Nat) (bs : List Byte) : List.Pairwise (fun c d => c.1 < d.1) (cellsFrom a bs) := by
  induction bs generalizing a with
  | nil => simp [cellsFrom]
  | cons b r ih =>
    simp only [cellsFrom]
    split
    · exact ih _
    · refine List.Pairwise.cons (fun d hd => ?_) (ih _)
      have := mem_cellsFrom hd
      simp only; omega

/-- The byte that a list of cells gives for an address. -/
theorem get_append_none {m : Memory} {a : Nat} (h : ∀ c ∈ m, c.1 ≠ a) (n : Memory) : Memory.get (m ++ n) a = n.get a := by
  have : List.find? (fun c => c.1 == a) m = none := by
    simp only [List.find?_eq_none, beq_iff_eq]
    exact fun c hc => h c hc
  simp [Memory.get, this]

theorem get_cellsFrom {a : Nat} {bs : List Byte} (n : Memory) (hn : ∀ c ∈ n, a + bs.length ≤ c.1) {i : Nat} (hi : i < bs.length) :
    Memory.get (cellsFrom a bs ++ n) (a + i) = bs.getD i 0 := by
  induction bs generalizing a i with
  | nil => simp at hi
  | cons b r ih =>
    simp only [cellsFrom]
    cases i with
    | zero =>
      split
      · rename_i hb
        have hc : ∀ c ∈ cellsFrom (a + 1) r ++ n, c.1 ≠ a := by
          intro c hc
          rcases List.mem_append.mp hc with hc | hc
          · have := mem_cellsFrom hc; omega
          · have := hn c hc; simp only [List.length_cons] at this; omega
        have := get_append_none hc []
        simp only [List.append_nil] at this
        simp only [Nat.add_zero]
        rw [this]
        simp [Memory.get, hb]
      · simp [Memory.get]
    | succ i =>
      have ih' := ih (a := a + 1) (i := i) (fun c hc => by have := hn c hc; simp only [List.length_cons] at this; omega)
        (by simpa using hi)
      have e : a + (i + 1) = a + 1 + i := by omega
      rw [e]
      split
      · simpa using ih'
      · have : (a == a + 1 + i) = false := by simp; omega
        simpa [Memory.get, this] using ih'

/-! Reads after writes. -/

/-- A read inside a written run gives the byte written. -/
theorem Memory.get_write_same (m : Memory) (a : Nat) (bs : List Byte) {i : Nat} (hi : i < bs.length) :
    (m.write a bs).get (a + i) = bs.getD i 0 := by
  unfold Memory.write
  rw [List.append_assoc, get_append_none]
  · exact get_cellsFrom _ (fun c hc => by simpa using (List.mem_filter.mp hc).2) hi
  · intro c hc
    have := (List.mem_filter.mp hc).2
    simp only [decide_eq_true_eq] at this; omega

theorem find_filter {m : Memory} {p : Host.Cell → Bool} {b : Nat} (hp : ∀ c : Host.Cell, c.1 = b → p c = true) :
    List.find? (fun c => c.1 == b) (m.filter p) = List.find? (fun c => c.1 == b) m := by
  induction m with
  | nil => rfl
  | cons c r ih =>
    by_cases h : c.1 = b
    · simp [hp c h, h]
    · by_cases hc : p c = true
      · simp [hc, h, ih]
      · simp [hc, h, ih]

theorem get_filter {m : Memory} {p : Host.Cell → Bool} {b : Nat} (hp : ∀ c : Host.Cell, c.1 = b → p c = true) :
    Memory.get (m.filter p) b = m.get b := by
  unfold Memory.get
  rw [find_filter hp]

theorem get_append_right_none {m n : Memory} {a : Nat} (h : ∀ c ∈ n, c.1 ≠ a) : Memory.get (m ++ n) a = m.get a := by
  have : List.find? (fun c => c.1 == a) n = none := by
    simp only [List.find?_eq_none, beq_iff_eq]
    exact fun c hc => h c hc
  simp [Memory.get, List.find?_append, this]

/-- A read outside a written run gives what it gave before. -/
theorem Memory.get_write_other (m : Memory) (a : Nat) (bs : List Byte) {b : Nat} (hb : b < a ∨ a + bs.length ≤ b) :
    (m.write a bs).get b = m.get b := by
  unfold Memory.write
  rcases Nat.lt_or_ge b a with h | h
  · rw [List.append_assoc, get_append_right_none, get_filter]
    · intro c hc; simp [hc, h]
    · intro c hc
      rcases List.mem_append.mp hc with hc | hc
      · have := mem_cellsFrom hc; omega
      · have := (List.mem_filter.mp hc).2
        simp only [decide_eq_true_eq] at this; omega
  · have hb' : a + bs.length ≤ b := by omega
    rw [get_append_none, get_filter]
    · intro c hc; simp [hc, hb']
    · intro c hc
      rcases List.mem_append.mp hc with hc | hc
      · have := (List.mem_filter.mp hc).2
        simp only [decide_eq_true_eq] at this; omega
      · have := mem_cellsFrom hc; omega

theorem Memory.length_read (m : Memory) (a n : Nat) : (m.read a n).length = n := by
  induction n generalizing a with
  | zero => rfl
  | succ n ih => simp [Memory.read, ih]

/-- A read of several bytes apart from a written run. -/
theorem Memory.read_write_other (m : Memory) (a : Nat) (bs : List Byte) {b n : Nat} (h : b + n ≤ a ∨ a + bs.length ≤ b) :
    (m.write a bs).read b n = m.read b n := by
  induction n generalizing b with
  | zero => rfl
  | succ n ih =>
    simp only [Memory.read]
    rw [Memory.get_write_other _ _ _ (by omega), ih (by omega)]

/-- A read of exactly the written run. -/
theorem Memory.read_write_same (m : Memory) (a : Nat) (bs : List Byte) : (m.write a bs).read a bs.length = bs := by
  have key : ∀ (cs : List Byte) (k : Nat), bs.drop k = cs → (m.write a bs).read (a + k) cs.length = cs := by
    intro cs
    induction cs with
    | nil => intro k _; rfl
    | cons c r ih =>
      intro k hk
      have hl : k < bs.length := by
        have : (bs.drop k).length = r.length + 1 := by rw [hk]; rfl
        simp only [List.length_drop] at this; omega
      have hc : bs.getD k 0 = c := by
        have : (bs.drop k)[0]? = some c := by rw [hk]; rfl
        rw [List.getElem?_drop] at this
        simp only [Nat.add_zero] at this
        simp [List.getD, this]
      simp only [List.length_cons, Memory.read]
      rw [Memory.get_write_same _ _ _ hl, hc]
      have := ih (k + 1) (by rw [← List.drop_drop, hk]; rfl)
      rw [Nat.add_assoc, this]
  exact key bs 0 rfl

theorem leBytes_length (v n : Nat) : (leBytes v n).length = n := by
  induction n generalizing v with
  | zero => rfl
  | succ n ih => simp [leBytes, ih]

theorem leValue_leBytes (v n : Nat) : leValue (leBytes v n) = v % 256 ^ n := by
  induction n generalizing v with
  | zero => simp [leBytes, leValue, Nat.mod_one]
  | succ n ih =>
    simp only [leBytes, leValue, ih, BitVec.toNat_ofNat, show (2 : Nat) ^ 8 = 256 from rfl]
    rw [Nat.pow_succ, Nat.mul_comm (256 ^ n) 256, Nat.mod_mul]

/-- A stored value reads back, cut to the bytes stored. -/
theorem Memory.value_write_same (m : Memory) (a v n : Nat) : (m.write a (leBytes v n)).value a n = v % 256 ^ n := by
  have := Memory.read_write_same m a (leBytes v n)
  rw [leBytes_length] at this
  rw [Memory.value, this, leValue_leBytes]

/-! The canonical form. -/

theorem Memory.wf_iff {m : Memory} : m.wf = true ↔ List.Pairwise (fun c d => c.1 < d.1) m ∧ ∀ c ∈ m, c.2 ≠ blank c.1 := by
  simp [Memory.wf]

@[simp] theorem Memory.wf_nil : Memory.wf [] = true := by simp [Memory.wf]

/-- Every write keeps the canonical form. -/
theorem Memory.wf_write {m : Memory} (h : m.wf = true) (a : Nat) (bs : List Byte) : (m.write a bs).wf = true := by
  rw [Memory.wf_iff] at h ⊢
  obtain ⟨hr, hb⟩ := h
  constructor
  · unfold Memory.write
    rw [List.append_assoc, List.pairwise_append, List.pairwise_append]
    refine ⟨hr.filter _, ⟨cellsFrom_rising _ _, hr.filter _, ?_⟩, ?_⟩
    · intro c hc d hd
      have h1 := mem_cellsFrom hc
      have h2 := (List.mem_filter.mp hd).2
      simp only [decide_eq_true_eq] at h2; omega
    · intro c hc d hd
      have h1 := (List.mem_filter.mp hc).2
      simp only [decide_eq_true_eq] at h1
      rcases List.mem_append.mp hd with hd | hd
      · have := mem_cellsFrom hd; omega
      · have h2 := (List.mem_filter.mp hd).2
        simp only [decide_eq_true_eq] at h2; omega
  · intro c hc
    unfold Memory.write at hc
    rw [List.append_assoc] at hc
    rcases List.mem_append.mp hc with hc | hc
    · exact hb c (List.mem_filter.mp hc).1
    · rcases List.mem_append.mp hc with hc | hc
      · exact (mem_cellsFrom hc).2.2
      · exact hb c (List.mem_filter.mp hc).1

end Sys2Proof.Machine
end

