-- ==== Sys2Proof/Laws/State.lean ====
section
/-! SUPPORT. What each update of the state or of a core leaves as it was: one lemma for each field and update, by definition. -/

namespace Sys2Proof.Machine

/-! `State.setCore`. -/

@[simp] theorem State.setCore_wall (s : State) (k : Nat) (c : Core) : (s.setCore k c).wall = s.wall := rfl
@[simp] theorem State.setCore_stage (s : State) (k : Nat) (c : Core) : (s.setCore k c).stage = s.stage := rfl
@[simp] theorem State.setCore_cur (s : State) (k : Nat) (c : Core) : (s.setCore k c).cur = s.cur := rfl
@[simp] theorem State.setCore_spires (s : State) (k : Nat) (c : Core) : (s.setCore k c).spires = s.spires := rfl
@[simp] theorem State.setCore_mem (s : State) (k : Nat) (c : Core) : (s.setCore k c).mem = s.mem := rfl
@[simp] theorem State.setCore_tags (s : State) (k : Nat) (c : Core) : (s.setCore k c).tags = s.tags := rfl
@[simp] theorem State.setCore_poison (s : State) (k : Nat) (c : Core) : (s.setCore k c).poison = s.poison := rfl
@[simp] theorem State.setCore_gran (s : State) (k : Nat) (c : Core) : (s.setCore k c).gran = s.gran := rfl
@[simp] theorem State.setCore_launches (s : State) (k : Nat) (c : Core) : (s.setCore k c).launches = s.launches := rfl
@[simp] theorem State.setCore_l2 (s : State) (k : Nat) (c : Core) : (s.setCore k c).l2 = s.l2 := rfl
@[simp] theorem State.setCore_bel (s : State) (k : Nat) (c : Core) : (s.setCore k c).bel = s.bel := rfl
@[simp] theorem State.setCore_seq (s : State) (k : Nat) (c : Core) : (s.setCore k c).seq = s.seq := rfl
@[simp] theorem State.setCore_lanterns (s : State) (k : Nat) (c : Core) : (s.setCore k c).lanterns = s.lanterns := rfl
@[simp] theorem State.setCore_host (s : State) (k : Nat) (c : Core) : (s.setCore k c).host = s.host := rfl
@[simp] theorem State.setCore_ports (s : State) (k : Nat) (c : Core) : (s.setCore k c).ports = s.ports := rfl
@[simp] theorem State.setCore_gtime9 (s : State) (k : Nat) (c : Core) : (s.setCore k c).gtime9 = s.gtime9 := rfl
@[simp] theorem State.setCore_pkgFreeze (s : State) (k : Nat) (c : Core) : (s.setCore k c).pkgFreeze = s.pkgFreeze := rfl
@[simp] theorem State.setCore_inputs (s : State) (k : Nat) (c : Core) : (s.setCore k c).inputs = s.inputs := rfl
@[simp] theorem State.setCore_free (s : State) (k : Nat) (c : Core) : (s.setCore k c).free = s.free := rfl

/-! `State.modCore`. -/

@[simp] theorem State.modCore_wall (s : State) (k : Nat) (g : Core → Core) : (s.modCore k g).wall = s.wall := rfl
@[simp] theorem State.modCore_stage (s : State) (k : Nat) (g : Core → Core) : (s.modCore k g).stage = s.stage := rfl
@[simp] theorem State.modCore_cur (s : State) (k : Nat) (g : Core → Core) : (s.modCore k g).cur = s.cur := rfl
@[simp] theorem State.modCore_spires (s : State) (k : Nat) (g : Core → Core) : (s.modCore k g).spires = s.spires := rfl
@[simp] theorem State.modCore_mem (s : State) (k : Nat) (g : Core → Core) : (s.modCore k g).mem = s.mem := rfl
@[simp] theorem State.modCore_tags (s : State) (k : Nat) (g : Core → Core) : (s.modCore k g).tags = s.tags := rfl
@[simp] theorem State.modCore_poison (s : State) (k : Nat) (g : Core → Core) : (s.modCore k g).poison = s.poison := rfl
@[simp] theorem State.modCore_gran (s : State) (k : Nat) (g : Core → Core) : (s.modCore k g).gran = s.gran := rfl
@[simp] theorem State.modCore_launches (s : State) (k : Nat) (g : Core → Core) : (s.modCore k g).launches = s.launches := rfl
@[simp] theorem State.modCore_l2 (s : State) (k : Nat) (g : Core → Core) : (s.modCore k g).l2 = s.l2 := rfl
@[simp] theorem State.modCore_bel (s : State) (k : Nat) (g : Core → Core) : (s.modCore k g).bel = s.bel := rfl
@[simp] theorem State.modCore_seq (s : State) (k : Nat) (g : Core → Core) : (s.modCore k g).seq = s.seq := rfl
@[simp] theorem State.modCore_lanterns (s : State) (k : Nat) (g : Core → Core) : (s.modCore k g).lanterns = s.lanterns := rfl
@[simp] theorem State.modCore_host (s : State) (k : Nat) (g : Core → Core) : (s.modCore k g).host = s.host := rfl
@[simp] theorem State.modCore_ports (s : State) (k : Nat) (g : Core → Core) : (s.modCore k g).ports = s.ports := rfl
@[simp] theorem State.modCore_gtime9 (s : State) (k : Nat) (g : Core → Core) : (s.modCore k g).gtime9 = s.gtime9 := rfl
@[simp] theorem State.modCore_pkgFreeze (s : State) (k : Nat) (g : Core → Core) : (s.modCore k g).pkgFreeze = s.pkgFreeze := rfl
@[simp] theorem State.modCore_inputs (s : State) (k : Nat) (g : Core → Core) : (s.modCore k g).inputs = s.inputs := rfl
@[simp] theorem State.modCore_free (s : State) (k : Nat) (g : Core → Core) : (s.modCore k g).free = s.free := rfl

/-! `State.setSpire`. -/

@[simp] theorem State.setSpire_wall (s : State) (k : Nat) (x : Spire) : (s.setSpire k x).wall = s.wall := rfl
@[simp] theorem State.setSpire_stage (s : State) (k : Nat) (x : Spire) : (s.setSpire k x).stage = s.stage := rfl
@[simp] theorem State.setSpire_cur (s : State) (k : Nat) (x : Spire) : (s.setSpire k x).cur = s.cur := rfl
@[simp] theorem State.setSpire_cores (s : State) (k : Nat) (x : Spire) : (s.setSpire k x).cores = s.cores := rfl
@[simp] theorem State.setSpire_mem (s : State) (k : Nat) (x : Spire) : (s.setSpire k x).mem = s.mem := rfl
@[simp] theorem State.setSpire_tags (s : State) (k : Nat) (x : Spire) : (s.setSpire k x).tags = s.tags := rfl
@[simp] theorem State.setSpire_poison (s : State) (k : Nat) (x : Spire) : (s.setSpire k x).poison = s.poison := rfl
@[simp] theorem State.setSpire_gran (s : State) (k : Nat) (x : Spire) : (s.setSpire k x).gran = s.gran := rfl
@[simp] theorem State.setSpire_launches (s : State) (k : Nat) (x : Spire) : (s.setSpire k x).launches = s.launches := rfl
@[simp] theorem State.setSpire_l2 (s : State) (k : Nat) (x : Spire) : (s.setSpire k x).l2 = s.l2 := rfl
@[simp] theorem State.setSpire_bel (s : State) (k : Nat) (x : Spire) : (s.setSpire k x).bel = s.bel := rfl
@[simp] theorem State.setSpire_seq (s : State) (k : Nat) (x : Spire) : (s.setSpire k x).seq = s.seq := rfl
@[simp] theorem State.setSpire_lanterns (s : State) (k : Nat) (x : Spire) : (s.setSpire k x).lanterns = s.lanterns := rfl
@[simp] theorem State.setSpire_host (s : State) (k : Nat) (x : Spire) : (s.setSpire k x).host = s.host := rfl
@[simp] theorem State.setSpire_ports (s : State) (k : Nat) (x : Spire) : (s.setSpire k x).ports = s.ports := rfl
@[simp] theorem State.setSpire_gtime9 (s : State) (k : Nat) (x : Spire) : (s.setSpire k x).gtime9 = s.gtime9 := rfl
@[simp] theorem State.setSpire_pkgFreeze (s : State) (k : Nat) (x : Spire) : (s.setSpire k x).pkgFreeze = s.pkgFreeze := rfl
@[simp] theorem State.setSpire_inputs (s : State) (k : Nat) (x : Spire) : (s.setSpire k x).inputs = s.inputs := rfl
@[simp] theorem State.setSpire_free (s : State) (k : Nat) (x : Spire) : (s.setSpire k x).free = s.free := rfl

/-! `State.setLaunch`. -/

@[simp] theorem State.setLaunch_wall (s : State) (k : Nat) (l : Launch) : (s.setLaunch k l).wall = s.wall := rfl
@[simp] theorem State.setLaunch_stage (s : State) (k : Nat) (l : Launch) : (s.setLaunch k l).stage = s.stage := rfl
@[simp] theorem State.setLaunch_cur (s : State) (k : Nat) (l : Launch) : (s.setLaunch k l).cur = s.cur := rfl
@[simp] theorem State.setLaunch_cores (s : State) (k : Nat) (l : Launch) : (s.setLaunch k l).cores = s.cores := rfl
@[simp] theorem State.setLaunch_spires (s : State) (k : Nat) (l : Launch) : (s.setLaunch k l).spires = s.spires := rfl
@[simp] theorem State.setLaunch_mem (s : State) (k : Nat) (l : Launch) : (s.setLaunch k l).mem = s.mem := rfl
@[simp] theorem State.setLaunch_tags (s : State) (k : Nat) (l : Launch) : (s.setLaunch k l).tags = s.tags := rfl
@[simp] theorem State.setLaunch_poison (s : State) (k : Nat) (l : Launch) : (s.setLaunch k l).poison = s.poison := rfl
@[simp] theorem State.setLaunch_gran (s : State) (k : Nat) (l : Launch) : (s.setLaunch k l).gran = s.gran := rfl
@[simp] theorem State.setLaunch_l2 (s : State) (k : Nat) (l : Launch) : (s.setLaunch k l).l2 = s.l2 := rfl
@[simp] theorem State.setLaunch_bel (s : State) (k : Nat) (l : Launch) : (s.setLaunch k l).bel = s.bel := rfl
@[simp] theorem State.setLaunch_seq (s : State) (k : Nat) (l : Launch) : (s.setLaunch k l).seq = s.seq := rfl
@[simp] theorem State.setLaunch_lanterns (s : State) (k : Nat) (l : Launch) : (s.setLaunch k l).lanterns = s.lanterns := rfl
@[simp] theorem State.setLaunch_host (s : State) (k : Nat) (l : Launch) : (s.setLaunch k l).host = s.host := rfl
@[simp] theorem State.setLaunch_ports (s : State) (k : Nat) (l : Launch) : (s.setLaunch k l).ports = s.ports := rfl
@[simp] theorem State.setLaunch_gtime9 (s : State) (k : Nat) (l : Launch) : (s.setLaunch k l).gtime9 = s.gtime9 := rfl
@[simp] theorem State.setLaunch_pkgFreeze (s : State) (k : Nat) (l : Launch) : (s.setLaunch k l).pkgFreeze = s.pkgFreeze := rfl
@[simp] theorem State.setLaunch_inputs (s : State) (k : Nat) (l : Launch) : (s.setLaunch k l).inputs = s.inputs := rfl
@[simp] theorem State.setLaunch_free (s : State) (k : Nat) (l : Launch) : (s.setLaunch k l).free = s.free := rfl

/-! `State.modLaunch`. -/

@[simp] theorem State.modLaunch_wall (s : State) (k : Nat) (g : Launch → Launch) : (s.modLaunch k g).wall = s.wall := rfl
@[simp] theorem State.modLaunch_stage (s : State) (k : Nat) (g : Launch → Launch) : (s.modLaunch k g).stage = s.stage := rfl
@[simp] theorem State.modLaunch_cur (s : State) (k : Nat) (g : Launch → Launch) : (s.modLaunch k g).cur = s.cur := rfl
@[simp] theorem State.modLaunch_cores (s : State) (k : Nat) (g : Launch → Launch) : (s.modLaunch k g).cores = s.cores := rfl
@[simp] theorem State.modLaunch_spires (s : State) (k : Nat) (g : Launch → Launch) : (s.modLaunch k g).spires = s.spires := rfl
@[simp] theorem State.modLaunch_mem (s : State) (k : Nat) (g : Launch → Launch) : (s.modLaunch k g).mem = s.mem := rfl
@[simp] theorem State.modLaunch_tags (s : State) (k : Nat) (g : Launch → Launch) : (s.modLaunch k g).tags = s.tags := rfl
@[simp] theorem State.modLaunch_poison (s : State) (k : Nat) (g : Launch → Launch) : (s.modLaunch k g).poison = s.poison := rfl
@[simp] theorem State.modLaunch_gran (s : State) (k : Nat) (g : Launch → Launch) : (s.modLaunch k g).gran = s.gran := rfl
@[simp] theorem State.modLaunch_l2 (s : State) (k : Nat) (g : Launch → Launch) : (s.modLaunch k g).l2 = s.l2 := rfl
@[simp] theorem State.modLaunch_bel (s : State) (k : Nat) (g : Launch → Launch) : (s.modLaunch k g).bel = s.bel := rfl
@[simp] theorem State.modLaunch_seq (s : State) (k : Nat) (g : Launch → Launch) : (s.modLaunch k g).seq = s.seq := rfl
@[simp] theorem State.modLaunch_lanterns (s : State) (k : Nat) (g : Launch → Launch) : (s.modLaunch k g).lanterns = s.lanterns := rfl
@[simp] theorem State.modLaunch_host (s : State) (k : Nat) (g : Launch → Launch) : (s.modLaunch k g).host = s.host := rfl
@[simp] theorem State.modLaunch_ports (s : State) (k : Nat) (g : Launch → Launch) : (s.modLaunch k g).ports = s.ports := rfl
@[simp] theorem State.modLaunch_gtime9 (s : State) (k : Nat) (g : Launch → Launch) : (s.modLaunch k g).gtime9 = s.gtime9 := rfl
@[simp] theorem State.modLaunch_pkgFreeze (s : State) (k : Nat) (g : Launch → Launch) : (s.modLaunch k g).pkgFreeze = s.pkgFreeze := rfl
@[simp] theorem State.modLaunch_inputs (s : State) (k : Nat) (g : Launch → Launch) : (s.modLaunch k g).inputs = s.inputs := rfl
@[simp] theorem State.modLaunch_free (s : State) (k : Nat) (g : Launch → Launch) : (s.modLaunch k g).free = s.free := rfl

/-! `State.setPort`. -/

@[simp] theorem State.setPort_wall (s : State) (k : Nat) (x : Port) : (s.setPort k x).wall = s.wall := rfl
@[simp] theorem State.setPort_stage (s : State) (k : Nat) (x : Port) : (s.setPort k x).stage = s.stage := rfl
@[simp] theorem State.setPort_cur (s : State) (k : Nat) (x : Port) : (s.setPort k x).cur = s.cur := rfl
@[simp] theorem State.setPort_cores (s : State) (k : Nat) (x : Port) : (s.setPort k x).cores = s.cores := rfl
@[simp] theorem State.setPort_spires (s : State) (k : Nat) (x : Port) : (s.setPort k x).spires = s.spires := rfl
@[simp] theorem State.setPort_mem (s : State) (k : Nat) (x : Port) : (s.setPort k x).mem = s.mem := rfl
@[simp] theorem State.setPort_tags (s : State) (k : Nat) (x : Port) : (s.setPort k x).tags = s.tags := rfl
@[simp] theorem State.setPort_poison (s : State) (k : Nat) (x : Port) : (s.setPort k x).poison = s.poison := rfl
@[simp] theorem State.setPort_gran (s : State) (k : Nat) (x : Port) : (s.setPort k x).gran = s.gran := rfl
@[simp] theorem State.setPort_launches (s : State) (k : Nat) (x : Port) : (s.setPort k x).launches = s.launches := rfl
@[simp] theorem State.setPort_l2 (s : State) (k : Nat) (x : Port) : (s.setPort k x).l2 = s.l2 := rfl
@[simp] theorem State.setPort_bel (s : State) (k : Nat) (x : Port) : (s.setPort k x).bel = s.bel := rfl
@[simp] theorem State.setPort_seq (s : State) (k : Nat) (x : Port) : (s.setPort k x).seq = s.seq := rfl
@[simp] theorem State.setPort_lanterns (s : State) (k : Nat) (x : Port) : (s.setPort k x).lanterns = s.lanterns := rfl
@[simp] theorem State.setPort_host (s : State) (k : Nat) (x : Port) : (s.setPort k x).host = s.host := rfl
@[simp] theorem State.setPort_gtime9 (s : State) (k : Nat) (x : Port) : (s.setPort k x).gtime9 = s.gtime9 := rfl
@[simp] theorem State.setPort_pkgFreeze (s : State) (k : Nat) (x : Port) : (s.setPort k x).pkgFreeze = s.pkgFreeze := rfl
@[simp] theorem State.setPort_inputs (s : State) (k : Nat) (x : Port) : (s.setPort k x).inputs = s.inputs := rfl
@[simp] theorem State.setPort_free (s : State) (k : Nat) (x : Port) : (s.setPort k x).free = s.free := rfl

/-! `State.modPort`. -/

@[simp] theorem State.modPort_wall (s : State) (k : Nat) (g : Port → Port) : (s.modPort k g).wall = s.wall := rfl
@[simp] theorem State.modPort_stage (s : State) (k : Nat) (g : Port → Port) : (s.modPort k g).stage = s.stage := rfl
@[simp] theorem State.modPort_cur (s : State) (k : Nat) (g : Port → Port) : (s.modPort k g).cur = s.cur := rfl
@[simp] theorem State.modPort_cores (s : State) (k : Nat) (g : Port → Port) : (s.modPort k g).cores = s.cores := rfl
@[simp] theorem State.modPort_spires (s : State) (k : Nat) (g : Port → Port) : (s.modPort k g).spires = s.spires := rfl
@[simp] theorem State.modPort_mem (s : State) (k : Nat) (g : Port → Port) : (s.modPort k g).mem = s.mem := rfl
@[simp] theorem State.modPort_tags (s : State) (k : Nat) (g : Port → Port) : (s.modPort k g).tags = s.tags := rfl
@[simp] theorem State.modPort_poison (s : State) (k : Nat) (g : Port → Port) : (s.modPort k g).poison = s.poison := rfl
@[simp] theorem State.modPort_gran (s : State) (k : Nat) (g : Port → Port) : (s.modPort k g).gran = s.gran := rfl
@[simp] theorem State.modPort_launches (s : State) (k : Nat) (g : Port → Port) : (s.modPort k g).launches = s.launches := rfl
@[simp] theorem State.modPort_l2 (s : State) (k : Nat) (g : Port → Port) : (s.modPort k g).l2 = s.l2 := rfl
@[simp] theorem State.modPort_bel (s : State) (k : Nat) (g : Port → Port) : (s.modPort k g).bel = s.bel := rfl
@[simp] theorem State.modPort_seq (s : State) (k : Nat) (g : Port → Port) : (s.modPort k g).seq = s.seq := rfl
@[simp] theorem State.modPort_lanterns (s : State) (k : Nat) (g : Port → Port) : (s.modPort k g).lanterns = s.lanterns := rfl
@[simp] theorem State.modPort_host (s : State) (k : Nat) (g : Port → Port) : (s.modPort k g).host = s.host := rfl
@[simp] theorem State.modPort_gtime9 (s : State) (k : Nat) (g : Port → Port) : (s.modPort k g).gtime9 = s.gtime9 := rfl
@[simp] theorem State.modPort_pkgFreeze (s : State) (k : Nat) (g : Port → Port) : (s.modPort k g).pkgFreeze = s.pkgFreeze := rfl
@[simp] theorem State.modPort_inputs (s : State) (k : Nat) (g : Port → Port) : (s.modPort k g).inputs = s.inputs := rfl
@[simp] theorem State.modPort_free (s : State) (k : Nat) (g : Port → Port) : (s.modPort k g).free = s.free := rfl

/-! `State.modLantern`. -/

@[simp] theorem State.modLantern_wall (s : State) (t : Nat) (g : Lantern → Lantern) : (s.modLantern t g).wall = s.wall := rfl
@[simp] theorem State.modLantern_stage (s : State) (t : Nat) (g : Lantern → Lantern) : (s.modLantern t g).stage = s.stage := rfl
@[simp] theorem State.modLantern_cur (s : State) (t : Nat) (g : Lantern → Lantern) : (s.modLantern t g).cur = s.cur := rfl
@[simp] theorem State.modLantern_cores (s : State) (t : Nat) (g : Lantern → Lantern) : (s.modLantern t g).cores = s.cores := rfl
@[simp] theorem State.modLantern_spires (s : State) (t : Nat) (g : Lantern → Lantern) : (s.modLantern t g).spires = s.spires := rfl
@[simp] theorem State.modLantern_mem (s : State) (t : Nat) (g : Lantern → Lantern) : (s.modLantern t g).mem = s.mem := rfl
@[simp] theorem State.modLantern_tags (s : State) (t : Nat) (g : Lantern → Lantern) : (s.modLantern t g).tags = s.tags := rfl
@[simp] theorem State.modLantern_poison (s : State) (t : Nat) (g : Lantern → Lantern) : (s.modLantern t g).poison = s.poison := rfl
@[simp] theorem State.modLantern_gran (s : State) (t : Nat) (g : Lantern → Lantern) : (s.modLantern t g).gran = s.gran := rfl
@[simp] theorem State.modLantern_launches (s : State) (t : Nat) (g : Lantern → Lantern) : (s.modLantern t g).launches = s.launches := rfl
@[simp] theorem State.modLantern_l2 (s : State) (t : Nat) (g : Lantern → Lantern) : (s.modLantern t g).l2 = s.l2 := rfl
@[simp] theorem State.modLantern_bel (s : State) (t : Nat) (g : Lantern → Lantern) : (s.modLantern t g).bel = s.bel := rfl
@[simp] theorem State.modLantern_seq (s : State) (t : Nat) (g : Lantern → Lantern) : (s.modLantern t g).seq = s.seq := rfl
@[simp] theorem State.modLantern_host (s : State) (t : Nat) (g : Lantern → Lantern) : (s.modLantern t g).host = s.host := rfl
@[simp] theorem State.modLantern_ports (s : State) (t : Nat) (g : Lantern → Lantern) : (s.modLantern t g).ports = s.ports := rfl
@[simp] theorem State.modLantern_gtime9 (s : State) (t : Nat) (g : Lantern → Lantern) : (s.modLantern t g).gtime9 = s.gtime9 := rfl
@[simp] theorem State.modLantern_pkgFreeze (s : State) (t : Nat) (g : Lantern → Lantern) : (s.modLantern t g).pkgFreeze = s.pkgFreeze := rfl
@[simp] theorem State.modLantern_inputs (s : State) (t : Nat) (g : Lantern → Lantern) : (s.modLantern t g).inputs = s.inputs := rfl
@[simp] theorem State.modLantern_free (s : State) (t : Nat) (g : Lantern → Lantern) : (s.modLantern t g).free = s.free := rfl

/-! `State.signal`. -/

@[simp] theorem State.signal_wall (s : State) (v : Nat) : (s.signal v).wall = s.wall := rfl
@[simp] theorem State.signal_stage (s : State) (v : Nat) : (s.signal v).stage = s.stage := rfl
@[simp] theorem State.signal_cur (s : State) (v : Nat) : (s.signal v).cur = s.cur := rfl
@[simp] theorem State.signal_cores (s : State) (v : Nat) : (s.signal v).cores = s.cores := rfl
@[simp] theorem State.signal_spires (s : State) (v : Nat) : (s.signal v).spires = s.spires := rfl
@[simp] theorem State.signal_mem (s : State) (v : Nat) : (s.signal v).mem = s.mem := rfl
@[simp] theorem State.signal_tags (s : State) (v : Nat) : (s.signal v).tags = s.tags := rfl
@[simp] theorem State.signal_poison (s : State) (v : Nat) : (s.signal v).poison = s.poison := rfl
@[simp] theorem State.signal_gran (s : State) (v : Nat) : (s.signal v).gran = s.gran := rfl
@[simp] theorem State.signal_launches (s : State) (v : Nat) : (s.signal v).launches = s.launches := rfl
@[simp] theorem State.signal_l2 (s : State) (v : Nat) : (s.signal v).l2 = s.l2 := rfl
@[simp] theorem State.signal_bel (s : State) (v : Nat) : (s.signal v).bel = s.bel := rfl
@[simp] theorem State.signal_seq (s : State) (v : Nat) : (s.signal v).seq = s.seq := rfl
@[simp] theorem State.signal_lanterns (s : State) (v : Nat) : (s.signal v).lanterns = s.lanterns := rfl
@[simp] theorem State.signal_ports (s : State) (v : Nat) : (s.signal v).ports = s.ports := rfl
@[simp] theorem State.signal_gtime9 (s : State) (v : Nat) : (s.signal v).gtime9 = s.gtime9 := rfl
@[simp] theorem State.signal_pkgFreeze (s : State) (v : Nat) : (s.signal v).pkgFreeze = s.pkgFreeze := rfl
@[simp] theorem State.signal_inputs (s : State) (v : Nat) : (s.signal v).inputs = s.inputs := rfl
@[simp] theorem State.signal_free (s : State) (v : Nat) : (s.signal v).free = s.free := rfl

/-! Reads of a component after an update. -/

@[simp] theorem State.core_setCore_same (s : State) (k : Nat) (c : Core) : (s.setCore k c).core k = c :=
  alGet_alSet_same _ _ _ _
theorem State.core_setCore_other (s : State) {j k : Nat} (c : Core) (h : j ≠ k) : (s.setCore k c).core j = s.core j :=
  alGet_alSet_other _ _ _ h
theorem State.core_setCore (s : State) (j k : Nat) (c : Core) : (s.setCore k c).core j = if j = k then c else s.core j :=
  alGet_alSet _ _ _ _ _
@[simp] theorem State.core_modCore_same (s : State) (k : Nat) (g : Core → Core) : (s.modCore k g).core k = g (s.core k) :=
  alGet_alSet_same _ _ _ _
theorem State.core_modCore_other (s : State) {j k : Nat} (g : Core → Core) (h : j ≠ k) : (s.modCore k g).core j = s.core j :=
  alGet_alSet_other _ _ _ h
@[simp] theorem State.launch_setLaunch_same (s : State) (k : Nat) (x : Launch) : (s.setLaunch k x).launch k = x :=
  alGet_alSet_same _ _ _ _
theorem State.launch_setLaunch_other (s : State) {j k : Nat} (x : Launch) (h : j ≠ k) : (s.setLaunch k x).launch j = s.launch j :=
  alGet_alSet_other _ _ _ h
@[simp] theorem State.launch_modLaunch_same (s : State) (k : Nat) (g : Launch → Launch) :
    (s.modLaunch k g).launch k = g (s.launch k) := alGet_alSet_same _ _ _ _
theorem State.launch_modLaunch_other (s : State) {j k : Nat} (g : Launch → Launch) (h : j ≠ k) :
    (s.modLaunch k g).launch j = s.launch j := alGet_alSet_other _ _ _ h
@[simp] theorem State.spire_setSpire_same (s : State) (k : Nat) (x : Spire) : (s.setSpire k x).spire k = x :=
  alGet_alSet_same _ _ _ _
theorem State.spire_setSpire_other (s : State) {j k : Nat} (x : Spire) (h : j ≠ k) : (s.setSpire k x).spire j = s.spire j :=
  alGet_alSet_other _ _ _ h
@[simp] theorem State.port_setPort_same (s : State) (k : Nat) (x : Port) : (s.setPort k x).port k = x :=
  alGet_alSet_same _ _ _ _
theorem State.port_setPort_other (s : State) {j k : Nat} (x : Port) (h : j ≠ k) : (s.setPort k x).port j = s.port j :=
  alGet_alSet_other _ _ _ h
@[simp] theorem State.port_modPort_same (s : State) (k : Nat) (g : Port → Port) : (s.modPort k g).port k = g (s.port k) :=
  alGet_alSet_same _ _ _ _
theorem State.port_modPort_other (s : State) {j k : Nat} (g : Port → Port) (h : j ≠ k) : (s.modPort k g).port j = s.port j :=
  alGet_alSet_other _ _ _ h
@[simp] theorem State.launch_setCore (s : State) (k : Nat) (c : Core) (l : Nat) : (s.setCore k c).launch l = s.launch l := rfl
@[simp] theorem State.spire_setCore (s : State) (k : Nat) (c : Core) (j : Nat) : (s.setCore k c).spire j = s.spire j := rfl
@[simp] theorem State.launch_modCore (s : State) (k : Nat) (g : Core → Core) (l : Nat) : (s.modCore k g).launch l = s.launch l := rfl
@[simp] theorem State.spire_modCore (s : State) (k : Nat) (g : Core → Core) (j : Nat) : (s.modCore k g).spire j = s.spire j := rfl
@[simp] theorem State.core_setLaunch (s : State) (l : Nat) (x : Launch) (k : Nat) : (s.setLaunch l x).core k = s.core k := rfl
@[simp] theorem State.core_modLaunch (s : State) (l : Nat) (g : Launch → Launch) (k : Nat) : (s.modLaunch l g).core k = s.core k := rfl
@[simp] theorem State.core_setSpire (s : State) (j : Nat) (x : Spire) (k : Nat) : (s.setSpire j x).core k = s.core k := rfl
@[simp] theorem State.core_modLantern (s : State) (t : Nat) (g : Lantern → Lantern) (k : Nat) : (s.modLantern t g).core k = s.core k := rfl
@[simp] theorem State.launch_modLantern (s : State) (t : Nat) (g : Lantern → Lantern) (l : Nat) : (s.modLantern t g).launch l = s.launch l := rfl
@[simp] theorem State.core_modPort (s : State) (p : Nat) (g : Port → Port) (k : Nat) : (s.modPort p g).core k = s.core k := rfl
@[simp] theorem State.launch_modPort (s : State) (p : Nat) (g : Port → Port) (l : Nat) : (s.modPort p g).launch l = s.launch l := rfl
@[simp] theorem State.core_signal (s : State) (v k : Nat) : (s.signal v).core k = s.core k := rfl
@[simp] theorem State.launch_signal (s : State) (v l : Nat) : (s.signal v).launch l = s.launch l := rfl

/-! `Core.modR`. -/

@[simp] theorem Core.modR_r (c : Core) (g : Regs → Regs) : (c.modR g).r = g c.r := rfl
@[simp] theorem Core.modR_x (c : Core) (g : Regs → Regs) : (c.modR g).x = c.x := rfl
@[simp] theorem Core.modR_l (c : Core) (g : Regs → Regs) : (c.modR g).l = c.l := rfl
@[simp] theorem Core.modR_f (c : Core) (g : Regs → Regs) : (c.modR g).f = c.f := rfl
@[simp] theorem Core.modR_e (c : Core) (g : Regs → Regs) : (c.modR g).e = c.e := rfl
@[simp] theorem Core.modR_p (c : Core) (g : Regs → Regs) : (c.modR g).p = c.p := rfl
@[simp] theorem Core.modR_clk (c : Core) (g : Regs → Regs) : (c.modR g).clk = c.clk := rfl
@[simp] theorem Core.modR_hclk (c : Core) (g : Regs → Regs) : (c.modR g).hclk = c.hclk := rfl

/-! `Core.modX`. -/

@[simp] theorem Core.modX_r (c : Core) (g : SysRegs → SysRegs) : (c.modX g).r = c.r := rfl
@[simp] theorem Core.modX_x (c : Core) (g : SysRegs → SysRegs) : (c.modX g).x = g c.x := rfl
@[simp] theorem Core.modX_l (c : Core) (g : SysRegs → SysRegs) : (c.modX g).l = c.l := rfl
@[simp] theorem Core.modX_f (c : Core) (g : SysRegs → SysRegs) : (c.modX g).f = c.f := rfl
@[simp] theorem Core.modX_e (c : Core) (g : SysRegs → SysRegs) : (c.modX g).e = c.e := rfl
@[simp] theorem Core.modX_p (c : Core) (g : SysRegs → SysRegs) : (c.modX g).p = c.p := rfl
@[simp] theorem Core.modX_clk (c : Core) (g : SysRegs → SysRegs) : (c.modX g).clk = c.clk := rfl
@[simp] theorem Core.modX_hclk (c : Core) (g : SysRegs → SysRegs) : (c.modX g).hclk = c.hclk := rfl

/-! `Core.modL`. -/

@[simp] theorem Core.modL_r (c : Core) (g : Loops → Loops) : (c.modL g).r = c.r := rfl
@[simp] theorem Core.modL_x (c : Core) (g : Loops → Loops) : (c.modL g).x = c.x := rfl
@[simp] theorem Core.modL_l (c : Core) (g : Loops → Loops) : (c.modL g).l = g c.l := rfl
@[simp] theorem Core.modL_f (c : Core) (g : Loops → Loops) : (c.modL g).f = c.f := rfl
@[simp] theorem Core.modL_e (c : Core) (g : Loops → Loops) : (c.modL g).e = c.e := rfl
@[simp] theorem Core.modL_p (c : Core) (g : Loops → Loops) : (c.modL g).p = c.p := rfl
@[simp] theorem Core.modL_clk (c : Core) (g : Loops → Loops) : (c.modL g).clk = c.clk := rfl
@[simp] theorem Core.modL_hclk (c : Core) (g : Loops → Loops) : (c.modL g).hclk = c.hclk := rfl

/-! `Core.modF`. -/

@[simp] theorem Core.modF_r (c : Core) (g : Flow → Flow) : (c.modF g).r = c.r := rfl
@[simp] theorem Core.modF_x (c : Core) (g : Flow → Flow) : (c.modF g).x = c.x := rfl
@[simp] theorem Core.modF_l (c : Core) (g : Flow → Flow) : (c.modF g).l = c.l := rfl
@[simp] theorem Core.modF_f (c : Core) (g : Flow → Flow) : (c.modF g).f = g c.f := rfl
@[simp] theorem Core.modF_e (c : Core) (g : Flow → Flow) : (c.modF g).e = c.e := rfl
@[simp] theorem Core.modF_p (c : Core) (g : Flow → Flow) : (c.modF g).p = c.p := rfl
@[simp] theorem Core.modF_clk (c : Core) (g : Flow → Flow) : (c.modF g).clk = c.clk := rfl
@[simp] theorem Core.modF_hclk (c : Core) (g : Flow → Flow) : (c.modF g).hclk = c.hclk := rfl

/-! `Core.modE`. -/

@[simp] theorem Core.modE_r (c : Core) (g : Engines → Engines) : (c.modE g).r = c.r := rfl
@[simp] theorem Core.modE_x (c : Core) (g : Engines → Engines) : (c.modE g).x = c.x := rfl
@[simp] theorem Core.modE_l (c : Core) (g : Engines → Engines) : (c.modE g).l = c.l := rfl
@[simp] theorem Core.modE_f (c : Core) (g : Engines → Engines) : (c.modE g).f = c.f := rfl
@[simp] theorem Core.modE_e (c : Core) (g : Engines → Engines) : (c.modE g).e = g c.e := rfl
@[simp] theorem Core.modE_p (c : Core) (g : Engines → Engines) : (c.modE g).p = c.p := rfl
@[simp] theorem Core.modE_clk (c : Core) (g : Engines → Engines) : (c.modE g).clk = c.clk := rfl
@[simp] theorem Core.modE_hclk (c : Core) (g : Engines → Engines) : (c.modE g).hclk = c.hclk := rfl

/-! `Core.modP`. -/

@[simp] theorem Core.modP_r (c : Core) (g : Pend → Pend) : (c.modP g).r = c.r := rfl
@[simp] theorem Core.modP_x (c : Core) (g : Pend → Pend) : (c.modP g).x = c.x := rfl
@[simp] theorem Core.modP_l (c : Core) (g : Pend → Pend) : (c.modP g).l = c.l := rfl
@[simp] theorem Core.modP_f (c : Core) (g : Pend → Pend) : (c.modP g).f = c.f := rfl
@[simp] theorem Core.modP_e (c : Core) (g : Pend → Pend) : (c.modP g).e = c.e := rfl
@[simp] theorem Core.modP_p (c : Core) (g : Pend → Pend) : (c.modP g).p = g c.p := rfl
@[simp] theorem Core.modP_clk (c : Core) (g : Pend → Pend) : (c.modP g).clk = c.clk := rfl
@[simp] theorem Core.modP_hclk (c : Core) (g : Pend → Pend) : (c.modP g).hclk = c.hclk := rfl

theorem State.core_modCore (s : State) (j k : Nat) (g : Core → Core) :
    (s.modCore k g).core j = if j = k then g (s.core k) else s.core j := State.core_setCore s j k _
theorem State.launch_modLaunch (s : State) (j k : Nat) (g : Launch → Launch) :
    (s.modLaunch k g).launch j = if j = k then g (s.launch k) else s.launch j := alGet_alSet _ _ _ _ _
theorem State.port_modPort (s : State) (j k : Nat) (g : Port → Port) :
    (s.modPort k g).port j = if j = k then g (s.port k) else s.port j := alGet_alSet _ _ _ _ _
theorem State.spire_setSpire (s : State) (j k : Nat) (x : Spire) :
    (s.setSpire k x).spire j = if j = k then x else s.spire j := alGet_alSet _ _ _ _ _

@[simp] theorem State.setCore_setCore (s : State) (k : Nat) (c d : Core) : (s.setCore k c).setCore k d = s.setCore k d := by
  simp [State.setCore]
theorem State.modCore_eq (s : State) (k : Nat) (g : Core → Core) : s.modCore k g = s.setCore k (g (s.core k)) := rfl

end Sys2Proof.Machine
end

