-- ==== Sys2Proof/Laws/Issue.lean ====
section
/-! SUPPORT. What the shared operations of a syllable's issue do: a committed syllable, a trap, and the issue of a pending entry. -/

namespace Sys2Proof.Machine

/-- A meaning at a cursor: its trap is taken, or its core is put back. -/
theorem State.syllable_at {s : State} {q : Cursor} (h : s.cur = some q) (g : Ctx → Except Trap Core) :
    s.syllable g = match g (s.ctx q) with
      | .error t => .next (s.trapAtIssue q.core q.slot t)
      | .ok c => .next (s.setCore q.core c) := by
  unfold State.syllable
  rw [h]
  change (match g (s.ctx q) with
    | .error t => Host.Outcome.next (s.trapAtIssue q.core q.slot t)
    | .ok c => Host.Outcome.next (s.setCore q.core c)) = _
  cases g (s.ctx q) <;> rfl

theorem State.syllable_ok {s : State} {q : Cursor} (h : s.cur = some q) {g : Ctx → Except Trap Core} {c : Core}
    (hg : g (s.ctx q) = .ok c) : s.syllable g = .next (s.setCore q.core c) := by
  rw [State.syllable_at h, hg]

theorem State.syllable_trap {s : State} {q : Cursor} (h : s.cur = some q) {g : Ctx → Except Trap Core} {t : Trap}
    (hg : g (s.ctx q) = .error t) : s.syllable g = .next (s.trapAtIssue q.core q.slot t) := by
  rw [State.syllable_at h, hg]

/-- Without ports among its operands a syllable pops none. -/
@[simp] theorem Ctx.popped_nil (x : Ctx) : x.popped [] = x.c.f.popNow := by
  simp [Ctx.popped]

/-- A ready class issues its entry. -/
theorem State.issue_ready {s : State} {q : Cursor} {cls : Nat} (h : s.Ready q cls) (e : Entry) (pops : List (BitVec 5)) :
    (s.ctx q).issue cls e pops =
      .ok (s.coreWith q cls { e with unit := unitOf cls q.slot (q.core % 2) } ((s.ctx q).popped pops)) := by
  have h1 : ¬ (s.core q.core).now < alGet 0 (s.core q.core).p.busy (unitKey q.slot cls) := Nat.not_lt.mpr h.free
  have h2 : ¬ 96 ≤ (s.core q.core).p.prb.length := Nat.not_le.mpr h.room
  exact (if_neg h1).trans (if_neg h2)

/-- A ready class issues the entry of the syllable. -/
theorem State.issue_entry {s : State} {q : Cursor} {cls : Nat} (h : s.Ready q cls) (k : EKind) (lat samp : Nat)
    (pops : List (BitVec 5)) :
    (s.ctx q).issue cls ((s.ctx q).entry k lat samp) pops =
      .ok (s.coreWith q cls (s.pending q cls k lat samp) ((s.ctx q).popped pops)) := State.issue_ready h _ _

/-- A ready class issues a scalar result. -/
theorem State.scalar_ready {s : State} {q : Cursor} {cls : Nat} (h : s.Ready q cls) (d : BitVec 5) (v : Word)
    (pops : List (BitVec 5)) :
    (s.ctx q).scalar cls d v pops =
      .ok (s.coreWith q cls (s.pending q cls (.scalar ((s.core q.core).physS d) v) (s.tt q.core cls).lat (s.tt q.core cls).lat)
        ((s.ctx q).popped pops)) := State.issue_ready h _ _

/-- A syllable that issues a scalar result and reads no port. -/
theorem State.syllable_scalar {s : State} {q : Cursor} {cls : Nat} (h : s.Ready q cls) {d : BitVec 5} {v : Ctx → Word}
    {g : Ctx → Except Trap Core} (hg : g (s.ctx q) = (s.ctx q).scalar cls d (v (s.ctx q))) :
    s.syllable g = .next (s.scalarResult q cls d (v (s.ctx q))) := by
  rw [State.syllable_at h.cur, hg, State.scalar_ready h, Ctx.popped_nil]
  rfl

/-- What the issue of an entry can do: it slips, or it appends the entry and makes its unit busy. -/
theorem Ctx.issue_cases {x : Ctx} {cls : Nat} {e : Entry} {pops : List (BitVec 5)} {c : Core} (h : x.issue cls e pops = .ok c) :
    alGet 0 x.c.p.busy (unitKey x.slot cls) ≤ x.c.now ∧ x.c.p.prb.length < 96 ∧
      c = (x.c.modP fun p =>
        { p with prb := p.prb ++ [{ e with unit := unitOf cls x.slot (x.k % 2) }], uid := p.uid + 1,
                 busy := alSet p.busy (unitKey x.slot cls) (x.c.now + (x.tt cls).rep) }).modF fun f =>
          { f with popNow := x.popped pops } := by
  unfold Ctx.issue at h
  split at h
  · cases h
  · split at h
    · cases h
    · cases h
      exact ⟨by omega, by omega, rfl⟩

end Sys2Proof.Machine
end

