-- ==== Sys2Proof/Laws/Record.lean ====
section
/-! SUPPORT. What a record of a lantern and a message to the other packages leave as it was: every field but memory, the lanterns and the
host's interrupt counts, and every field but the ports. -/

namespace Sys2Proof.Machine

/-! `State.landPoison`. -/

@[simp] theorem State.landPoison_wall (s : State) (flat n p : Nat) : (s.landPoison flat n p).wall = s.wall := by
  unfold State.landPoison; dsimp only; split
  · rfl
  · split <;> rfl
@[simp] theorem State.landPoison_stage (s : State) (flat n p : Nat) : (s.landPoison flat n p).stage = s.stage := by
  unfold State.landPoison; dsimp only; split
  · rfl
  · split <;> rfl
@[simp] theorem State.landPoison_cur (s : State) (flat n p : Nat) : (s.landPoison flat n p).cur = s.cur := by
  unfold State.landPoison; dsimp only; split
  · rfl
  · split <;> rfl
@[simp] theorem State.landPoison_cores (s : State) (flat n p : Nat) : (s.landPoison flat n p).cores = s.cores := by
  unfold State.landPoison; dsimp only; split
  · rfl
  · split <;> rfl
@[simp] theorem State.landPoison_spires (s : State) (flat n p : Nat) : (s.landPoison flat n p).spires = s.spires := by
  unfold State.landPoison; dsimp only; split
  · rfl
  · split <;> rfl
@[simp] theorem State.landPoison_mem (s : State) (flat n p : Nat) : (s.landPoison flat n p).mem = s.mem := by
  unfold State.landPoison; dsimp only; split
  · rfl
  · split <;> rfl
@[simp] theorem State.landPoison_tags (s : State) (flat n p : Nat) : (s.landPoison flat n p).tags = s.tags := by
  unfold State.landPoison; dsimp only; split
  · rfl
  · split <;> rfl
@[simp] theorem State.landPoison_gran (s : State) (flat n p : Nat) : (s.landPoison flat n p).gran = s.gran := by
  unfold State.landPoison; dsimp only; split
  · rfl
  · split <;> rfl
@[simp] theorem State.landPoison_launches (s : State) (flat n p : Nat) : (s.landPoison flat n p).launches = s.launches := by
  unfold State.landPoison; dsimp only; split
  · rfl
  · split <;> rfl
@[simp] theorem State.landPoison_l2 (s : State) (flat n p : Nat) : (s.landPoison flat n p).l2 = s.l2 := by
  unfold State.landPoison; dsimp only; split
  · rfl
  · split <;> rfl
@[simp] theorem State.landPoison_bel (s : State) (flat n p : Nat) : (s.landPoison flat n p).bel = s.bel := by
  unfold State.landPoison; dsimp only; split
  · rfl
  · split <;> rfl
@[simp] theorem State.landPoison_seq (s : State) (flat n p : Nat) : (s.landPoison flat n p).seq = s.seq := by
  unfold State.landPoison; dsimp only; split
  · rfl
  · split <;> rfl
@[simp] theorem State.landPoison_lanterns (s : State) (flat n p : Nat) : (s.landPoison flat n p).lanterns = s.lanterns := by
  unfold State.landPoison; dsimp only; split
  · rfl
  · split <;> rfl
@[simp] theorem State.landPoison_host (s : State) (flat n p : Nat) : (s.landPoison flat n p).host = s.host := by
  unfold State.landPoison; dsimp only; split
  · rfl
  · split <;> rfl
@[simp] theorem State.landPoison_ports (s : State) (flat n p : Nat) : (s.landPoison flat n p).ports = s.ports := by
  unfold State.landPoison; dsimp only; split
  · rfl
  · split <;> rfl
@[simp] theorem State.landPoison_gtime9 (s : State) (flat n p : Nat) : (s.landPoison flat n p).gtime9 = s.gtime9 := by
  unfold State.landPoison; dsimp only; split
  · rfl
  · split <;> rfl
@[simp] theorem State.landPoison_pkgFreeze (s : State) (flat n p : Nat) : (s.landPoison flat n p).pkgFreeze = s.pkgFreeze := by
  unfold State.landPoison; dsimp only; split
  · rfl
  · split <;> rfl
@[simp] theorem State.landPoison_inputs (s : State) (flat n p : Nat) : (s.landPoison flat n p).inputs = s.inputs := by
  unfold State.landPoison; dsimp only; split
  · rfl
  · split <;> rfl
@[simp] theorem State.landPoison_free (s : State) (flat n p : Nat) : (s.landPoison flat n p).free = s.free := by
  unfold State.landPoison; dsimp only; split
  · rfl
  · split <;> rfl

/-! `State.landBytes`. -/

@[simp] theorem State.landBytes_wall (s : State) (flat : Nat) (bs : List Byte) (tags : List Nat) (keep : Bool) (p : Nat) : (s.landBytes flat bs tags keep p).wall = s.wall := by simp [State.landBytes]
@[simp] theorem State.landBytes_stage (s : State) (flat : Nat) (bs : List Byte) (tags : List Nat) (keep : Bool) (p : Nat) : (s.landBytes flat bs tags keep p).stage = s.stage := by simp [State.landBytes]
@[simp] theorem State.landBytes_cur (s : State) (flat : Nat) (bs : List Byte) (tags : List Nat) (keep : Bool) (p : Nat) : (s.landBytes flat bs tags keep p).cur = s.cur := by simp [State.landBytes]
@[simp] theorem State.landBytes_cores (s : State) (flat : Nat) (bs : List Byte) (tags : List Nat) (keep : Bool) (p : Nat) : (s.landBytes flat bs tags keep p).cores = s.cores := by simp [State.landBytes]
@[simp] theorem State.landBytes_spires (s : State) (flat : Nat) (bs : List Byte) (tags : List Nat) (keep : Bool) (p : Nat) : (s.landBytes flat bs tags keep p).spires = s.spires := by simp [State.landBytes]
@[simp] theorem State.landBytes_gran (s : State) (flat : Nat) (bs : List Byte) (tags : List Nat) (keep : Bool) (p : Nat) : (s.landBytes flat bs tags keep p).gran = s.gran := by simp [State.landBytes]
@[simp] theorem State.landBytes_launches (s : State) (flat : Nat) (bs : List Byte) (tags : List Nat) (keep : Bool) (p : Nat) : (s.landBytes flat bs tags keep p).launches = s.launches := by simp [State.landBytes]
@[simp] theorem State.landBytes_l2 (s : State) (flat : Nat) (bs : List Byte) (tags : List Nat) (keep : Bool) (p : Nat) : (s.landBytes flat bs tags keep p).l2 = s.l2 := by simp [State.landBytes]
@[simp] theorem State.landBytes_bel (s : State) (flat : Nat) (bs : List Byte) (tags : List Nat) (keep : Bool) (p : Nat) : (s.landBytes flat bs tags keep p).bel = s.bel := by simp [State.landBytes]
@[simp] theorem State.landBytes_seq (s : State) (flat : Nat) (bs : List Byte) (tags : List Nat) (keep : Bool) (p : Nat) : (s.landBytes flat bs tags keep p).seq = s.seq := by simp [State.landBytes]
@[simp] theorem State.landBytes_lanterns (s : State) (flat : Nat) (bs : List Byte) (tags : List Nat) (keep : Bool) (p : Nat) : (s.landBytes flat bs tags keep p).lanterns = s.lanterns := by simp [State.landBytes]
@[simp] theorem State.landBytes_host (s : State) (flat : Nat) (bs : List Byte) (tags : List Nat) (keep : Bool) (p : Nat) : (s.landBytes flat bs tags keep p).host = s.host := by simp [State.landBytes]
@[simp] theorem State.landBytes_ports (s : State) (flat : Nat) (bs : List Byte) (tags : List Nat) (keep : Bool) (p : Nat) : (s.landBytes flat bs tags keep p).ports = s.ports := by simp [State.landBytes]
@[simp] theorem State.landBytes_gtime9 (s : State) (flat : Nat) (bs : List Byte) (tags : List Nat) (keep : Bool) (p : Nat) : (s.landBytes flat bs tags keep p).gtime9 = s.gtime9 := by simp [State.landBytes]
@[simp] theorem State.landBytes_pkgFreeze (s : State) (flat : Nat) (bs : List Byte) (tags : List Nat) (keep : Bool) (p : Nat) : (s.landBytes flat bs tags keep p).pkgFreeze = s.pkgFreeze := by simp [State.landBytes]
@[simp] theorem State.landBytes_inputs (s : State) (flat : Nat) (bs : List Byte) (tags : List Nat) (keep : Bool) (p : Nat) : (s.landBytes flat bs tags keep p).inputs = s.inputs := by simp [State.landBytes]
@[simp] theorem State.landBytes_free (s : State) (flat : Nat) (bs : List Byte) (tags : List Nat) (keep : Bool) (p : Nat) : (s.landBytes flat bs tags keep p).free = s.free := by simp [State.landBytes]

/-! `State.place`. -/

@[simp] theorem State.place_wall (s : State) (t : Nat) (bs : List Byte) : (s.place t bs).wall = s.wall := by unfold State.place; dsimp only; split <;> simp
@[simp] theorem State.place_stage (s : State) (t : Nat) (bs : List Byte) : (s.place t bs).stage = s.stage := by unfold State.place; dsimp only; split <;> simp
@[simp] theorem State.place_cur (s : State) (t : Nat) (bs : List Byte) : (s.place t bs).cur = s.cur := by unfold State.place; dsimp only; split <;> simp
@[simp] theorem State.place_cores (s : State) (t : Nat) (bs : List Byte) : (s.place t bs).cores = s.cores := by unfold State.place; dsimp only; split <;> simp
@[simp] theorem State.place_spires (s : State) (t : Nat) (bs : List Byte) : (s.place t bs).spires = s.spires := by unfold State.place; dsimp only; split <;> simp
@[simp] theorem State.place_gran (s : State) (t : Nat) (bs : List Byte) : (s.place t bs).gran = s.gran := by unfold State.place; dsimp only; split <;> simp
@[simp] theorem State.place_launches (s : State) (t : Nat) (bs : List Byte) : (s.place t bs).launches = s.launches := by unfold State.place; dsimp only; split <;> simp
@[simp] theorem State.place_l2 (s : State) (t : Nat) (bs : List Byte) : (s.place t bs).l2 = s.l2 := by unfold State.place; dsimp only; split <;> simp
@[simp] theorem State.place_bel (s : State) (t : Nat) (bs : List Byte) : (s.place t bs).bel = s.bel := by unfold State.place; dsimp only; split <;> simp
@[simp] theorem State.place_seq (s : State) (t : Nat) (bs : List Byte) : (s.place t bs).seq = s.seq := by unfold State.place; dsimp only; split <;> simp
@[simp] theorem State.place_ports (s : State) (t : Nat) (bs : List Byte) : (s.place t bs).ports = s.ports := by unfold State.place; dsimp only; split <;> simp
@[simp] theorem State.place_gtime9 (s : State) (t : Nat) (bs : List Byte) : (s.place t bs).gtime9 = s.gtime9 := by unfold State.place; dsimp only; split <;> simp
@[simp] theorem State.place_pkgFreeze (s : State) (t : Nat) (bs : List Byte) : (s.place t bs).pkgFreeze = s.pkgFreeze := by unfold State.place; dsimp only; split <;> simp
@[simp] theorem State.place_inputs (s : State) (t : Nat) (bs : List Byte) : (s.place t bs).inputs = s.inputs := by unfold State.place; dsimp only; split <;> simp
@[simp] theorem State.place_free (s : State) (t : Nat) (bs : List Byte) : (s.place t bs).free = s.free := by unfold State.place; dsimp only; split <;> simp

/-! `State.recordAt` and `State.record`. -/

@[simp] theorem State.recordAt_wall (s : State) (g : Word) (t corr req info value : Nat) :
    (s.recordAt g t corr req info value).wall = s.wall := by
  unfold State.recordAt; dsimp only; split <;> try rfl
  split <;> try simp
  split <;> split <;> simp
@[simp] theorem State.recordAt_stage (s : State) (g : Word) (t corr req info value : Nat) :
    (s.recordAt g t corr req info value).stage = s.stage := by
  unfold State.recordAt; dsimp only; split <;> try rfl
  split <;> try simp
  split <;> split <;> simp
@[simp] theorem State.recordAt_cur (s : State) (g : Word) (t corr req info value : Nat) :
    (s.recordAt g t corr req info value).cur = s.cur := by
  unfold State.recordAt; dsimp only; split <;> try rfl
  split <;> try simp
  split <;> split <;> simp
@[simp] theorem State.recordAt_cores (s : State) (g : Word) (t corr req info value : Nat) :
    (s.recordAt g t corr req info value).cores = s.cores := by
  unfold State.recordAt; dsimp only; split <;> try rfl
  split <;> try simp
  split <;> split <;> simp
@[simp] theorem State.recordAt_spires (s : State) (g : Word) (t corr req info value : Nat) :
    (s.recordAt g t corr req info value).spires = s.spires := by
  unfold State.recordAt; dsimp only; split <;> try rfl
  split <;> try simp
  split <;> split <;> simp
@[simp] theorem State.recordAt_gran (s : State) (g : Word) (t corr req info value : Nat) :
    (s.recordAt g t corr req info value).gran = s.gran := by
  unfold State.recordAt; dsimp only; split <;> try rfl
  split <;> try simp
  split <;> split <;> simp
@[simp] theorem State.recordAt_launches (s : State) (g : Word) (t corr req info value : Nat) :
    (s.recordAt g t corr req info value).launches = s.launches := by
  unfold State.recordAt; dsimp only; split <;> try rfl
  split <;> try simp
  split <;> split <;> simp
@[simp] theorem State.recordAt_l2 (s : State) (g : Word) (t corr req info value : Nat) :
    (s.recordAt g t corr req info value).l2 = s.l2 := by
  unfold State.recordAt; dsimp only; split <;> try rfl
  split <;> try simp
  split <;> split <;> simp
@[simp] theorem State.recordAt_bel (s : State) (g : Word) (t corr req info value : Nat) :
    (s.recordAt g t corr req info value).bel = s.bel := by
  unfold State.recordAt; dsimp only; split <;> try rfl
  split <;> try simp
  split <;> split <;> simp
@[simp] theorem State.recordAt_seq (s : State) (g : Word) (t corr req info value : Nat) :
    (s.recordAt g t corr req info value).seq = s.seq := by
  unfold State.recordAt; dsimp only; split <;> try rfl
  split <;> try simp
  split <;> split <;> simp
@[simp] theorem State.recordAt_ports (s : State) (g : Word) (t corr req info value : Nat) :
    (s.recordAt g t corr req info value).ports = s.ports := by
  unfold State.recordAt; dsimp only; split <;> try rfl
  split <;> try simp
  split <;> split <;> simp
@[simp] theorem State.recordAt_gtime9 (s : State) (g : Word) (t corr req info value : Nat) :
    (s.recordAt g t corr req info value).gtime9 = s.gtime9 := by
  unfold State.recordAt; dsimp only; split <;> try rfl
  split <;> try simp
  split <;> split <;> simp
@[simp] theorem State.recordAt_pkgFreeze (s : State) (g : Word) (t corr req info value : Nat) :
    (s.recordAt g t corr req info value).pkgFreeze = s.pkgFreeze := by
  unfold State.recordAt; dsimp only; split <;> try rfl
  split <;> try simp
  split <;> split <;> simp
@[simp] theorem State.recordAt_inputs (s : State) (g : Word) (t corr req info value : Nat) :
    (s.recordAt g t corr req info value).inputs = s.inputs := by
  unfold State.recordAt; dsimp only; split <;> try rfl
  split <;> try simp
  split <;> split <;> simp
@[simp] theorem State.recordAt_free (s : State) (g : Word) (t corr req info value : Nat) :
    (s.recordAt g t corr req info value).free = s.free := by
  unfold State.recordAt; dsimp only; split <;> try rfl
  split <;> try simp
  split <;> split <;> simp

@[simp] theorem State.record_wall (s : State) (t corr req info value : Nat) :
    (s.record t corr req info value).wall = s.wall := s.recordAt_wall ..
@[simp] theorem State.record_stage (s : State) (t corr req info value : Nat) :
    (s.record t corr req info value).stage = s.stage := s.recordAt_stage ..
@[simp] theorem State.record_cur (s : State) (t corr req info value : Nat) :
    (s.record t corr req info value).cur = s.cur := s.recordAt_cur ..
@[simp] theorem State.record_cores (s : State) (t corr req info value : Nat) :
    (s.record t corr req info value).cores = s.cores := s.recordAt_cores ..
@[simp] theorem State.record_spires (s : State) (t corr req info value : Nat) :
    (s.record t corr req info value).spires = s.spires := s.recordAt_spires ..
@[simp] theorem State.record_gran (s : State) (t corr req info value : Nat) :
    (s.record t corr req info value).gran = s.gran := s.recordAt_gran ..
@[simp] theorem State.record_launches (s : State) (t corr req info value : Nat) :
    (s.record t corr req info value).launches = s.launches := s.recordAt_launches ..
@[simp] theorem State.record_l2 (s : State) (t corr req info value : Nat) :
    (s.record t corr req info value).l2 = s.l2 := s.recordAt_l2 ..
@[simp] theorem State.record_bel (s : State) (t corr req info value : Nat) :
    (s.record t corr req info value).bel = s.bel := s.recordAt_bel ..
@[simp] theorem State.record_seq (s : State) (t corr req info value : Nat) :
    (s.record t corr req info value).seq = s.seq := s.recordAt_seq ..
@[simp] theorem State.record_ports (s : State) (t corr req info value : Nat) :
    (s.record t corr req info value).ports = s.ports := s.recordAt_ports ..
@[simp] theorem State.record_gtime9 (s : State) (t corr req info value : Nat) :
    (s.record t corr req info value).gtime9 = s.gtime9 := s.recordAt_gtime9 ..
@[simp] theorem State.record_pkgFreeze (s : State) (t corr req info value : Nat) :
    (s.record t corr req info value).pkgFreeze = s.pkgFreeze := s.recordAt_pkgFreeze ..
@[simp] theorem State.record_inputs (s : State) (t corr req info value : Nat) :
    (s.record t corr req info value).inputs = s.inputs := s.recordAt_inputs ..
@[simp] theorem State.record_free (s : State) (t corr req info value : Nat) :
    (s.record t corr req info value).free = s.free := s.recordAt_free ..

/-! `State.taskRecord`. -/

@[simp] theorem State.taskRecord_wall (s : State) (k kind sub bundle low value : Nat) : (s.taskRecord k kind sub bundle low value).wall = s.wall := by unfold State.taskRecord; split <;> simp
@[simp] theorem State.taskRecord_stage (s : State) (k kind sub bundle low value : Nat) : (s.taskRecord k kind sub bundle low value).stage = s.stage := by unfold State.taskRecord; split <;> simp
@[simp] theorem State.taskRecord_cur (s : State) (k kind sub bundle low value : Nat) : (s.taskRecord k kind sub bundle low value).cur = s.cur := by unfold State.taskRecord; split <;> simp
@[simp] theorem State.taskRecord_cores (s : State) (k kind sub bundle low value : Nat) : (s.taskRecord k kind sub bundle low value).cores = s.cores := by unfold State.taskRecord; split <;> simp
@[simp] theorem State.taskRecord_spires (s : State) (k kind sub bundle low value : Nat) : (s.taskRecord k kind sub bundle low value).spires = s.spires := by unfold State.taskRecord; split <;> simp
@[simp] theorem State.taskRecord_gran (s : State) (k kind sub bundle low value : Nat) : (s.taskRecord k kind sub bundle low value).gran = s.gran := by unfold State.taskRecord; split <;> simp
@[simp] theorem State.taskRecord_launches (s : State) (k kind sub bundle low value : Nat) : (s.taskRecord k kind sub bundle low value).launches = s.launches := by unfold State.taskRecord; split <;> simp
@[simp] theorem State.taskRecord_l2 (s : State) (k kind sub bundle low value : Nat) : (s.taskRecord k kind sub bundle low value).l2 = s.l2 := by unfold State.taskRecord; split <;> simp
@[simp] theorem State.taskRecord_bel (s : State) (k kind sub bundle low value : Nat) : (s.taskRecord k kind sub bundle low value).bel = s.bel := by unfold State.taskRecord; split <;> simp
@[simp] theorem State.taskRecord_seq (s : State) (k kind sub bundle low value : Nat) : (s.taskRecord k kind sub bundle low value).seq = s.seq := by unfold State.taskRecord; split <;> simp
@[simp] theorem State.taskRecord_ports (s : State) (k kind sub bundle low value : Nat) : (s.taskRecord k kind sub bundle low value).ports = s.ports := by unfold State.taskRecord; split <;> simp
@[simp] theorem State.taskRecord_gtime9 (s : State) (k kind sub bundle low value : Nat) : (s.taskRecord k kind sub bundle low value).gtime9 = s.gtime9 := by unfold State.taskRecord; split <;> simp
@[simp] theorem State.taskRecord_pkgFreeze (s : State) (k kind sub bundle low value : Nat) : (s.taskRecord k kind sub bundle low value).pkgFreeze = s.pkgFreeze := by unfold State.taskRecord; split <;> simp
@[simp] theorem State.taskRecord_inputs (s : State) (k kind sub bundle low value : Nat) : (s.taskRecord k kind sub bundle low value).inputs = s.inputs := by unfold State.taskRecord; split <;> simp
@[simp] theorem State.taskRecord_free (s : State) (k kind sub bundle low value : Nat) : (s.taskRecord k kind sub bundle low value).free = s.free := by unfold State.taskRecord; split <;> simp

/-! `State.launchEvent`. -/

@[simp] theorem State.launchEvent_wall (s : State) (l sub state reason : Nat) : (s.launchEvent l sub state reason).wall = s.wall := by unfold State.launchEvent; split <;> simp
@[simp] theorem State.launchEvent_stage (s : State) (l sub state reason : Nat) : (s.launchEvent l sub state reason).stage = s.stage := by unfold State.launchEvent; split <;> simp
@[simp] theorem State.launchEvent_cur (s : State) (l sub state reason : Nat) : (s.launchEvent l sub state reason).cur = s.cur := by unfold State.launchEvent; split <;> simp
@[simp] theorem State.launchEvent_cores (s : State) (l sub state reason : Nat) : (s.launchEvent l sub state reason).cores = s.cores := by unfold State.launchEvent; split <;> simp
@[simp] theorem State.launchEvent_spires (s : State) (l sub state reason : Nat) : (s.launchEvent l sub state reason).spires = s.spires := by unfold State.launchEvent; split <;> simp
@[simp] theorem State.launchEvent_gran (s : State) (l sub state reason : Nat) : (s.launchEvent l sub state reason).gran = s.gran := by unfold State.launchEvent; split <;> simp
@[simp] theorem State.launchEvent_launches (s : State) (l sub state reason : Nat) : (s.launchEvent l sub state reason).launches = s.launches := by unfold State.launchEvent; split <;> simp
@[simp] theorem State.launchEvent_l2 (s : State) (l sub state reason : Nat) : (s.launchEvent l sub state reason).l2 = s.l2 := by unfold State.launchEvent; split <;> simp
@[simp] theorem State.launchEvent_bel (s : State) (l sub state reason : Nat) : (s.launchEvent l sub state reason).bel = s.bel := by unfold State.launchEvent; split <;> simp
@[simp] theorem State.launchEvent_seq (s : State) (l sub state reason : Nat) : (s.launchEvent l sub state reason).seq = s.seq := by unfold State.launchEvent; split <;> simp
@[simp] theorem State.launchEvent_ports (s : State) (l sub state reason : Nat) : (s.launchEvent l sub state reason).ports = s.ports := by unfold State.launchEvent; split <;> simp
@[simp] theorem State.launchEvent_gtime9 (s : State) (l sub state reason : Nat) : (s.launchEvent l sub state reason).gtime9 = s.gtime9 := by unfold State.launchEvent; split <;> simp
@[simp] theorem State.launchEvent_pkgFreeze (s : State) (l sub state reason : Nat) : (s.launchEvent l sub state reason).pkgFreeze = s.pkgFreeze := by unfold State.launchEvent; split <;> simp
@[simp] theorem State.launchEvent_inputs (s : State) (l sub state reason : Nat) : (s.launchEvent l sub state reason).inputs = s.inputs := by unfold State.launchEvent; split <;> simp
@[simp] theorem State.launchEvent_free (s : State) (l sub state reason : Nat) : (s.launchEvent l sub state reason).free = s.free := by unfold State.launchEvent; split <;> simp

/-! `State.faultRecord`. -/

@[simp] theorem State.faultRecord_wall (s : State) (k level bundle slot lane : Nat) (cause addr : Word) : (s.faultRecord k level bundle slot lane cause addr).wall = s.wall := by simp [State.faultRecord]
@[simp] theorem State.faultRecord_stage (s : State) (k level bundle slot lane : Nat) (cause addr : Word) : (s.faultRecord k level bundle slot lane cause addr).stage = s.stage := by simp [State.faultRecord]
@[simp] theorem State.faultRecord_cur (s : State) (k level bundle slot lane : Nat) (cause addr : Word) : (s.faultRecord k level bundle slot lane cause addr).cur = s.cur := by simp [State.faultRecord]
@[simp] theorem State.faultRecord_cores (s : State) (k level bundle slot lane : Nat) (cause addr : Word) : (s.faultRecord k level bundle slot lane cause addr).cores = s.cores := by simp [State.faultRecord]
@[simp] theorem State.faultRecord_spires (s : State) (k level bundle slot lane : Nat) (cause addr : Word) : (s.faultRecord k level bundle slot lane cause addr).spires = s.spires := by simp [State.faultRecord]
@[simp] theorem State.faultRecord_gran (s : State) (k level bundle slot lane : Nat) (cause addr : Word) : (s.faultRecord k level bundle slot lane cause addr).gran = s.gran := by simp [State.faultRecord]
@[simp] theorem State.faultRecord_launches (s : State) (k level bundle slot lane : Nat) (cause addr : Word) : (s.faultRecord k level bundle slot lane cause addr).launches = s.launches := by simp [State.faultRecord]
@[simp] theorem State.faultRecord_l2 (s : State) (k level bundle slot lane : Nat) (cause addr : Word) : (s.faultRecord k level bundle slot lane cause addr).l2 = s.l2 := by simp [State.faultRecord]
@[simp] theorem State.faultRecord_bel (s : State) (k level bundle slot lane : Nat) (cause addr : Word) : (s.faultRecord k level bundle slot lane cause addr).bel = s.bel := by simp [State.faultRecord]
@[simp] theorem State.faultRecord_seq (s : State) (k level bundle slot lane : Nat) (cause addr : Word) : (s.faultRecord k level bundle slot lane cause addr).seq = s.seq := by simp [State.faultRecord]
@[simp] theorem State.faultRecord_ports (s : State) (k level bundle slot lane : Nat) (cause addr : Word) : (s.faultRecord k level bundle slot lane cause addr).ports = s.ports := by simp [State.faultRecord]
@[simp] theorem State.faultRecord_gtime9 (s : State) (k level bundle slot lane : Nat) (cause addr : Word) : (s.faultRecord k level bundle slot lane cause addr).gtime9 = s.gtime9 := by simp [State.faultRecord]
@[simp] theorem State.faultRecord_pkgFreeze (s : State) (k level bundle slot lane : Nat) (cause addr : Word) : (s.faultRecord k level bundle slot lane cause addr).pkgFreeze = s.pkgFreeze := by simp [State.faultRecord]
@[simp] theorem State.faultRecord_inputs (s : State) (k level bundle slot lane : Nat) (cause addr : Word) : (s.faultRecord k level bundle slot lane cause addr).inputs = s.inputs := by simp [State.faultRecord]
@[simp] theorem State.faultRecord_free (s : State) (k level bundle slot lane : Nat) (cause addr : Word) : (s.faultRecord k level bundle slot lane cause addr).free = s.free := by simp [State.faultRecord]

/-! `State.engineRecord`. -/

@[simp] theorem State.engineRecord_wall (s : State) (k sub slot queue ch bundle : Nat) (syll : BitVec 32) : (s.engineRecord k sub slot queue ch bundle syll).wall = s.wall := by unfold State.engineRecord; split <;> simp
@[simp] theorem State.engineRecord_stage (s : State) (k sub slot queue ch bundle : Nat) (syll : BitVec 32) : (s.engineRecord k sub slot queue ch bundle syll).stage = s.stage := by unfold State.engineRecord; split <;> simp
@[simp] theorem State.engineRecord_cur (s : State) (k sub slot queue ch bundle : Nat) (syll : BitVec 32) : (s.engineRecord k sub slot queue ch bundle syll).cur = s.cur := by unfold State.engineRecord; split <;> simp
@[simp] theorem State.engineRecord_cores (s : State) (k sub slot queue ch bundle : Nat) (syll : BitVec 32) : (s.engineRecord k sub slot queue ch bundle syll).cores = s.cores := by unfold State.engineRecord; split <;> simp
@[simp] theorem State.engineRecord_spires (s : State) (k sub slot queue ch bundle : Nat) (syll : BitVec 32) : (s.engineRecord k sub slot queue ch bundle syll).spires = s.spires := by unfold State.engineRecord; split <;> simp
@[simp] theorem State.engineRecord_gran (s : State) (k sub slot queue ch bundle : Nat) (syll : BitVec 32) : (s.engineRecord k sub slot queue ch bundle syll).gran = s.gran := by unfold State.engineRecord; split <;> simp
@[simp] theorem State.engineRecord_launches (s : State) (k sub slot queue ch bundle : Nat) (syll : BitVec 32) : (s.engineRecord k sub slot queue ch bundle syll).launches = s.launches := by unfold State.engineRecord; split <;> simp
@[simp] theorem State.engineRecord_l2 (s : State) (k sub slot queue ch bundle : Nat) (syll : BitVec 32) : (s.engineRecord k sub slot queue ch bundle syll).l2 = s.l2 := by unfold State.engineRecord; split <;> simp
@[simp] theorem State.engineRecord_bel (s : State) (k sub slot queue ch bundle : Nat) (syll : BitVec 32) : (s.engineRecord k sub slot queue ch bundle syll).bel = s.bel := by unfold State.engineRecord; split <;> simp
@[simp] theorem State.engineRecord_seq (s : State) (k sub slot queue ch bundle : Nat) (syll : BitVec 32) : (s.engineRecord k sub slot queue ch bundle syll).seq = s.seq := by unfold State.engineRecord; split <;> simp
@[simp] theorem State.engineRecord_ports (s : State) (k sub slot queue ch bundle : Nat) (syll : BitVec 32) : (s.engineRecord k sub slot queue ch bundle syll).ports = s.ports := by unfold State.engineRecord; split <;> simp
@[simp] theorem State.engineRecord_gtime9 (s : State) (k sub slot queue ch bundle : Nat) (syll : BitVec 32) : (s.engineRecord k sub slot queue ch bundle syll).gtime9 = s.gtime9 := by unfold State.engineRecord; split <;> simp
@[simp] theorem State.engineRecord_pkgFreeze (s : State) (k sub slot queue ch bundle : Nat) (syll : BitVec 32) : (s.engineRecord k sub slot queue ch bundle syll).pkgFreeze = s.pkgFreeze := by unfold State.engineRecord; split <;> simp
@[simp] theorem State.engineRecord_inputs (s : State) (k sub slot queue ch bundle : Nat) (syll : BitVec 32) : (s.engineRecord k sub slot queue ch bundle syll).inputs = s.inputs := by unfold State.engineRecord; split <;> simp
@[simp] theorem State.engineRecord_free (s : State) (k sub slot queue ch bundle : Nat) (syll : BitVec 32) : (s.engineRecord k sub slot queue ch bundle syll).free = s.free := by unfold State.engineRecord; split <;> simp

/-! What reads those fields. -/

@[simp] theorem State.landBytes_core (s : State) (flat : Nat) (bs : List Byte) (tags : List Nat) (keep : Bool) (p : Nat) (j : Nat) : (s.landBytes flat bs tags keep p).core j = s.core j := by simp [State.core]
@[simp] theorem State.landBytes_launch (s : State) (flat : Nat) (bs : List Byte) (tags : List Nat) (keep : Bool) (p : Nat) (j : Nat) : (s.landBytes flat bs tags keep p).launch j = s.launch j := by simp [State.launch]
@[simp] theorem State.landBytes_port (s : State) (flat : Nat) (bs : List Byte) (tags : List Nat) (keep : Bool) (p : Nat) (j : Nat) : (s.landBytes flat bs tags keep p).port j = s.port j := by simp [State.port]
@[simp] theorem State.landBytes_spire (s : State) (flat : Nat) (bs : List Byte) (tags : List Nat) (keep : Bool) (p : Nat) (j : Nat) : (s.landBytes flat bs tags keep p).spire j = s.spire j := by simp [State.spire]
@[simp] theorem State.landBytes_launchOf (s : State) (flat : Nat) (bs : List Byte) (tags : List Nat) (keep : Bool) (p : Nat) (j : Nat) : (s.landBytes flat bs tags keep p).launchOf j = s.launchOf j := by simp [State.launchOf]
@[simp] theorem State.place_core (s : State) (t : Nat) (bs : List Byte) (j : Nat) : (s.place t bs).core j = s.core j := by simp [State.core]
@[simp] theorem State.place_launch (s : State) (t : Nat) (bs : List Byte) (j : Nat) : (s.place t bs).launch j = s.launch j := by simp [State.launch]
@[simp] theorem State.place_port (s : State) (t : Nat) (bs : List Byte) (j : Nat) : (s.place t bs).port j = s.port j := by simp [State.port]
@[simp] theorem State.place_spire (s : State) (t : Nat) (bs : List Byte) (j : Nat) : (s.place t bs).spire j = s.spire j := by simp [State.spire]
@[simp] theorem State.place_launchOf (s : State) (t : Nat) (bs : List Byte) (j : Nat) : (s.place t bs).launchOf j = s.launchOf j := by simp [State.launchOf]
@[simp] theorem State.record_core (s : State) (t corr req info value : Nat) (j : Nat) : (s.record t corr req info value).core j = s.core j := by simp [State.core]
@[simp] theorem State.record_launch (s : State) (t corr req info value : Nat) (j : Nat) : (s.record t corr req info value).launch j = s.launch j := by simp [State.launch]
@[simp] theorem State.record_port (s : State) (t corr req info value : Nat) (j : Nat) : (s.record t corr req info value).port j = s.port j := by simp [State.port]
@[simp] theorem State.record_spire (s : State) (t corr req info value : Nat) (j : Nat) : (s.record t corr req info value).spire j = s.spire j := by simp [State.spire]
@[simp] theorem State.record_launchOf (s : State) (t corr req info value : Nat) (j : Nat) : (s.record t corr req info value).launchOf j = s.launchOf j := by simp [State.launchOf]
@[simp] theorem State.taskRecord_core (s : State) (k kind sub bundle low value : Nat) (j : Nat) : (s.taskRecord k kind sub bundle low value).core j = s.core j := by simp [State.core]
@[simp] theorem State.taskRecord_launch (s : State) (k kind sub bundle low value : Nat) (j : Nat) : (s.taskRecord k kind sub bundle low value).launch j = s.launch j := by simp [State.launch]
@[simp] theorem State.taskRecord_port (s : State) (k kind sub bundle low value : Nat) (j : Nat) : (s.taskRecord k kind sub bundle low value).port j = s.port j := by simp [State.port]
@[simp] theorem State.taskRecord_spire (s : State) (k kind sub bundle low value : Nat) (j : Nat) : (s.taskRecord k kind sub bundle low value).spire j = s.spire j := by simp [State.spire]
@[simp] theorem State.taskRecord_launchOf (s : State) (k kind sub bundle low value : Nat) (j : Nat) : (s.taskRecord k kind sub bundle low value).launchOf j = s.launchOf j := by simp [State.launchOf]
@[simp] theorem State.launchEvent_core (s : State) (l sub state reason : Nat) (j : Nat) : (s.launchEvent l sub state reason).core j = s.core j := by simp [State.core]
@[simp] theorem State.launchEvent_launch (s : State) (l sub state reason : Nat) (j : Nat) : (s.launchEvent l sub state reason).launch j = s.launch j := by simp [State.launch]
@[simp] theorem State.launchEvent_port (s : State) (l sub state reason : Nat) (j : Nat) : (s.launchEvent l sub state reason).port j = s.port j := by simp [State.port]
@[simp] theorem State.launchEvent_spire (s : State) (l sub state reason : Nat) (j : Nat) : (s.launchEvent l sub state reason).spire j = s.spire j := by simp [State.spire]
@[simp] theorem State.launchEvent_launchOf (s : State) (l sub state reason : Nat) (j : Nat) : (s.launchEvent l sub state reason).launchOf j = s.launchOf j := by simp [State.launchOf]
@[simp] theorem State.faultRecord_core (s : State) (k level bundle slot lane : Nat) (cause addr : Word) (j : Nat) : (s.faultRecord k level bundle slot lane cause addr).core j = s.core j := by simp [State.core]
@[simp] theorem State.faultRecord_launch (s : State) (k level bundle slot lane : Nat) (cause addr : Word) (j : Nat) : (s.faultRecord k level bundle slot lane cause addr).launch j = s.launch j := by simp [State.launch]
@[simp] theorem State.faultRecord_port (s : State) (k level bundle slot lane : Nat) (cause addr : Word) (j : Nat) : (s.faultRecord k level bundle slot lane cause addr).port j = s.port j := by simp [State.port]
@[simp] theorem State.faultRecord_spire (s : State) (k level bundle slot lane : Nat) (cause addr : Word) (j : Nat) : (s.faultRecord k level bundle slot lane cause addr).spire j = s.spire j := by simp [State.spire]
@[simp] theorem State.faultRecord_launchOf (s : State) (k level bundle slot lane : Nat) (cause addr : Word) (j : Nat) : (s.faultRecord k level bundle slot lane cause addr).launchOf j = s.launchOf j := by simp [State.launchOf]
@[simp] theorem State.engineRecord_core (s : State) (k sub slot queue ch bundle : Nat) (syll : BitVec 32) (j : Nat) : (s.engineRecord k sub slot queue ch bundle syll).core j = s.core j := by simp [State.core]
@[simp] theorem State.engineRecord_launch (s : State) (k sub slot queue ch bundle : Nat) (syll : BitVec 32) (j : Nat) : (s.engineRecord k sub slot queue ch bundle syll).launch j = s.launch j := by simp [State.launch]
@[simp] theorem State.engineRecord_port (s : State) (k sub slot queue ch bundle : Nat) (syll : BitVec 32) (j : Nat) : (s.engineRecord k sub slot queue ch bundle syll).port j = s.port j := by simp [State.port]
@[simp] theorem State.engineRecord_spire (s : State) (k sub slot queue ch bundle : Nat) (syll : BitVec 32) (j : Nat) : (s.engineRecord k sub slot queue ch bundle syll).spire j = s.spire j := by simp [State.spire]
@[simp] theorem State.engineRecord_launchOf (s : State) (k sub slot queue ch bundle : Nat) (syll : BitVec 32) (j : Nat) : (s.engineRecord k sub slot queue ch bundle syll).launchOf j = s.launchOf j := by simp [State.launchOf]

/-! `State.toPeers`. -/

theorem foldl_keeps {α β : Type} (f : State → α → State) (g : State → β) (h : ∀ s x, g (f s x) = g s) (l : List α) (s : State) :
    g (l.foldl f s) = g s := by
  induction l generalizing s with
  | nil => rfl
  | cons x r ih => exact (ih _).trans (h s x)

@[simp] theorem State.toPeers_wall (s : State) (l : Nat) (m : PartMessage) : (s.toPeers l m).wall = s.wall := by
  unfold State.toPeers; split
  · rfl
  · exact foldl_keeps _ State.wall (by intro _ _; rfl) _ s
@[simp] theorem State.toPeers_stage (s : State) (l : Nat) (m : PartMessage) : (s.toPeers l m).stage = s.stage := by
  unfold State.toPeers; split
  · rfl
  · exact foldl_keeps _ State.stage (by intro _ _; rfl) _ s
@[simp] theorem State.toPeers_cur (s : State) (l : Nat) (m : PartMessage) : (s.toPeers l m).cur = s.cur := by
  unfold State.toPeers; split
  · rfl
  · exact foldl_keeps _ State.cur (by intro _ _; rfl) _ s
@[simp] theorem State.toPeers_cores (s : State) (l : Nat) (m : PartMessage) : (s.toPeers l m).cores = s.cores := by
  unfold State.toPeers; split
  · rfl
  · exact foldl_keeps _ State.cores (by intro _ _; rfl) _ s
@[simp] theorem State.toPeers_spires (s : State) (l : Nat) (m : PartMessage) : (s.toPeers l m).spires = s.spires := by
  unfold State.toPeers; split
  · rfl
  · exact foldl_keeps _ State.spires (by intro _ _; rfl) _ s
@[simp] theorem State.toPeers_mem (s : State) (l : Nat) (m : PartMessage) : (s.toPeers l m).mem = s.mem := by
  unfold State.toPeers; split
  · rfl
  · exact foldl_keeps _ State.mem (by intro _ _; rfl) _ s
@[simp] theorem State.toPeers_tags (s : State) (l : Nat) (m : PartMessage) : (s.toPeers l m).tags = s.tags := by
  unfold State.toPeers; split
  · rfl
  · exact foldl_keeps _ State.tags (by intro _ _; rfl) _ s
@[simp] theorem State.toPeers_poison (s : State) (l : Nat) (m : PartMessage) : (s.toPeers l m).poison = s.poison := by
  unfold State.toPeers; split
  · rfl
  · exact foldl_keeps _ State.poison (by intro _ _; rfl) _ s
@[simp] theorem State.toPeers_gran (s : State) (l : Nat) (m : PartMessage) : (s.toPeers l m).gran = s.gran := by
  unfold State.toPeers; split
  · rfl
  · exact foldl_keeps _ State.gran (by intro _ _; rfl) _ s
@[simp] theorem State.toPeers_launches (s : State) (l : Nat) (m : PartMessage) : (s.toPeers l m).launches = s.launches := by
  unfold State.toPeers; split
  · rfl
  · exact foldl_keeps _ State.launches (by intro _ _; rfl) _ s
@[simp] theorem State.toPeers_l2 (s : State) (l : Nat) (m : PartMessage) : (s.toPeers l m).l2 = s.l2 := by
  unfold State.toPeers; split
  · rfl
  · exact foldl_keeps _ State.l2 (by intro _ _; rfl) _ s
@[simp] theorem State.toPeers_bel (s : State) (l : Nat) (m : PartMessage) : (s.toPeers l m).bel = s.bel := by
  unfold State.toPeers; split
  · rfl
  · exact foldl_keeps _ State.bel (by intro _ _; rfl) _ s
@[simp] theorem State.toPeers_seq (s : State) (l : Nat) (m : PartMessage) : (s.toPeers l m).seq = s.seq := by
  unfold State.toPeers; split
  · rfl
  · exact foldl_keeps _ State.seq (by intro _ _; rfl) _ s
@[simp] theorem State.toPeers_lanterns (s : State) (l : Nat) (m : PartMessage) : (s.toPeers l m).lanterns = s.lanterns := by
  unfold State.toPeers; split
  · rfl
  · exact foldl_keeps _ State.lanterns (by intro _ _; rfl) _ s
@[simp] theorem State.toPeers_host (s : State) (l : Nat) (m : PartMessage) : (s.toPeers l m).host = s.host := by
  unfold State.toPeers; split
  · rfl
  · exact foldl_keeps _ State.host (by intro _ _; rfl) _ s
@[simp] theorem State.toPeers_gtime9 (s : State) (l : Nat) (m : PartMessage) : (s.toPeers l m).gtime9 = s.gtime9 := by
  unfold State.toPeers; split
  · rfl
  · exact foldl_keeps _ State.gtime9 (by intro _ _; rfl) _ s
@[simp] theorem State.toPeers_pkgFreeze (s : State) (l : Nat) (m : PartMessage) : (s.toPeers l m).pkgFreeze = s.pkgFreeze := by
  unfold State.toPeers; split
  · rfl
  · exact foldl_keeps _ State.pkgFreeze (by intro _ _; rfl) _ s
@[simp] theorem State.toPeers_inputs (s : State) (l : Nat) (m : PartMessage) : (s.toPeers l m).inputs = s.inputs := by
  unfold State.toPeers; split
  · rfl
  · exact foldl_keeps _ State.inputs (by intro _ _; rfl) _ s
@[simp] theorem State.toPeers_free (s : State) (l : Nat) (m : PartMessage) : (s.toPeers l m).free = s.free := by
  unfold State.toPeers; split
  · rfl
  · exact foldl_keeps _ State.free (by intro _ _; rfl) _ s
@[simp] theorem State.toPeers_core (s : State) (l : Nat) (m : PartMessage) (j : Nat) : (s.toPeers l m).core j = s.core j := by simp [State.core]
@[simp] theorem State.toPeers_launch (s : State) (l : Nat) (m : PartMessage) (j : Nat) : (s.toPeers l m).launch j = s.launch j := by simp [State.launch]
@[simp] theorem State.toPeers_spire (s : State) (l : Nat) (m : PartMessage) (j : Nat) : (s.toPeers l m).spire j = s.spire j := by simp [State.spire]

/-! `State.freeze`, `State.endCauses`. -/

@[simp] theorem State.freeze_wall (s : State) (l : Nat) (z : Cause) : (s.freeze l z).wall = s.wall := by
  unfold State.freeze; dsimp only; cases z.core <;> split <;> simp
@[simp] theorem State.freeze_stage (s : State) (l : Nat) (z : Cause) : (s.freeze l z).stage = s.stage := by
  unfold State.freeze; dsimp only; cases z.core <;> split <;> simp
@[simp] theorem State.freeze_cur (s : State) (l : Nat) (z : Cause) : (s.freeze l z).cur = s.cur := by
  unfold State.freeze; dsimp only; cases z.core <;> split <;> simp
@[simp] theorem State.freeze_spires (s : State) (l : Nat) (z : Cause) : (s.freeze l z).spires = s.spires := by
  unfold State.freeze; dsimp only; cases z.core <;> split <;> simp
@[simp] theorem State.freeze_mem (s : State) (l : Nat) (z : Cause) : (s.freeze l z).mem = s.mem := by
  unfold State.freeze; dsimp only; cases z.core <;> split <;> simp
@[simp] theorem State.freeze_tags (s : State) (l : Nat) (z : Cause) : (s.freeze l z).tags = s.tags := by
  unfold State.freeze; dsimp only; cases z.core <;> split <;> simp
@[simp] theorem State.freeze_poison (s : State) (l : Nat) (z : Cause) : (s.freeze l z).poison = s.poison := by
  unfold State.freeze; dsimp only; cases z.core <;> split <;> simp
@[simp] theorem State.freeze_gran (s : State) (l : Nat) (z : Cause) : (s.freeze l z).gran = s.gran := by
  unfold State.freeze; dsimp only; cases z.core <;> split <;> simp
@[simp] theorem State.freeze_l2 (s : State) (l : Nat) (z : Cause) : (s.freeze l z).l2 = s.l2 := by
  unfold State.freeze; dsimp only; cases z.core <;> split <;> simp
@[simp] theorem State.freeze_bel (s : State) (l : Nat) (z : Cause) : (s.freeze l z).bel = s.bel := by
  unfold State.freeze; dsimp only; cases z.core <;> split <;> simp
@[simp] theorem State.freeze_seq (s : State) (l : Nat) (z : Cause) : (s.freeze l z).seq = s.seq := by
  unfold State.freeze; dsimp only; cases z.core <;> split <;> simp
@[simp] theorem State.freeze_lanterns (s : State) (l : Nat) (z : Cause) : (s.freeze l z).lanterns = s.lanterns := by
  unfold State.freeze; dsimp only; cases z.core <;> split <;> simp
@[simp] theorem State.freeze_host (s : State) (l : Nat) (z : Cause) : (s.freeze l z).host = s.host := by
  unfold State.freeze; dsimp only; cases z.core <;> split <;> simp
@[simp] theorem State.freeze_gtime9 (s : State) (l : Nat) (z : Cause) : (s.freeze l z).gtime9 = s.gtime9 := by
  unfold State.freeze; dsimp only; cases z.core <;> split <;> simp
@[simp] theorem State.freeze_pkgFreeze (s : State) (l : Nat) (z : Cause) : (s.freeze l z).pkgFreeze = s.pkgFreeze := by
  unfold State.freeze; dsimp only; cases z.core <;> split <;> simp
@[simp] theorem State.freeze_inputs (s : State) (l : Nat) (z : Cause) : (s.freeze l z).inputs = s.inputs := by
  unfold State.freeze; dsimp only; cases z.core <;> split <;> simp
@[simp] theorem State.freeze_free (s : State) (l : Nat) (z : Cause) : (s.freeze l z).free = s.free := by
  unfold State.freeze; dsimp only; cases z.core <;> split <;> simp
theorem State.freeze_core (s : State) (l : Nat) (z : Cause) (j : Nat) :
    (s.freeze l z).core j = if z.core = some j then (s.core j).stopAt s.wall s.gtime else s.core j := by
  unfold State.freeze; dsimp only
  cases h : z.core with
  | none => split <;> simp
  | some k =>
    by_cases e : k = j
    · subst e; split <;> simp
    · have : ¬ j = k := fun x => e x.symm
      split <;> simp [e, this, State.core_modCore]
theorem State.freeze_launch (s : State) (l : Nat) (z : Cause) (j : Nat) :
    ((s.freeze l z).launch j).causes = if j = l then (s.launch l).causes ++ [z] else (s.launch j).causes := by
  unfold State.freeze; dsimp only
  by_cases e : j = l
  · subst e; cases z.core <;> split <;> simp
  · cases z.core <;> split <;> simp [e, State.launch_modLaunch]
@[simp] theorem State.endCauses_wall (s : State) (l : Nat) (p : Cause → Bool) : (s.endCauses l p).wall = s.wall := by
  unfold State.endCauses; dsimp only; split
  · simp
  · split
    · simp
    · split <;> (try split) <;> simp
@[simp] theorem State.endCauses_stage (s : State) (l : Nat) (p : Cause → Bool) : (s.endCauses l p).stage = s.stage := by
  unfold State.endCauses; dsimp only; split
  · simp
  · split
    · simp
    · split <;> (try split) <;> simp
@[simp] theorem State.endCauses_cur (s : State) (l : Nat) (p : Cause → Bool) : (s.endCauses l p).cur = s.cur := by
  unfold State.endCauses; dsimp only; split
  · simp
  · split
    · simp
    · split <;> (try split) <;> simp
@[simp] theorem State.endCauses_cores (s : State) (l : Nat) (p : Cause → Bool) : (s.endCauses l p).cores = s.cores := by
  unfold State.endCauses; dsimp only; split
  · simp
  · split
    · simp
    · split <;> (try split) <;> simp
@[simp] theorem State.endCauses_spires (s : State) (l : Nat) (p : Cause → Bool) : (s.endCauses l p).spires = s.spires := by
  unfold State.endCauses; dsimp only; split
  · simp
  · split
    · simp
    · split <;> (try split) <;> simp
@[simp] theorem State.endCauses_mem (s : State) (l : Nat) (p : Cause → Bool) : (s.endCauses l p).mem = s.mem := by
  unfold State.endCauses; dsimp only; split
  · simp
  · split
    · simp
    · split <;> (try split) <;> simp
@[simp] theorem State.endCauses_tags (s : State) (l : Nat) (p : Cause → Bool) : (s.endCauses l p).tags = s.tags := by
  unfold State.endCauses; dsimp only; split
  · simp
  · split
    · simp
    · split <;> (try split) <;> simp
@[simp] theorem State.endCauses_poison (s : State) (l : Nat) (p : Cause → Bool) : (s.endCauses l p).poison = s.poison := by
  unfold State.endCauses; dsimp only; split
  · simp
  · split
    · simp
    · split <;> (try split) <;> simp
@[simp] theorem State.endCauses_gran (s : State) (l : Nat) (p : Cause → Bool) : (s.endCauses l p).gran = s.gran := by
  unfold State.endCauses; dsimp only; split
  · simp
  · split
    · simp
    · split <;> (try split) <;> simp
@[simp] theorem State.endCauses_l2 (s : State) (l : Nat) (p : Cause → Bool) : (s.endCauses l p).l2 = s.l2 := by
  unfold State.endCauses; dsimp only; split
  · simp
  · split
    · simp
    · split <;> (try split) <;> simp
@[simp] theorem State.endCauses_bel (s : State) (l : Nat) (p : Cause → Bool) : (s.endCauses l p).bel = s.bel := by
  unfold State.endCauses; dsimp only; split
  · simp
  · split
    · simp
    · split <;> (try split) <;> simp
@[simp] theorem State.endCauses_seq (s : State) (l : Nat) (p : Cause → Bool) : (s.endCauses l p).seq = s.seq := by
  unfold State.endCauses; dsimp only; split
  · simp
  · split
    · simp
    · split <;> (try split) <;> simp
@[simp] theorem State.endCauses_lanterns (s : State) (l : Nat) (p : Cause → Bool) : (s.endCauses l p).lanterns = s.lanterns := by
  unfold State.endCauses; dsimp only; split
  · simp
  · split
    · simp
    · split <;> (try split) <;> simp
@[simp] theorem State.endCauses_host (s : State) (l : Nat) (p : Cause → Bool) : (s.endCauses l p).host = s.host := by
  unfold State.endCauses; dsimp only; split
  · simp
  · split
    · simp
    · split <;> (try split) <;> simp
@[simp] theorem State.endCauses_gtime9 (s : State) (l : Nat) (p : Cause → Bool) : (s.endCauses l p).gtime9 = s.gtime9 := by
  unfold State.endCauses; dsimp only; split
  · simp
  · split
    · simp
    · split <;> (try split) <;> simp
@[simp] theorem State.endCauses_pkgFreeze (s : State) (l : Nat) (p : Cause → Bool) : (s.endCauses l p).pkgFreeze = s.pkgFreeze := by
  unfold State.endCauses; dsimp only; split
  · simp
  · split
    · simp
    · split <;> (try split) <;> simp
@[simp] theorem State.endCauses_inputs (s : State) (l : Nat) (p : Cause → Bool) : (s.endCauses l p).inputs = s.inputs := by
  unfold State.endCauses; dsimp only; split
  · simp
  · split
    · simp
    · split <;> (try split) <;> simp
@[simp] theorem State.endCauses_free (s : State) (l : Nat) (p : Cause → Bool) : (s.endCauses l p).free = s.free := by
  unfold State.endCauses; dsimp only; split
  · simp
  · split
    · simp
    · split <;> (try split) <;> simp
@[simp] theorem State.endCauses_core (s : State) (l : Nat) (p : Cause → Bool) (j : Nat) : (s.endCauses l p).core j = s.core j := by
  simp [State.core]
theorem State.endCauses_launch (s : State) (l : Nat) (p : Cause → Bool) (j : Nat) :
    (s.endCauses l p).launch j =
      if j = l then { s.launch l with causes := (s.launch l).causes.filter fun c => !p c } else s.launch j := by
  have h : (s.endCauses l p).launch j = (s.modLaunch l fun x => { x with causes := x.causes.filter fun c => !p c }).launch j := by
    unfold State.endCauses; dsimp only; split
    · rfl
    · split
      · simp
      · split <;> (try split) <;> simp
  rw [h, State.launch_modLaunch]

end Sys2Proof.Machine
end

