-- ==== Sys2Proof/Laws/Trap.lean ====
section
/-! SUPPORT. What taking a trap leaves (07_task_traps.md R177 to R183): the bank, the status, the handler's bundle and the freeze. -/

namespace Sys2Proof.Machine

/-- The withdrawal of a command changes only its core's engine commands. -/
theorem State.withdrawn_core (s : State) (k : Nat) (e : Entering) (j : Nat) :
    (s.withdrawn k e).core j = { s.core j with e := ((s.withdrawn k e).core j).e } := by
  unfold State.withdrawn
  cases e.ecmd with
  | none => rfl
  | some x => dsimp only; rw [State.core_setCore]; split <;> simp_all [Core.dropCmd, Core.modE]

theorem State.withdrawn_tl (s : State) (k : Nat) (e : Entering) (j : Nat) : ((s.withdrawn k e).core j).tl = (s.core j).tl := by
  rw [State.withdrawn_core]; rfl

theorem State.withdrawn_launch (s : State) (k : Nat) (e : Entering) (l : Nat) : (s.withdrawn k e).launch l = s.launch l := by
  unfold State.withdrawn; split <;> simp

/-- The core behind an entry, and every other core. -/
theorem State.pushLevel_core (s : State) (k : Nat) (e : Entering) (j : Nat) :
    (s.pushLevel k e).core j =
      if j = k then if (s.core k).tl = 0 then (s.trapCore k e).stopAt s.wall s.gtime else s.trapCore k e else s.core j := by
  unfold State.pushLevel; dsimp only
  by_cases h : (s.core k).tl = 0
  · rw [if_pos h, State.freeze_core]
    by_cases e : k = j
    · subst e; simp [h, Cause.core, State.gtime]
    · simp [e, Ne.symm e, Cause.core, State.core_setCore]; rfl
  · rw [if_neg h]
    by_cases e : j = k
    · subst e; simp [h]
    · simp [e, State.core_setCore]; rfl

/-- An entry from TL0 freezes the launch; no other launch changes its causes. -/
theorem State.pushLevel_causes (s : State) (k : Nat) (e : Entering) (l : Nat) :
    ((s.pushLevel k e).launch l).causes =
      if (s.core k).tl = 0 ∧ l = (s.core k).f.task.launch then (s.launch l).causes ++ [Cause.trap k] else (s.launch l).causes := by
  unfold State.pushLevel; dsimp only
  by_cases h : (s.core k).tl = 0
  · rw [if_pos h, State.freeze_launch]
    by_cases e : l = (s.core k).f.task.launch
    · subst e; simp [h]; rfl
    · simp [e]; rfl
  · simp [h]; rfl

/-- At TL0 and TL1 an unhalted task's trap enters the next level. -/
theorem State.enterTrap_level (s : State) (k : Nat) (e : Entering) (h : (s.core k).tl ≤ 1) (hm : (s.core k).f.mode ≠ .halted) :
    s.enterTrap k e = (s.withdrawn k e).enterLevel k e := by
  unfold State.enterTrap; dsimp only
  rw [if_neg]
  rw [State.withdrawn_tl, State.withdrawn_core]
  rintro (a | a)
  · omega
  · exact hm a

theorem causeWord_class (e : Entering) (h : e.cause < 32) : field (causeWord e) 32 5 = e.cause := by
  unfold field causeWord
  rw [BitVec.toNat_ofNat]
  have : e.sub % 65536 < 65536 := Nat.mod_lt _ (by decide)
  split <;> split <;> split <;> omega

/-- What the entry itself of a trap at TL0 or TL1 leaves. -/
theorem State.pushLevel_entered (s : State) (k : Nat) (e : Entering) (h : (s.core k).tl ≤ 1) (hc : e.cause < 32) :
    s.Entered (s.pushLevel k e) k (s.bankOf k e) := by
  have ht : (s.pushLevel k e).core k = if (s.core k).tl = 0 then (s.trapCore k e).stopAt s.wall s.gtime else s.trapCore k e := by
    rw [State.pushLevel_core, if_pos rfl]
  have hcl : field (s.bankOf k e).cause 32 5 = e.cause := causeWord_class e hc
  have hx : ((s.pushLevel k e).core k).x = (s.trapCore k e).x := by rw [ht]; split <;> rfl
  have hr : ((s.pushLevel k e).core k).r = (s.trapCore k e).r := by rw [ht]; split <;> rfl
  have hp : ((s.pushLevel k e).core k).p = (s.trapCore k e).p := by rw [ht]; split <;> rfl
  have hl : ((s.pushLevel k e).core k).l = (s.trapCore k e).l := by rw [ht]; split <;> rfl
  have hpc : ((s.pushLevel k e).core k).f.pc = (s.trapCore k e).f.pc := by rw [ht]; split <;> rfl
  have htk : ((s.pushLevel k e).core k).f.task = (s.core k).f.task := by rw [ht]; split <;> rfl
  have h01 : (s.core k).tl = 0 ∨ (s.core k).tl = 1 := by omega
  constructor
  · rw [hx]; rfl
  · rw [hx]; show (if _ then (s.trapSys k e).bank1 else (s.trapSys k e).bank2) = _
    unfold State.trapSys; split <;> simp_all
  · rw [hx]; show (if _ then (s.trapSys k e).bank2 else (s.trapSys k e).bank1) = _
    unfold State.trapSys; split <;> simp_all
  · rw [hpc, hcl]; rfl
  · rw [hp]; rfl
  · rw [hr, hl]
    show (s.trapRegs k e).s = _ ∧ (s.trapRegs k e).v = _ ∧ (s.trapRegs k e).p = _ ∧ _
    unfold State.trapRegs; dsimp only; split <;> exact ⟨rfl, rfl, rfl, rfl⟩
  · intro h0
    unfold State.launchOf
    rw [htk, State.pushLevel_causes, if_pos ⟨h0, rfl⟩]
    simp

/-- The stop of a trapped core changes its control flow alone, and there neither the bundle nor the task. -/
theorem State.stopTrapped_core (s : State) (k j : Nat) :
    ∃ d, (s.stopTrapped k).core j = { s.core j with f := { (s.core j).f with dev := d } } := by
  unfold State.stopTrapped
  split
  · by_cases h : j = k
    · subst h; exact ⟨_, by rw [State.core_modCore, if_pos rfl]; rfl⟩
    · exact ⟨(s.core j).f.dev, by rw [State.core_modCore, if_neg h]⟩
  · exact ⟨(s.core j).f.dev, rfl⟩

theorem State.stopTrapped_launch (s : State) (k l : Nat) : (s.stopTrapped k).launch l = s.launch l := by
  unfold State.stopTrapped; split <;> simp

/-- What the entry of a trap at TL0 or TL1 leaves. -/
theorem State.enterLevel_entered (s : State) (k : Nat) (e : Entering) (h : (s.core k).tl ≤ 1) (hc : e.cause < 32) :
    s.Entered (s.enterLevel k e) k (s.bankOf k e) := by
  obtain ⟨d, hd⟩ := s.stopTrapped_core k k
  have hb : (s.stopTrapped k).bankOf k e = s.bankOf k e := by unfold State.bankOf; rw [hd]
  have htl : ((s.stopTrapped k).core k).tl = (s.core k).tl := by rw [hd]; rfl
  have g := (s.stopTrapped k).pushLevel_entered k e (by rw [htl]; exact h) hc
  rw [hb] at g
  obtain ⟨g1, g2, g3, g4, g5, g6, g7⟩ := g
  rw [htl] at g1 g2 g3 g4 g7
  rw [hd] at g1 g3 g4 g6
  exact ⟨g1, g2, g3, g4, g5, g6, g7⟩

/-- What a trap at TL0 or TL1 leaves. -/
theorem State.enterTrap_entered (s : State) (k : Nat) (e : Entering) (h : (s.core k).tl ≤ 1) (hm : (s.core k).f.mode ≠ .halted)
    (hc : e.cause < 32) : s.Entered (s.enterTrap k e) k (s.bankOf k e) := by
  rw [State.enterTrap_level s k e h hm]
  have hb : (s.withdrawn k e).bankOf k e = s.bankOf k e := by unfold State.bankOf; rw [State.withdrawn_core]
  have hx : ((s.withdrawn k e).core k).x = (s.core k).x := by rw [State.withdrawn_core]
  have hr : ((s.withdrawn k e).core k).r = (s.core k).r := by rw [State.withdrawn_core]
  have hl : ((s.withdrawn k e).core k).l = (s.core k).l := by rw [State.withdrawn_core]
  have htl := State.withdrawn_tl s k e k
  have g := State.enterLevel_entered (s.withdrawn k e) k e (by rw [htl]; exact h) hc
  rw [hb] at g
  obtain ⟨g1, g2, g3, g4, g5, g6, g7⟩ := g
  rw [hx, htl] at g1
  rw [htl] at g2
  rw [htl, hx] at g3
  rw [htl, hx] at g4
  rw [hr, hl] at g6
  rw [htl] at g7
  exact ⟨g1, g2, g3, g4, g5, g6, g7⟩

end Sys2Proof.Machine
end

