-- ==== Sys2Proof/Laws/Vector.lean ====
section
/-! SUPPORT. What a vector syllable issues, lane by lane, and the elements of a packed word. -/

namespace Sys2Proof.Machine

/-! Packed elements. -/

theorem packElems_lt (w : Nat) (es : List Nat) : packElems w es < 2 ^ (w * es.length) := by
  induction es with
  | nil => simp [packElems]
  | cons e es ih =>
    simp only [packElems, List.length_cons, Nat.mul_add, Nat.mul_one, Nat.pow_add]
    have h : e % 2 ^ w < 2 ^ w := Nat.mod_lt _ (Nat.two_pow_pos w)
    calc e % 2 ^ w + 2 ^ w * packElems w es < 2 ^ w + 2 ^ w * packElems w es := by omega
      _ = 2 ^ w * (packElems w es + 1) := by rw [Nat.mul_add, Nat.mul_one, Nat.add_comm]
      _ ≤ 2 ^ w * 2 ^ (w * es.length) := Nat.mul_le_mul_left _ ih
      _ = 2 ^ (w * es.length) * 2 ^ w := Nat.mul_comm _ _

theorem packElems_elem (w : Nat) (es : List Nat) (i : Nat) :
    packElems w es / 2 ^ (w * i) % 2 ^ w = es.getD i 0 % 2 ^ w := by
  induction es generalizing i with
  | nil => simp [packElems]
  | cons e es ih =>
    have hp : 0 < 2 ^ w := Nat.two_pow_pos w
    cases i with
    | zero => simp [packElems]
    | succ i =>
      have hq : (e % 2 ^ w + 2 ^ w * packElems w es) / 2 ^ w = packElems w es := by
        rw [Nat.add_mul_div_left _ _ hp, Nat.div_eq_of_lt (Nat.mod_lt _ hp), Nat.zero_add]
      have he : w * (i + 1) = w + w * i := by rw [Nat.mul_add, Nat.mul_one, Nat.add_comm]
      simp only [packElems]
      rw [he, Nat.pow_add, ← Nat.div_div_eq_div_mul, hq, ih, List.getD_cons_succ]

/-- Element `e` of a word of packed elements. -/
theorem elemOf_laneOfEls {w : Nat} {es : List El} (h : w * es.length ≤ 32) (e : Nat) :
    elemOf (laneOfEls w es).w w e = (es.getD e (0, 0)).1 % 2 ^ w := by
  have hl : packElems w (es.map Prod.fst) < 2 ^ 32 :=
    Nat.lt_of_lt_of_le (packElems_lt w _) (Nat.pow_le_pow_right (by decide) (by simpa using h))
  unfold elemOf laneOfEls
  rw [BitVec.toNat_ofNat, Nat.mod_eq_of_lt hl, packElems_elem]
  congr 1
  rw [List.getD_eq_getElem?_getD, List.getD_eq_getElem?_getD, List.getElem?_map]
  cases es[e]? <;> rfl

theorem foldl_min_le (es : List El) (t : Nat) : es.foldl (fun t e => min t e.2) t ≤ t := by
  induction es generalizing t with
  | nil => exact Nat.le_refl t
  | cons e es ih => exact Nat.le_trans (ih _) (Nat.min_le_left _ _)

theorem foldl_min_le_mem (es : List El) (t : Nat) : ∀ e ∈ es, es.foldl (fun t e => min t e.2) t ≤ e.2 := by
  induction es generalizing t with
  | nil => simp
  | cons x es ih =>
    intro e he
    rcases List.mem_cons.mp he with rfl | he
    · exact Nat.le_trans (foldl_min_le es _) (Nat.min_le_right _ _)
    · exact ih _ e he

theorem foldl_min_cases (es : List El) (t : Nat) :
    es.foldl (fun t e => min t e.2) t = t ∨ ∃ e ∈ es, es.foldl (fun t e => min t e.2) t = e.2 := by
  induction es generalizing t with
  | nil => exact .inl rfl
  | cons x es ih =>
    rcases ih (min t x.2) with h | ⟨e, he, h⟩
    · rcases Nat.le_total t x.2 with hle | hle
      · exact .inl (by simpa [Nat.min_eq_left hle] using h)
      · exact .inr ⟨x, List.mem_cons_self, by simpa [Nat.min_eq_right hle] using h⟩
    · exact .inr ⟨e, List.mem_cons_of_mem _ he, h⟩

theorem getD_map_range {α : Type} (g : Nat → α) (n e : Nat) (d : α) (h : e < n) : ((List.range n).map g).getD e d = g e := by
  rw [List.getD_eq_getElem?_getD, List.getElem?_map, List.getElem?_range h]
  rfl

/-- A word of elements `g 0` to `g (n − 1)` of width `w`, where they fit. -/
theorem laneOfEls_fpElems (w : Nat) (g : Nat → El) :
    (laneOfEls w ((List.range (32 / w)).map g)).fpElems w g := by
  have hl : w * ((List.range (32 / w)).map g).length ≤ 32 := by simpa using Nat.mul_div_le 32 w
  refine ⟨fun e he => ⟨?_, ?_⟩, foldl_min_le _ _, ?_⟩
  · rw [elemOf_laneOfEls hl, getD_map_range _ _ _ _ he]
  · exact foldl_min_le_mem _ _ _ (List.mem_map.mpr ⟨e, List.mem_range.mpr he, rfl⟩)
  · rcases foldl_min_cases ((List.range (32 / w)).map g) 24 with h | ⟨e, he, h⟩
    · exact .inl h
    · obtain ⟨i, hi, rfl⟩ := List.mem_map.mp he
      exact .inr ⟨i, List.mem_range.mp hi, h⟩

/-- A word of integer elements with tag 24. -/
theorem laneOfEls_elems (w : Nat) (g : Nat → Int) :
    (laneOfEls w ((List.range (32 / w)).map fun e => ((g e % (2 ^ w : Nat)).toNat, 24))).elems w g := by
  have hp : (0 : Int) < (2 ^ w : Nat) := by exact_mod_cast Nat.two_pow_pos w
  have h := laneOfEls_fpElems w fun e => ((g e % (2 ^ w : Nat)).toNat, 24)
  refine ⟨?_, fun e he => ?_⟩
  · rcases h.2.2 with h | ⟨e, -, h⟩ <;> exact h
  · have h0 := Int.emod_nonneg (g e) (Int.ne_of_gt hp)
    have h1 := Int.emod_lt_of_pos (g e) hp
    have hlt : (g e % (2 ^ w : Nat)).toNat < 2 ^ w := by omega
    rw [(h.1 e he).1, Nat.mod_eq_of_lt hlt]
    exact Int.toNat_of_nonneg h0

/-! Vector syllables. -/

theorem maskLanes_getD (m : BitVec 64) (v : Nat → LaneW) {l : Nat} (h : l < 64) :
    (maskLanes m v).getD l none = if m.getLsbD l then some (v l) else none := getD_map_range _ _ _ _ h

theorem maskLanes_length (m : BitVec 64) (v : Nat → LaneW) : (maskLanes m v).length = 64 := by simp [maskLanes]

/-- A ready class issues a vector result. -/
theorem State.vector_ready {s : State} {q : Cursor} {cls : Nat} (h : s.Ready q cls) (d : BitVec 5) (lanes : List (Option LaneW))
    (chk : Bool) (sh : Option Nat) (pops : List (BitVec 5)) :
    (s.ctx q).vector cls d lanes chk sh pops = .ok (s.coreWith q cls (s.vecEntry q cls d lanes chk sh) ((s.ctx q).popped pops)) :=
  State.issue_ready h _ _

/-- A syllable that issues a vector result under a mask lands it. -/
theorem State.lands_of {s : State} {q : Cursor} {cls : Nat} (h : s.Ready q cls) {i : Instr} {g : Ctx → Except Trap Core}
    {d : BitVec 5} {m : BitVec 64} {v : Nat → LaneW} {chk : Bool} {sh : Option Nat} {pops : List (BitVec 5)} {ok : Nat → LaneW → Prop}
    (he : exec i s = s.syllable g) (hg : g (s.ctx q) = (s.ctx q).vector cls d (maskLanes m v) chk sh pops)
    (hok : ∀ l < 64, ok l (v l)) : s.VectorLands q cls i d m chk sh pops ok := by
  refine ⟨maskLanes m v, ?_, maskLanes_length m v, fun l hl => ?_⟩
  · rw [he]
    exact State.syllable_ok h.cur (hg.trans (State.vector_ready h d _ chk sh pops))
  · rw [maskLanes_getD m v hl]
    split
    · exact ⟨v l, rfl, hok l hl⟩
    · rfl

/-- What a syllable of one vector operand lands. -/
theorem State.vec1_lands {s : State} {q : Cursor} {cls : Nat} (h : s.Ready q cls) {i : Instr} {d a : BitVec 5} {p : BitVec 3}
    {chk : Bool} {sh : Option Nat} {g : Ctx → LaneW → LaneW} {u : Vec} {ok : Nat → LaneW → Prop} (he : exec i s = vec1 cls d a p chk sh g s)
    (hd : (s.ctx q).vd d = .ok ()) (ha : (s.ctx q).ve 0 a = .ok u) (hok : ∀ l < 64, ok l (g (s.ctx q) (u.at l))) :
    s.VectorLands q cls i d ((s.ctx q).pr 0 p.toNat) chk sh [a] ok :=
  State.lands_of h he (by simp only [hd, ha]) hok

/-- What a syllable of two vector operands lands. -/
theorem State.vec2_lands {s : State} {q : Cursor} {cls : Nat} (h : s.Ready q cls) {i : Instr} {d a b : BitVec 5} {p : BitVec 3}
    {chk : Bool} {sh : Option Nat} {g : Ctx → LaneW → LaneW → LaneW} {u v : Vec} {ok : Nat → LaneW → Prop}
    (he : exec i s = vec2 cls d a b p chk sh g s) (hd : (s.ctx q).vd d = .ok ()) (ha : (s.ctx q).ve 0 a = .ok u)
    (hb : (s.ctx q).ve 1 b = .ok v) (hok : ∀ l < 64, ok l (g (s.ctx q) (u.at l) (v.at l))) :
    s.VectorLands q cls i d ((s.ctx q).pr 0 p.toNat) chk sh [a, b] ok :=
  State.lands_of h he (by simp only [hd, ha, hb]) hok

/-- What a syllable of three vector operands lands. -/
theorem State.vec3_lands {s : State} {q : Cursor} {cls : Nat} (h : s.Ready q cls) {i : Instr} {d a b c : BitVec 5} {p : BitVec 3}
    {chk : Bool} {sh : Option Nat} {g : Ctx → LaneW → LaneW → LaneW → LaneW} {u v w : Vec} {ok : Nat → LaneW → Prop}
    (he : exec i s = vec3 cls d a b c p chk sh g s) (hd : (s.ctx q).vd d = .ok ()) (ha : (s.ctx q).ve 0 a = .ok u)
    (hb : (s.ctx q).ve 1 b = .ok v) (hc : (s.ctx q).ve 2 c = .ok w)
    (hok : ∀ l < 64, ok l (g (s.ctx q) (u.at l) (v.at l) (w.at l))) :
    s.VectorLands q cls i d ((s.ctx q).pr 0 p.toNat) chk sh [a, b, c] ok :=
  State.lands_of h he (by simp only [hd, ha, hb, hc]) hok

/-- The integer group on two operands: element by element, modulo 2^w. -/
theorem intEls2_elems (w : Nat) (g : Nat → Nat → Int) (x y : LaneW) :
    (intEls2 w g x y).elems w fun e => g (elemOf x.w w e) (elemOf y.w w e) :=
  laneOfEls_elems w fun e => g (elemOf x.w w e) (elemOf y.w w e)

theorem LaneW.elems_congr {x : LaneW} {w : Nat} {g g' : Nat → Int} (h : x.elems w g)
    (hg : ∀ e < 32 / w, g e % (2 ^ w : Nat) = g' e % (2 ^ w : Nat)) : x.elems w g' :=
  ⟨h.1, fun e he => (h.2 e he).trans (hg e he)⟩

/-- The bits of a mask from a test of each lane. -/
theorem laneBits_getLsbD (g : Nat → Bool) (l : Nat) (hl : l < 64) : (laneBits g).getLsbD l = g l := by
  have key : ∀ n, n ≤ 64 → ∀ k, ((List.range n).foldl (fun n l => if g l then n + 2 ^ l else n) 0) < 2 ^ n ∧
      (((List.range n).foldl (fun n l => if g l then n + 2 ^ l else n) 0).testBit k = (decide (k < n) && g k)) := by
    intro n
    induction n with
    | zero => intro _ k; simp
    | succ n ih =>
      intro hn k
      rw [List.range_succ, List.foldl_append]
      obtain ⟨h1, h2⟩ := ih (by omega) k
      simp only [List.foldl_cons, List.foldl_nil]
      generalize (List.range n).foldl (fun n l => if g l then n + 2 ^ l else n) 0 = a at h1 h2
      have hpow : 2 ^ (n + 1) = 2 ^ n + 2 ^ n := by rw [Nat.pow_succ]; omega
      split
      · next hg =>
        refine ⟨by omega, ?_⟩
        by_cases hk : k = n
        · subst hk
          rw [Nat.add_comm, Nat.testBit_two_pow_add_eq, Nat.testBit_lt_two_pow h1]
          simp [hg]
        · rcases Nat.lt_or_gt_of_ne hk with hk' | hk'
          · rw [Nat.add_comm, Nat.testBit_two_pow_add_gt hk', h2]
            have : k < n + 1 := by omega
            simp [hk', this]
          · have : a + 2 ^ n < 2 ^ k := Nat.lt_of_lt_of_le (by omega : a + 2 ^ n < 2 ^ (n + 1)) (Nat.pow_le_pow_right (by decide) hk')
            rw [Nat.testBit_lt_two_pow this]
            have : ¬ k < n + 1 := by omega
            simp [this]
      · next hg =>
        refine ⟨by omega, ?_⟩
        rw [h2]
        by_cases hk : k = n
        · subst hk; simp [hg]
        · have : (k < n + 1) ↔ k < n := by omega
          simp [this]
  unfold laneBits
  rw [BitVec.getLsbD_ofNat]
  simp [(key 64 (Nat.le_refl _) l).2, hl]

/-- A syllable that issues a predicate result lands it. -/
theorem State.predicate_lands {s : State} {q : Cursor} (h : s.Ready q 15) {i : Instr} {g : Ctx → Except Trap Core} {d : BitVec 5}
    {v m : BitVec 64} {pops : List (BitVec 5)} {ok : Nat → Prop} (he : exec i s = s.syllable g)
    (hg : g (s.ctx q) = (s.ctx q).predicate 15 d v m pops) (hok : ∀ l < 64, v.getLsbD l = true ↔ ok l) :
    s.PredicateLands q i d m pops ok :=
  ⟨v, hok, by rw [he]; exact State.syllable_ok h.cur (hg.trans (State.issue_entry h _ _ _ pops))⟩

/-- A syllable that issues a scalar result lands it, popping its ports. -/
theorem State.scalar_lands {s : State} {q : Cursor} {cls : Nat} (h : s.Ready q cls) {i : Instr} {g : Ctx → Except Trap Core}
    {d : BitVec 5} {v : Word} {pops : List (BitVec 5)} (he : exec i s = s.syllable g)
    (hg : g (s.ctx q) = (s.ctx q).scalar cls d v pops) : s.ScalarLands q cls i d pops v := by
  unfold State.ScalarLands
  rw [he]
  exact State.syllable_ok h.cur (hg.trans (State.scalar_ready h d v pops))

end Sys2Proof.Machine
end

