-- ==== Sys2Proof/Tests/Slice0.lean ====
section
/-! SUPPORT. Tests: ill-formed terms that the well-formedness check refuses, words written out from the encoding tables, single steps
whose results the specification states, and for the statements' hypotheses a state that meets them. -/

open Sys2Proof Sys2Proof.Machine

namespace Sys2Proof.Tests

set_option Elab.async false

/-! ## Ill-formed terms -/

/-- R39, R88: destination codes 28 to 31 are no vector destination, whatever class they stand in. -/
theorem test_vector_destinations_refused :
    [Instr.vld 28 0 0, .vldx 31 0 0 0, .spldVector 28 0 0, .vadd 28 0 0 0 10, .vabs 29 0 0 10, .vmadd 28 0 0 0 0 6, .vfadd 30 0 0 0 0,
      .vfneg 28 0 0 0, .vfma 28 0 0 0 0 0, .vfrcp 28 0 0, .vfclass 28 0 0, .vsel 28 0 0 0 0, .vperm 28 0 0 0, .vredadd 28 0 0 10,
      .vfredadd 28 0 0, .vsig 28 0 0, .vsigset 28 0 0 0 0, .vcvt 28 0 0 0 1 0, .vpack 28 0 0 0 1 0, .vunpack 28 0 0 1 0,
      .vcbdec 28 0 0 0 0, .vscale 28 0 0 0 0 0].all (fun i => !i.wellFormed) = true := by decide

/-- R88: predicate, parameter-set and metapipe codes of 8 and above. -/
theorem test_predicate_codes_refused :
    [Instr.brP 8 0, .brAny 8 0, .brAll 31 0, .brNone 8 0, .wrag 8 0 0, .wrmp 8 0, .vcmp 8 0 0 0 10 0, .vfcmp 8 0 0 0 0, .vsel 0 0 0 8 0,
      .pand 0 8 0 0, .por 0 0 8 0, .pxor 8 0 0 0, .pnot 0 8 0, .pset 8 0, .pclr 8 0, .pcnt 0 8 0, .pfirst 0 8 0, .vsiglt 8 0 0 0,
      .vzmaskCv 8 0 0].all (fun i => !i.wellFormed) = true := by decide

/-- R89, R90, R97, R98: types and function codes that an instruction does not accept. -/
theorem test_types_refused :
    [Instr.vadd 0 0 0 0 0, .vadd 0 0 0 0 11, .vabs 0 0 0 14, .vmul 0 0 0 0 15, .vmadd 0 0 0 0 0 0, .vmadd 0 0 0 0 0 7, .vfadd 0 0 0 0 3,
      .vfma 0 0 0 0 0 3, .vcmp 0 0 0 0 8 0, .vcmp 0 0 0 0 10 6, .vfcmp 0 0 0 0 7, .vredadd 0 0 0 8, .vsigset 0 0 0 0 7].all
      (fun i => !i.wellFormed) = true := by decide

/-- R69, R91, R170 to R175: conversions of no listed pair, selector or rounding code. -/
theorem test_conversions_refused :
    [Instr.vcvt 0 0 0 0 0 0, .vcvt 0 0 3 0 0 0, .vcvt 0 0 0 0 10 4, .vcvt 0 0 0 0 1 5, .vpack 0 0 0 0 0 0, .vpack 0 0 0 0 9 1,
      .vpack 0 0 0 0 1 5, .vunpack 0 0 0 1 2, .vunpack 0 0 0 5 8, .vunpack 0 0 0 0 0, .vcbdec 0 0 0 1 8, .vcbdec 0 0 0 3 0,
      .vscale 0 0 0 0 6 0, .vscale 0 0 0 0 0 5].all (fun i => !i.wellFormed) = true := by decide

/-- R87, R88, R100, R101: matrix shapes, matrix sources, operand buffers, orders, dimensions and handler delays. -/
theorem test_engine_fields_refused :
    [Instr.mma 3 1 0 0 0 0 0 0, .mma 0 0 0 0 0 0 0 0, .mma 2 1 1 0 0 0 0 0, .mma 0 1 0 4 0 0 0 0, .mmaBin 0 1 0 0 15 0 0 0, .mzero 2 1 3,
      .mrd 0 1 0 3 0 0, .mrd 0 1 0 16 0 6, .mwr 0 1 0 16 3, .mwr 0 1 0 15 0, .mld 0 0 16, .mld 3 0 16, .mld 1 0 3, .cpy 0 3 1 0 0 0,
      .cpy 0 0 0 0 0 0, .cpy 1 0 1 0 0 1, .cpyf 0 0 0 0 0, .cpyg 0 3 0 0 0, .cpys 1 0 0 0 5, .ovl 1 0 0 1].all
      (fun i => !i.wellFormed) = true := by decide

/-- R50, R93, R96, R117, R203: register numbers that no table lists, barrier levels, scopes and fields beyond bit 63. -/
theorem test_scalar_fields_refused :
    [Instr.rdsys 0 0x0A, .rdsys 0 0x16, .wrsys 0 0x1E, .wrsys 0 0x24, .wreng 0 0x08, .wreng 0 0x1C, .syncb 5, .wrag 0 0 8, .acq 0 6,
      .rel 0 7, .ext 0 0 63 1, .ins 0 0 0 63 |> fun i => if i.wellFormed then .ins 0 0 1 63 else i].all
      (fun i => !i.wellFormed) = true := by decide

/-- The bounds of those checks are accepted. -/
theorem test_bounds_accepted :
    [Instr.vld 27 0 0, .brP 7 0, .vadd 27 31 31 7 14, .vcvt 27 31 0 0 1 4, .mma 2 63 6 31 31 1 1 7, .mld 2 3 31, .cpy 1 2 3 31 31 0,
      .rdsys 31 0x23, .wreng 31 0x1B, .syncb 4, .acq 31 5, .ext 31 31 63 0, .ins 31 31 0 63, .wrag 7 31 7].all Instr.wellFormed = true := by
  decide

/-! ## Words written out from 04_encoding.md -/

/-- R93: the CTRL map: op, then c and a 21-bit offset, or d, a and imm. -/
theorem test_ctrl_words :
    decodeSlot 0 0b000001_00111_111111111111111111110#32 = some (.brZ 7 0x1FFFFE) ∧
    decodeSlot 0 0b000101_00111_000000000000000000101#32 = some (.brP 7 5) ∧
    decodeSlot 0 0b001001_00000_000000000000000000011#32 = some (.jmp 3) ∧
    decodeSlot 0 0b001011_00000_01001_00000_00000000000#32 = some (.jmpi 9) ∧
    decodeSlot 0 0b001101_00000_00000_0000000000000000#32 = some .ret ∧
    decodeSlot 0 0b001110_00011_00010_0000_000000000111#32 = some (.zloop 3 2 7) ∧
    decodeSlot 0 0b001111_00011_00010_0101_010_000000000#32 = some (.ploop 3 2 5 2) ∧
    decodeSlot 0 0b010001_00000_00100_1111111111111111#32 = some (.waitt 4 0xFFFF) ∧
    decodeSlot 0 0b010011_00000_00000_0000000000000100#32 = some (.syncb 4) ∧
    decodeSlot 0 0b010111_01010_00000_00000000_00100011#32 = some (.rdsys 10 0x23) ∧
    decodeSlot 0 0b011000_00000_01010_00000000_00000011#32 = some (.wrsys 10 3) ∧
    decodeSlot 0 0b011001_00000_00000_0000000000_111111#32 = some (.fenceq 63) ∧
    decodeSlot 0 0b011010_00000_00000_1000000000000001#32 = some (.brk 0x8001) := by decide

/-- R94, R95: the SA and SB maps. -/
theorem test_scalar_words :
    decodeSlot 1 0b000001_00001_00010_00011_00000000111#32 = some (.sra 1 2 3) ∧
    decodeSlot 2 0b000001_00001_00010_00011_00000010001#32 = some (.subW 1 2 3) ∧
    decodeSlot 1 0b000010_11111_00010_00011_00000001110#32 = some (.remnW 31 2 3) ∧
    decodeSlot 1 0b000011_00001_00010_00000_00000000010#32 = some (.popc 1 2) ∧
    decodeSlot 1 0b000100_00001_00010_00011_00100_000000#32 = some (.sel 1 2 3 4) ∧
    decodeSlot 1 0b000101_00001_00010_00011_000000000_11#32 = some (.lea 1 2 3 3) ∧
    decodeSlot 1 0b001111_00001_00010_0000000000_111111#32 = some (.srai 1 2 63) ∧
    decodeSlot 1 0b010001_00001_000_10_1010101111001101#32 = some (.movhi 1 2 0xABCD) ∧
    decodeSlot 1 0b010010_00001_00010_0000_000111_001000#32 = some (.ext 1 2 7 8) ∧
    decodeSlot 2 0b100000_00001_00010_00000000000_00100#32 = some (.wrag 1 2 4) ∧
    decodeSlot 2 0b100010_00000_00010_00000000_00010001#32 = some (.wreng 2 0x11) ∧
    decodeSlot 2 0b100011_00_101_00_110_00000_00000001001#32 = some (.qgo 5 6 9) ∧
    decodeSlot 2 0b100101_00001_00000_00000_00000000000#32 = some (.rdgtime 1) ∧
    decodeSlot 1 0b100101_00001_00000_00000_00000000000#32 = none := by decide

/-- R96: the LS map. -/
theorem test_load_store_words :
    decodeSlot 3 0b000010_00001_00010_1111111111111110#32 = some (.ldH 1 2 0xFFFE) ∧
    decodeSlot 3 0b001000_00001_00010_0000000000001000#32 = some (.stD 1 2 8) ∧
    decodeSlot 3 0b001001_11011_00010_0000000000000000#32 = some (.vld 27 2 0) ∧
    decodeSlot 3 0b001100_11000_00010_00011_101_0000_0000#32 = some (.vstx 24 2 3 5) ∧
    decodeSlot 3 0b010000_00001_00010_0000000000000111#32 = some (.spstVector 1 2 7) ∧
    decodeSlot 3 0b010001_00001_00010_00011_00100_00_1_111#32 = some (.amoCas 1 2 3 4 1) ∧
    decodeSlot 3 0b010001_00001_00010_00011_00000_00_0_000#32 = some (.amoAdd 1 2 3 0) ∧
    decodeSlot 3 0b010001_00001_00010_00011_00001_00_0_000#32 = none ∧
    decodeSlot 3 0b010010_00001_00010_00011_00000000000#32 = some (.bind 1 2 3) ∧
    decodeSlot 3 0b010100_00000_00010_00000_00000000_101#32 = some (.rel 2 5) := by decide

/-- R97, R98: the VA and VB maps. -/
theorem test_vector_words :
    decodeSlot 4 0b000001_00001_00010_00011_100_1101_0101#32 = some (.vshl 1 2 3 4 13) ∧
    decodeSlot 4 0b000001_00001_00010_00000_100_1000_1010#32 = some (.vabs 1 2 4 8) ∧
    decodeSlot 5 0b000010_00001_00010_00011_000_1110_0001#32 = some (.vmulh 1 2 3 0 14) ∧
    decodeSlot 4 0b000010_00001_00010_00011_000_1110_0001#32 = none ∧
    decodeSlot 4 0b000111_00001_00010_00011_00100_101_010#32 = some (.vfnma 1 2 3 4 5 2) ∧
    decodeSlot 4 0b001000_00001_00010_00000_010_0000_0011#32 = some (.vflog2 1 2 2) ∧
    decodeSlot 4 0b001001_00001_00010_00011_010_1110_0010#32 = some (.vcmp 1 2 3 2 14 2) ∧
    decodeSlot 4 0b001100_00001_00010_00011_00111_010_000#32 = some (.vsel 1 2 3 7 2) ∧
    decodeSlot 5 0b010010_00001_00010_00011_000_0000_0000#32 = some (.vins 1 2 3) ∧
    decodeSlot 4 0b010011_00001_00010_00000_001_0000_0011#32 = some (.vfredadd 1 2 1) ∧
    decodeSlot 4 0b010100_00001_00010_00011_100_0000_0010#32 = some (.pxor 1 2 3 4) ∧
    decodeSlot 4 0b010101_00001_00010_11111_001_0110_0001#32 = some (.vsigset 1 2 31 1 6) := by decide

/-- R99, R100, R101: the CV and MX maps. -/
theorem test_conversion_and_engine_words :
    decodeSlot 7 0b000001_00001_00010_0_1010_011_0010_0011#32 = some (.vcvt 1 2 10 3 2 3) ∧
    decodeSlot 7 0b000011_00001_00010_00000_011_0101_0111#32 = some (.vunpack 1 2 3 5 7) ∧
    decodeSlot 7 0b000110_00001_00010_00000_011_0000_0011#32 = some (.sigminCv 1 2 3) ∧
    decodeSlot 6 0b000001_01_000011_101_10000_00010_1_0_010#32 = some (.mma 1 3 5 16 2 1 0 2) ∧
    decodeSlot 6 0b000011_10_000001_110_00000_00000_00000#32 = some (.mzero 2 1 6) ∧
    decodeSlot 6 0b000100_00_000001_001_10001_00111_0_1000#32 = some (.mrd 0 1 1 17 7 8) ∧
    decodeSlot 6 0b000110_01_000010_0_11_10001_00000_00000#32 = some (.mld 2 3 17) ∧
    decodeSlot 6 0b001000_0_10_11_00001_00010_00000000111#32 = some (.cpy 0 2 3 1 2 7) ∧
    decodeSlot 6 0b001100_1_00_00_00001_00010_00000000000#32 = some (.ovl 1 1 2 0) ∧
    decodeSlot 6 0b001110_0_1_111_00001_00010_00000000111#32 = some (.gamoAcqCas 1 1 2 7) ∧
    decodeSlot 6 0b010001_00011_00001_00010_00000000111#32 = some (.frecvMaxF32 1 2 7) ∧
    decodeSlot 6 0b010010_00000_00001_00010_00000000111#32 = some (.lnch 1 2 7) ∧
    decodeSlot 6 0b010011_00000_00000_00000_00000000000#32 = some .cwait := by decide

/-- R85, R88, R92 to R101: cells that no map lists, fields that must be zero, and codes that raise ILLOP decode to nothing. -/
theorem test_reserved_words :
    ([(0, 0b011100_00000_00000_0000000000000000#32), (0, 0b000000_00000_00000_0000000000000001), (0, 0b001101_00001_00000_0000000000000000),
      (0, 0b010011_00000_00000_0000000000000101), (1, 0b000001_00001_00010_00011_00000001110), (1, 0b000110_00000_00000_0000000000000000),
      (3, 0b010101_00000_00000_0000000000000000), (4, 0b000001_00001_00010_00011_000_0000_0000), (4, 0b010110_00000_00000_0000000000000000),
      (6, 0b000001_11_000001_000_00000_00000_00000), (6, 0b001000_0_11_01_00001_00010_00000000000),
      (6, 0b010100_00000_00000_0000000000000000), (7, 0b000111_00000_00000_0000000000000000)].all
      fun x => (decodeSlot x.1 x.2).isNone) = true := by decide

/-- A word that decodes in one slot class alone. -/
theorem test_table_word : decodeTableWord 32 0b100001_00001_00010_00000_00000000000 = some (.wrmp 1 2) := by decide


/-! ## Small states -/

/-- Core 0 with a task of launch 1 at TL0 and the cursor at a slot of its bundle; `g` sets what the test needs of the core. -/
def runs (slot : Nat) (g : Core → Core := id) : State :=
  let s := State.reset.withTask
  { s.setCore 0 (g (s.core 0)) with stage := .issue, cur := some ⟨0, slot⟩ }

/-- A core with scalars s1, s2, … -/
def withS (vs : List Word) (c : Core) : Core := c.modR fun r => { r with s := 0 :: vs ++ List.replicate (31 - vs.length) 0 }

/-- A vector of given words with tag 24 and zeros behind them. -/
def vecOf (ws : List Nat) : Vec := (ws.map fun w => ⟨BitVec.ofNat 32 w, 24⟩) ++ List.replicate (64 - ws.length) LaneW.zero

/-- A core with vectors v1, v2, … -/
def withV (vs : List Vec) (c : Core) : Core := c.modR fun r => { r with v := Vec.zero :: vs ++ List.replicate (23 - vs.length) Vec.zero }

/-- A core at a trap level. -/
def atTl (n : Nat) (c : Core) : Core := c.modX fun x => { x with sstat := BitVec.ofNat 64 (n * 2 ^ 24) }

/-- What core 0's last pending entry holds behind an outcome. -/
def lastKind : Host.Outcome State Fault Refusal → Option EKind
  | .next t => (t.core 0).p.prb.getLast?.map (·.kind)
  | _ => none

/-- The scalar it holds. -/
def lastScalar (o : Host.Outcome State Fault Refusal) : Option (Nat × Word) :=
  match lastKind o with
  | some (.scalar n v) => some (n, v)
  | _ => none

/-- The first `k` lanes it holds. -/
def lastLanes (o : Host.Outcome State Fault Refusal) (k : Nat) : List (Option (Nat × Nat)) :=
  match lastKind o with
  | some (.vector _ ls) => (ls.take k).map fun x => x.map fun y => (y.w.toNat, y.tag)
  | _ => []

/-- What a reader finds in core 0 behind an outcome. -/
def after {α : Type} (o : Host.Outcome State Fault Refusal) (g : Core → α) : Option α :=
  match o with
  | .next t => some (g (t.core 0))
  | _ => none

/-! ## Single steps -/

/-- R113, R114: sums wrap modulo 2^64, and the .w forms sign-extend bit 31. -/
theorem test_add_wraps :
    lastScalar (exec (.add 3 1 2) (runs 1 (withS [0xFFFFFFFFFFFFFFFF, 2]))) = some (3, 1) ∧
    lastScalar (exec (.addW 3 1 2) (runs 1 (withS [0x7FFFFFFF, 1]))) = some (3, 0xFFFFFFFF80000000) := by decide +kernel

/-- R113: `sra` keeps the sign and takes six bits of its amount; `slt` is signed and `sltn` natural. -/
theorem test_shift_and_compare :
    lastScalar (exec (.sra 3 1 2) (runs 1 (withS [0x8000000000000000, 67]))) = some (3, 0xF000000000000000) ∧
    lastScalar (exec (.slt 3 1 2) (runs 1 (withS [0xFFFFFFFFFFFFFFFF, 1]))) = some (3, 1) ∧
    lastScalar (exec (.sltn 3 1 2) (runs 1 (withS [0xFFFFFFFFFFFFFFFF, 1]))) = some (3, 0) := by decide +kernel

/-- R114: the high halves of the largest products, and a quotient that rounds towards zero. -/
theorem test_multiply_and_divide :
    lastScalar (exec (.mulh 3 1 2) (runs 1 (withS [0xFFFFFFFFFFFFFFFF, 0xFFFFFFFFFFFFFFFF]))) = some (3, 0) ∧
    lastScalar (exec (.mulhn 3 1 2) (runs 1 (withS [0xFFFFFFFFFFFFFFFF, 0xFFFFFFFFFFFFFFFF]))) = some (3, 0xFFFFFFFFFFFFFFFE) ∧
    lastScalar (exec (.div 3 1 2) (runs 1 (withS [0xFFFFFFFFFFFFFFF9, 2]))) = some (3, 0xFFFFFFFFFFFFFFFD) ∧
    lastScalar (exec (.rem 3 1 2) (runs 1 (withS [0xFFFFFFFFFFFFFFF9, 2]))) = some (3, 0xFFFFFFFFFFFFFFFF) := by decide +kernel

/-- R114: a zero divisor raises INTDIV0, class 4, at the divide's slot. -/
theorem test_divide_by_zero :
    after (exec (.div 3 1 2) (runs 2 (withS [5, 0]))) (fun c => (c.tl, c.x.bank1.cause, c.x.bank1.slot, c.f.pc.toNat)) =
      some (1, 0x400000000, 2, 4) := by decide +kernel

/-- R115, R117: `movhi` replaces one piece, `ext` and `ins` take their field. -/
theorem test_fields :
    lastScalar (exec (.movhi 1 2 0xABCD) (runs 1 (withS [0x1111222233334444]))) = some (1, 0x1111ABCD33334444) ∧
    lastScalar (exec (.ext 3 1 7 8) (runs 1 (withS [0x1111222233334455]))) = some (3, 0x44) ∧
    lastScalar (exec (.ins 2 1 7 8) (runs 1 (withS [0xEE, 0x1111222233334455]))) = some (2, 0x111122223333EE55) := by decide +kernel

/-- R38, the example of 02_task_state.md: with RRB 3 a write to v16 goes to v21, and with RRB 7 a read of v20 finds it
there; s24 rotates alike. -/
theorem test_rotation :
    lastScalar (exec (.addi 24 1 0) (runs 1 fun c => (withS [9] c).modL fun l => { l with rrb := 3 })) = some (29, 9) ∧
    (Core.zero.modL fun l => { l with rrb := 3 }).physV 16 = 21 ∧ (Core.zero.modL fun l => { l with rrb := 7 }).physV 20 = 21 := by
  decide +kernel

/-- The example of 05_scalar_control.md: a `call` at 0x300 by 0x40 goes to 0x340 behind two bundles and lands 0x303 in s31. -/
theorem test_call :
    lastScalar (exec (.call 0x40) (runs 0 fun c => c.modF fun f => { f with pc := 0x300 })) = some (31, 0x303) ∧
    after (exec (.call 0x40) (runs 0 fun c => c.modF fun f => { f with pc := 0x300 })) (fun c => c.f.shadow) =
      some (some ⟨2, true, 0x340⟩) := by decide +kernel

/-- R123: in a delay shadow a jump raises ILLDELAY, class 2. -/
theorem test_jump_in_shadow :
    after (exec (.jmp 3) (runs 0 fun c => c.modF fun f => { f with shadow := some ⟨1, false, 0⟩ }))
      (fun c => (c.tl, c.x.bank1.cause)) = some (1, 0x200000000) := by decide +kernel

/-- R126: a `zloop` with a count of zero skips its body of four bundles. -/
theorem test_zloop_of_nothing :
    after (exec (.zloop 1 0 3) (runs 0 fun c => (withS [0] c).modF fun f => { f with pc := 0x10 })) (fun c => (c.f.next, c.depth)) =
      some (some 0x15, 0) ∧
    after (exec (.zloop 1 0 3) (runs 0 fun c => (withS [6] c).modF fun f => { f with pc := 0x10 }))
      (fun c => (c.depth, c.l.levels.map fun x => (x.kind, x.start, x.last, x.lpc))) =
      some (1, [(1, 0x11, 0x14, 5), (0, 0, 0, 0), (0, 0, 0, 0), (0, 0, 0, 0)]) := by decide +kernel

/-- R132, R179: a `trap` is taken behind its slot, class 22 with its immediate, in the handler at 22. -/
theorem test_trap :
    after (exec (.trap 0x1234) (runs 0)) (fun c => (c.tl, c.x.bank1.cause, c.x.bank1.slot, c.f.pc.toNat)) =
      some (1, 0x1600001234, 1, 22) := by decide +kernel

/-- R52: writes of ILLOP rounding modes, and a write of SSTAT at TL0 that lands only its writable fields. -/
theorem test_wrsys :
    after (exec (.wrsys 1 0) (runs 0 (withS [0x800000]))) (fun c => (c.tl, c.x.bank1.cause)) = some (1, 0x100000000) ∧
    (Core.zero.sysWrite 0 0xFFFFFFFFFFFFFFFF).x.sstat = 0xFCE00000 := by decide +kernel

/-- R138, the example of 07_task_traps.md: a word load at 0x1002 raises ALIGN, class 14 and sub-class 1, at slot 3 with its address. -/
theorem test_misaligned_load :
    after (exec (.ldW 7 1 0) (runs 3 (withS [0x1002]))) (fun c => (c.x.bank1.cause, c.x.bank1.slot, c.x.bank1.addr, c.f.pc.toNat)) =
      some (0xE00000001, 3, 0x1002, 14) := by decide +kernel

/-- R16, R79, R139: a halfword store lands its two bytes, the low one first, and nothing beside them. -/
theorem test_store_lands :
    (match exec (.stH 2 1 2) (runs 3 (withS [0x100, 0x123456789ABCDEF0])) with
      | .next t => match exec (.storeLanding 0 0) t with
        | .next u => (u.bytes (tileBase 0 + 0x101) 4, (u.core 0).p.prb.length)
        | _ => ([], 0)
      | _ => ([], 0)) = ([0, 0xF0, 0xDE, 0], 0) := by decide +kernel

/-- R141: a scratchpad maximum is signed, and the old value comes back sign-extended. -/
theorem test_scratchpad_atomic :
    atomicNew .max false 0xFFFFFFFF 5 0 = 5 ∧ atomicNew .min false 0xFFFFFFFF 5 0 = 0xFFFFFFFF ∧ atomicNew .cas true 7 9 7 = 9 ∧
      atomicNew .cas true 7 9 8 = 7 := by decide +kernel

/-- The example of 06_vector.md: `vmadd.i16` under p1 = {0, 1, 2}. -/
theorem test_vmadd_example :
    lastLanes (exec (.vmadd 4 1 2 3 1 5) (runs 5 fun c =>
      (withV [vecOf [0xFFFE0003, 0x7FFF7FFF, 0x80008000, 1], vecOf [0x000703E8, 0x7FFF7FFF, 0x80008000, 1], vecOf [5, 0, 0, 1]] c).modR
        fun r => { r with p := r.p.set 1 7 })) 4 =
      [some (2991, 24), some (2147352578, 24), some (0x80000000, 24), none] := by decide +kernel

/-- R155: bytes wrap on their own, and a natural minimum differs from a signed one. -/
theorem test_vector_bytes :
    lastLanes (exec (.vadd 3 1 2 0 8) (runs 4 (withV [vecOf [0xFF80017F], vecOf [0x01800101]]))) 1 = [some (0x00000280, 24)] ∧
    lastLanes (exec (.vmin 3 1 2 0 8) (runs 4 (withV [vecOf [0xFF], vecOf [1]]))) 1 = [some (0xFF, 24)] ∧
    lastLanes (exec (.vmin 3 1 2 0 12) (runs 4 (withV [vecOf [0xFF], vecOf [1]]))) 1 = [some (1, 24)] := by decide +kernel

/-- The cancellation cases of 03_numbers.md: (1 + 2^−20) − 1 has tag 4, 1.5 − 1.5 is an untrusted zero, and 2^10 + 2^−20 keeps 24. -/
theorem test_cancellation :
    lastLanes (exec (.vfsub 5 1 2 0 0) (runs 4 (withV [vecOf [0x3F800008, 0x3FC00000, 0x44800000], vecOf [0x3F800000, 0x3FC00000, 0xB5800000]]))) 3 =
      [some (0x35800000, 4), some (0, 0), some (0x44800000, 24)] := by decide +kernel

/-- The example's weak operand: 3.0 with tag 10 less 2.75 gives 0.25 with tag 7; and its FMA, whose bits are all below the floor of c. -/
theorem test_weak_operands :
    fp32.addEl .rne (fp32.tv 0x40400000 10) (fp32.tv 0xC0300000 24) = (0x3E800000, 7) ∧
    fp32.fmaEl .rne (fp32.tv 0x3F800800 24) (fp32.tv 0x3F7FF000 24) (fp32.tv 0xBF800000 24) false = (0xB3800000, 0) := by decide +kernel

/-- The conversions of 03_numbers.md: 0.3 and 500.0 into E4M3 and E5M2. -/
theorem test_conversions :
    lastLanes (exec (.vcvt 3 1 0 0 3 0) (runs 7 (withV [vecOf [0x3E99999A, 0x43FA0000]]))) 2 = [some (0x2A, 4), some (0x7E, 0)] ∧
    lastLanes (exec (.vcvt 3 1 0 0 3 1) (runs 7 (withV [vecOf [0x3E99999A]]))) 1 = [some (0x29, 4)] ∧
    lastLanes (exec (.vcvt 3 1 0 0 4 0) (runs 7 (withV [vecOf [0x3E99999A, 0x43FA0000]]))) 2 = [some (0x35, 3), some (0x60, 3)] ∧
    ((fmtOfType 3).round (.rsr 0x7000) (fp32.read 0x3E99999A)).bits = 0x2A ∧
    ((fmtOfType 3).round (.rsr 0x1000) (fp32.read 0x3E99999A)).bits = 0x29 := by decide +kernel

/-- R160: the four functions of powers of two, exact, with the tag's limit of 22. -/
theorem test_approximations :
    lastLanes (exec (.vfrcp 3 1 0) (runs 4 (withV [vecOf [0x40000000]]))) 1 = [some (0x3F000000, 22)] ∧
    lastLanes (exec (.vfrsq 3 1 0) (runs 4 (withV [vecOf [0x40800000]]))) 1 = [some (0x3F000000, 22)] ∧
    lastLanes (exec (.vfexp2 3 1 0) (runs 4 (withV [vecOf [0x40400000]]))) 1 = [some (0x41000000, 22)] ∧
    lastLanes (exec (.vflog2 3 1 0) (runs 4 (withV [vecOf [0x41000000]]))) 1 = [some (0x40400000, 22)] := by decide +kernel

/-- The example of 06_vector.md: the weights of index 0x2A5B on the codebook entry 0x76543210, scaled by 2^2 into E4M3. -/
theorem test_codebook_example :
    (List.range 8).map (fun k => (fp32.round .rne (lq2Weight 0x2A5B 0x76543210 k)).bits) =
      [0xBE800000, 0x3F400000, 0xBFA00000, 0xBFE00000, 0x40100000, 0xC0300000, 0x40500000, 0x40700000] ∧
    lastLanes (exec (.vscale 3 2 6 0 3 0) (runs 7 (withV [Vec.zero, vecOf [0xBE800000, 0x40700000], Vec.zero, Vec.zero, Vec.zero,
      vecOf [0x81, 0x81]]))) 2 = [some (0xB8, 4), some (0x57, 4)] := by decide +kernel

/-- The example of 09_matrix.md: four blocks of ±4 into words (0, 0) and (0, 1), with the tags of R76. -/
theorem test_block_example :
    let ones := List.replicate 32 (.fin false 1 0)
    let up := List.replicate 32 (.fin false 1 (-3))
    let down := List.replicate 32 (.fin true 1 (-3))
    let add := fun w b => blockAdd w ones b 127 127 4
    let w2 := add (add (0, 24) up) up
    add (0, 24) up = (0x40800000, 9) ∧ w2 = (0x41000000, 10) ∧ add w2 down = (0x40800000, 9) ∧ add (add w2 down) down = (0, 0) ∧
      add (add w2 up) up = (0x41800000, 11) := by decide +kernel

/-- R163, R166, R168: a lane permutation takes its index modulo 64, and the first of no lanes is 64. -/
theorem test_lanes :
    lastLanes (exec (.vperm 3 1 2 0) (runs 4 (withV [vecOf [10, 11, 12], vecOf [66, 1]]))) 2 = [some (12, 24), some (11, 24)] ∧
    lastScalar (exec (.pfirst 3 1 0) (runs 4)) = some (3, 64) ∧
    lastScalar (exec (.pcnt 3 0 0) (runs 4)) = some (3, 64) := by decide +kernel

/-- The example of 08_spire.md: the copy of three rows issued at 100 with a delay of 5 starts at 105, on the 20-cycle path at 128 bytes a
cycle. -/
theorem test_copy_example :
    let s := State.reset.withTask
    let c := (((s.core 0).modR fun r => { r with
      s := (r.s.set 11 0x480010000).set 10 0x540020000, eng := ((r.eng.set 1 (128 + 3 * 2 ^ 24)).set 2 512).set 3 256 }).modF
        fun f => { f with task := ⟨1, 18, 0, 36, 0⟩ })
    let l := { s.launch 1 with place := [(18, 0), (21, 1)] }
    let t := { ((s.setCore 0 { c with clk := 100 }).setLaunch 1 l) with stage := .issue, cur := some ⟨0, 6⟩ }
    after (exec (.cpy 0 0 2 10 11 5) t) (fun c => c.e.cmds.map fun m => (m.start, m.land)) = some [(105, 128)] := by decide +kernel

/-- R31, R85: the first step of a word that stands at the fetch runs it: `wrmp` leaves its landing pending, and the next slot follows. -/
theorem test_first_instruction :
    after (step (State.reset.withFetchWord 32 0b100001_00001_00010_00000_00000000000)) (fun c => c.p.prb.map (·.kind)) =
      some [.mp 1 0] := by decide +kernel

/-- The example of 07_task_traps.md: bundle 0x050 with `add s5, s5, s6`, `ld.w s7, 0(s8)` and `vfadd.f32 v2, q0, v1`, a pending `vfmul` with
2 cycles left. -/
def frameExample : State :=
  let s := runs 1 fun c =>
    { ((((withV [vecOf [0x11]] c).modR fun r => { r with s := ((r.s.set 5 10).set 6 3).set 8 0x1002, q := [[vecOf [0x22]], [], [], []] }).modX
      fun x => { x with splb := 0x300#64 <<< 32, schc := 800 }).modF fun f => { f with pc := 0x050 }).modP fun p =>
        { p with uid := 1, prb := [{ uid := 0, kind := .vector 9 (List.replicate 64 (some ⟨7, 24⟩)), due := 802, samp := 802, bundle := 0x4E,
                                     slot := 4, issue := 798, held := false, suspect := false, poison := 0, paddr := 0, sthr := none,
                                     fpu := true, forced := false }] } with clk := 800 }
  { s with mem := ((s.mem.write (ispBase 0 + 0x50 * 32 + 4) (leBytes 0x04A53000 4)).write (ispBase 0 + 0x50 * 32 + 12)
      (leBytes 0x0CE80000 4)).write (ispBase 0 + 0x50 * 32 + 16) (leBytes 0x10580800 4) }

/-- The state behind the trap of its slot 3. -/
def frameExampleTrap : State :=
  match exec (.add 5 5 6) frameExample with
  | .next t => match exec (.ldW 7 8 0) { t with cur := some ⟨0, 3⟩ } with
    | .next u => u
    | _ => t
  | _ => frameExample

/-- The trap registers and the handler entry of the example. -/
theorem test_frame_example_registers :
    (frameExampleTrap.core 0).x.bank1 = ⟨0xE00000001, 0x050, 3, 0, 0x1002, 800⟩ ∧ (frameExampleTrap.core 0).f.pc = 14 ∧
      (frameExampleTrap.core 0).p.prb = [] := by decide +kernel

/-- The frame of the example: the popped head and v1 in the VA record, the LS latch, and the two entries. -/
theorem test_frame_example_memory :
    let at_ := fun a n => frameExampleTrap.mem.value (tileBase 0 + a) n
    at_ 0x2F01E8 4 = 0x22 ∧ at_ 0x2F0310 4 = 0x11 ∧ at_ 0x2F0B60 8 = 0x1002 ∧ at_ 0x2F0E00 8 = 0x0008000500000000 ∧
      at_ 0x2F0E08 8 = 13 ∧ at_ 0x2F0F30 8 = 0x0010002900000000 := by decide +kernel

/-- Reset keeps the forms of the model's tables. -/
theorem reset_tables : State.reset.memOk ∧ State.reset.keysOk := by
  refine ⟨rfl, ?_, ?_⟩ <;> exact List.Pairwise.nil


/-! ## States that meet the statements' hypotheses: scalar and control syllables -/

/-- The claims over `Ready`: any slot and class on the small state (no unit is busy, the buffer is empty). -/
theorem meets_ready (slot cls : Nat) : (runs slot).Ready ⟨0, slot⟩ cls :=
  ⟨rfl, Nat.zero_le _, by show (0 : Nat) < 96; decide⟩

/-- DivideResults, ZeroDivisorTraps: a divisor whose low 32 bits are zero divides 64 bits and traps 32; a zero divisor traps both. -/
theorem meets_divides :
    let s := runs 1 (withS [7, 0x100000000, 0])
    s.Ready ⟨0, 1⟩ 3 ∧ (s.ctx ⟨0, 1⟩).sc 1 2 ≠ 0 ∧ ((s.ctx ⟨0, 1⟩).sc 1 2).toNat % 2 ^ 32 = 0 ∧ (s.ctx ⟨0, 1⟩).sc 1 3 = 0 ∧
      s.Ready ⟨0, 1⟩ 2 ∧ BitVec.ofNat 32 ((s.ctx ⟨0, 1⟩).sc 1 1).toNat ≠ 0 :=
  ⟨⟨rfl, by decide +kernel, by decide +kernel⟩, by decide +kernel, by decide +kernel, by decide +kernel,
    ⟨rfl, by decide +kernel, by decide +kernel⟩, by decide +kernel⟩

/-- SelectAndAddressResults: a condition that is zero and one that is not; both opcodes with legal and illegal fn bits. -/
theorem meets_select :
    let x := (runs 1 (withS [5])).ctx ⟨0, 1⟩
    x.sc 2 1 ≠ 0 ∧ x.sc 2 0 = 0 ∧ bits 0x10000001#32 26 6 = 4 ∧ bits 0x10000040#32 0 6 = 0 ∧ bits 0x14000003#32 26 6 = 5 ∧
      bits 0x14000004#32 2 9 ≠ 0 := by decide +kernel

/-- BitFieldResults: fields that end at bit 63, and one that does not fit. -/
theorem meets_bit_fields :
    (0#6).toNat + ((63#6).toNat + 1) ≤ 64 ∧ (63#6).toNat + ((0#6).toNat + 1) ≤ 64 ∧ ¬(1#6).toNat + ((63#6).toNat + 1) ≤ 64 ∧
      bits 0x48000FC0#32 26 6 = 0x12 ∧ bits 0x4C000FC0#32 26 6 = 0x13 := by decide

/-- ParameterWritesComplete: `bind` of an aligned object with room in the table, of a range of length 0, and of a misaligned object. -/
theorem meets_bind :
    let s := runs 3 (withS [8, 0x1000, 64, 0, 9])
    s.Ready ⟨0, 3⟩ 5 ∧ s.Ready ⟨0, 3⟩ 62 ∧ ((s.ctx ⟨0, 3⟩).sc 0 1).toNat % 8 = 0 ∧ (s.core 0).r.bind.length < 16 ∧
      (s.ctx ⟨0, 3⟩).sc 2 4 = 0 ∧ ((s.ctx ⟨0, 3⟩).sc 0 5).toNat % 8 ≠ 0 :=
  ⟨⟨rfl, by decide +kernel, by decide +kernel⟩, ⟨rfl, by decide +kernel, by decide +kernel⟩, by decide +kernel, by decide +kernel,
    by decide +kernel, by decide +kernel⟩

/-- SystemRegisterReads, SystemRegisterWrites: each trap level, an illegal rounding mode and an illegal loop kind. -/
theorem meets_levels :
    ((runs 0).core 0).tl = 0 ∧ ((runs 0 (atTl 1)).core 0).tl = 1 ∧ ((runs 0 (atTl 2)).core 0).tl = 2 ∧
      4 ≤ (0x800000#64).toNat / 2 ^ 21 % 8 ∧ (0xC000000000000000#64).toNat / 2 ^ 62 = 3 := by decide +kernel

/-- BranchResults, ShadowForbidsBranches: a core with no shadow and one in a shadow; predicates of ones, of zeros and mixed. -/
theorem meets_branches :
    let c := (runs 0).core 0
    c.f.shadow = none ∧ (c.modF fun f => { f with shadow := some ⟨1, true, 0⟩ }).f.shadow ≠ none ∧
      ((runs 0).ctx ⟨0, 0⟩).pr 0 0 = BitVec.allOnes 64 ∧ ((runs 0).ctx ⟨0, 0⟩).pr 0 1 = 0 ∧
      ((runs 0 fun c => c.modR fun r => { r with p := r.p.set 1 5 }).ctx ⟨0, 0⟩).pr 0 1 ≠ BitVec.allOnes 64 := by decide +kernel

/-- A core in a `zloop` over bundles 2 to 5 at bundle 3. -/
def inLoop (c : Core) : Core :=
  (c.modL fun l => { l with levels := l.levels.set 0 ⟨1, 0, 0, 2, 5, 3, 0, 0, false⟩ }).modF fun f => { f with pc := 3 }

/-- BranchesLeaveLoops: the level holds the branch and its target, or only the branch, or the core is in a handler. -/
theorem meets_loop_levels :
    let c := inLoop Core.zero
    let v := c.l.levels.getD 0 LoopLevel.zero
    c.depth = 1 ∧ v.start ≤ c.f.pc ∧ c.f.pc ≤ v.last ∧ (v.start ≤ 5 ∧ 5 ≤ v.last) ∧ ¬(v.start ≤ 6 ∧ 6 ≤ v.last) ∧ c.tl = 0 ∧
      (atTl 1 c).tl ≠ 0 := by decide +kernel

/-- ZloopOpensALevel: the longest body, which ends at 4,095, with empty bundles behind; a count, no count, and four levels open. -/
theorem meets_zloop :
    let s := runs 0 (withS [6, 0x1000000000000])
    let c := s.core 0
    let last := c.f.pc.toNat + ((4094#12).toNat + 1)
    s.fabReport 0 (loopId 0) = none ∧ c.tl = 0 ∧ c.f.shadow = none ∧ last = 4095 ∧
      (∀ i < min 3 ((4094#12).toNat + 1), (s.fetch 0 (last - i) 0).toNat / 2 ^ 26 = 0) ∧ c.inner = none ∧
      ((s.ctx ⟨0, 0⟩).sc 0 1).toNat % 2 ^ 48 ≠ 0 ∧ ((s.ctx ⟨0, 0⟩).sc 0 2).toNat % 2 ^ 48 = 0 ∧ c.depth < 4 ∧
      4 ≤ (c.modL fun l => { l with levels := List.replicate 4 ⟨1, 0, 0, 0, 4095, 1, 0, 0, false⟩ }).depth := by decide +kernel

/-- ZloopOpensALevel, PloopOpensALevel: inside a level that ends where the new body ends. -/
theorem meets_nested :
    ∃ v, (inLoop Core.zero).inner = some v ∧ v.start ≤ (inLoop Core.zero).f.pc ∧ (inLoop Core.zero).f.pc ≤ v.last ∧
      (inLoop Core.zero).f.pc.toNat + ((1#12).toNat + 1) ≤ v.last.toNat := ⟨_, rfl, by decide +kernel⟩

/-- PloopOpensALevel: an empty kernel of eight bundles under a stage map of zeros, the longest that fits. -/
theorem meets_ploop :
    let s := runs 0 fun c => (withS [6] c).modF fun f => { f with pc := 4086 }
    let c := s.core 0
    s.fabReport 0 (loopId 0) = none ∧ c.tl = 0 ∧ c.f.shadow = none ∧ c.f.pc.toNat + 1 + ((7#3).toNat + 1) = 4095 ∧ c.inner = none ∧
      (∀ j < (7#3).toNat + 1, decodeSlot 0 (s.fetch 0 (c.f.pc.toNat + 2 + j) 0) ≠ none ∧
        (s.fetch 0 (c.f.pc.toNat + 2 + j) 0).toNat / 2 ^ 26 ∈ [0, 0x10, 0x14, 0x17, 0x18, 0x19, 0x1A, 0x1B]) ∧
      ∀ j < 8, (7#3).toNat + 1 ≤ j → s.fetch 0 (c.f.pc.toNat + 1) j = 0 := by decide +kernel

/-- PloopOpensALevel: a stage map that names the second of two stages for a syllable of its one kernel bundle. -/
theorem meets_stage_map :
    let s := { runs 0 (withS [6]) with mem := ((State.reset.mem.write (ispBase 0 + 32) (leBytes 0x10 4)).write (ispBase 0 + 64 + 4)
      (leBytes 0x04A63800 4)) }
    s.fetch 0 2 1 ≠ 0 ∧ (s.fetch 0 1 0).toNat / 2 ^ 4 % 16 < (1#4).toNat + 1 ∧ (s.fetch 0 2 0).toNat / 2 ^ 26 = 0 := by decide +kernel

/-- A copy command on the handler channel. -/
def handlerCopy : Cmd :=
  { uid := 0, kind := .copy ⟨false, false, true, true, 25, 10, 256, 0, 0⟩ ⟨0, 0, 64, 1, 1, 0, 0, 0, 0, none, 0, 0, 1, 1⟩, queue := 1,
    bundle := 0, slot := 6, syll := 0, issue := 0, start := 0, land := 11, started := true, sPos := 0, lPos := 0, flights := [], pages := [],
    regs := [] }

/-- LoopsBreak: a level that an `lbrk` names, of each kind; a core at TL0 whose sequencer reports nothing, and a handler. -/
theorem meets_lbrk :
    let c := (inLoop Core.zero).modF fun f => { f with lbrk := some 0 }
    let d := c.modL fun l => { l with levels := l.levels.set 0 ⟨2, 3, 1, 2, 5, 9, 0, 0, false⟩ }
    (runs 0 inLoop).fabReport 0 (loopId 0) = none ∧ ((runs 0 inLoop).core 0).tl = 0 ∧ ((runs 0 inLoop).core 0).inner ≠ none ∧
      ((runs 0 (withS [1])).ctx ⟨0, 0⟩).sc 0 1 ≠ 0 ∧ 1 ≤ ((runs 0 (atTl 1)).core 0).tl ∧
      c.f.lbrk = some 0 ∧ (c.l.levels[0]?.map LoopLevel.kind) = some 1 ∧ (d.l.levels[0]?.map LoopLevel.kind) = some 2 := by decide +kernel

/-- WaitsBegin, HaltsAndReturnsBegin, FencesMark: a task without a timetable and one with, outside a shadow, a handler, a core that halts, and a
fence of timed queues alone, of the handler channel alone, and of all. -/
theorem meets_control :
    let s := runs 0
    s.cur = some ⟨0, 0⟩ ∧ (s.core 0).tl = 0 ∧ (s.core 0).f.shadow = none ∧ (s.launchOf 0).ftt = none ∧ (4#3 : BitVec 3) = 4 ∧
      1 ≤ ((runs 0 (atTl 1)).core 0).tl ∧ ((runs 0 (atTl 1)).core 0).f.shadow = none ∧
      ((s.core 0).modF fun f => { f with halting := true }).f.halting = true ∧
      (5#6 &&& 0b111101#6 ≠ 0) ∧ (5#6).getLsbD 1 = false ∧ (2#6 &&& 0b111101#6 = 0) ∧ (2#6).getLsbD 1 = true ∧
      (63#6 &&& 0b111101#6 ≠ 0) ∧ (63#6).getLsbD 1 = true := by decide +kernel

/-- HandlerWaitsBegin: a handler whose channel has a command, and one whose channel is empty. -/
theorem meets_cwait :
    ((runs 6 fun c => (atTl 1 c).modE fun e => { e with cmds := [handlerCopy] }).core 0).e.cmds.any (·.queue == 1) = true ∧
      ((runs 6 (atTl 1)).core 0).e.cmds.any (·.queue == 1) = false ∧ (2#6).getLsbD 1 = true := by decide +kernel

/-- SoftwareTraps, TrapEntry, HandlersStartAtTheirEntries: a trap at TL0 and one at TL1 enter a handler. -/
theorem meets_enters : (runs 4).Enters ⟨0, 4⟩ ∧ (runs 4 (atTl 1)).Enters ⟨0, 4⟩ :=
  ⟨⟨rfl, by decide +kernel, by decide +kernel, by decide +kernel, by decide +kernel⟩,
    ⟨rfl, by decide +kernel, by decide +kernel, by decide +kernel, by decide +kernel⟩⟩

/-- A read-port generator of four vectors, started at cycle 0. -/
def generator (port : Nat) (started : Bool) : Cmd :=
  { handlerCopy with kind := .gen port 0 ⟨0, 256, 0, 0, 4, 1, 1, 0⟩, queue := 6, start := 0, land := 0, started := started }

/-- QueueGeneratorStarts: no earlier generator; one of four vectors whose last delivery has come at the new start, and one a cycle short of it;
a handler. -/
theorem meets_qgo :
    let s := runs 2 fun c => (c.modE fun e => { e with gens := [⟨1, 0, 0, 3⟩] }).modR fun r =>
      { r with ag := r.ag.set 3 ⟨0, 256, 0, 0, 4, 1, 1, 0⟩ }
    let c := s.core 0
    ((runs 2).core 0).lastGen 1 = none ∧ c.lastGen 1 = some ⟨1, 0, 0, 3⟩ ∧ c.tl = 0 ∧ 1 ≤ ((runs 2 (atTl 1)).core 0).tl ∧
      0 + (s.tt 0 22).lat + (c.r.ag.getD 3 AgSet.zero).total - 1 = 11 ∧ c.clk + (11#11).toNat = 11 ∧
      c.clk + (10#11).toNat < 11 := by decide +kernel

/-- An event that a boundary takes: a fault of priority 5. -/
def anEvent : Due :=
  { lvl := 0, prio := 5, cause := 12, sub := 4, eng := true, hch := false, bundle := 7, slot := 6, issue := 0, lane := 0, addr := 0x40,
    cmd := some (3, 0, 0x20000000) }

/-- HandlersStartAtTheirEntries, BoundariesTakeEvents: a core whose one due event is the first. -/
theorem meets_boundary_event :
    let s := runs 0 fun c => c.modP fun p => { p with dues := [anEvent] }
    (s.core 0).tl ≤ 1 ∧ (s.core 0).f.mode ≠ .halted ∧ (s.launchOf 0).holdsTraps = false ∧ anEvent ∈ (s.core 0).p.dues ∧
      anEvent.lvl = (s.core 0).tl ∧ anEvent.cause < 32 ∧
      ∀ d ∈ (s.core 0).p.dues, d.lvl = (s.core 0).tl → d ≠ anEvent → d.before anEvent = true := by decide +kernel

/-- WaittEndsAtItsTarget, WaitsEnd: a wait one cycle short of its target, and one at it. -/
theorem meets_waits :
    let s := fun n => runs 0 fun c => (c.modX fun x => { x with schc := n }).modF fun f => { f with wait := .waitt 9 }
    ((s 8).core 0).f.wait = .waitt 9 ∧ ((s 8).core 0).f.mode = .task ∧ (s 8).ticks 0 = true ∧
      ¬(9#64).toNat ≤ ((s 8).core 0).x.schc.toNat ∧ (9#64).toNat ≤ ((s 9).core 0).x.schc.toNat ∧ (s 8).cores.length = 1 ∧
      (((s 8).core 0).flow fun f => { f with wait := .waitg 0 }).f.wait = .waitg 0 := by decide +kernel

/-! ## Memory and vector syllables -/

/-- PlainAccessChecks: an address above the window, a misaligned one, a hole, a trap-frame slot (no store), and the byte below it. -/
theorem meets_plain_checks :
    let s := runs 3 fun c => c.modX fun x => { x with splb := 0x300#64 <<< 32 }
    2 ^ 40 ≤ (0x10000000000#64).toNat ∧ (2#64).toNat % 4 ≠ 0 ∧ ((s.launchOf 0).window 0x300000 4).isNone = true ∧
      (s.launchOf 0).window 0x2FFFFC 4 = some ⟨tileBase 0 + 0x2FFFFC, 0, 0, 0, 0, 0, 0x2FFFFC⟩ ∧
      (0x2FFFFC < field (s.core 0).x.splb 32 10 * 4096 ∧ field (s.core 0).x.splb 32 10 * 4096 - 65536 < 0x2FFFFC + 4) ∧
      ¬(field (s.core 0).x.splb 32 10 * 4096 - 65536 < 0x2EFFFC + 4) ∧ storePermitted 0 0 4 = true ∧
      (⟨tileBase 0, 0, 0, 0, 0, 0, 0⟩ : Win).own 0 = true := by decide +kernel

/-- OwnScratchpadIsReachable: the last vector of the scratchpad, and the last word below the trap frames. -/
theorem meets_scratchpad :
    let s := runs 3 fun c => c.modX fun x => { x with splb := 0x300#64 <<< 32 }
    (s.core 0).tl = 0 ∧ (s.core 0).f.task.lsp < 512 ∧ (s.launchOf 0).physOf (s.core 0).f.task.lsp = some 0 ∧ 0x2FFF00 % 256 = 0 ∧
      0x2FFF00 + 256 ≤ 3 * 2 ^ 20 ∧ 0x2EFFFC + 4 ≤ field (s.core 0).x.splb 32 10 * 4096 - 65536 := by decide +kernel

/-- ScalarLoads, ScalarStores, VectorLoadsAndStores: an access that passes its checks and one that does not; v0 as the data. -/
theorem meets_accesses :
    let s := runs 3 (withS [0x100, 0x10000000000])
    (∃ w, s.plainCheck 0 1 0x100 8 = .ok w ∧ s.plainCheck 0 2 0x100 256 = .ok w ∧ s.Ready ⟨0, 3⟩ (pathClass 0 w)) ∧
      (∃ e, s.plainCheck 0 1 0x10000000000 8 = .error e) ∧ (s.ctx ⟨0, 3⟩).vd 0 = .ok () ∧ (s.ctx ⟨0, 3⟩).ve 0 0 = .ok Vec.zero :=
  ⟨⟨⟨tileBase 0 + 0x100, 0, 0, 0, 0, 0, 0x100⟩, rfl, rfl, rfl, by decide +kernel, by decide +kernel⟩, ⟨_, rfl⟩, rfl, rfl⟩

/-- IndexedAccesses: 64 offsets four bytes apart from the base of the own scratchpad, in all lanes. -/
def offsets : Vec := (List.range 64).map fun l => ⟨BitVec.ofNat 32 (4 * l), 24⟩

/-- The offsets reach words of the own scratchpad, distinct in every lane group. -/
theorem meets_indexed :
    let s := runs 3 (withV [offsets])
    let addr := fun l => (s.ctx ⟨0, 3⟩).sc 0 0 + BitVec.setWidth 64 (offsets.at l).w
    s.Ready ⟨0, 3⟩ 21 ∧ (s.ctx ⟨0, 3⟩).ve 0 1 = .ok offsets ∧ (s.ctx ⟨0, 3⟩).ve 1 1 = .ok offsets ∧
      (∀ l < 64, (addr l).toNat < 2 ^ 40 ∧ (addr l).toNat % 4 = 0 ∧
        (((s.launchOf 0).window (addr l).toNat 1).map fun w => (w.unit, w.own 0, (s.core 0).inFrames w.off 4)) = some (0, true, false)) ∧
      ∀ l < 64, ∀ l' < 64, l ≠ l' → (addr l).toNat / 4 ≠ (addr l').toNat / 4 :=
  ⟨⟨rfl, by decide +kernel, by decide +kernel⟩, rfl, rfl, by decide +kernel, by decide +kernel⟩

/-- Spills: an area of 64 KiB, its last words, the first word beyond it in each mode and in a handler, and a misaligned offset. -/
theorem meets_spills :
    let s := fun (spm : Word) => runs 3 fun c => (withS [0xFFF8, 0x10000, 4, 0xFF00] c).modX fun x =>
      { x with splb := 0x2000000000, sstat := spm }
    let spsz := (field ((s 0).core 0).x.splb 32 10 - field ((s 0).core 0).x.splb 0 10) * 4096 - 65536
    let o := fun (r : BitVec 5) => (((s 0).ctx ⟨0, 3⟩).sc 0 r).toNat
    spsz = 0x10000 ∧ o 1 % 8 = 0 ∧ o 1 + 8 ≤ spsz ∧ spsz < o 2 + 8 ∧ o 3 % 8 ≠ 0 ∧ o 4 % 256 = 0 ∧ o 4 + 256 ≤ spsz ∧
      spsz < o 2 + 256 ∧ ((s 0).core 0).spm = false ∧ ((s 0x80000).core 0).spm = true ∧ ((s 0x80000).core 0).tl = 0 ∧
      ((s 0x1080000).core 0).spm = true ∧ 1 ≤ ((s 0x1080000).core 0).tl := by decide +kernel

/-- Spills: the vector forms' operands on the same states. -/
theorem meets_vector_spills :
    ((runs 3).ctx ⟨0, 3⟩).vd 27 = .ok () ∧ ((runs 3).ctx ⟨0, 3⟩).ve 0 0 = .ok Vec.zero ∧ (runs 3).Ready ⟨0, 3⟩ 6 ∧ (runs 3).Ready ⟨0, 3⟩ 11 :=
  ⟨rfl, rfl, ⟨rfl, by decide +kernel, by decide +kernel⟩, ⟨rfl, by decide +kernel, by decide +kernel⟩⟩

/-- ScratchpadAtomicsIssue: a word of the own scratchpad, and one of the accumulator memory. -/
theorem meets_scratchpad_atomics :
    let s := runs 3
    s.Ready ⟨0, 3⟩ 10 ∧ (∃ w, s.plainCheck 0 5 0x40 8 = .ok w ∧ w.unit = 0 ∧ w.own 0 = true) ∧
      ∃ w, s.plainCheck 0 5 (BitVec.ofNat 64 (2 ^ 26)) 4 = .ok w ∧ w.unit ≠ 0 :=
  ⟨⟨rfl, by decide +kernel, by decide +kernel⟩, ⟨_, rfl, by decide +kernel⟩, ⟨_, rfl, by decide +kernel⟩⟩

/-- SyncObjectsIssue: a core whose copy in flight writes a region bound to the object, and an aligned and a misaligned object. -/
theorem meets_sync_objects :
    let k := CmdKind.copy ⟨false, true, true, true, 28, 480, 64, 0, 0⟩ ⟨0x1000, 0, 64, 1, 1, 0, 0, 0, 0, none, 0, 0, 1, 1⟩
    let m := { handlerCopy with queue := 0, land := 600, kind := k }
    let s := runs 3 fun c => ((withS [8, 9] c).modE fun e => { e with cmds := [m] }).modR fun r => { r with bind := [⟨8, 0x1000, 64⟩] }
    ((s.ctx ⟨0, 3⟩).sc 0 1).toNat % 8 = 0 ∧ ((s.ctx ⟨0, 3⟩).sc 0 2).toNat % 8 ≠ 0 ∧ (s.core 0).tl = 0 ∧ m ∈ (s.core 0).e.cmds ∧
      (s.core 0).clk < m.land ∧ (s.core 0).boundTo ((s.ctx ⟨0, 3⟩).sc 0 1) m.writes = true ∧
      ∀ x ∈ ((runs 3).core 0).e.cmds, ((runs 3).core 0).boundTo 8 x.writes = false := by decide +kernel

/-- The vector claims: readable operands, a register and a port destination, every listed type. -/
theorem meets_vectors (slot cls : Nat) :
    let s := runs slot
    s.Ready ⟨0, slot⟩ cls ∧ (s.ctx ⟨0, slot⟩).vd 1 = .ok () ∧ (s.ctx ⟨0, slot⟩).ve 0 1 = .ok Vec.zero ∧
      (s.ctx ⟨0, slot⟩).ve 1 2 = .ok Vec.zero ∧ (s.ctx ⟨0, slot⟩).ve 2 3 = .ok Vec.zero ∧
      ((14#4).toNat, 32) ∈ [(8, 8), (9, 16), (10, 32), (12, 8), (13, 16), (14, 32)] ∧ ((6#3).toNat, 32) ∈ [(4, 8), (5, 16), (6, 32)] ∧
      ((2#4).toNat, fp16) ∈ [(0, fp32), (1, bf16), (2, fp16)] ∧ (2#3).toNat = (2#4).toNat ∧ (6#4).toNat ≤ 6 ∧ (2#4).toNat ≤ 2 :=
  ⟨meets_ready slot cls, rfl, rfl, rfl, rfl, by decide, by decide, by decide, by decide, by decide, by decide⟩

/-- A port as operand, where two vectors stand in q0, and as destination. -/
theorem meets_port_operand :
    ((runs 4 fun c => c.modR fun r => { r with q := [[vecOf [1], Vec.zero], [], [], []] }).ctx ⟨0, 4⟩).ve 0 24 = .ok (vecOf [1]) ∧
      ((runs 4).ctx ⟨0, 4⟩).vd 27 = .ok () := ⟨rfl, rfl⟩

/-- ConversionResults, PackAndScaleResults: widths that divide, and each group of types. -/
theorem meets_conversion_types :
    (fmtOfType 3).width ≤ (fmtOfType 0).width ∧ (fmtOfType 0).width ∣ 32 ∧ (0#4) ≠ 3#4 ∧ ((12#4).toNat, 8) ∈ [(8, 8), (9, 16), (10, 32), (12, 8),
      (13, 16), (14, 32)] ∧ (5#4).toNat ∈ [1, 2, 3, 4, 5] ∧ ((13#4).toNat, 16) ∈ [(8, 8), (9, 16), (12, 8), (13, 16)] := by decide +kernel

/-- WeightsAreExact: the last weight, in a format of the list. -/
theorem meets_weights : 7 < 8 ∧ bf16 ∈ [fp32, fp16, bf16] := by decide

/-- OperandsRead: an empty port and one that holds a vector at TL0, and the same core in a handler. -/
theorem meets_operands :
    let x := (runs 4 fun c => c.modR fun r => { r with q := [[vecOf [1]], [], [], []] }).ctx ⟨0, 4⟩
    x.c.f.latch = [] ∧ x.c.tl = 0 ∧ x.c.r.q.getD ((25#5).toNat % 4) [] = [] ∧ x.c.r.q.getD ((24#5).toNat % 4) [] = [vecOf [1]] ∧
      1 ≤ ((runs 4 (atTl 1)).ctx ⟨0, 4⟩).c.tl ∧ 24 ≤ (31#5).toNat := by decide +kernel

/-! ## Engine commands at issue -/

/-- Memory with page tables in frames 1 to 5 that map virtual page 0 to frame 16 with every right, page 1 to frame 17 without W, page 2 to
frame 18 as a host-owned control page with R and W, and page 3 to frame 19 of the device. -/
def tables : Memory :=
  [(4096, 0x8000000000002000), (2 * 4096, 0x8000000000003000), (3 * 4096, 0x8000000000004000), (4 * 4096, 0x8000000000005000),
    (5 * 4096, 0xF000000000010000), (5 * 4096 + 8, 0xE000000000011000), (5 * 4096 + 16, 0xB002000000012000),
    (5 * 4096 + 24, 0xF000000000013000)].foldl (fun (m : Memory) x => m.write x.1 (leBytes x.2 8)) []

/-- Such a state with launch 1 in the address space of those tables. -/
def maps (s : State) : State :=
  { s.setLaunch 1 { s.launch 1 with asid := 1, asroot := 1 } with mem := tables, seq := { s.seq with roots := [(1, 1)] } }

/-- MatrixCommandsIssue: legal shapes and sources, and the array free for every command, with the array owned whole and by windows. -/
theorem meets_matrix_issue (a : MxArgs) :
    (runs 6).MatrixFree ⟨0, 6⟩ a ∧ shapeOk 2 63 6 = true ∧ descOk 31 = true ∧ mrdType 10 = true ∧ mwrType 10 = true ∧ msOk 3 = true ∧
      msOk 16 = true ∧ (0#2) ≠ 2#2 ∧ (2#6).toNat ≤ 2 :=
  ⟨⟨rfl, by decide +kernel, by decide +kernel, by decide +kernel, fun _ hf => absurd hf List.not_mem_nil,
    fun h => absurd h (by decide +kernel)⟩, by decide, by decide, by decide, by decide, by decide, by decide, by decide, by decide⟩

/-- MatrixCommandsTurnedAway: a handler, another core's array, an array busy with a command, a fence, and a start outside its window. -/
theorem meets_matrix_turned_away :
    let s := fun (v : Word) => (runs 6 fun c => c.modX fun x => { x with sstat := v }).core 0
    let busy := ((runs 6).core 0).modE fun e => { e with mxRelease := 2, fences := [⟨4, 2⟩] }
    1 ≤ (atTl 1 Core.zero).tl ∧ ((s 0x4000000000).tl = 0 ∧ (s 0x4000000000).amode ≠ 2 ∧ (s 0x4000000000).half ≠ (s 0x4000000000).amode) ∧
      ((s 0x8000000000).amode = 2 ∧ (0 + 1) / (8 * 2 ^ (s 0x8000000000).awin) % 2 = (s 0x8000000000).half) ∧
      ((s 0x8000100000).amode = 2 ∧ (0 + 1) / (8 * 2 ^ (s 0x8000100000).awin) % 2 ≠ (s 0x8000100000).half) ∧
      busy.clk + 1 < busy.e.mxRelease ∧ (∃ f ∈ busy.e.fences, f.mask.getLsbD 2 = true ∧ busy.clk + 1 < f.at_) := by decide +kernel

/-- A core whose engine registers describe a copy of one row of 64 bytes. -/
def withCopy (ccfg : Word) (c : Core) : Core :=
  (withS [0, 0x1000] c).modR fun r => { r with eng := (((r.eng.set 0 ccfg).set 1 64).set 5 (2#64 <<< 60 ||| 4#64 <<< 40)).set 6 1 }

/-- CopiesIssue: window to window, from a page of the own tower under a grant, and a fill; on the handler channel. -/
theorem meets_copies :
    let s := runs 6 (withCopy 0)
    let x := s.ctx ⟨0, 6⟩
    (∃ g, (s.core 0).copyArgs 1 (x.sc 0 1) (x.sc 1 2) none = some g) ∧ (∃ g, (s.core 0).copyArgs 1 (x.sc 0 1) 0 (some 0) = some g) ∧
      (0#2) ≠ 3#2 ∧ (s.core 0).ccfg.toNat / 2 ^ 2 % 2 ^ 2 ≠ 3 ∧ (s.core 0).tl = 0 ∧ 1 ≤ (atTl 1 (withCopy 0 Core.zero)).tl :=
  ⟨⟨_, rfl⟩, ⟨_, rfl⟩, by decide, by decide +kernel, by decide +kernel, by decide +kernel⟩

/-- Nothing bars a copy-engine command between windows on the small state, at whatever start. -/
theorem meets_copy_free (p : PathArgs) (m : Cmd) (occ : Nat) (hp : p.global = false) (gather : Bool) :
    (runs 6 (withCopy 0)).CopyFree ⟨0, 6⟩ p m occ gather where
  channel := Nat.zero_le _
  port := by simp only [hp]; exact Nat.zero_le _
  gathers := fun _ => ⟨Nat.zero_le _, Nat.zero_le _⟩
  fence := fun _ hf => absurd hf List.not_mem_nil
  acquired := ⟨Nat.zero_le _, Nat.zero_le _⟩
  released := fun _ => by show (0 : Nat) ≤ _; exact Nat.zero_le _
  guard := rfl
  granted := fun h => by rw [hp] at h; cases h

/-- A grant of the whole period covers a command with a global endpoint. -/
theorem meets_copy_grant :
    ({ Launch.zero with per := 64, grants := [⟨0, 0, 0, 0, 64⟩] } : Launch).granted 0 0 0 5 64 = true ∧
      (⟨true, false, true, false, 25, 480, 64, 0, 0⟩ : PathArgs).grantKind = 0 := by decide +kernel

/-- CopyGeometry: three dimensions, a zero count that only the second dimension needs, a zero length and a reserved FFMT. -/
theorem meets_geometry :
    let c := fun (cfg len : Word) => Core.zero.modR fun r => { r with eng := (r.eng.set 0 cfg).set 1 len }
    (((c 0 0x10001000040).copyArgs 3 0 0 none).isSome = true) ∧ ((c 0 64).copyArgs 1 0 0 none).isSome = true ∧
      ((c 0 64).copyArgs 2 0 0 none).isNone = true ∧ ((c 0 0).copyArgs 1 0 0 none).isNone = true ∧
      ((c 0xD000 64).copyArgs 1 0 0 none).isNone = true := by decide +kernel

/-- CopiesTurnedAway: a copy between two global endpoints. -/
theorem meets_global_copy :
    ((runs 6 (withCopy 0xC)).core 0).ccfg.toNat / 2 ^ 2 % 2 ^ 2 = 3 ∧
      (((runs 6 (withCopy 0xC)).core 0).copyArgs 1 0 0 none).isSome = true := by decide +kernel

/-- GathersIssue, OverlaysIssue: four elements of four bytes, and two bundles. -/
theorem meets_gathers :
    let w := ((runs 6 (withCopy 0)).core 0).engReg 5
    2 ≤ w.toNat / 2 ^ 60 ∧ w.toNat / 2 ^ 60 ≤ 12 ∧ w.toNat / 2 ^ 40 % 2 ^ 20 = 4 ∧
      ((runs 6 (withCopy 0)).core 0).ccfg.toNat / 2 ^ 12 % 2 ^ 4 < 13 ∧ (((runs 6 (withCopy 0)).core 0).engReg 6).toNat % 2 ^ 12 + 1 = 2 := by
  decide +kernel

/-- OverlaysIssue: its path is global; a grant of every cycle covers it. -/
theorem meets_overlay_free :
    let s := runs 6 (withCopy 0)
    let t := s.setLaunch 1 { s.launch 1 with per := 1, grants := [⟨0, 0, 0, 0, 1⟩, ⟨0, 0, 1, 0, 1⟩] }
    t.CopyFree ⟨0, 6⟩ ⟨true, false, false, false, 27, 900, 64, 0, 0⟩ handlerCopy 1 false where
  channel := Nat.zero_le _
  port := Nat.zero_le _
  gathers := fun _ => ⟨Nat.zero_le _, Nat.zero_le _⟩
  fence := fun _ hf => absurd hf List.not_mem_nil
  acquired := ⟨Nat.zero_le _, Nat.zero_le _⟩
  released := fun _ => Nat.zero_le _
  guard := rfl
  granted := fun _ => by decide +kernel

/-- GlobalAtomicsIssue: a free channel with no fence and no guard, and a channel that its last atomic holds. -/
theorem meets_gamo (m : Cmd) :
    let c := (runs 6).core 0
    let b := c.modE fun e => { e with atomCh := [(0, 1)] }
    c.tl = 0 ∧ alGet 0 c.e.atomCh 0 ≤ c.clk + 0 ∧ c.unfenced 3 (c.clk + 0) ∧ c.e.acqCopy ≤ c.clk ∧ c.e.acqAtom ≤ c.clk ∧ c.guarded m = false ∧
      c.e.last 0 ≤ c.clk ∧ c.e.last 3 ≤ c.clk ∧ b.clk + 0 < alGet 0 b.e.atomCh 0 :=
  ⟨rfl, Nat.zero_le _, fun _ hf => absurd hf List.not_mem_nil, Nat.zero_le _, Nat.zero_le _, rfl, by decide +kernel, by decide +kernel,
    by decide +kernel⟩

/-- A timetable of two packages with the circuit of 17_fabric.md's example and one stream. -/
def timetable (self : Nat) : Ftt :=
  { npkg := 2, hopmax := 400, perf := 16, self := self, pkgs := [0, 1],
    circuits := [⟨0, 1, 0, 0, 0, 0, 0, 15, 2, 0, 64⟩], streams := [⟨0, 1, 9, 1⟩] }

/-- The small state with the timetable, and cores that name its circuit, its stream and its receive. -/
def fabric (self clk : Nat) (g : Core → Core) : State :=
  let s := runs 6 fun c => { g c with clk := clk }
  s.setLaunch 1 { s.launch 1 with ftt := some (timetable self), lclk := clk }

/-- FabricCommandsIssue: the circuit of the example at a start of 96, its frame 12 granted; a data transfer, a release, and its receive. -/
theorem meets_fabric :
    let snd := fabric 0 95 fun c => c.modR fun r => { r with eng := r.eng.set 24 (6#64 <<< 32) }
    let str := fun (w : Word) => (fabric 0 0 fun c => c.modR fun r => { r with eng := r.eng.set 24 w }).core 0
    let rcv := fabric 1 490 fun c => c.modR fun r => { r with eng := r.eng.set 25 (6#64 <<< 32) }
    (∃ c : Circuit, (timetable 0).circuits[((snd.core 0).engReg 0x1A).toNat % 2 ^ 12]? = some c ∧ c.spkg = 0 ∧
      c.stask = 2 * (snd.core 0).f.task.lsp + (snd.core 0).f.task.half ∧ (95 + 1) % 8 = 0 ∧ c.granted 16 (96 / 8) = true) ∧
      ((snd.core 0).engReg 0x18).toNat / 2 ^ 32 % 2 ^ 16 = 6 ∧
      ((str 0x8000000100000000).engReg 0x18).toNat / 2 ^ 63 = 1 ∧ ((str 0x8000000100000000).engReg 0x18).toNat / 2 ^ 32 % 2 ^ 16 = 1 ∧
      ((str 0xC000000000000000).engReg 0x18).toNat / 2 ^ 62 % 2 = 1 ∧ 0 < (timetable 0).streams.length ∧
      (∃ c : Circuit, (timetable 1).circuits[((rcv.core 0).engReg 0x19).toNat % 2 ^ 12]? = some c ∧ c.dpkg = 1 ∧ c.dtask = 0) ∧
      ((rcv.core 0).engReg 0x1B).toNat % 2 ^ 12 ≤ 2048 :=
  ⟨⟨_, rfl, by decide +kernel⟩, by decide +kernel, by decide +kernel, by decide +kernel, by decide +kernel, by decide +kernel,
    ⟨_, rfl, by decide +kernel⟩, by decide +kernel⟩

/-- LaunchesIssue. -/
theorem meets_lnch : alGet 0 ((runs 6).core 0).e.fabLast launchQueue ≤ 0 ∧ ((runs 6).core 0).unfenced 5 0 :=
  ⟨by decide +kernel, fun _ hf => absurd hf List.not_mem_nil⟩

/-! ## Landings, samples, waits, boundaries and handlers -/

/-- A pending entry under uid 0. -/
def entry (k : EKind) : Entry :=
  { uid := 0, kind := k, due := 1, samp := 1, bundle := 0, slot := 4, issue := 0, held := false, suspect := false, poison := 0, paddr := 0,
    sthr := none, fpu := false, forced := false }

/-- The small state with an entry in core 0's buffer. -/
def pends (e : Entry) (g : Core → Core := id) : State := runs 0 fun c => (g c).modP fun p => { p with prb := [e] }

/-- 64 lanes of one with tag 24, of which the first alone is written. -/
def oneLane : List (Option LaneW) := some ⟨1, 24⟩ :: List.replicate 63 none

/-- ResultsLand: an entry of each kind that no check holds back. -/
theorem meets_results :
    ∀ k ∈ [EKind.scalar 0 5, .scalar 31 5, .vector 23 oneLane, .pred 0 1 1, .pred 7 1 1, .port 3 oneLane, .ag 7 7 1, .mp 7 1, .eng 27 1,
        .sys 0x23 1, .binding ⟨8, 0, 0⟩, .reseed 1],
      ((pends (entry k)).core 0).entryOf 0 = some (entry k) ∧ ((pends (entry k)).core 0).checked (entry k) = false ∧
        (pends (entry k)).landFails 0 (entry k) = [] := by decide +kernel

/-- ResultsLand: the widths of the vectors and ports it speaks of. -/
theorem meets_result_widths :
    oneLane.length = 64 ∧ (((runs 0).core 0).r.v.getD 23 Vec.zero).length = 64 ∧ (((runs 0).core 0).r.wq.getD 3 []).length < 4 := by
  decide +kernel

/-- SystemRegisterFields: the four levels stand in the table. -/
theorem meets_loop_table : 3 < Core.zero.l.levels.length := by decide

/-- FailingResultsAreHeld: a lane whose tag is below STHR, in lane 1, with lane 0 unwritten. -/
theorem meets_failing_result :
    let e := { entry (.vector 3 (none :: some ⟨1, 7⟩ :: List.replicate 62 none)) with sthr := some 8 }
    ((pends e).core 0).entryOf 0 = some e ∧ e.result = true ∧ ((pends e).core 0).checked e = false ∧ (pends e).landFails 0 e = [(4, 5, 4, 1, 0)] ∧
      e.held = false ∧ (none :: some (⟨1, 7⟩ : LaneW) :: List.replicate 62 none).getD 1 none = some ⟨1, 7⟩ := by decide +kernel

/-- FailingResultsAreHeld: VA's FP pipe fails in lane 1, which the result has, in the sign of the shadow unit's word, and the belfry counts one
report (R151, R190, R252, R363); a NaN on both sides and on one. -/
theorem meets_failing_pipe :
    let e := { entry (.vector 3 (none :: some ⟨1, 24⟩ :: List.replicate 62 none)) with fpu := true }
    let s := { pends e with bel := { Belfries.zero with upsets := [(0, .unit (ruidOf 0 2 0 0) 1 0x80000000)] } }
    e.held = false ∧ (s.core 0).inj 0 = false ∧ s.switchedUnit (e.pipeId 0) = false ∧ s.wrongLanes (e.pipeId 0) = [(1, 0x80000000)] ∧
      e.compares 1 = true ∧ laneMismatch e.typ (e.laneWord 1) 0x80000000 = true ∧
      s.landFails 0 e = [(1, 6, 4, 1, 0)] ∧ ((s.unitReports 0 e [(1, 6, 4, 1, 0)]).unit (e.pipeId 0)).divc = 1 ∧
      (s.unitReports 0 e [(1, 6, 4, 1, 0)]).bel.upsets = [] ∧
      ((fp32.read 0x7FC00000).isNan && (fp32.read 0xFFC00000).top8.isNan) = true ∧
      ((fp32.read 0x7FC00000).isNan && (fp32.read 0x80000000).top8.isNan) = false := by decide +kernel

/-- StoresLand: stores of a word and a vector at offset 0x100 of the own scratchpad, and a scatter of two lanes of its first group. -/
theorem meets_stores :
    let vstx := EKind.vstx 0x100 ((List.range 64).map (4 * ·)) 3 Vec.zero 0
    (∀ k ∈ [EKind.store 2 0x100 5, .vstore 0x100 Vec.zero, vstx], ((pends (entry k)).core 0).entryOf 0 = some (entry k) ∧
        (pends (entry k)).fabFails 0 (entry k) = none) ∧
      (((runs 0).launchOf 0).window 0x100 1 = some ⟨tileBase 0 + 0x100, 0, 0, 0, 0, 0, 0x100⟩) ∧ tileBase 0 + 0x100 < 2 ^ 47 ∧
      (∀ j < 4, (((runs 0).launchOf 0).window (0x100 + ((List.range 64).map (4 * ·)).getD j 0) 1).map (fun w => (w.unit, w.flat)) =
        some (0, tileBase 0 + 0x100 + ((List.range 64).map (4 * ·)).getD j 0)) ∧
      ∀ i < 4, ∀ j < 4, i ≠ j → ((List.range 64).map (4 * ·)).getD i 0 + 4 ≤ ((List.range 64).map (4 * ·)).getD j 0 ∨
        ((List.range 64).map (4 * ·)).getD j 0 + 4 ≤ ((List.range 64).map (4 * ·)).getD i 0 := by decide +kernel

/-- LoadsSample, ScratchpadAtomicsApply: loads of each kind and an atomic there, where no lantern records. -/
theorem meets_loads :
    (∀ k ∈ [EKind.load 1 5 0x100, .load 4 5 0x100, .load 6 5 0x100, .vload 5 false 3 0x100, .vload 7 false 3 0x100,
        .amo .add true 5 0x100 1 0], ((pends (entry k)).core 0).entryOf 0 = some (entry k) ∧ (pends (entry k)).Quiet 0) := by
  intro k hk
  have : ((pends (entry k)).core 0).entryOf 0 = some (entry k) := rfl
  exact ⟨this, rfl⟩

/-- A core 0 that holds a command under uid 0. -/
def commands (m : Cmd) (g : Core → Core := id) : State := runs 6 fun c => (g c).modE fun e => { e with cmds := [m] }

/-- The set of the generator. -/
def genSet : AgSet := ⟨0, 256, 0, 0, 4, 1, 1, 0⟩

/-- GeneratorsRun: a generator not started; one of a read port and one of a write port with vectors to come; a delivery and a landing. -/
theorem meets_generators :
    let fl := { dst := 0, data := List.replicate 256 0, tags := List.replicate 64 24, fmt := 0, blk := 0, poison := 0, due := 0 : Flight }
    let s := commands { generator 3 true with flights := [fl] }
    let w := commands (generator 7 true) fun c => c.modR fun r => { r with wq := [[], [], [], [vecOf [1]]] }
    ((commands (generator 3 false)).core 0).cmd 0 = some (generator 3 false) ∧ s.Quiet 0 ∧ s.fabReport 0 (genId 0 3) = none ∧
      (s.core 0).cmd 0 = some { generator 3 true with flights := [fl] } ∧ (generator 3 true).cut = false ∧ 0 < genSet.total ∧
      s.genCheck 0 genSet 0 1 = .ok (tileBase 0) ∧ s.genCheck 0 genSet fl.fmt 2 = .ok (tileBase 0) ∧ tileBase 0 < 2 ^ 47 ∧
      ((s.core 0).r.q.getD 3 []).length < 4 ∧ 4 ≤ ((List.replicate 4 Vec.zero)).length ∧ (w.core 0).cmd 0 = some (generator 7 true) ∧
      (w.core 0).r.wq.getD (7 - 4) [] = [vecOf [1]] ∧ (s.core 0).r.wq.getD (7 - 4) [] = [] ∧
      (s.core 0).p.dues.any (fun d => d.cmd == some (0, 6, 0)) = false :=
  ⟨rfl, rfl, rfl, rfl, rfl, by decide +kernel, rfl, rfl, by decide +kernel, by decide +kernel, by decide, rfl, rfl, rfl, rfl⟩

/-- Two cores of one spire in a spire barrier, arrived in cycles 3 and 7 of a launch whose clock is at 11. -/
def barrier : State :=
  let s := State.reset.withTask
  let at_ := fun (h n : Nat) => { s.core 0 with clk := 11 }.modF fun f =>
    { f with task := ⟨1, 0, h, h, 0⟩, wait := .syncb 0, arr := (n, BitVec.ofNat 64 n) }
  { s with cores := [(0, at_ 0 3), (1, at_ 1 7)], launches := [(1, { s.launch 1 with lclk := 11 })] }

/-- BarriersRelease: both cores have come to the release, four cycles after the last arrival. -/
theorem meets_barrier :
    barrier.keysOk ∧ (barrier.members 1 0 0).length = 2 ∧ (barrier.launch 1).kill = none ∧
      (∀ m ∈ barrier.members 1 0 0, (m.2.f.wait = .syncb 0 ∧ m.2.f.tw = .none) ∧ (m.2.f.arr.1 ≤ 7 ∧ m.2.f.arr.2.toNat ≤ 7) ∧
        barrier.ticks m.1 = true ∧ 7 + 4 ≤ m.2.clk) ∧
      (∃ m ∈ barrier.members 1 0 0, m.2.f.arr.1 = 7) ∧ ∃ m ∈ barrier.members 1 0 0, m.2.f.arr.2.toNat = 7 := by
  refine ⟨⟨?_, ?_⟩, ?_⟩
  · exact List.Pairwise.cons (by intro x hx; cases List.mem_singleton.mp hx; decide) (List.pairwise_singleton _ _)
  · exact List.pairwise_singleton _ _
  · decide +kernel

/-- BarriersRelease: a core that comes to the cycle of a release in force. -/
theorem meets_leave :
    let s := runs 0 fun c => c.modF fun f => { f with wait := .leave 0 0 11 }
    (s.core 0).f.wait = .leave 0 0 11 ∧ (s.core 0).f.tw = .none ∧ (s.core 0).f.mode = .task ∧ s.ticks 0 = true ∧ 0 ≤ (s.core 0).clk ∧
      (s.launchOf 0).kill = none ∧ s.cores.length = 1 ∧ s.launches.length = 1 := by decide +kernel

/-- BoundariesTakeEvents: a pending interrupt where it is open, a poisoned bundle, and a calm boundary. -/
theorem meets_boundaries :
    let irq := runs 0 fun c => c.modF fun f => { f with irqTimer := true }
    let bad := let s := runs 0; s.setSpire 0 { s.spire 0 with badBundles := [0] }
    (∀ d ∈ (irq.core 0).p.dues, d.lvl ≠ (irq.core 0).tl) ∧ (irq.core 0).irqOpen = true ∧ (irq.core 0).f.irqTimer = true ∧
      (bad.core 0).issues = true ∧ (bad.spire (0 / 2)).badBundles.contains (0 % 2 * 4096 + (bad.core 0).f.pc.toNat) = true ∧
      (runs 0).fetchEcc 0 = none ∧ (runs 0).breakpoint 0 = none ∧ (runs 0).sampleDue 0 = false ∧ ((runs 0).core 0).f.irqTimer = false := by
  decide +kernel

/-- A state whose tower-0 lantern has the given registers. -/
def lantern (s : State) (l : Lantern) : State := { s with lanterns := s.lanterns.set 0 l }

/-- BoundariesTakeEvents: an armed breakpoint on bundle 0 of the attached launch; a sample record with room in the ring. -/
theorem meets_breakpoint_and_sample :
    let b := lantern (runs 0) { Lantern.zero with datt := 0x8000000000000001, bp := 0x9000000000000000#64 :: List.replicate 7 0 }
    let p := lantern (runs 0) { Lantern.zero with lctl := 0x06000401 }
    b.breakpoint 0 = some 0 ∧ b.fetchEcc 0 = none ∧ p.sampleDue 0 = true ∧ p.breakpoint 0 = none ∧ (p.lantern (towerOf 0)).lctl.getLsbD 0 = true ∧
      (p.lantern (towerOf 0)).lctl.getLsbD 10 = true ∧ (p.lantern (towerOf 0)).dropped = 0 ∧ (p.lantern (towerOf 0)).fits = true ∧
      towerOf 0 < p.lanterns.length := by decide +kernel

/-- A core at TL1 in a mode, with the trap frames below 3 MiB. -/
def handler (m : Mode) (c : Core) : Core :=
  (c.modX fun x => { x with sstat := 0x1000000, splb := 0x30000000000 }).modF fun f => { f with mode := m }

/-- HandlersRun: a handler about to start, a `cwait` with an empty channel, a `tret` whose frame holds a header and no entries, and one whose
frame holds none. -/
theorem meets_handlers :
    let s := fun m => runs 0 (handler m)
    let t := { s .tret with mem := (s .tret).mem.write (tileBase 0 + 0x2F0000) (leBytes (2 ^ 56 + 2 ^ 54) 8) }
    ((s (.entry 5)).core 0).f.mode = .entry 5 ∧ ((s .cwait).core 0).f.mode = .cwait ∧ (t.core 0).f.mode = .tret ∧ (t.core 0).p.prb = [] ∧
      (∀ m ∈ (t.core 0).e.cmds, m.queue ≠ 1) ∧ (t.core 0).tl = 1 ∧ (t.readFrame 0 1).ok 1 = true ∧ (t.readFrame 0 1).descs = [] ∧
      (t.core 0).p.held = [] ∧ (t.core 0).f.latch = [] ∧ ((s .tret).readFrame 0 1).ok 1 = false := by decide +kernel

/-- HandlersRun: a frame descriptor of each kind below 5. -/
theorem meets_descriptor : 0x0008000500000000 / 2 ^ 61 < 5 ∧ 0x0008000500000000 / 2 ^ 51 % 1024 = 1 := by decide

/-- FreezesStopAndThaw: a running core of a launch that another component froze F cycles ago, or that a message stops at its cycle; and a
core stopped at a cycle that the slot clock has come back to. -/
theorem meets_freezes :
    let s := fun (g : Launch → Launch) => let s := runs 0; { s.setLaunch 1 (g (s.launch 1)) with wall := staggerF }
    let a := s fun l => { l with causes := [.trap 1], fstart := 0 }
    let b := s fun l => { l with causes := [.remote 0 4] }
    (a.launchOf 0).phase = .running ∧ (a.core 0).f.mode = .task ∧ (a.core 0).f.stopped = false ∧ (a.core 0).f.dev = none ∧
      (a.core 0).f.stepTo = none ∧ Cause.trap 1 ∈ (a.launchOf 0).causes ∧ (a.launchOf 0).fstart + (a.launchOf 0).stagger ≤ a.wall ∧
      (0 ≤ (b.core 0).clk ∧ Cause.remote 0 4 ∈ (b.launchOf 0).causes) ∧ (s id).pkgFreeze = [] ∧ ((s id).launchOf 0).causes = [] := by
  decide +kernel

/-- A kill's report, with its master stopped in slot-clock cycle 0. -/
def aKill : KillInfo := ⟨0, 0, 0, 0, 0, 0, 0, 0, 0, 8, []⟩

/-- FreezesStopAndThaw: a kill 4,096 slot-clock cycles after its master's stop. -/
theorem meets_kill_freeze :
    let s := (runs 0).setLaunch 1 { (runs 0).launch 1 with kill := some aKill, lclk := 4096 }
    (s.launch 1).kill = some aKill ∧ aKill.stop + 4096 ≤ (s.launch 1).lclk ∧ Cause.kill ∉ (s.launch 1).causes := by decide +kernel

/-- InterruptsPend: a task with a comparator set, and an idle core. -/
theorem meets_interrupts :
    let s := runs 0 fun c => c.modF fun f => { f with timer := some 0 }
    (s.core 0).f.mode ≠ .idle ∧ (s.core 0).f.mode ≠ .halted ∧ (s.core 0).f.mode ≠ .killed ∧ (s.core 0).f.timer = some 0 ∧
      (s.core 5).f.mode = .idle := by decide +kernel

/-! ## Copies, the array and atomics behind their start -/

/-- A timed copy of 64 bytes from offset 0x1000 to offset 0 of the own scratchpad, or with another path and other bases. -/
def copyCmd (p : PathArgs) (dst src : Nat) : Cmd :=
  { handlerCopy with kind := .copy p ⟨dst, src, 64, 1, 1, 0, 0, 0, 0, none, 0, 0, 1, 1⟩, queue := 0, started := false }

def winPath : PathArgs := ⟨false, false, false, false, 25, 10, 256, 0, 0⟩
def fromHbm : PathArgs := ⟨true, false, false, false, 27, 900, 64, 0, 0⟩
def toHbm : PathArgs := ⟨false, true, false, false, 28, 900, 64, 0, 0⟩

/-- A command of another kind under uid 0. -/
def command (k : CmdKind) (queue : Nat) (started : Bool) : Cmd := { handlerCopy with kind := k, queue := queue, started := started }

/-- The claims over `Holds`: a command in its core, not cut, in no handler queue, without a due fault. -/
theorem meets_holds (m : Cmd) (g : Core → Core) (hu : m.uid = 0) (hc : m.cut = false) (hq : m.queue ≠ 1)
    (hd : (g ((State.reset.withTask).core 0)).p.dues = []) : (commands m g).Holds 0 0 m where
  cmd := by show ([m].find? (·.uid == 0)) = some m; rw [List.find?_cons_of_pos]; simp [hu]
  uncut := hc
  queue := hq
  sound := fun d h => by
    have e : ((commands m g).core 0).p.dues = [] := hd
    rw [e] at h; exact absurd h List.not_mem_nil

/-- The answers of a copy's start checks. -/
def startKind {α : Type} (r : State × Start α) : Nat :=
  match r.2 with
  | .ok _ => 0
  | .fault _ => 1
  | .miss => 2

/-- CopiesStart: between windows; from a hole; from a page that no TLB holds, and the same behind its walk; over the end of a page that may
not be written. -/
theorem meets_copy_starts :
    let s := fun m => maps (commands m)
    let chk := fun (w : Bool) (m : Cmd) => match m.kind with
      | .copy p c => startKind ((s m).copyCheck 0 w 0 p c)
      | _ => 9
    chk false (copyCmd winPath 0 0x1000) = 0 ∧ chk false (copyCmd winPath 0 0x300000) = 1 ∧ chk false (copyCmd fromHbm 0 0) = 2 ∧
      chk true (copyCmd fromHbm 0 0) = 0 ∧ chk true (copyCmd toHbm 0x1000 0) = 1 ∧
      ((s (copyCmd winPath 0 0x1000)).lantern (towerOf 0)).lctl.toNat % 2 = 0 := by
  decide +kernel

/-- A gather of four words by the list at offset 0x2000. -/
def aGather : GatherArgs := ⟨false, 0x1000, 0, 2, 4, 0x2000, 1, []⟩

/-- An overlay of two bundles from page 0. -/
def anOverlay : OvlArgs := ⟨0, 2, 0, 0x800, []⟩

/-- CopiesStart: a gather that may start and one whose list is outside the scratchpad; an overlay whose pages are readable and executable. -/
theorem meets_gather_starts :
    let s := maps (commands (command (.gather winPath aGather) 0 false))
    s.gatherCheck 0 0 winPath aGather = none ∧ (s.gatherCheck 0 0 winPath { aGather with list := 2 ^ 26 }).isSome = true ∧
      startKind (({ s with mem := s.mem.write (5 * 4096) (leBytes 0xF800000000010000 8) }).ovlCheck 0 true fromHbm anOverlay) = 0 := by
  decide +kernel

/-- ChunksSample, ChunksLand: a copy with bytes to sample, plain and as a fill; a chunk in flight to a window and to a page. -/
theorem meets_chunks :
    let c : CopyArgs := ⟨0, 0x1000, 64, 1, 1, 0, 0, 0, 0, none, 0, 0, 1, 1⟩
    (runs 6).fabReport 0 routerId = none ∧ srcDec false [] (c.srcGeo.at 0) = 0 ∧
      srcDec true [(0, 0xF680000000010000#64)] 0 ≠ 0 ∧ 0 < c.dstGeo.total ∧ c.fill = none ∧ ({ c with fill := some 5 } : CopyArgs).fill = some 5 ∧ winPath.dg = false ∧ toHbm.dg = true ∧
      0 % 4096 + 64 ≤ 4096 ∧ isPad (flatOf [(0, 0xF000000000010000)] 0) = false ∧ c.dstGeo.chunk 0 = c.dstGeo.total ∧
      ((State.reset.withTask.launchOf 0).window (c.dstGeo.at 0).toNat 1).isSome = true := by decide +kernel

/-- GathersSample: an index in range behind a check that passes, and one whose element is in no window; an element whose index is known. -/
theorem meets_elements :
    let s := runs 6
    let g := aGather
    g.idx.length < g.n ∧ startKind (s.elemCheck 0 false 0 winPath g (g.idxBase + 1 * 2 ^ g.esz) 0) = 0 ∧
      startKind (s.elemCheck 0 false 0 winPath g (g.idxBase + 2 ^ 20 * 2 ^ g.esz) 0) = 1 ∧ 0 < ({ g with idx := [7] } : GatherArgs).idx.length := by
  decide +kernel

/-- OverlaysLand: an overlay before its first sample, and two bundles in flight under a digest that is not theirs. -/
theorem meets_overlay_landing :
    let bs := List.replicate 64 (0 : Byte)
    (command (.ovl fromHbm anOverlay) 0 true).flights = [] ∧ 2 ≤ anOverlay.n ∧ bs.length = 32 * anOverlay.n ∧ sha384 bs ≠ anOverlay.digest := by
  refine ⟨rfl, by decide, by decide, ?_⟩
  decide +kernel

/-- OverlaysLand: with the digest of its own bundles. -/
theorem meets_overlay_digest :
    ∃ o : OvlArgs, (List.replicate 64 (0 : Byte)).length = 32 * o.n ∧ sha384 (List.replicate 64 (0 : Byte)) = o.digest :=
  ⟨{ anOverlay with digest := sha384 (List.replicate 64 (0 : Byte)) }, by decide, by with_reducible rfl⟩

/-- A run of an operation over one 32 × 32 block, on operand buffers 0 and 1. -/
def aRun (op : Nat) : MxRun :=
  { op := op, m := 32, n := 32, acc := 0, a := .ob 0, b := .ob 1, col := 0, row16 := 0, bop := 0, chk := false, za := false, typ := 0,
    scale := 0x3F800000, k := 0, u := 32, per := 1, fa := 4, ba := 0, fb := 4, bb := 0, cup := false }

/-- MatrixCommandsStart: an `mzero` that may start, and an `mma` of operand buffers whose formats it does not take. -/
theorem meets_matrix_starts :
    let z : MxArgs := ⟨3, 32, 32, 0, 0, (0, 0), 0, (0, 0), false, false, 0, 0, 0⟩
    let a : MxArgs := ⟨1, 32, 32, 0, 0, (0, 0), 1, (0, 0), false, false, 0, 0, 0⟩
    let c : MxArgs := ⟨7, 0, 0, 0, 20, (0, 0), 0, (0, 0), false, false, 0, 0, 0⟩
    (match (commands (command (.mx z) 2 false)).mxPlan 0 0 z with | .ok (_ :: _) => true | _ => false) = true ∧
      (match (commands (command (.mx a) 2 false)).mxPlan 0 0 a with | .error _ => true | _ => false) = true ∧
      (match (commands (command (.mx c) 2 false)).mxPlan 0 0 c with | .error _ => true | _ => false) = true ∧
      ((commands (command (.mx z) 2 false)).core 0).amode ≠ 2 := by decide +kernel

/-- A started command with a run under way. -/
def runCmd (r : MxRun) (got : List Got) : Cmd :=
  { command (.mx ⟨3, 32, 32, 0, 0, (0, 0), 0, (0, 0), false, false, 0, 0, 0⟩) 2 true with runs := [r], got := got }

/-- ArraySamples: runs of each operation with cycles to come, on operand buffers and on a descriptor of rows of the own scratchpad. -/
theorem meets_array_samples :
    (∀ op ∈ [1, 2, 4, 5, 6], ((commands (runCmd (aRun op) [])).core 0).cmd 0 = some (runCmd (aRun op) []) ∧ (aRun op).s < (aRun op).u ∧
      (aRun op).s * (aRun op).per < (aRun op).u) ∧ 0 < (aRun 1).rowsIn ((aRun 1).blockOf 0).1 ∧
      mxSlot (aRun 1).a.rot 0 (aRun 1).per = 0 % (aRun 1).per ∧ (aRun 1).fa ≠ 8 ∧
      ((runs 6).launchOf 0).window (rowAddr 0 0 0) 1 = some ⟨tileBase 0, 0, 0, 0, 0, 0, 0⟩ ∧ (runCmd (aRun 1) []).cut = false := by
  decide +kernel

/-- PassesLand, ZeroBlocksLand, TransfersLand: the accumulator memory of spire 0 stands in the window of its task. -/
theorem meets_array_clear (m : Cmd) (r : MxRun) (h : r.acc < 7) (hm : r.m = 32) (hc : r.col + r.n ≤ 1024) : (commands m).ArrayClear 0 r where
  window := fun off ho => by
    have hw : (commands m).accWin 0 off = 2 ^ 26 + off := by
      show windowOf 0 (2 ^ 26 + off) = _
      simp [windowOf]
    have hl : (commands m).launchOf 0 = State.reset.withTask.launch 1 := rfl
    rw [hw, hl]
    refine ⟨⟨accBase 0 + off, 1, 0, 0, 0, 0, off⟩, ?_, rfl⟩
    have h1 : (2 ^ 26 + off) / 2 ^ 37 = 0 := by omega
    have h2 : (2 ^ 26 + off) / 2 ^ 34 % 8 = 0 := by omega
    have h3 : (2 ^ 26 + off) / 2 ^ 30 % 16 = 0 := by omega
    have h4 : (2 ^ 26 + off) / 2 ^ 26 % 16 = 1 := by omega
    have h5 : (2 ^ 26 + off) % 2 ^ 26 = off := by omega
    have h6 : ¬unitSize 1 < off + 1 := by show ¬(2 ^ 20 < off + 1); omega
    unfold Launch.window
    simp only [h1, h2, h3, h4, h5]
    simp [h6]
    rfl
  poison := rfl
  plain := by
    show ∀ b ∈ [1, 2, 3, 7], ((State.reset.withTask).core 0).inj b = false
    decide +kernel
  sound := rfl
  tiles := by rw [hm]; simp; omega
  rows := .inr (.inl hm)
  cols := hc

/-- PassesLand: row and column 0 … 31 of one pass, sampled without poison. -/
theorem meets_pass :
    let got := (List.range 2).flatMap fun side => (List.range 32).map fun i => (⟨0, 0, side, i, List.replicate 128 (0 : Byte), [], [], [], (0, 0)⟩ : Got)
    (aRun 1).l < (aRun 1).landings ∧ (∀ g ∈ got, g.poison = (0, 0)) ∧
      (∀ i < (aRun 1).rowsIn 0, (got.find? (fun x => x.run == 0 && x.q == 0 && x.side == 0 && x.idx == i)).isSome = true) ∧
      (∀ j < (aRun 1).colsIn 0, (got.find? (fun x => x.run == 0 && x.q == 0 && x.side == 1 && x.idx == j)).isSome = true) ∧
      (aRun 3).l < (aRun 3).landings ∧ (aRun 4).l < (aRun 4).landings := by decide +kernel

/-- TransfersLand: one step's sample; a plain-element `mrd`, and the operand buffers of a spire after reset. -/
theorem meets_transfers :
    let g : Got := ⟨0, 0, 0, 0, List.replicate 128 0, [], [], List.replicate 32 24, (0, 0)⟩
    [g].find? (fun x => x.run == 0 && x.q == 0) = some g ∧ ((runCmd (aRun 4) [g]).regs.getD 1 0).getLsbD 0 = false ∧
      (aRun 6).acc < ((runs 6).spire 0).ob.length ∧ (((runs 6).spire 0).ob.getD 0 OpBuf.zero).rows.length = 32 := by decide +kernel

/-- A `gamo` of a word on a page whose old value goes to its own scratchpad, or nowhere. -/
def aGamo (va gdst : Nat) : GamoArgs := ⟨.add, true, 0, va, 5, 0, BitVec.ofNat 64 gdst, 0⟩

/-- GlobalAtomicsRun: its checks pass on page 0 behind a walk, and fail on page 1; its old value has a place. -/
theorem meets_gamo_runs :
    let s := maps (commands (command (.gamo (aGamo 0 0x40)) 3 false))
    startKind (s.gamoCheck 0 true (aGamo 0 0x40)) = 0 ∧ startKind (s.gamoCheck 0 true (aGamo 0x1000 0x40)) = 1 ∧
      (aGamo 0 0x40).gdst.getLsbD 63 = false ∧ (aGamo 0 (2 ^ 63)).gdst.getLsbD 63 = true ∧
      ((s.launchOf 0).window ((aGamo 0 0x40).gdst.toNat % 2 ^ 40) 8).isSome = true := by decide +kernel

/-- SyncObjectsRun: an object on a control page, a page without W for a `rel`, and an unmapped one for an `acq`. -/
theorem meets_sync_runs :
    let s := maps (runs 3)
    startKind (s.wordPage 0 true 0x2000 false true false akSync) = 0 ∧ startKind (s.wordPage 0 true 0x1000 false true false akSync) = 1 ∧
      startKind (s.wordPage 0 true 0x2000 true false false akSync) = 0 ∧ startKind (s.wordPage 0 true 0x4000 true false false akSync) = 1 := by
  decide +kernel

/-- TaskLaunchesArrive: a record on a readable page; records and parents that are not aligned; a CORR that a launch uses. -/
theorem meets_task_launches :
    let s := maps (runs 6)
    startKind (s.wordPage 0 true 0x200 true false false akRecord) = 0 ∧ 0x200 % 512 = 0 ∧ 0x208 % 512 ≠ 0 ∧ 4 % 8 ≠ 0 ∧
      (s.byCorr 1).isSome = true ∧ s.byCorr 2 = none ∧ (∀ p ∈ s.seq.early, p.1 ≠ 2) ∧
      (s.launches.filter fun x => (x.2.phase == .queued || x.2.phase == .saved) && x.2.queue == 12).length < 64 := by decide +kernel

/-! ## The fabric behind issue -/

/-- A fabric command of six flits on circuit 0, or on stream 0. -/
def fabCmd (f : FabArgs) (started : Bool) : Cmd := { command (.fab f) 4 started with regs := [12] }
def aSend : FabArgs := ⟨false, 0, 0x100, 0, 6#64 <<< 32, 0, 0⟩
def aStream (n : Nat) : FabArgs := ⟨false, 0, 0x100, 0x1000, 0x8000000000000000 ||| BitVec.ofNat 64 (n * 2 ^ 32), 0, 0⟩
def aReceive : FabArgs := ⟨true, 0, 0x100, 0, 6#64 <<< 32, 0, 0⟩

/-- The small state with a command on a launch with the timetable. -/
def onFabric (self : Nat) (m : Cmd) (g : Launch → Launch := id) : State :=
  let s := commands m
  s.setLaunch 1 (g { s.launch 1 with ftt := some (timetable self) })

/-- CircuitSends: a range that passes its check and one that does not; a flit to sample, and none left. -/
theorem meets_sends :
    let s := onFabric 0 (fabCmd aSend true)
    s.fabCheck 0 aSend = none ∧ (s.fabCheck 0 { aSend with sa := 0x300000 }).isSome = true ∧ aSend.recv = false ∧ aSend.desc.getLsbD 63 = false ∧
      (s.core 0).inj 6 = false ∧ (((s.launchOf 0).circuit (aSend.slt.toNat % 2 ^ 12)).map fun x => x.2.sport) = some 0 ∧ 0 < aSend.nfl ∧
      ((s.launchOf 0).window (aSend.sa.toNat + 64 * 0) 1).isSome = true := by decide +kernel

/-- StreamTransfers: a transfer whose destination is not aligned, a full and an empty bridge buffer, and a release. -/
theorem meets_stream_transfers :
    let s := onFabric 0 (fabCmd (aStream 2) true)
    (aStream 2).desc.getLsbD 63 = true ∧ (aStream 2).nfl ≠ 0 ∧ ({ aStream 2 with sb := 0x1020 } : FabArgs).sb.toNat % 64 ≠ 0 ∧
      0 < max 1 (aStream 0).nfl ∧ (s.port 0).stream.length < 1024 ∧
      1024 ≤ (List.replicate 1024 (default : StreamItem)).length := by decide +kernel

/-- StreamTransfers: packets that find a page they may write, a page without W, a control page for a release, and no page. -/
theorem meets_stream_packets :
    let s := maps (runs 0)
    let leaf := fun va => match s.walk 1 1 va with
      | .ok e => some (pteW (e.leaf va), pteOwn (e.leaf va), pteCtl (e.leaf va))
      | .error _ => none
    alGet 0 s.seq.roots 1 = 1 ∧ leaf 0 = some (true, true, false) ∧ leaf 0x1000 = some (false, true, false) ∧
      leaf 0x2000 = some (true, false, true) ∧ leaf 0x4000 = none ∧ (s.port 0).broken.contains (0, 1) = false := by decide +kernel

/-- CircuitReceives: the expected flit at the head of its queue, none, a later and a stale one; and a flit that lands. -/
theorem meets_receives :
    let s := fun q => onFabric 1 (fabCmd aReceive true) fun l => { l with rq := [(0, q)] }
    let c : Circuit := ⟨0, 1, 0, 0, 0, 0, 0, 15, 2, 0, 64⟩
    (s []).fabCheck 0 aReceive = none ∧ ((s []).fabCheck 0 { aReceive with sa := 0x300000 }).isSome = true ∧
      (((s []).launchOf 0).circuit (aReceive.desc.toNat % 2 ^ 12)) = some (timetable 1, c) ∧ (fabCmd aReceive true).frame0 = 12 ∧
      c.flitFrame (timetable 1) 12 0 = 12 ∧ c.flitPos 0 = 0 ∧ alGet [] ((s [⟨12, 0, default⟩]).launchOf 0).rq 0 = [⟨12, 0, default⟩] ∧
      alGet [] ((s []).launchOf 0).rq 0 = [] ∧ 12 < 13 ∧ 11 < 12 ∧ 0 < aReceive.nfl ∧ (0 : Nat) ≤ ((s []).core 0).clk := by decide +kernel

/-- SkewWaitsEnd: a wait whose flit has come, one whose budget has run out, and an announced thaw. -/
theorem meets_skew :
    let s := fun q => onFabric 1 (fabCmd aReceive true) fun l => { l with rq := [(0, q)], causes := [.skew 0 0] }
    let late := (s []).modCore 0 fun c => c.modF fun f => { f with dev := some ⟨0, 0, 0, 0⟩ }
    let exp := { late with wall := 256 }
    let thaw := (s []).setLaunch 1 { (s []).launch 1 with thawAt := some 0 }
    ((s [⟨12, 0, default⟩]).launch 1).skews ≠ [] ∧ ((s []).launch 1).thawAt = none ∧
      (∀ w ∈ ((s [⟨12, 0, default⟩]).launch 1).skews, (s [⟨12, 0, default⟩]).skewMet w.1 w.2 = true) ∧
      exp.skewExpired 0 = some (fabCmd aReceive true) ∧ (exp.core 0).tl = 0 ∧ (exp.core 0).f.mode ≠ .halted ∧
      (thaw.launch 1).thawAt = some 0 ∧ (0#64).toNat ≤ thaw.gtime.toNat ∧ (thaw.launch 1).thaws = [] := by decide +kernel

/-- FramesCross: two flits of one frame at a port, once the slot clock has come to it; a good frame for the receiver's circuit with room and
without; a bad one. -/
theorem meets_frames :
    let tx : List TxFlit := [⟨1, 12, 0, default⟩, ⟨1, 12, 1, default⟩]
    let s := (onFabric 1 (fabCmd aReceive true) fun l => { l with lclk := 96 })
    let u := { s with ports := [(0, { Port.zero with tx := tx })] }
    (u.port 0).tx = tx ∧ (u.port 0).stream = [] ∧ (u.launch ((u.portLaunch 0).getD 0)).causes = [] ∧
      12 ≤ (u.launch ((u.portLaunch 0).getD 0)).lclk / 8 ∧ tx ≠ [] ∧ (∀ x ∈ tx, x.frame = 12 ∧ x.pos < 6) ∧ (tx.map (·.pos)).Nodup ∧ s.portLaunch 0 = some 1 ∧
      (s.launch 1).ftt = some (timetable 1) ∧ frameOfNum ((s.launch 1).lclk / 8) 12 = 12 ∧ (timetable 1).recvCircuit 0 12 0 = some 0 ∧
      (alGet [] (s.launch 1).rq 0).length < (((timetable 1).circuits[0]?).map Circuit.rqd).getD 0 ∧
      (((timetable 1).circuits[0]?).map Circuit.rqd).getD 0 ≤ (List.replicate 64 (default : QFlit)).length := by decide +kernel

/-- PortsRecover: a flit still missing HOPMAX + 128 cycles behind its send, and a port exhausted for 10 ms. -/
theorem meets_ports :
    let s := fun n => onFabric 1 (fabCmd aReceive true) fun l => { l with lclk := n }
    let late := let u := s 624; { u with ports := [(0, { Port.zero with waiting := [(12, 0)] })] }
    let due := let u := s 0; { u with ports := [(0, { Port.zero with exhausted := some 0 })], gtime9 := 9 * (10 ^ 7 * 65536) }
    late.lateFlit 0 = true ∧ due.retrainDue 0 = true ∧ late.cores.length = 1 ∧ late.launches.length = 1 ∧
      (∃ x ∈ due.launches, x.2.phase = .running ∧ x.2.kill = none ∧ (x.2.ftt.map fun f => f.ports.contains 0) = some true) := by
  decide +kernel

/-- PartMessagesArrive, DigestsAreExchanged: the CORR of the running launch, and one that no launch has. -/
theorem meets_messages : (runs 0).byCorr 1 = some 1 ∧ (runs 0).byCorr 2 = none ∧ ((runs 0).launch 1).phase = .running := by decide +kernel

/-- DigestsAreExchanged: a queued launch. -/
theorem meets_digests :
    let s := (runs 0).setLaunch 1 { (runs 0).launch 1 with phase := .queued }
    s.byCorr 1 = some 1 ∧ (s.launch 1).phase = .queued := by decide +kernel

/-- DigestsAreExchanged: a report that agrees with a package's own part, with and without a retime. -/
theorem meets_reports (s : State) (l : Nat) (b : Bool) :
    (s.ownPart l false b).timetable = (s.ownPart l false false).timetable ∧ (s.ownPart l false b).ttdig = (s.ownPart l false false).ttdig ∧
      (s.ownPart l false b).needsRetime = b := by
  simp only [State.ownPart, and_self]

/-- GlobalTimeIsKept: a better clock of the own domain, another domain, and a lane below its threshold. -/
theorem meets_clocks :
    let m := { (default : PtpMessage) with domain := field HostIf.zero.ptpcfg 44 4, prio1 := 0 }
    m.domain = field (runs 0).host.ptpcfg 44 4 ∧ (runs 0).host.master = none ∧ better (rankOf m) (runs 0).ownRank = true ∧
      ({ m with domain := 9 } : PtpMessage).domain ≠ field (runs 0).host.ptpcfg 44 4 ∧
      laneBad { (default : LaneHealth) with eyeWidth := 23 } = true := by
  refine ⟨rfl, rfl, ?_, by decide +kernel, by decide +kernel⟩
  rfl

/-! ## Launches, belfries, the host and the debugger -/

/-- A launch record with some fields set: offset, bytes and value. -/
def recordOf (xs : List (Nat × Nat × Nat)) : List Byte :=
  xs.foldl (fun r x => r.take x.1 ++ leBytes x.2.2 x.2.1 ++ r.drop (x.1 + x.2.1)) (List.replicate 512 0)

/-- A package at bring-up stage 5 whose descriptor page is frame 100, with queue 0 enabled over one packet at frame 101. -/
def queues (packet : List (Nat × Nat × Nat)) : State :=
  let w := fun (m : Memory) (x : Nat × Nat) => m.write (queueWord 100 0 x.1) (leBytes x.2 8)
  let m := [(0, 101 * 4096), (1, 2 ^ 20 + 7 * 2 ^ 16 + 16), (2, 1), (3, 0)].foldl w []
  { State.reset with
    host := { HostIf.zero with stage := 5 }, seq := { Seq.zero with desc := some 100 },
    mem := m.write (101 * 4096) ((recordOf packet).take 256) }

/-- Launch 1 of a package, under CORR 7. -/
def withLaunch (s : State) (g : Launch → Launch) : State := s.setLaunch 1 (g { Launch.zero with corr := 7, record := recordOf [] })

/-- PacketsAreTaken: a SUBMIT for a CORR that is free or in use, a KILL of a running and of a queued launch, a PREEMPT and a malformed packet. -/
theorem meets_packets :
    (queues [(0, 2, 1), (4, 4, 7)]).packetOf 0 1 = some ((recordOf [(0, 2, 1), (4, 4, 7)]).take 256) ∧
      (queues [(0, 2, 2), (4, 4, 7)]).packetOf 0 2 = some ((recordOf [(0, 2, 2), (4, 4, 7)]).take 256) ∧
      (queues [(0, 2, 3), (4, 4, 7)]).packetOf 0 3 = some ((recordOf [(0, 2, 3), (4, 4, 7)]).take 256) ∧
      (queues [(0, 2, 4)]).packetOf 0 0 = some ((recordOf [(0, 2, 4)]).take 256) ∧ (queues []).seq.desc = some 100 ∧
      (queues []).byCorr 7 = none ∧ (∀ p ∈ (queues []).seq.early, p.1 ≠ 7) ∧
      (let s := withLaunch (queues []) fun l => { l with phase := .running, record := recordOf [(0xA8, 8, 0x100000)] }
       s.byCorr 7 = some 1 ∧ (s.launch 1).phase = .running ∧ (s.launch 1).kill = none ∧ Cause.kill ∉ (s.launch 1).causes ∧
         (s.launch 1).saveVa ≠ 0 ∧ (s.launch 1).pre = .none) := by decide +kernel

/-- PacketsAreTaken: the tables of those states are in their form. -/
theorem meets_keys : (queues []).keysOk ∧ (withLaunch (queues []) id).keysOk :=
  ⟨⟨List.Pairwise.nil, List.Pairwise.nil⟩, List.Pairwise.nil, List.pairwise_singleton _ _⟩

/-- EvaluationsAdmit: an evaluation that is not due, one with nothing to do, a launch whose awaited launch failed, and an eligible one. -/
theorem meets_evaluations :
    let q := queues []
    let due := { q with seq := { q.seq with evalDue := true } }
    let dep := (withLaunch due fun l => { l with phase := .queued, deps := [2] }).setLaunch 2 { Launch.zero with status := 8 }
    let ok := withLaunch due fun l => { l with phase := .queued, deps := [0, 0, 0, 0] }
    q.evalNow = false ∧ due.evalNow = true ∧ due.seq.reserved = none ∧ (dep.launch 1).phase = .queued ∧ dep.depEnded (dep.launch 1) = true ∧
      (∀ x ∈ dep.launches, x.1 ≠ 1 → x.2.phase = .ended) ∧ ok.depEnded (ok.launch 1) = false ∧ (ok.launch 1).saved = none ∧
      ok.eligible 1 = true := by decide +kernel

/-- WaitingLaunchesAge: a launch that has waited 4 ms in a queue whose ceiling is above its priority. -/
theorem meets_aging :
    let s := withLaunch { queues [] with gtime9 := 9 * (4 * 10 ^ 6 * 65536) } fun l => { l with phase := .queued }
    s.ages (s.launch 1) = true := by decide +kernel

/-- LaunchesStart, HandlersStartAtTheirEntries: an admitted launch of two spires whose start tick has come. -/
theorem meets_start :
    let s := withLaunch (queues []) fun l => { l with phase := .admitted, place := [(0, 3), (1, 9)] }
    s.startNow (s.launch 1) = true ∧ (s.launch 1).ftt = none ∧ ((s.launch 1).place.map Prod.snd).Nodup ∧ (s.launch 1).halves ≤ 2 := by
  decide +kernel

/-- PreemptionsSave: a freeze that is due, a save whose drain begins, one whose drain is over, and one without room for its state. -/
theorem meets_preemption :
    let s := fun p cs => withLaunch (queues []) fun l => { l with phase := .running, pre := p, causes := cs }
    (s .wait []).preemptDue 1 = true ∧ (s .wait [.preempt]).saveDue 1 = true ∧ (s (.drain 5) [.preempt]).saveDue 1 = true ∧
      ((s (.drain 5) [.preempt]).writeSave 1 true).2 = false := by decide +kernel

/-- LaunchesEnd: a launch with no task left, a killed one without a dump, and one with its dump. -/
theorem meets_ends :
    let s := fun k cs => withLaunch (queues []) fun l => { l with phase := .running, kill := k, causes := cs }
    let k := s (some aKill) [.kill]
    let d := { k with seq := { k.seq with dumps := [⟨1, 0, aKill⟩] } }
    (s none []).endDue 1 = true ∧ ((s none []).launch 1).kill = none ∧ k.endDue 1 = true ∧ (k.launch 1).kill = some aKill ∧
      d.seq.dumps = [⟨1, 0, aKill⟩] ∧ d.killStopped 1 = true := by decide +kernel

/-- A package whose mailbox serves a command with arguments. -/
def mails (box cmd : Nat) (args : List Word) (task : Bool) : State :=
  { State.reset with bel := { Belfries.zero with mail := [(box, ⟨cmd, args, 0, task⟩)] } }

/-- MailboxCommands, UnitsAreReplaced, ImagesInstall: mailboxes of spires and of an I/O die, with arguments in range and out of it. -/
theorem meets_mailboxes (box cmd : Nat) (args : List Word) (task : Bool) : (mails box cmd args task).Serves box cmd ⟨cmd, args, 0, task⟩ :=
  ⟨by simp [mails], rfl, Nat.le_refl 0⟩

/-- The arguments' bounds, a unit of spire 0, and a spire without a launch. -/
theorem meets_units :
    let m : MailCmd := ⟨6, [7, 255], 0, false⟩
    m.arg 0 < 8 ∧ 1 ≤ m.arg 1 ∧ m.arg 1 ≤ 255 ∧ ruidIn 0 0 = true ∧ ruidIn 511 0 = false ∧ ((mails 0 4 [] false).spire (ruidSpire 0)).dropped = false ∧
      (mails 0 4 [] false).spireHeld (ruidSpire 0) = false ∧ (mails 0 7 [] false).hasBeenCondemned 0 = false ∧ (mails 0 7 [] false).slotImage 0 = none ∧
      (mails 0 7 [] false).installReady ⟨7, [], 0, false⟩ = true ∧
      (withLaunch (mails 0 5 [] false) fun l => { l with phase := .running, place := [(0, 0)] }).spireHeld 0 = true := by decide +kernel

/-- UnitsAreReplaced: a repair that is due in a package without images. -/
theorem meets_repair :
    let s := { State.reset with bel := { Belfries.zero with repairs := [⟨0, none⟩] } }
    s.nextRepair 0 = some ⟨0, none⟩ ∧ (s.spire (ruidSpire 0)).dropped = false ∧ s.imageFor (ruidType 0) = none := by decide +kernel

/-- BelfriesAccess: the last bytes of device frame space, and a key for the last slot. -/
theorem meets_frames_of_belfries :
    (hbmSize - 8) + (List.replicate 8 (0 : Byte)).length ≤ hbmSize ∧ 7 ≤ 7 ∧ (List.replicate 2592 (0 : Byte)).length = 2592 :=
  ⟨by decide, Nat.le_refl 7, List.length_replicate⟩

/-- A host command under way. -/
def hosts (s : State) (args : List Word) : State := { s with host := { s.host with hcode := 1, cargs := args } }

/-- HostCommands: a command of each kind under way. -/
theorem meets_host_commands (cmd : Word) (args : List Word) : (hosts State.reset (cmd :: args)).HostServes cmd.toNat :=
  ⟨rfl, rfl, Nat.le_refl 0⟩

/-- An image in page 0 whose sections 1, 2 and 9 keep R331. -/
def image (version : Nat) : State :=
  let s := maps State.reset
  let w := fun (m : Memory) (x : Nat × Nat × Nat) => m.write (16 * 4096 + x.1) (leBytes x.2.2 x.2.1)
  { s with mem := [(0, 4, 0x4F434B4B), (4, 2, version), (6, 2, 3), (0x10, 8, 0x4000), (0x40, 4, 1), (0x48, 8, 0x100), (0x58, 4, 2),
      (0x60, 8, 0x100), (0x70, 4, 9), (0x78, 8, 0x100), (0x80, 8, 4627)].foldl w s.mem }

/-- HostCommands: REGOBJ of an image that keeps its form, and of one of another version; a number for its object. -/
theorem meets_regobj :
    ((image 1).seq.roots.find? (·.1 == 1)) = some (1, 1) ∧
      ((image 1).readKco 0 (1, 1)).map (fun k => (k.ok, (image 1).kcoRecords k, (image 1).profileOk k)) = some (true, true, true) ∧
      ((image 2).readKco 0 (1, 1)).map Kco.ok = some false ∧ ((maps State.reset).readKco 0 (1, 1)).isNone = true ∧
      (State.reset.seq.roots.find? (·.1 == 1)).isNone = true := by decide +kernel

/-- REGOBJ always finds a number where no object is registered. -/
theorem meets_object_number : ∃ n, (image 1).objectNumber = some n := by
  unfold State.objectNumber
  dsimp only
  split
  · exact ⟨_, rfl⟩
  · exact ⟨1, by decide +kernel⟩

/-- HostCommands: extents, invalidations, descriptor pages and timers within their bounds, and beyond them. -/
theorem meets_host_arguments :
    let s := hosts State.reset [1, 0, 0, 1]
    let q := hosts (queues []) [5, 3]
    let r := hosts (runs 0) [2, 0, 0, 0]
    s.harg 0 + s.harg 1 ≤ extents ∧ s.harg 2 = 1 ∧ (∀ x ∈ s.launches, x.2.holds = false) ∧ extents < extents + 1 ∧ s.host.inval = none ∧
      (∃ n < 16, (q.queueDesc n).en = true) ∧ (∀ n < 16, (s.queueDesc n).en = false) ∧ q.harg 0 < frameCount ∧
      (∃ x ∈ r.launches, x.2.phase = .running ∧ x.2.asid = r.harg 0) ∧ r.byCorr 1 = some 1 ∧ (r.core 0).f.task.launch = 1 ∧
      (r.core 0).f.mode ≠ .idle := by decide +kernel

/-- HostCommands: registered objects, one of which a running launch uses. -/
theorem meets_unreg :
    let o : CodeObj := ⟨0, 1, 1, false, [], false⟩
    let s := hosts { withLaunch State.reset (fun l => { l with phase := .running, record := recordOf [(0x50, 8, 5)] }) with
      seq := { Seq.zero with objects := [(5, o), (6, o)] } } [4, 5]
    (∃ x ∈ s.seq.objects, x.1 = s.harg 0) ∧ (∃ x ∈ s.launches, x.2.phase ≠ .ended ∧ x.2.code = s.harg 0) ∧
      ∀ x ∈ s.launches, x.2.phase ≠ .ended → x.2.code ≠ 6 := by decide +kernel

/-- HostAccesses: a powered package behind stage 4, with a device page, a control page and a frame that no table maps. -/
theorem meets_host_accesses :
    let s := maps (queues [])
    s.host.powered = true ∧ 4 ≤ s.host.stage ∧ s.host.hviol.msb = false ∧ s.poison = [] ∧ (hbmSize - 64) + 64 ≤ hbmSize ∧
      s.ownerOf 16 = .device 1 ∧ (queues []).ownerOf 200 = .host ∧ s.hostAtomicOk .swap (18 * 4096) 8 = true ∧
      (queues []).seq.desc = some 100 ∧ 15 < 16 ∧ 7 < 8 ∧ s.seq.desc ≠ some (18 * 4096 / 4096) ∧
      s.hostAtomicOk .swap (18 * 4096 + 4) 8 = false ∧ (63 % 64 + 1 ≤ 64) ∧ 64 < 63 % 64 + 2 ∧ hbmSize < (hbmSize - 1) + 2 := by
  decide +kernel

/-- RegisterWrites: no launch of a timetable runs, a lantern that nothing is attached to, and without power. -/
theorem meets_register_writes :
    3 < (queues []).lanterns.length ∧ ((queues []).lantern 3).datt.getLsbD 63 = false ∧ 1 ≤ (4#64).toNat % 2 ^ 16 ∧ (4#64).toNat % 2 ^ 16 ≤ 4 ∧
    (∀ x ∈ (queues []).launches, x.2.phase = .running → x.2.ftt = none) ∧ 3 % 8 ≠ 0 ∧
      ({ HostIf.zero with powered := false } : HostIf).powered = false := by decide +kernel

/-- DebuggerCommands: an attached lantern's command for a launch that runs, for one that has stopped, and the end of a step. -/
theorem meets_debugger (cmd : Word) (h : cmd.toNat < 5) :
    (lantern (runs 0) { Lantern.zero with datt := 0x8000000000000001, dcmd := cmd, todo := true }).DebugServes 0 cmd.toNat 1 where
  tower := Nat.zero_lt_succ 3
  todo := rfl
  attached := by show (0x8000000000000001#64).getLsbD 63 = true; decide
  cmd := by show cmd.toNat % 2 ^ 16 = cmd.toNat; exact Nat.mod_eq_of_lt (by omega)
  target := by show (runs 0).byCorr ((0x8000000000000001#64).toNat % 2 ^ 32) = some 1; decide +kernel

/-- The states of a launch that its claims speak of. -/
theorem meets_debugged_launches :
    let l := (runs 0).launch 1
    l.runsFree = true ∧ ({ l with dbg := true } : Launch).isStopped = true ∧ l.isStopped = false ∧
      ({ l with causes := [.debug] } : Launch).runsFree = false ∧ ({ l with steps := some 0 } : Launch).stepOver = true ∧
      ({ l with record := recordOf [(0xA8, 8, 0x100000)] } : Launch).saveVa ≠ 0 := by decide +kernel

/-- PowerIsCapped: a period that begins, a bubble under way and one that ends, and powers above and below the cap. -/
theorem meets_power :
    let s := { queues [] with wall := 2 ^ 20, gtime9 := 9 * (65536 * 10 ^ 6) }
    s.msDue = true ∧ s.capDue 3 = true ∧ s.bubbleDue = true ∧ s.host.joined = false ∧ s.host.bubble = none ∧ 3 < s.host.caps.length ∧ min 1000 (s.cap 0).capw < 1001 ∧
      949 + 50 < min 1000 (s.cap 0).capw ∧ ((s.cap 0).minm : Int) + 128 ≤ 448 ∧ (List.replicate 32 (default : RailSample)).length = 32 := by
  decide +kernel

/-- GlobalTimeIsKept: a second of GTIME whose link health is not recorded, and one before it ends. -/
theorem meets_seconds : ({ queues [] with gtime9 := 9 * (65536 * 10 ^ 9) } : State).secDue = true ∧ (queues []).secDue = false := by
  decide +kernel

/-- ScrubsPoison: the last line of device frame space. -/
theorem meets_scrub : 64 * (hbmSize / 64 - 1) < hbmSize := by decide

/-! ## The whole machine -/

/-- EncodeAndDecodeAgree: a well-formed syllable of every slot class with its word. -/
theorem meets_round_trip :
    ∀ p ∈ [(0, Instr.jmp 3), (1, .add 1 2 3), (2, .wrmp 1 2), (3, .vld 27 2 0), (4, .vfadd 3 1 2 2 0), (5, .vmadd 4 1 2 3 1 5),
        (6, .cpy 0 2 3 1 2 7), (7, .vcvt 9 3 0 0 3 4)],
      p.2.wellFormed = true ∧ (encode p.2).isSome = true ∧ p.1 ∈ p.2.slots := by decide

/-- StepsRunTheDecodedInstruction: a syllable, one whose stage is off, one that does not decode; an event and an input that are due. -/
theorem meets_steps :
    let s := State.reset.withFetchWord 32 0b100001_00001_00010_00000_00000000000
    let off := runs 2 fun c => c.modL fun l => { l with levels := l.levels.set 0 ⟨2, 1, 0, 0, 0, 1, 0, 0, false⟩, sen := 1, smap := [0x100] }
    s.stage = .issue ∧ s.cur = some ⟨0, 2⟩ ∧ (s.core 0).masked 2 = false ∧ decodeSlot 2 0x84220000 = some (.wrmp 1 2) ∧
      (off.core 0).masked 2 = true ∧ decodeSlot 2 0xFC000000 = none ∧
      ({ State.reset with inputs := [(0, .lossOfMaster)] }).due = some (.input .lossOfMaster) ∧
      ({ pends (entry (.scalar 1 5)) with stage := .lands }.setCore 0 { (pends (entry (.scalar 1 5))).core 0 with clk := 1 } |>.setLaunch 1
        { (runs 0).launch 1 with lclk := 1 }).due = some (.event (.resultLanding 0 0)) := by decide +kernel

/-- TheZeroSyllableIsNop: a running task of a powered package. -/
theorem meets_counting : (runs 0).host.powered = true ∧ (runs 0).ticks 0 = true ∧ ((runs 0).core 0).f.mode = .task := by decide +kernel

/-- CommittedSyllablesKeepTheRest: a syllable that commits. -/
theorem meets_commit :
    (Instr.add 3 1 2).slots ≠ [] ∧ (match exec (.add 3 1 2) (runs 1) with | .next t => t.cur == some ⟨0, 1⟩ | _ => false) = true ∧
      branchFamily (.add 3 1 2) = false := by decide +kernel

/-- TablesStayCanonical: a step from the state after reset. -/
theorem meets_step : State.reset.memOk ∧ State.reset.keysOk ∧ ∃ t, step State.reset = .next t :=
  ⟨reset_tables.1, reset_tables.2, _, rfl⟩

end Sys2Proof.Tests
end

section
namespace Sys2Proof.Machine

/-- The tables of `s` have the forms that those of `u` have. -/
structure Formed (u s : State) : Prop where
  mem : u.memOk → s.memOk
  keys : u.keysOk → s.keysOk

/-- The outcome of a meaning: a next state, with the forms of `u`. -/
def GoesOn (u : State) (o : Host.Outcome State Fault Refusal) : Prop := ∃ t, o = .next t ∧ Formed u t

/-! Rising keys. -/

/-- The keys of a list rise. -/
def Rising {α : Type} (l : List (Nat × α)) : Prop := l.Pairwise fun a b => a.1 < b.1

theorem mem_alSet {α : Type} {l : List (Nat × α)} {k : Nat} {v : α} {x : Nat × α} (h : x ∈ alSet l k v) : x.1 = k ∨ x ∈ l := by
  induction l with
  | nil => simp_all [alSet]
  | cons y r ih =>
    unfold alSet at h
    split at h
    · rcases List.mem_cons.mp h with rfl | h
      · exact .inl rfl
      · exact .inr h
    · split at h
      · rcases List.mem_cons.mp h with rfl | h
        · exact .inl rfl
        · exact .inr (List.mem_cons_of_mem _ h)
      · rcases List.mem_cons.mp h with rfl | h
        · exact .inr List.mem_cons_self
        · exact (ih h).imp_right (List.mem_cons_of_mem _)

/-- A set keeps rising keys. -/
theorem Rising.alSet {α : Type} {l : List (Nat × α)} (h : Rising l) (k : Nat) (v : α) : Rising (alSet l k v) := by
  unfold Rising at *
  induction l with
  | nil => simp [Machine.alSet]
  | cons y r ih =>
    obtain ⟨hy, hr⟩ := List.pairwise_cons.mp h
    unfold Machine.alSet
    split
    · refine List.pairwise_cons.mpr ⟨fun x hx => ?_, h⟩
      rcases List.mem_cons.mp hx with rfl | hx
      · assumption
      · exact Nat.lt_trans ‹_› (hy x hx)
    · split
      · next hk => subst hk; exact List.pairwise_cons.mpr ⟨hy, hr⟩
      · refine List.pairwise_cons.mpr ⟨fun x hx => ?_, ih hr⟩
        rcases mem_alSet hx with e | hx
        · omega
        · exact hy x hx

/-- A map of the values keeps rising keys. -/
theorem Rising.map {α : Type} {l : List (Nat × α)} (h : Rising l) {g : Nat × α → Nat × α} (hg : ∀ x, (g x).1 = x.1) :
    Rising (l.map g) := by
  unfold Rising at *
  rw [List.pairwise_map]
  simpa [hg] using h

theorem Rising.filter {α : Type} {l : List (Nat × α)} (h : Rising l) (p : Nat × α → Bool) : Rising (l.filter p) :=
  List.Pairwise.filter p h

/-- A map of the values that drops some of them keeps rising keys. -/
theorem Rising.filterMap {α : Type} {l : List (Nat × α)} (h : Rising l) {g : Nat × α → Option (Nat × α)}
    (hg : ∀ x y, g x = some y → y.1 = x.1) : Rising (l.filterMap g) := by
  unfold Rising at *
  rw [List.pairwise_filterMap]
  exact h.imp fun hab x hx y hy => by rw [hg _ _ hx, hg _ _ hy]; exact hab

/-- Memory keeps its form where cells are dropped. -/
theorem Memory.wf_filter {m : Memory} (h : m.wf = true) (p : Host.Cell → Bool) : Memory.wf (m.filter p) = true := by
  obtain ⟨hr, hb⟩ := Memory.wf_iff.mp h
  exact Memory.wf_iff.mpr ⟨hr.filter p, fun c hc => hb c (List.mem_filter.mp hc).1⟩

/-- Memory keeps its form where runs of bytes are written. -/
theorem writeRuns_wf {m : Memory} (h : m.wf = true) (base : Nat) (rs : List (Nat × List Byte)) : (writeRuns m base rs).wf = true := by
  induction rs generalizing m with
  | nil => exact h
  | cons r rs ih => exact ih (Memory.wf_write h _ _)

/-! What a state's update asks of its tables. -/

section
variable {u s : State}

theorem Formed.refl : Formed s s := ⟨id, id⟩

section
variable {wall stage cur} {spires tags poison gran l2 bel seq lanterns host ports gtime9 pkgFreeze inputs arrivals seen free}

/-- An update of other fields. -/
theorem Formed.same (h : Formed u s) :
    Formed u ⟨wall, stage, cur, s.cores, spires, s.mem, tags, poison, gran, s.launches, l2,
      bel, seq, lanterns, host, ports, gtime9, pkgFreeze, inputs, arrivals, seen, free⟩ :=
  ⟨h.mem, h.keys⟩

/-- A write to memory and an update of other fields. -/
theorem Formed.write {a bs} (h : Formed u s) :
    Formed u ⟨wall, stage, cur, s.cores, spires, s.mem.write a bs, tags, poison, gran, s.launches, l2,
      bel, seq, lanterns, host, ports, gtime9, pkgFreeze, inputs, arrivals, seen, free⟩ :=
  ⟨fun hu => Memory.wf_write (h.mem hu) a bs, h.keys⟩

/-- A map of the values of the core table and an update of other fields. -/
theorem Formed.mapCores {g : Nat × Core → Nat × Core} (h : Formed u s) (hg : ∀ x, (g x).1 = x.1) :
    Formed u ⟨wall, stage, cur, s.cores.map g, spires, s.mem, tags, poison, gran, s.launches, l2,
      bel, seq, lanterns, host, ports, gtime9, pkgFreeze, inputs, arrivals, seen, free⟩ :=
  ⟨h.mem, fun hu => ⟨Rising.map (h.keys hu).1 hg, (h.keys hu).2⟩⟩
end

/-- An update of memory. -/
theorem Formed.setMem (h : Formed u s) {t : State} (hm : s.mem.wf = true → t.mem.wf = true) (hc : t.cores = s.cores)
    (hl : t.launches = s.launches) : Formed u t := by
  obtain ⟨h1, h2⟩ := h
  unfold State.memOk State.keysOk at *
  rw [← hc, ← hl] at h2
  exact ⟨fun hu => hm (h1 hu), h2⟩

/-- An update of the core table. -/
theorem Formed.setCores (h : Formed u s) {t : State} (hm : t.mem = s.mem) (hc : Rising s.cores → Rising t.cores)
    (hl : t.launches = s.launches) : Formed u t := by
  obtain ⟨h1, h2⟩ := h
  unfold State.memOk State.keysOk at *
  rw [← hm] at h1; rw [← hl] at h2
  exact ⟨h1, fun hu => ⟨hc (h2 hu).1, (h2 hu).2⟩⟩

/-- An update of the launch table. -/
theorem Formed.setLaunches (h : Formed u s) {t : State} (hm : t.mem = s.mem) (hc : t.cores = s.cores)
    (hl : Rising s.launches → Rising t.launches) : Formed u t := by
  obtain ⟨h1, h2⟩ := h
  unfold State.memOk State.keysOk at *
  rw [← hm] at h1; rw [← hc] at h2
  exact ⟨h1, fun hu => ⟨(h2 hu).1, hl (h2 hu).2⟩⟩

/-- The state of a pair. -/
theorem Formed.of_pair {α : Type} {p : State × α} {x : α} (h : Formed u p.1) (e : p = (s, x)) : Formed u s := by
  subst e; exact h

theorem Formed.ite {p : Prop} [Decidable p] {a b : State} (ha : Formed u a) (hb : Formed u b) : Formed u (if p then a else b) := by
  split
  · exact ha
  · exact hb

theorem Formed.ite_pair {α : Type} {p : Prop} [Decidable p] {a b : State × α} (ha : Formed u a.1) (hb : Formed u b.1) :
    Formed u (if p then a else b).1 := by
  split
  · exact ha
  · exact hb

/-- A fold of updates with a value beside the state. -/
theorem Formed.foldl_pair {α β : Type} {l : List α} {g : State × β → α → State × β} {p : State × β} (h : Formed u p.1)
    (hg : ∀ a x, Formed u a.1 → Formed u (g a x).1) : Formed u (l.foldl g p).1 := by
  induction l generalizing p with
  | nil => exact h
  | cons x r ih => exact ih (hg p x h)

/-- A fold of updates. -/
theorem Formed.foldl {α : Type} {l : List α} {g : State → α → State} (h : Formed u s)
    (hg : ∀ s x, Formed u s → Formed u (g s x)) : Formed u (l.foldl g s) := by
  induction l generalizing s with
  | nil => exact h
  | cons x r ih => exact ih (hg s x h)

theorem GoesOn.next (h : Formed u s) : GoesOn u (.next s) := ⟨s, rfl, h⟩

theorem Formed.setCore {k c} (h : Formed u s) : Formed u (s.setCore k c) := h.setCores rfl (·.alSet k c) rfl
theorem Formed.modCore {k g} (h : Formed u s) : Formed u (s.modCore k g) := h.setCore
theorem Formed.setLaunch {k l} (h : Formed u s) : Formed u (s.setLaunch k l) := h.setLaunches rfl rfl (·.alSet k l)
theorem Formed.modLaunch {k g} (h : Formed u s) : Formed u (s.modLaunch k g) := h.setLaunch

/-! Translation, ports and the issue of a bundle. -/

theorem Formed.fillL1 {k e} (h : Formed u s) : Formed u (s.fillL1 k e) := h.modCore

theorem Formed.fillL2 {key e} (h : Formed u s) : Formed u (s.fillL2 key e) := h.same

theorem Formed.lookup {k asid va} (h : Formed u s) : Formed u (s.lookup k asid va).1 := by
  unfold State.lookup
  split
  · exact h.fillL1
  · split
    · exact h.fillL2.fillL1
    · exact h

theorem Formed.walkFill {k va} (h : Formed u s) : Formed u (s.walkFill k va).1 := by
  unfold State.walkFill
  dsimp only
  split
  · exact h.fillL2.fillL1
  · exact h

theorem Formed.xlate {k va walked} (h : Formed u s) : Formed u (s.xlate k va walked).1 := by
  unfold State.xlate
  split
  · exact h
  · split
    next e => exact h.lookup.of_pair e
    · split
      · split
        next e0 _ _ _ _ e1 => exact (h.lookup.of_pair e0).walkFill.of_pair e1
        next e0 _ _ _ _ e1 => exact (h.lookup.of_pair e0).walkFill.of_pair e1
      next e _ => exact h.lookup.of_pair e

theorem Formed.xlateAll {k walked vas} (h : Formed u s) : Formed u (s.xlateAll k walked vas).1 := by
  induction vas generalizing s with
  | nil => exact h
  | cons va r ih =>
    unfold State.xlateAll
    split
    · next e => exact h.xlate.of_pair e
    · next e =>
      have h := ih (h.xlate.of_pair e)
      split
      · next e => exact h.of_pair e
      · next e => exact h.of_pair e
    · next e =>
      have h := ih (h.xlate.of_pair e)
      split
      · next e => exact h.of_pair e
      · next e => exact h.of_pair e

theorem Formed.wordPage {k walked va r w fmt kind} (h : Formed u s) : Formed u (s.wordPage k walked va r w fmt kind).1 := by
  unfold State.wordPage
  dsimp only
  split
  next e => exact h.xlateAll.of_pair e
  next e => exact h.xlateAll.of_pair e
  · split
    next e _ _ _ => exact h.xlateAll.of_pair e
    · split
      next e _ _ _ => exact h.xlateAll.of_pair e
      next e _ _ _ => exact h.xlateAll.of_pair e

theorem Formed.spillPage {k uid va store} (h : Formed u s) : Formed u (s.spillPage k uid va store).1 := by
  unfold State.spillPage
  dsimp only
  split
  · split
    next e _ => exact h.wordPage.of_pair e
    next e _ => exact h.wordPage.of_pair e
  next e => exact h.wordPage.of_pair e

theorem Formed.setPort {p x} (h : Formed u s) : Formed u (s.setPort p x) := h.same

theorem Formed.modPort {p g} (h : Formed u s) : Formed u (s.modPort p g) := h.setPort

theorem Formed.toPeers {l m} (h : Formed u s) : Formed u (s.toPeers l m) := by
  unfold State.toPeers
  split
  · exact h
  · exact h.foldl fun _ _ h => h.modPort

theorem Formed.tellArrival {k} (h : Formed u s) : Formed u (s.tellArrival k) := Formed.ite h.toPeers (Formed.ite h.toPeers h)

theorem Formed.finishBundle {k} (h : Formed u s) : Formed u (s.finishBundle k) := h.setCore.same.tellArrival

theorem Formed.nextSlot (h : Formed u s) : Formed u s.nextSlot := by
  unfold State.nextSlot
  split
  · exact h
  · exact Formed.ite h.same h.finishBundle

theorem GoesOn.issued {o} (h : GoesOn u o) : GoesOn u (issued o) := by
  obtain ⟨t, rfl, ht⟩ := h
  exact .next ht.nextSlot

/-! Freezes, traps, dumps and the wait's end. -/

theorem Formed.latchStop {k slot} (h : Formed u s) : Formed u (s.latchStop k slot) := h.setCore.same

theorem Formed.endSteps {l} (h : Formed u s) : Formed u (s.endSteps l) :=
 by
  unfold State.endSteps
  exact (h.mapCores fun x => by split <;> rfl).modLaunch

theorem Formed.modLantern {t g} (h : Formed u s) : Formed u (s.modLantern t g) := h.same

theorem Formed.landPoison {flat n sub} (h : Formed u s) : Formed u (s.landPoison flat n sub) := Formed.ite h (Formed.ite h h.same)

theorem Formed.landBytes {flat bs tags keep poison} (h : Formed u s) : Formed u (s.landBytes flat bs tags keep poison) := h.landPoison.write

theorem Formed.signal {v} (h : Formed u s) : Formed u (s.signal v) := h.same

theorem Formed.place {t bs} (h : Formed u s) : Formed u (s.place t bs) := by
  unfold State.place
  dsimp only
  split
  · exact h.landBytes.modLantern.signal
  · exact h.landBytes.modLantern

theorem Formed.recordAt {g t corr req info value} (h : Formed u s) : Formed u (s.recordAt g t corr req info value) := by
  unfold State.recordAt
  dsimp only
  split
  · exact h
  · split
    · exact h.modLantern
    · split
      · exact h.place
      · split
        · exact h.place.modLantern.modLantern
        · exact h.place.modLantern.place

theorem Formed.record {t corr req info value} (h : Formed u s) : Formed u (s.record t corr req info value) := h.recordAt

theorem Formed.taskRecord {k kind sub bundle low value} (h : Formed u s) : Formed u (s.taskRecord k kind sub bundle low value) :=
    Formed.ite h.record h

theorem Formed.freeze {l cause} (h : Formed u s) : Formed u (s.freeze l cause) := by
  unfold State.freeze
  dsimp only
  split
  · refine .toPeers (.modLaunch ?_)
    split
    · exact h.modCore
    · exact h
  · refine .modLaunch ?_
    split
    · exact h.modCore
    · exact h

theorem Formed.debugBrk {k} (h : Formed u s) : Formed u (s.debugBrk k) := h.freeze.latchStop.taskRecord.endSteps

theorem Formed.withdrawn {k e} (h : Formed u s) : Formed u (s.withdrawn k e) := by
  unfold State.withdrawn
  split
  · exact h.setCore
  · exact h

theorem Formed.faultRecord {k level bundle slot lane cause addr} (h : Formed u s) :
    Formed u (s.faultRecord k level bundle slot lane cause addr) :=
    h.taskRecord

theorem Formed.endCauses {l p} (h : Formed u s) : Formed u (s.endCauses l p) := by
  unfold State.endCauses
  dsimp only
  split
  · exact h.modLaunch
  · split
    · exact h.modLaunch.toPeers
    · split
      · exact Formed.ite h.modLaunch.toPeers h.modLaunch
      · exact h.modLaunch

theorem Formed.queueDump {l i} (h : Formed u s) : Formed u (s.queueDump l i) := Formed.ite h h.same.modLaunch

theorem Formed.fatal {l i} (h : Formed u s) : Formed u (s.fatal l i) := by
  unfold State.fatal
  split
  · exact h.modLaunch.queueDump
  · exact Formed.ite h.modLaunch.queueDump h.modLaunch

theorem Formed.killContext {k e} (h : Formed u s) : Formed u (s.killContext k e) := h.faultRecord.setCore.endCauses.fatal

theorem Formed.pushLevel {k e} (h : Formed u s) : Formed u (s.pushLevel k e) := by
  have h := (h.setMem (t := { s with mem := s.withFrame k e }) (writeRuns_wf · _ _) rfl rfl).setCore (k := k) (c := s.trapCore k e)
  unfold State.pushLevel
  dsimp only
  split
  · exact h.faultRecord.freeze
  · exact h.faultRecord

theorem Formed.stopTrapped {k} (h : Formed u s) : Formed u (s.stopTrapped k) := Formed.ite h.modCore h

theorem Formed.enterLevel {k e} (h : Formed u s) : Formed u (s.enterLevel k e) := h.stopTrapped.pushLevel

theorem Formed.enterTrap {k e} (h : Formed u s) : Formed u (s.enterTrap k e) := Formed.ite h.withdrawn.killContext h.withdrawn.enterLevel

theorem Formed.trapAtIssue {k slot t} (h : Formed u s) : Formed u (s.trapAtIssue k slot t) :=
    Formed.ite h.latchStop (Formed.ite h.debugBrk h.enterTrap.same)

theorem Formed.setUnit {r u'} (h : Formed u s) : Formed u (s.setUnit r u') := h.same

theorem Formed.reportUnit {r forced} (h : Formed u s) : Formed u (s.reportUnit r forced) :=
    Formed.ite h.setUnit (Formed.ite h.setUnit.same h.setUnit)

theorem Formed.reportUpset {r} (h : Formed u s) : Formed u (s.reportUpset r) := h.same.reportUnit

theorem Formed.countFab {k sub} (h : Formed u s) : Formed u (s.countFab k sub) := Formed.ite h.modCore.reportUnit h.reportUpset

theorem GoesOn.viaLoop {o} (h : GoesOn u o) : GoesOn u (viaLoop s o) := by
  obtain ⟨t, rfl, ht⟩ := h
  unfold Machine.viaLoop
  dsimp only
  split
  · next e _ =>
    cases e
    split
    · exact .next ht
    · split
      · exact .next ht
      · exact .next ht.modCore.countFab
  · exact .next ht

theorem Formed.endWait {k} (h : Formed u s) : Formed u (s.endWait k) := Formed.ite h.modCore h

theorem Formed.execWaittExpiry {k} (h : Formed u s) : GoesOn u (execWaittExpiry k s) := by
  unfold Machine.execWaittExpiry
  split
  · exact .next h.endWait
  · exact .next h

theorem Formed.execWaitgExpiry {k} (h : Formed u s) : GoesOn u (execWaitgExpiry k s) := by
  unfold Machine.execWaitgExpiry
  split
  · exact .next h.endWait
  · exact .next h

theorem Formed.fixRelease {l level unit} (h : Formed u s) : Formed u (s.fixRelease l level unit) := by
  unfold State.fixRelease
  dsimp only
  split
  · exact h
  · exact (h.foldl fun _ _ h => h.modCore).modLaunch

theorem Formed.beginKill {l} (h : Formed u s) : Formed u (s.beginKill l) := by
  unfold State.beginKill
  split
  · exact h
  · exact Formed.ite h h.freeze.toPeers

theorem Formed.execBarrierRelease {l level unit} (h : Formed u s) : GoesOn u (execBarrierRelease l level unit s) := by
  unfold Machine.execBarrierRelease
  dsimp only
  split
  · exact .next h
  · exact .next (h.fixRelease.foldl fun _ _ h => Formed.ite h.endWait h).beginKill

/-! The cycle boundary. -/

theorem Formed.stopHere {k} (h : Formed u s) : Formed u (s.stopHere k) := h.modCore

theorem Formed.takeDue {k d} (h : Formed u s) : Formed u (s.takeDue k d) := h.setCore.enterTrap

theorem Formed.takeIrq {k n} (h : Formed u s) : Formed u (s.takeIrq k n) := h.modCore.enterTrap

theorem Formed.hitBreakpoint {k n} (h : Formed u s) : Formed u (s.hitBreakpoint k n) := h.freeze.taskRecord.modCore.endSteps

theorem Formed.sampleRecord {k force} (h : Formed u s) : Formed u (s.sampleRecord k force) := .ite h.record h

theorem Formed.boundary {k} (h : Formed u s) : Formed u (s.boundary k) := by
  unfold State.boundary
  dsimp only
  split
  · exact Formed.ite h.modCore.stopHere h.modCore.takeDue
  · split
    · exact h.modCore.takeIrq
    · split
      · split
        · exact h.modCore.stopHere
        · exact (Formed.ite h.modCore.modCore h.modCore).enterTrap
      · split
        · exact h.modCore.hitBreakpoint
        · exact Formed.ite h.modCore.sampleRecord h.modCore

theorem Formed.execCycleBoundary {k} (h : Formed u s) : GoesOn u (execCycleBoundary k s) := .next h.boundary

/-! Landings, samples of loads, thaws and what a core's event finds. -/

theorem Formed.onEntry {k uid g} (h : Formed u s) (hg : ∀ e, Formed u (g e)) : GoesOn u (onEntry k uid s g) := by
  unfold Machine.onEntry
  split
  · exact .next (hg _)
  · exact .next h

theorem Formed.unitReports {k e fs} (h : Formed u s) : Formed u (s.unitReports k e fs) := by
  unfold State.unitReports
  dsimp only
  refine h.foldl fun s f h => ?_
  split
  · exact Formed.ite h.modCore.reportUnit h.reportUpset
  · exact Formed.ite h.countFab (Formed.ite h.modCore h)

theorem Formed.execResultLanding {k uid} (h : Formed u s) : GoesOn u (execResultLanding k uid s) := by
  unfold Machine.execResultLanding
  dsimp only
  refine h.onEntry fun e => ?_
  split
  · exact h
  · split
    · split
      · exact Formed.ite h.setCore h.setCore
      · exact h.setCore
    · exact h.setCore.unitReports

theorem Formed.digestFrom {k slot cycle chan glob a bs} (h : Formed u s) : Formed u (s.digestFrom k slot cycle chan glob a bs) :=
    Formed.ite h h.modLaunch

theorem Formed.digest {k slot cycle glob a bs} (h : Formed u s) : Formed u (s.digest k slot cycle glob a bs) := h.digestFrom

theorem Formed.landVirtual {pages va bs tags poison} (h : Formed u s) : Formed u (s.landVirtual pages va bs tags poison) :=
    Formed.ite h.landBytes h.landBytes.landBytes

theorem Formed.oneWalk {k uid} (h : Formed u s) : Formed u (s.oneWalk k uid) := h.freeze.same

theorem Formed.startWalk {k uid vas} (h : Formed u s) : Formed u (s.startWalk k uid vas) := h.oneWalk.foldl fun _ _ h => h.oneWalk

theorem Formed.spillFault {k e t} (h : Formed u s) : Formed u (s.spillFault k e t) := h.modCore

theorem Formed.holdFab {k e sub} (h : Formed u s) : Formed u (s.holdFab k e sub) := h.modCore.countFab

theorem Formed.setBoxWord {box off v} (h : Formed u s) : Formed u (s.setBoxWord box off v) := h.write

theorem Formed.setSt {box seq rej code} (h : Formed u s) : Formed u (s.setSt box seq rej code) := h.setBoxWord

theorem Formed.mailEnd {box code} (h : Formed u s) : Formed u (s.mailEnd box code) := h.setSt.same

theorem Formed.ring {box db task} (h : Formed u s) : Formed u (s.ring box db task) :=
    Formed.ite h.setSt (Formed.ite h.setSt.mailEnd h.setSt.same)

theorem Formed.mailStore {box off v task} (h : Formed u s) : Formed u (s.mailStore box off v task) := by
  unfold State.mailStore
  dsimp only
  split
  · exact Formed.ite h.setBoxWord h.setBoxWord.ring
  · exact Formed.ite h.setBoxWord h

theorem Formed.land {flat bs tags poison} (h : Formed u s) : Formed u (s.land flat bs tags poison) := Formed.ite h.landBytes h.modCore

theorem Formed.storeAt {k slot a bs tags} (h : Formed u s) : Formed u (s.storeAt k slot a bs tags) := by
  unfold State.storeAt
  split
  · exact h
  · exact Formed.ite h.mailStore h.land.digest

theorem Formed.execStoreLanding {k uid} (h : Formed u s) : GoesOn u (execStoreLanding k uid s) := by
  unfold Machine.execStoreLanding
  dsimp only
  refine h.onEntry fun e => ?_
  split
  · exact h.holdFab
  · split
    · exact h.storeAt.modCore
    · exact h.storeAt.modCore
    · split
      · exact (h.foldl fun _ _ h => Formed.ite h.storeAt h).modCore
      · exact (h.foldl fun _ _ h => Formed.ite h.storeAt h).modCore
    · split
      next e => exact (h.spillPage.of_pair e).landVirtual.digest.modCore
      next e => exact (h.spillPage.of_pair e).startWalk
      next e => exact (h.spillPage.of_pair e).spillFault
    · split
      next e => exact (h.spillPage.of_pair e).landVirtual.digest.modCore
      next e => exact (h.spillPage.of_pair e).startWalk
      next e => exact (h.spillPage.of_pair e).spillFault
    · exact h

theorem Formed.transitCheck {k sub slot bundle glob xs self} (h : Formed u s) :
    Formed u (s.transitCheck k sub slot bundle glob xs self) := by
  unfold State.transitCheck
  split
  · split
    · exact h.taskRecord
    · exact h
  · exact h

theorem Formed.execLoadSample {k uid} (h : Formed u s) : GoesOn u (execLoadSample k uid s) := by
  unfold Machine.execLoadSample
  dsimp only
  refine h.onEntry fun e => ?_
  split
  · split
    · split
      next e => exact (h.spillPage.of_pair e).transitCheck.modCore
      next e => exact (h.spillPage.of_pair e).startWalk
      next e => exact (h.spillPage.of_pair e).spillFault
    · exact h.transitCheck.modCore
  · split
    · split
      next e => exact (h.spillPage.of_pair e).transitCheck.modCore
      next e => exact (h.spillPage.of_pair e).startWalk
      next e => exact (h.spillPage.of_pair e).spillFault
    · exact h.transitCheck.modCore
  · exact (h.foldl fun _ _ h => Formed.ite h.transitCheck h).modCore
  · exact h

theorem Formed.execFreezeStaggerStop {k} (h : Formed u s) : GoesOn u (execFreezeStaggerStop k s) := by
  unfold Machine.execFreezeStaggerStop
  split
  · exact .next h
  · exact .next h.modCore

theorem Formed.deviation {k} (h : Formed u s) : Formed u (s.deviation k) := by
  unfold State.deviation
  dsimp only
  split
  · exact h
  · exact (Formed.ite h.recordAt h).modCore

theorem Formed.execThaw {l} (h : Formed u s) : GoesOn u (execThaw l s) := .next (h.foldl fun _ _ h => Formed.ite h.deviation.modCore h)

theorem Formed.execHandlerStart {k} (h : Formed u s) : GoesOn u (execHandlerStart k s) := by
  unfold Machine.execHandlerStart
  split
  · exact .next (Formed.ite h h.modCore)
  · exact .next h

theorem Formed.leaveTrap {k} (h : Formed u s) : Formed u (s.leaveTrap k) := by
  unfold State.leaveTrap
  dsimp only
  split
  · exact h.setCore.enterTrap
  · split
    · exact Formed.ite h.setCore.endCauses h.setCore
    · exact (Formed.ite h.setCore.endCauses h.setCore).enterTrap

theorem Formed.landRuns {k slot cycle runs poison} (h : Formed u s) : Formed u (s.landRuns k slot cycle runs poison) := by
  unfold State.landRuns
  refine h.foldl fun s r h => ?_
  split
  · exact h
  · exact h.land.digest

theorem Formed.setSpire {k x} (h : Formed u s) : Formed u (s.setSpire k x) := h.same

theorem Formed.loadOb {spire o} (h : Formed u s) : Formed u (s.loadOb spire o) := h.setSpire

theorem Formed.landHeld {k h'} (h : Formed u s) : Formed u (s.landHeld k h') := by
  unfold State.landHeld
  dsimp only
  split
  · exact h.landRuns.loadOb
  · exact h.landRuns

theorem Formed.flushHeld {k} (h : Formed u s) : Formed u (s.flushHeld k) := h.modCore.foldl fun _ _ h => h.landHeld

theorem Formed.execTretComplete {k} (h : Formed u s) : GoesOn u (execTretComplete k s) := by
  unfold Machine.execTretComplete
  dsimp only
  split
  · exact .next h
  · exact .next (Formed.ite h.leaveTrap.flushHeld h.leaveTrap)

theorem Formed.execCwaitEnd {k} (h : Formed u s) : GoesOn u (execCwaitEnd k s) := by
  unfold Machine.execCwaitEnd
  dsimp only
  split
  · exact .next h
  · exact .next h.setCore

theorem Formed.execKillFreeze {l} (h : Formed u s) : GoesOn u (execKillFreeze l s) := by
  unfold Machine.execKillFreeze
  split
  · exact .next h
  · exact .next (Formed.ite h h.beginKill)

/-! The records of launches and commands. -/

theorem Formed.needEval (h : Formed u s) : Formed u s.needEval := Formed.ite h h.same

theorem Formed.launchEvent {l sub state reason} (h : Formed u s) : Formed u (s.launchEvent l sub state reason) := Formed.ite h.record h

theorem Formed.atomicAt {flat op w64 operand cmp} (h : Formed u s) : Formed u (s.atomicAt flat op w64 operand cmp).1 := h.landBytes.same

theorem Formed.restoreSeen {x} (h : Formed u s) : Formed u (s.restoreSeen x) := Formed.ite h h.write

theorem Formed.abortArrival {i} (h : Formed u s) : Formed u (s.abortArrival i) := h.same

theorem Formed.undigest {k slot cycle glob a n} (h : Formed u s) : Formed u (s.undigest k slot cycle glob a n) := by
  unfold State.undigest
  exact h.modLaunch

theorem Formed.setCmd {k m} (h : Formed u s) : Formed u (s.setCmd k m) := h.modCore

theorem Formed.engineFault {k m t eng} (h : Formed u s) : Formed u (s.engineFault k m t eng) := by
  unfold State.engineFault
  exact h.modCore

theorem Formed.withdraw {x cause} (h : Formed u s) : Formed u (s.withdraw x cause) := by
  unfold State.withdraw
  dsimp only
  split
  · exact (Formed.ite h.restoreSeen h).abortArrival
  · split
    · refine .engineFault ?_
      split
      · split
        · exact h.restoreSeen.undigest.setCmd
        · exact h.restoreSeen.undigest.modCore
      · exact Formed.ite h.setCmd h.modCore
    · refine .setCore ?_
      split
      · exact h.restoreSeen.undigest
      · exact h

theorem Formed.increment {flat} (h : Formed u s) : Formed u (s.increment flat) :=
    Formed.ite h.atomicAt (h.same.foldl fun _ _ h => h.withdraw)

theorem Formed.incrementParent {l} (h : Formed u s) : Formed u (s.incrementParent l) := by
  unfold State.incrementParent
  split
  · exact h
  · split
    · exact Formed.ite h.increment h
    · exact h

theorem Formed.landPages {va bs ps} (h : Formed u s) : Formed u (s.landPages va bs ps) := by
  induction ps generalizing s va bs with
  | nil => exact h
  | cons x r ih => exact ih h.landBytes

theorem Formed.writeAt {sp p va bs} (h : Formed u s) : Formed u (s.writeAt sp p va bs).1 := by
  unfold State.writeAt
  split
  · exact h
  · exact h.landPages

theorem Formed.putStatus {l digest} (h : Formed u s) : Formed u (s.putStatus l digest) := Formed.ite h h.writeAt

theorem freeCores_rising {l : Nat} {cs : List (Nat × Core)} (h : Rising cs) : Rising (freeCores l cs) := by
  refine h.filterMap fun x y e => ?_
  split at e
  · cases e; rfl
  · split at e
    · cases e
    · cases e; rfl

theorem Formed.endLaunch {l st reason digest} (h : Formed u s) : Formed u (s.endLaunch l st reason digest) := by
  have hc : ∀ x, Formed u { s.setLaunch l x with cores := freeCores l s.cores } := fun _ =>
    h.setLaunch.setCores rfl freeCores_rising rfl
  unfold State.endLaunch
  dsimp only
  refine .needEval (.launchEvent (.incrementParent (.putStatus (.same ?_))))
  split
  · exact (hc _).same
  · exact hc _

theorem Formed.writeDump {l i} (h : Formed u s) : Formed u (s.writeDump l i) := h.writeAt

theorem Formed.execDumpWrite (h : Formed u s) : GoesOn u (execDumpWrite s) := by
  unfold Machine.execDumpWrite
  split
  · exact .next h
  · split
    · exact .next h
    · split
      · exact .next h
      · exact .next h.writeDump.endLaunch

theorem Formed.request {k n} (h : Formed u s) : Formed u (s.request k n) := h.modCore

theorem Formed.execTimerInterrupt {k} (h : Formed u s) : GoesOn u (execTimerInterrupt k s) := .next (Formed.ite h.request.modCore h)

theorem Formed.execBelfryInterruptRequest {k} (h : Formed u s) : GoesOn u (execBelfryInterruptRequest k s) := .next h.request

theorem Formed.execDebugInterruptRequest {k} (h : Formed u s) : GoesOn u (execDebugInterruptRequest k s) := .next h.request

/-! Queue generators. -/

theorem Formed.engineRecord {k sub slot queue ch bundle syll} (h : Formed u s) :
    Formed u (s.engineRecord k sub slot queue ch bundle syll) :=
    Formed.ite h.taskRecord h

theorem Formed.execQueueGeneratorStart {k uid} (h : Formed u s) : GoesOn u (execQueueGeneratorStart k uid s) := by
  unfold Machine.execQueueGeneratorStart
  dsimp only
  split
  · exact .next h
  · split
    · split
      · exact .next h
      · split
        · exact .next h.setCmd.engineRecord.engineFault.modCore
        · exact .next h.setCmd.engineRecord
    · exact .next h

theorem Formed.genFault {k m t} (h : Formed u s) : Formed u (s.genFault k m t) := h.setCmd.engineFault

theorem Formed.execGeneratorSample {k uid} (h : Formed u s) : GoesOn u (execGeneratorSample k uid s) := by
  unfold Machine.execGeneratorSample
  dsimp only
  split
  · exact .next h
  · split
    · split
      · exact .next h
      · split
        · exact .next h.genFault
        · exact .next h.transitCheck.setCmd
    · exact .next h

theorem Formed.viaUnit {k uid go} (h : Formed u s) (hg : GoesOn u go) : GoesOn u (viaUnit k uid s go) := by
  unfold Machine.viaUnit
  split
  · exact hg
  · split
    · exact hg
    · exact .next h.modCore.countFab

theorem Formed.endCmd {k m} (h : Formed u s) : Formed u (s.endCmd k m) := h.engineRecord.modCore

theorem Formed.genDone {k m set} (h : Formed u s) : Formed u (s.genDone k m set) := Formed.ite h.endCmd h

theorem Formed.execGeneratorDelivery {k uid} (h : Formed u s) : GoesOn u (execGeneratorDelivery k uid s) := by
  unfold Machine.execGeneratorDelivery
  dsimp only
  split
  · exact .next h
  · split
    · refine h.viaUnit ?_
      split
      · exact .next h.setCmd.engineFault
      · exact .next h.setCmd.modCore.genDone
    · exact .next h

theorem Formed.execGeneratorTake {k uid} (h : Formed u s) : GoesOn u (execGeneratorTake k uid s) := by
  unfold Machine.execGeneratorTake
  dsimp only
  split
  · exact .next h
  · split
    · split
      · exact .next h
      · split
        · exact .next h.genFault
        · exact .next h.setCmd.modCore
    · exact .next h

theorem Formed.execGeneratorLanding {k uid} (h : Formed u s) : GoesOn u (execGeneratorLanding k uid s) := by
  unfold Machine.execGeneratorLanding
  dsimp only
  split
  · exact .next h
  · split
    · refine h.viaUnit ?_
      split
      · exact .next h.genFault
      · exact .next h.setCmd.land.digest.genDone
    · exact .next h

/-! Copies. -/

theorem Formed.geoPages {k walked g dst x loc kind fits} (h : Formed u s) : Formed u (s.geoPages k walked g dst x loc kind fits).1 := by
  unfold State.geoPages
  dsimp only
  split
  · exact h
  · split
    next e => exact h.xlateAll.of_pair e
    next e => exact h.xlateAll.of_pair e
    · split
      next e _ _ _ => exact h.xlateAll.of_pair e
      next e _ _ => exact h.xlateAll.of_pair e

/-- The checks of a copy's start translate the pages of one side at most. -/
theorem Formed.copyCheck {k walked tl p c} (h : Formed u s) : Formed u (s.copyCheck k walked tl p c).1 := by
  unfold State.copyCheck
  dsimp only
  split
  · exact h
  · exact h
  · split
    · exact h
    · exact h
    · split
      · exact h
      · split
        next e =>
          have hs := Formed.of_pair (by exact .ite_pair h.geoPages (.ite_pair h.geoPages h)) e
          split
          · exact hs
          · exact hs
          · exact hs
        next e => exact .of_pair (by exact .ite_pair h.geoPages (.ite_pair h.geoPages h)) e

theorem Formed.ovlCheck {k walked p o} (h : Formed u s) : Formed u (s.ovlCheck k walked p o).1 := by
  unfold State.ovlCheck
  dsimp only
  split
  · exact h
  · split
    · exact h
    · split
      · exact h
      · split
        · exact h
        · split
          · split
            next e0 _ _ _ e1 => exact (h.geoPages.of_pair e0).geoPages.of_pair e1
            next e0 _ _ _ _ e1 => exact (h.geoPages.of_pair e0).geoPages.of_pair e1
          next e => exact h.geoPages.of_pair e

theorem Formed.started {k m r} (h : Formed u s) : Formed u (s.started k m r) := by
  unfold State.started
  split
  · exact h.setCmd.engineRecord
  · exact h.startWalk
  · exact h.engineFault

theorem Formed.execCopyStart {k uid} (h : Formed u s) : GoesOn u (execCopyStart k uid s) := by
  unfold Machine.execCopyStart
  dsimp only
  split
  · exact .next h
  · split
    · exact .next h
    · refine .next (.started (.ite (.same ?_) ?_))
      all_goals
        split
        · exact h.copyCheck
        · exact h
        · exact h.ovlCheck
        · exact h

theorem Formed.endWalk {k uid vas} (h : Formed u s) : Formed u (s.endWalk k uid vas) := (h.foldl fun _ _ h => h.walkFill).modCore.endCauses

theorem Formed.execPageWalkComplete {k uid} (h : Formed u s) : GoesOn u (execPageWalkComplete k uid s) := .next h.endWalk

theorem Formed.execChunkSample {k uid} (h : Formed u s) : GoesOn u (execChunkSample k uid s) := by
  unfold Machine.execChunkSample
  dsimp only
  split
  · exact .next h
  · split
    · split
      · exact .next h
      · refine .next (.setCmd ?_)
        split
        · exact h
        · exact h.transitCheck
    · split
      · exact .next h
      · exact .next h.transitCheck.setCmd
    · exact .next h

theorem Formed.setGran {flat n fmt blk} (h : Formed u s) : Formed u (s.setGran flat n fmt blk) := Formed.ite h.same h

theorem Formed.landWindow {k f} (h : Formed u s) : Formed u (s.landWindow k f) := by
  unfold State.landWindow
  dsimp only
  split
  · exact h
  · exact h.setGran.land

theorem Formed.poisonWords {flat subs} (h : Formed u s) : Formed u (s.poisonWords flat subs) := h.same

theorem Formed.digestChan {k slot glob a bs} (h : Formed u s) : Formed u (s.digestChan k slot glob a bs) := h.digestFrom

theorem Formed.landFlight {k m glob f} (h : Formed u s) : Formed u (s.landFlight k m glob f) := by
  unfold State.landFlight
  dsimp only
  split
  · exact ((Formed.ite h.landVirtual h.landWindow).foldl fun _ _ h => Formed.ite h h.poisonWords).digestChan
  · exact ((Formed.ite h.landVirtual h.landWindow).foldl fun _ _ h => Formed.ite h h.poisonWords).digest

theorem Formed.landNext {k m glob} (h : Formed u s) : Formed u (s.landNext k m glob) := by
  unfold State.landNext
  dsimp only
  split
  · exact h
  · exact Formed.ite h.landFlight.setCmd.endCmd h.landFlight.setCmd

theorem Formed.execChunkLanding {k uid} (h : Formed u s) : GoesOn u (execChunkLanding k uid s) := by
  unfold Machine.execChunkLanding
  split
  · exact .next h
  · split
    · exact h.viaUnit (.next h.landNext)
    · exact .next h

theorem Formed.elemCheck {k walked tl p g a i} (h : Formed u s) : Formed u (s.elemCheck k walked tl p g a i).1 := by
  unfold State.elemCheck
  dsimp only
  split
  · split
    · split
      next e _ => exact h.geoPages.of_pair e
      · exact h.geoPages
    · split
      · exact h
      · split
        · exact h
        · exact h
        · split
          · exact h
          · exact h
  · split
    · split
      next e _ => exact h.geoPages.of_pair e
      · exact h.geoPages
    · split
      · exact h
      · split
        · exact h
        · exact h
        · split
          · exact h
          · exact h

theorem Formed.execGatherIndexSample {k uid} (h : Formed u s) : GoesOn u (execGatherIndexSample k uid s) := by
  unfold Machine.execGatherIndexSample
  dsimp only
  split
  · exact .next h
  · split
    · split
      · exact .next h
      · split
        next e => exact .next (h.elemCheck.of_pair e).startWalk
        next e => exact .next (h.elemCheck.of_pair e).setCmd.engineFault
        next e => exact .next (h.elemCheck.of_pair e).modCore.transitCheck.setCmd
    · exact .next h

theorem Formed.execGatherElementSample {k uid} (h : Formed u s) : GoesOn u (execGatherElementSample k uid s) := by
  unfold Machine.execGatherElementSample
  dsimp only
  split
  · exact .next h
  · split
    · split
      · exact .next h
      · exact .next h.transitCheck.setCmd
    · exact .next h

theorem Formed.execGatherElementLanding {k uid} (h : Formed u s) : GoesOn u (execGatherElementLanding k uid s) := by
  unfold Machine.execGatherElementLanding
  split
  · exact .next h
  · split
    · exact h.viaUnit (.next h.landNext)
    · exact .next h

theorem Formed.markBundles {k first n bad} (h : Formed u s) : Formed u (s.markBundles k first n bad) := h.setSpire

theorem Formed.failCode {code} (h : Formed u s) : Formed u (s.failCode code) := h.same

theorem Formed.codeInt {k m} (h : Formed u s) : Formed u (s.codeInt k m) := h.failCode.killContext.freeze.toPeers

theorem Formed.execOverlayLanding {k uid} (h : Formed u s) : GoesOn u (execOverlayLanding k uid s) := by
  unfold Machine.execOverlayLanding
  dsimp only
  split
  · exact .next h
  · split
    · refine h.viaUnit ?_
      split
      · exact .next h.endCmd.landBytes.markBundles.poisonWords.modCore
      · exact .next h.endCmd.markBundles.codeInt
    · exact .next h

theorem Formed.copyAll {k m p c fuel t} (h : Formed u s) : Formed u (s.copyAll k m p c fuel t) := by
  induction fuel generalizing s t with
  | zero => exact h
  | succ fuel ih => exact .ite h (ih h.landFlight)

theorem Formed.gatherAll {k m p tl fuel i g} (h : Formed u s) : Formed u (s.gatherAll k m p tl fuel i g).1 := by
  induction fuel generalizing s m i g with
  | zero => exact h
  | succ fuel ih =>
    unfold State.gatherAll
    dsimp only
    split
    · next e => exact h.elemCheck.of_pair e
    · next e => exact h.elemCheck.of_pair e
    · next e => exact ih (h.elemCheck.of_pair e).landFlight

theorem Formed.execHandlerChannelLanding {k uid} (h : Formed u s) : GoesOn u (execHandlerChannelLanding k uid s) := by
  unfold Machine.execHandlerChannelLanding
  dsimp only
  split
  · exact .next h
  · split
    · exact .next h
    · refine h.viaUnit ?_
      split
      · exact .next h.copyAll.endCmd
      · split
        next e => exact .next (h.gatherAll.of_pair e).endCmd
        next e => exact .next (h.gatherAll.of_pair e).engineFault
      · exact h.setCmd.execOverlayLanding
      · exact .next h

/-! The matrix unit. -/

theorem Formed.mxStart {k m a} (h : Formed u s) : Formed u (s.mxStart k m a) := by
  unfold State.mxStart
  dsimp only
  split
  · exact h.engineFault
  · split
    · exact h.setCore.engineRecord.endCmd
    · exact h.setCore.engineRecord

theorem Formed.execMatrixCommandStart {k uid} (h : Formed u s) : GoesOn u (execMatrixCommandStart k uid s) := by
  unfold Machine.execMatrixCommandStart
  split
  · exact .next h
  · split
    · split
      · exact .next h
      · exact .next h.mxStart
    · exact .next h

theorem Formed.execMcallStart {k uid} (h : Formed u s) : GoesOn u (execMcallStart k uid s) := by
  unfold Machine.execMcallStart
  split
  · exact .next h
  · split
    · split
      · exact .next h
      · exact .next h.mxStart
    · exact .next h

theorem Formed.mxTransit {k m xs} (h : Formed u s) : Formed u (s.mxTransit k m xs) := h.foldl fun _ _ h => h.transitCheck

theorem Formed.execPassSample {k uid} (h : Formed u s) : GoesOn u (execPassSample k uid s) := by
  unfold Machine.execPassSample
  split
  · exact .next h
  · split
    · exact .next h
    · exact .next h.mxTransit.setCmd

/-- A landing of the array: a failing unit reports, armed detectors clear, and the rows land or are held. -/
theorem Formed.mxLand {k m j r hd dues} (h : Formed u s) : Formed u (s.mxLand k m j r hd dues) := by
  unfold State.mxLand
  dsimp only
  have hs : Formed u (match s.arrayFabFails k r with | some x => s.countFab k x | none => s) := by
    split
    · exact h.countFab
    · exact h
  split
  · exact .endCmd (.ite (.landHeld (.setCmd (hs.foldl fun _ _ h => .ite h.modCore h)))
      (.modCore (.setCmd (hs.foldl fun _ _ h => .ite h.modCore h))))
  · exact .ite (.landHeld (.setCmd (hs.foldl fun _ _ h => .ite h.modCore h)))
      (.modCore (.setCmd (hs.foldl fun _ _ h => .ite h.modCore h)))

theorem Formed.execPassLanding {k uid} (h : Formed u s) : GoesOn u (execPassLanding k uid s) := by
  unfold Machine.execPassLanding
  dsimp only
  split
  · exact .next h
  · split
    · exact .next h
    · refine .next (.mxLand ?_)
      split
      · exact .reportUnit (.modCore (.ite h h.mxTransit))
      · exact .reportUpset (.ite h h.mxTransit)
      · exact .ite h h.mxTransit

theorem Formed.execMzeroBlockLanding {k uid} (h : Formed u s) : GoesOn u (execMzeroBlockLanding k uid s) := by
  unfold Machine.execMzeroBlockLanding
  split
  · exact .next h
  · split
    · exact .next h
    · exact .next h.mxLand

theorem Formed.execMrdStepSample {k uid} (h : Formed u s) : GoesOn u (execMrdStepSample k uid s) := by
  unfold Machine.execMrdStepSample
  split
  · exact .next h
  · split
    · exact .next h
    · exact .next h.mxTransit.setCmd

theorem Formed.execMrdStepLanding {k uid} (h : Formed u s) : GoesOn u (execMrdStepLanding k uid s) := by
  unfold Machine.execMrdStepLanding
  dsimp only
  split
  · exact .next h
  · split
    · exact .next h
    · split
      · exact .next h.mxLand
      · exact .next h.mxLand

theorem Formed.execMwrStepSample {k uid} (h : Formed u s) : GoesOn u (execMwrStepSample k uid s) := by
  unfold Machine.execMwrStepSample
  split
  · exact .next h
  · split
    · exact .next h
    · exact .next h.mxTransit.setCmd

theorem Formed.execMwrStepLanding {k uid} (h : Formed u s) : GoesOn u (execMwrStepLanding k uid s) := by
  unfold Machine.execMwrStepLanding
  dsimp only
  split
  · exact .next h
  · split
    · exact .next h
    · split
      · exact .next h.mxLand
      · exact .next h.mxLand

theorem Formed.execMldSample {k uid} (h : Formed u s) : GoesOn u (execMldSample k uid s) := by
  unfold Machine.execMldSample
  dsimp only
  split
  · exact .next h
  · split
    · exact .next h
    · exact .next h.mxTransit.setCmd

theorem Formed.execMldLanding {k uid} (h : Formed u s) : GoesOn u (execMldLanding k uid s) := by
  unfold Machine.execMldLanding
  dsimp only
  split
  · exact .next h
  · split
    · exact .next h
    · exact .next h.mxLand

/-! Atomics, locks and launches from a task. -/

theorem Formed.execAmoApply {k uid} (h : Formed u s) : GoesOn u (execAmoApply k uid s) := by
  unfold Machine.execAmoApply
  dsimp only
  refine h.onEntry fun e => ?_
  split
  · exact h.atomicAt.digest.modCore
  · exact h

theorem Formed.gamoCheck {k walked g} (h : Formed u s) : Formed u (s.gamoCheck k walked g).1 := by
  unfold State.gamoCheck
  dsimp only
  split
  · exact h
  · split
    · exact h
    · exact h.wordPage

theorem Formed.execGamoStart {k uid} (h : Formed u s) : GoesOn u (execGamoStart k uid s) := by
  unfold Machine.execGamoStart
  split
  · exact .next h
  · split
    · split
      · exact .next h
      · exact .next h.gamoCheck.started
    · exact .next h

theorem Formed.execGamoApply {k uid} (h : Formed u s) : GoesOn u (execGamoApply k uid s) := by
  unfold Machine.execGamoApply
  dsimp only
  split
  · exact .next h
  · split
    · split
      · exact .next h
      · exact h.viaUnit (.next h.atomicAt.digest.setCmd)
    · exact .next h

theorem Formed.execGamoOldValueLanding {k uid} (h : Formed u s) : GoesOn u (execGamoOldValueLanding k uid s) := by
  unfold Machine.execGamoOldValueLanding
  dsimp only
  split
  · exact .next h
  · split
    · split
      · exact .next h
      · refine .next ?_
        refine .endCmd ?_
        split
        · exact h
        · split
          · exact h
          · exact h.land.digest
    · exact .next h

theorem Formed.execRelIncrement {k uid} (h : Formed u s) : GoesOn u (execRelIncrement k uid s) := by
  unfold Machine.execRelIncrement
  dsimp only
  split
  · exact .next h
  · split
    · refine h.viaUnit ?_
      split
      next e => exact .next (h.wordPage.of_pair e).startWalk
      next e => exact .next (h.wordPage.of_pair e).engineFault
      next e => exact .next (h.wordPage.of_pair e).atomicAt.digest.modCore
    · exact .next h

theorem Formed.execAcqSample {k uid} (h : Formed u s) : GoesOn u (execAcqSample k uid s) := by
  unfold Machine.execAcqSample
  split
  · exact .next h
  · split
    · refine h.viaUnit ?_
      split
      next e => exact .next (h.wordPage.of_pair e).startWalk
      next e => exact .next (h.wordPage.of_pair e).engineFault
      next e => exact .next (h.wordPage.of_pair e).modCore
    · exact .next h

theorem Formed.execLnchStart {k uid} (h : Formed u s) : GoesOn u (execLnchStart k uid s) := by
  unfold Machine.execLnchStart
  dsimp only
  split
  · exact .next h
  · split
    · split
      · exact .next h
      · split
        · exact .next h.engineFault
        · split
          · exact .next h.engineFault
          · split
            next e => exact .next (h.wordPage.of_pair e).started
            next e => exact .next (h.wordPage.of_pair e).started
    · exact .next h

theorem Formed.refuse {l reason} (h : Formed u s) : Formed u (s.refuse l reason) := h.modLaunch.endLaunch

theorem Formed.takePart {l p} (h : Formed u s) : Formed u (s.takePart l p) := by
  unfold State.takePart
  dsimp only
  split
  · exact h
  · exact Formed.ite h.refuse (Formed.ite h.refuse h.modLaunch.needEval)

theorem Formed.submission {r corr queue parent parentSp fromTask sound} (h : Formed u s) :
    Formed u (s.submission r corr queue parent parentSp fromTask sound) := by
  unfold State.submission
  dsimp only
  split
  · split
    · refine .needEval ?_
      split
      · exact Formed.ite h.incrementParent.record h.incrementParent
      · split
        · exact h.putStatus.incrementParent.record
        · exact h.putStatus.incrementParent
    · exact (h.setLaunch.same.putStatus.toPeers.foldl fun _ _ h => h.takePart).needEval
  · split
    · split
      · refine .needEval ?_
        split
        · exact Formed.ite h.incrementParent.record h.incrementParent
        · split
          · exact h.putStatus.incrementParent.record
          · exact h.putStatus.incrementParent
      · exact (h.setLaunch.same.putStatus.toPeers.foldl fun _ _ h => h.takePart).needEval
    · split
      · split
        · refine .needEval ?_
          split
          · exact Formed.ite h.incrementParent.record h.incrementParent
          · split
            · exact h.putStatus.incrementParent.record
            · exact h.putStatus.incrementParent
        · exact (h.setLaunch.same.putStatus.toPeers.foldl fun _ _ h => h.takePart).needEval
      · split
        · refine .needEval ?_
          split
          · exact Formed.ite h.incrementParent.record h.incrementParent
          · split
            · exact h.putStatus.incrementParent.record
            · exact h.putStatus.incrementParent
        · exact (h.setLaunch.same.putStatus.toPeers.foldl fun _ _ h => h.takePart).needEval

theorem Formed.execLnchArrival {k uid} (h : Formed u s) : GoesOn u (execLnchArrival k uid s) := by
  unfold Machine.execLnchArrival
  dsimp only
  split
  · exact .next h
  · split
    · split
      · exact .next h
      · exact h.viaUnit (.next h.endCmd.submission)
    · exact .next h

/-! Flits, streams and the links. -/

theorem Formed.fabStart {k m f} (h : Formed u s) : Formed u (s.fabStart k m f) := h.started

theorem Formed.execFlitSample {k uid} (h : Formed u s) : GoesOn u (execFlitSample k uid s) := by
  unfold Machine.execFlitSample
  dsimp only
  split
  · exact .next h
  · split
    · split
      · exact .next h
      · split
        · exact .next h.fabStart
        · split
          · exact .next h.endCmd
          · split
            · exact .next h.endCmd
            · exact .next (Formed.ite h.modPort.modCore h.modPort).setCmd
    · exact .next h

theorem Formed.execStreamFlitSample {k uid} (h : Formed u s) : GoesOn u (execStreamFlitSample k uid s) := by
  unfold Machine.execStreamFlitSample
  dsimp only
  split
  · exact .next h
  · split
    · split
      · exact .next h
      · split
        · exact .next (Formed.ite h.engineFault (Formed.ite h.engineFault h.fabStart))
        · split
          · exact .next h.endCmd
          · split
            · exact .next h.setCmd.engineFault
            · exact .next h.modPort.setCmd
    · exact .next h

theorem Formed.landStream {pkt root va ds} (h : Formed u s) : Formed u (s.landStream pkt root va ds).1 := by
  induction ds generalizing s va with
  | nil => exact h
  | cons d r ih =>
    unfold State.landStream
    split
    · exact h
    · dsimp only
      split
      · exact h
      · exact ih h.landBytes

theorem Formed.linkRecord {sub port lane low value} (h : Formed u s) : Formed u (s.linkRecord sub port lane low value) :=
    Formed.ite h.record h

theorem Formed.execStreamPacketReceive {pkt} (h : Formed u s) : GoesOn u (execStreamPacketReceive pkt s) := by
  unfold Machine.execStreamPacketReceive
  dsimp only
  generalize hr : (if pkt.seq = 0 then _ else s) = r
  have hs : Formed u r := by
    rw [← hr]
    exact .ite h.modPort h
  split
  · exact .next hs
  · split
    · exact .next hs.landStream.modPort.linkRecord
    · split
      · split
        · exact .next hs.landStream.atomicAt
        · exact .next hs.landStream
      · exact .next hs.landStream

theorem Formed.landFlit {k m f} (h : Formed u s) : Formed u (s.landFlit k m f) := by
  unfold State.landFlit
  dsimp only
  split
  · exact h
  · exact Formed.ite h.landFlight.setCmd.endCmd h.landFlight.setCmd

theorem Formed.startSkew {k uid} (h : Formed u s) : Formed u (s.startSkew k uid) :=
  h.freeze.mapCores fun x => by split <;> rfl

theorem Formed.takeFlit {k m f c t} (h : Formed u s) : Formed u (s.takeFlit k m f c t) := by
  unfold State.takeFlit
  dsimp only
  split
  · exact h.startSkew
  · split
    · exact h.setCmd.engineFault
    · split
      · exact h.startSkew
      · exact Formed.ite h.setCmd.engineFault h.modLaunch.setCmd

theorem Formed.execFlitReceive {k uid} (h : Formed u s) : GoesOn u (execFlitReceive k uid s) := by
  unfold Machine.execFlitReceive
  split
  · exact .next h
  · split
    · split
      · exact .next h
      · split
        · exact .next h.fabStart
        · split
          · exact .next h.landFlit
          · split
            · exact .next h.endCmd
            · exact .next h.takeFlit
    · exact .next h

theorem Formed.execSkewFlitArrival {l} (h : Formed u s) : GoesOn u (execSkewFlitArrival l s) := by
  unfold Machine.execSkewFlitArrival
  dsimp only
  split
  · exact .next h
  · split
    · exact .next h
    · exact .next (Formed.ite h.modLaunch.toPeers h.modLaunch)

theorem Formed.execSkewBudgetExpiry {k} (h : Formed u s) : GoesOn u (execSkewBudgetExpiry k s) := by
  unfold Machine.execSkewBudgetExpiry
  dsimp only
  split
  · exact .next h
  · exact .next h.enterTrap.endCauses

theorem Formed.execSkewThaw {l} (h : Formed u s) : GoesOn u (execSkewThaw l s) := .next (Formed.ite h h.setLaunch)

theorem Formed.sendPacket {p} (h : Formed u s) : Formed u (s.sendPacket p) := by
  unfold State.sendPacket
  dsimp only
  split
  · exact h
  · exact h.setPort

theorem Formed.execFrameSend {p} (h : Formed u s) : GoesOn u (execFrameSend p s) := by
  unfold Machine.execFrameSend
  dsimp only
  split
  · exact .next h.setPort.sendPacket
  · exact .next h.setPort

theorem Formed.exhaust {port} (h : Formed u s) : Formed u (s.exhaust port) := by
  unfold State.exhaust
  dsimp only
  split
  · exact h
  · exact h.modPort.foldl fun _ _ h => Formed.ite h.freeze.toPeers h

theorem Formed.enqueueFlit {port l n pos fl} (h : Formed u s) : Formed u (s.enqueueFlit port l n pos fl) := by
  unfold State.enqueueFlit
  dsimp only
  split
  · exact h
  · split
    · exact h
    · exact Formed.ite h.modPort h.modLaunch

theorem Formed.thawSlack {port} (h : Formed u s) : Formed u (s.thawSlack port) :=
    h.modPort.foldl fun _ _ h => Formed.ite h.modLaunch.toPeers h

theorem Formed.endSlack {port} (h : Formed u s) : Formed u (s.endSlack port) := Formed.ite h h.thawSlack

theorem Formed.execFrameReceive {fr} (h : Formed u s) : GoesOn u (execFrameReceive fr s) := by
  unfold Machine.execFrameReceive
  dsimp only
  split
  · exact .next h
  · split
    · exact .next (.ite h.modPort.exhaust h.modPort)
    · refine .next (.endSlack (h.foldl fun s x h => ?_))
      split
      · exact h.enqueueFlit
      · split
        · split
          · exact h
          · exact h.modPort.enqueueFlit
        · exact h

theorem Formed.execRetryRequest {port fnum} (h : Formed u s) : GoesOn u (execRetryRequest port fnum s) := .next h.modPort

theorem Formed.execFlitArrivalTimeout {port} (h : Formed u s) : GoesOn u (execFlitArrivalTimeout port s) := .next (Formed.ite h.exhaust h)

/-! Ports, barriers and messages of the fabric. -/

theorem Formed.killLaunch {l reason} (h : Formed u s) : Formed u (s.killLaunch l reason) := by
  unfold State.killLaunch
  dsimp only
  split
  · exact h
  · exact Formed.ite h h.modLaunch.beginKill
  · exact h.endLaunch.toPeers

theorem Formed.execPortRetrain {p} (h : Formed u s) : GoesOn u (execPortRetrain p s) := by
  unfold Machine.execPortRetrain
  dsimp only
  split
  · exact .next h
  · exact .next (h.linkRecord.thawSlack.modPort.foldl fun _ _ h => h.killLaunch)

theorem Formed.execPortTrained {port} (h : Formed u s) : GoesOn u (execPortTrained port s) := .next h.modPort.linkRecord

theorem Formed.execBarrierArrivalMessage {corr req schc} (h : Formed u s) : GoesOn u (execBarrierArrivalMessage corr req schc s) := by
  unfold Machine.execBarrierArrivalMessage
  split
  · exact .next h
  · exact .next h.modLaunch

theorem Formed.execSubmissionDigestExchange {corr p} (h : Formed u s) : GoesOn u (execSubmissionDigestExchange corr p s) := by
  unfold Machine.execSubmissionDigestExchange
  dsimp only
  split
  · exact .next h.takePart
  · exact .next h.same

theorem Formed.startPreempt {l} (h : Formed u s) : Formed u (s.startPreempt l) := Formed.ite h h.modLaunch.toPeers

theorem Formed.execFreezeMessage {corr m} (h : Formed u s) : GoesOn u (execFreezeMessage corr m s) := by
  unfold Machine.execFreezeMessage
  dsimp only
  split
  · exact h.execSubmissionDigestExchange
  · exact .next h
  · exact h.execBarrierArrivalMessage
  · exact .next h.modLaunch
  · split
    · exact .next h
    · exact .next h.freeze.modLaunch
  · exact .next h.modLaunch
  · exact .next h.startPreempt
  · exact .next h.killLaunch
  · exact .next h.modLaunch

theorem Formed.loseMaster (h : Formed u s) : Formed u s.loseMaster := h.same

theorem Formed.execPtpEventMessage {m} (h : Formed u s) : GoesOn u (execPtpEventMessage m s) := by
  unfold Machine.execPtpEventMessage
  dsimp only
  split
  · exact .next h
  · split
    · split
      · exact .next h
      · split
        · exact .next h.same
        · exact .next (Formed.ite h.loseMaster h)
    · split
      · exact .next h
      · split
        · exact .next h.same
        · exact .next (Formed.ite h.loseMaster h)

theorem Formed.execSyncInterval (h : Formed u s) : GoesOn u (execSyncInterval s) := .next h.same

theorem Formed.execLossOfMaster (h : Formed u s) : GoesOn u (execLossOfMaster s) := .next h.loseMaster

theorem Formed.execLinkHealthTick {lanes} (h : Formed u s) : GoesOn u (execLinkHealthTick lanes s) := by
  unfold Machine.execLinkHealthTick
  dsimp only
  split
  · exact .next h
  · exact .next (h.same.foldl fun _ _ h => Formed.ite h.linkRecord.modPort.linkRecord h.linkRecord)

/-! Submission queues. -/

theorem Formed.setQueueWord {q i v} (h : Formed u s) : Formed u (s.setQueueWord q i v) := by
  unfold State.setQueueWord
  split
  · exact h
  · exact h.landBytes

theorem Formed.popPacket {q} (h : Formed u s) : Formed u (s.popPacket q) := h.setQueueWord

theorem Formed.execSubmit {q} (h : Formed u s) : GoesOn u (execSubmit q s) := by
  unfold Machine.execSubmit
  dsimp only
  split
  · exact .next h
  · exact .next h.popPacket.submission

theorem Formed.execKill {q} (h : Formed u s) : GoesOn u (execKill q s) := by
  unfold Machine.execKill
  dsimp only
  split
  · exact .next h
  · split
    · exact .next h.popPacket
    · exact .next h.popPacket.killLaunch

theorem Formed.execPreempt {q} (h : Formed u s) : GoesOn u (execPreempt q s) := by
  unfold Machine.execPreempt
  dsimp only
  split
  · exact .next h
  · split
    · exact .next h.popPacket
    · exact .next h.popPacket.startPreempt

/-! Admission, start and pre-emption of launches. -/

theorem Formed.dropReserve (h : Formed u s) : Formed u s.dropReserve := by
  unfold State.dropReserve
  dsimp only
  split
  · exact h
  · exact Formed.ite h h.same

theorem Formed.triggerPreempt (h : Formed u s) : Formed u s.triggerPreempt := by
  unfold State.triggerPreempt
  dsimp only
  split
  · exact h
  · split
    · exact h
    · split
      · exact h
      · exact h.same.startPreempt

theorem Formed.reverify {l} (h : Formed u s) : Formed u (s.reverify l).1 := by
  unfold State.reverify
  dsimp only
  split
  · exact h
  · split
    · exact h
    · split
      · exact h
      · exact h.same

theorem Formed.takePlace {l m} (h : Formed u s) : Formed u (s.takePlace l m) := h.modLaunch.same

theorem Formed.touchSlot {code slot} (h : Formed u s) : Formed u (s.touchSlot code slot) := h.same

theorem Formed.retime {code k dir free tt} (h : Formed u s) : Formed u (s.retime code k dir free tt).1 := by
  unfold State.retime
  dsimp only
  split
  · split
    · exact h
    · split
      · exact h
      next e =>
        have ht := h.writeAt.of_pair e
        split
        · exact h
        next e => exact (ht.writeAt.of_pair e).touchSlot
  · exact h

theorem Formed.timedImage {l k tt} (h : Formed u s) : Formed u (s.timedImage l k tt).1 := by
  unfold State.timedImage
  dsimp only
  split
  · exact h
  · split
    · exact h
    · split
      · exact h
      · split
        · exact h
        · split
          · exact h.touchSlot
          · exact h.retime

theorem Formed.poisonBytes {flat ps} (h : Formed u s) : Formed u (s.poisonBytes flat ps) := Formed.ite h h.poisonWords

theorem Formed.initialise {l dest len bs psn} (h : Formed u s) : Formed u (s.initialise l dest len bs psn) := by
  unfold State.initialise
  dsimp only
  split
  · exact Formed.ite h (h.foldl fun _ _ h => h.landBytes.poisonBytes)
  · exact Formed.ite h (h.foldl fun _ _ h => h.landBytes.poisonBytes)
  · split
    · exact h
    · exact h.landPages.foldl fun _ _ h => Formed.ite h h.poisonBytes
  · exact h

theorem Formed.initialisers {l k} (h : Formed u s) : Formed u (s.initialisers l k) := by
  unfold State.initialisers
  dsimp only
  split
  · exact h
  · split
    · exact h
    · exact h.foldl fun _ _ h => h.initialise

theorem Formed.wipe {flat n} (h : Formed u s) : Formed u (s.wipe flat n) :=
  h.setMem (Memory.wf_filter · _) rfl rfl

theorem Formed.clearFor {l} (h : Formed u s) : Formed u (s.clearFor l) := by
  unfold State.clearFor
  dsimp only
  split
  · exact h.foldl fun _ _ h => h.wipe.wipe.setGran.setSpire
  · exact (h.foldl fun _ _ h => h.wipe.wipe.setGran.setSpire).foldl fun _ _ h => h.wipe

theorem Formed.landOverlay {sp k first n src bs} (h : Formed u s) : Formed u (s.landOverlay sp k first n src bs) :=
    h.landBytes.markBundles.poisonBytes

theorem Formed.preloadPage {l va} (h : Formed u s) : Formed u (s.preloadPage l va) := by
  unfold State.preloadPage
  dsimp only
  split
  · exact h
  · exact h.foldl fun _ _ h => h.fillL2

theorem Formed.preload {l} (h : Formed u s) : Formed u (s.preload l) := h.foldl fun _ _ h => h.foldl fun _ _ h => h.preloadPage

theorem Formed.announce {l sub} (h : Formed u s) : Formed u (s.announce l sub) := h.putStatus.launchEvent

theorem Formed.admitted {l} (h : Formed u s) : Formed u (s.admitted l) := h.modLaunch.announce

theorem Formed.admitFresh {l m} (h : Formed u s) : Formed u (s.admitFresh l m) := by
  unfold State.admitFresh
  dsimp only
  split
  · exact h.takePlace.refuse
  · split
    next e => exact (h.takePlace.timedImage.of_pair e).toPeers.refuse
    · split
      next e _ => exact (h.takePlace.timedImage.of_pair e).refuse
      · split
        next e _ _ _ => exact (h.takePlace.timedImage.of_pair e).clearFor.initialisers.failCode.modLaunch.endLaunch
        · split
          next e _ _ _ _ _ _ => exact ((h.takePlace.timedImage.of_pair e).clearFor.initialisers.foldl fun _ _ h => h.landOverlay)
            |>.modLaunch.preload.refuse
          next e _ _ _ _ _ _ => exact ((h.takePlace.timedImage.of_pair e).clearFor.initialisers.foldl fun _ _ h => h.landOverlay)
            |>.modLaunch.preload.admitted.toPeers

theorem Formed.restoreCores {l lclk cs} (h : Formed u s) : Formed u (s.restoreCores l lclk cs) := by
  unfold State.restoreCores
  refine h.foldl fun s c h => ?_
  split
  · exact h
  · exact h.setCore

theorem Formed.putRegion {flat bs tags gran} (h : Formed u s) : Formed u (s.putRegion flat bs tags gran) := h.wipe.write

theorem Formed.restoreMemories {l ps} (h : Formed u s) : Formed u (s.restoreMemories l ps) := by
  unfold State.restoreMemories
  dsimp only
  refine (h.foldl fun s y h => ?_).foldl fun s y h => ?_
  · split
    · exact h
    · exact h.putRegion.putRegion.putRegion.putRegion.setSpire
  · split
    · exact h
    · exact h.putRegion

theorem Formed.relandOverlays {l k es} (h : Formed u s) : Formed u (s.relandOverlays l k es).1 := by
  induction es generalizing s with
  | nil => exact h
  | cons e r ih =>
    unfold State.relandOverlays
    dsimp only
    split
    · exact h
    · split
      · exact h
      · exact ih h.landOverlay

theorem Formed.restageCores {l} (h : Formed u s) : Formed u (s.restageCores l) := h.foldl fun _ _ h => h.modCore

theorem Formed.codeKill {l} (h : Formed u s) : Formed u (s.codeKill l) := h.failCode.fatal.freeze.toPeers

theorem Formed.admitSaved {l m v} (h : Formed u s) : Formed u (s.admitSaved l m v) := by
  unfold State.admitSaved
  dsimp only
  generalize hr : List.foldl _ (_, true) _ = r
  have hs : Formed u r.1 := by
    rw [← hr]
    refine .foldl_pair (p := (_, true)) ?_ fun a c h => ?_
    · dsimp only
      exact h.takePlace.restoreMemories.restoreCores.preload.admitted.modLaunch
    · split
      · exact h
      · exact h.relandOverlays
  split
  · exact hs.restageCores.announce.codeKill
  · split
    · exact hs.restageCores.announce
    · exact .ite hs.restageCores.announce hs.restageCores.announce.modLaunch.toPeers

theorem Formed.admitOne {l m} (h : Formed u s) : Formed u (s.admitOne l m) := by
  unfold State.admitOne
  split
  next e => exact (h.reverify.of_pair e).refuse
  · split
    next e _ _ => exact (h.reverify.of_pair e).admitFresh
    next e _ _ _ => exact (h.reverify.of_pair e).admitSaved

theorem Formed.admitAll {fuel} (h : Formed u s) : Formed u (State.admitAll fuel s) := by
  induction fuel generalizing s with
  | zero => exact h
  | succ fuel ih =>
    unfold State.admitAll
    dsimp only
    split
    · exact h
    · split
      · exact h
      · exact ih h.admitOne

theorem Formed.evaluate (h : Formed u s) : Formed u s.evaluate :=
    (h.same.dropReserve.foldl fun _ _ h => h.endLaunch).admitAll.triggerPreempt

theorem Formed.execQueueEvaluation (h : Formed u s) : GoesOn u (execQueueEvaluation s) := .next (Formed.ite h.evaluate h)

theorem Formed.execPriorityAging {l} (h : Formed u s) : GoesOn u (execPriorityAging l s) := by
  unfold Machine.execPriorityAging
  dsimp only
  split
  · exact .next h
  · exact .next h.modLaunch

theorem Formed.startCore {l y h'} (h : Formed u s) : Formed u (s.startCore l y h') := h.setCore

theorem Formed.execStartTick {l} (h : Formed u s) : GoesOn u (execStartTick l s) := by
  unfold Machine.execStartTick
  dsimp only
  split
  · exact .next h
  · split
    · exact .next h.refuse
    · exact .next (h.modLaunch.foldl fun _ _ h => h.foldl fun _ _ h => h.startCore).announce

theorem Formed.execPreemptionFreeze {l} (h : Formed u s) : GoesOn u (execPreemptionFreeze l s) := by
  unfold Machine.execPreemptionFreeze
  split
  · exact .next h
  · exact .next h.freeze

theorem Formed.writeSave {l whole} (h : Formed u s) : Formed u (s.writeSave l whole).1 := by
  unfold State.writeSave
  dsimp only
  split
  · exact h.writeAt
  · split
    next e => exact h.writeAt.writeAt.of_pair e
    · split
      next e _ => exact (h.writeAt.writeAt.of_pair e).writeAt
      next e _ => exact h.writeAt.writeAt.of_pair e

theorem Formed.abandonSave {l} (h : Formed u s) : Formed u (s.abandonSave l) := h.fatal.modLaunch.toPeers

theorem Formed.saveContext {l n} (h : Formed u s) : Formed u (s.saveContext l n) := by
  unfold State.saveContext
  dsimp only
  split
  next e =>
    have hs := Formed.of_pair (by exact .writeSave (.mapCores h fun x => by split <;> rfl)) e
    exact hs.abandonSave
  next e =>
    have hs := Formed.of_pair (by exact .writeSave (.mapCores h fun x => by split <;> rfl)) e
    exact .needEval (.announce (.setCores hs.modLaunch rfl (·.filter _) rfl))

theorem Formed.execContextSave {l} (h : Formed u s) : GoesOn u (execContextSave l s) := by
  unfold Machine.execContextSave
  split
  · exact .next h
  · split
    · exact .next h.saveContext
    · exact .next h.modLaunch

theorem Formed.execLaunchComplete {l} (h : Formed u s) : GoesOn u (execLaunchComplete l s) := by
  unfold Machine.execLaunchComplete
  split
  · exact .next h
  · split
    · exact .next h.endLaunch
    · exact .next h.endLaunch

/-! The belfry's commands. -/

theorem Formed.mailServe {box cmd host ok go} (h : Formed u s) (hg : ∀ m, Formed u (go s m)) :
    GoesOn u (mailServe box cmd host ok go s) := by
  unfold Machine.mailServe
  split
  · exact .next h
  · split
    · exact .next h
    · split
      · exact .next h.mailEnd
      · split
        · exact .next h.mailEnd
        · split
          · exact .next h.mailEnd
          · exact .next (hg _)

theorem Formed.execQuery {box} (h : Formed u s) : GoesOn u (execQuery box s) := h.mailServe fun _ => h.write.mailEnd

theorem Formed.execReadtt {box} (h : Formed u s) : GoesOn u (execReadtt box s) := h.mailServe fun _ => h.write.mailEnd

theorem Formed.reply {box i ws} (h : Formed u s) : Formed u (s.reply box i ws) := h.write

theorem Formed.execReadunit {box} (h : Formed u s) : GoesOn u (execReadunit box s) :=
    h.mailServe fun _ => Formed.ite h.reply.mailEnd h.reply.mailEnd

theorem Formed.condemnUnit {r box} (h : Formed u s) : Formed u (s.condemnUnit r box) := Formed.ite h.setUnit.same h.setUnit.same

theorem Formed.execCondemn {box} (h : Formed u s) : GoesOn u (execCondemn box s) :=
    h.mailServe fun _ => Formed.ite h.mailEnd h.same.condemnUnit

theorem Formed.setMap {cup m} (h : Formed u s) : Formed u (s.setMap cup m) := h.same

theorem Formed.testUnit {r} (h : Formed u s) : Formed u (s.testUnit r) := .ite h.same.setMap.condemnUnit h.same

theorem Formed.execSelftest {box} (h : Formed u s) : GoesOn u (execSelftest box s) :=
  h.mailServe fun _ => .ite h.mailEnd (h.foldl fun _ _ h => h.testUnit).mailEnd

theorem Formed.execSetthr {box} (h : Formed u s) : GoesOn u (execSetthr box s) := h.mailServe fun _ => h.same.mailEnd

theorem Formed.raiseIn {sp x} (h : Formed u s) : Formed u (s.raiseIn sp x) := h.setSpire

theorem Formed.raiseClasses {sp i} (h : Formed u s) : Formed u (s.raiseClasses sp i) := by
  unfold State.raiseClasses
  refine h.foldl fun s x h => ?_
  split
  · exact h.foldl fun _ _ h => h.raiseIn
  · split
    · exact h.raiseIn
    · exact h

theorem Formed.switchUnit {r i role keep} (h : Formed u s) : Formed u (s.switchUnit r i role keep).1 := by
  unfold State.switchUnit
  dsimp only
  split
  · exact h.setMap.same
  · exact (Formed.setSpire h.setMap.same).raiseClasses.same

theorem Formed.decoderQuanta {i cs} (h : Formed u s) : Formed u (s.decoderQuanta i cs).1 := by
  induction cs generalizing s with
  | nil => exact h
  | cons c cs ih =>
    unfold State.decoderQuanta
    dsimp only
    split
    · exact h.setMap.same
    · exact ih (h.setMap.same)

theorem Formed.installFormat {box i} (h : Formed u s) : Formed u (s.installFormat box i) := by
  unfold State.installFormat
  dsimp only
  split
  next e => exact (h.decoderQuanta.of_pair e).raiseClasses.same.mailEnd
  · exact (h.foldl fun _ _ h => h.setMap).same.mailEnd

theorem Formed.execInstall {box} (h : Formed u s) : GoesOn u (execInstall box s) := by
  unfold Machine.execInstall
  dsimp only
  split
  · exact .next h
  · split
    · exact .next h
    · refine h.mailServe fun m => ?_
      split
      · exact h.mailEnd
      · split
        · split
          · exact h.mailEnd
          · split
            · exact h.mailEnd
            · split
              next e => exact (h.switchUnit.of_pair e).mailEnd
              next e => exact (h.switchUnit.of_pair e).mailEnd
        · exact Formed.ite h.installFormat h.mailEnd

theorem Formed.execSetresv {box} (h : Formed u s) : GoesOn u (execSetresv box s) := h.mailServe fun _ => h.setMap.mailEnd

theorem Formed.endRepair {x code} (h : Formed u s) : Formed u (s.endRepair x code) := h.same.foldl fun _ _ h => h.mailEnd

theorem Formed.dropSpire {sp} (h : Formed u s) : Formed u (s.dropSpire sp) := h.setMap.setSpire.foldl fun _ _ h => h.endRepair

theorem Formed.repair {x} (h : Formed u s) : Formed u (s.repair x) := by
  unfold State.repair
  dsimp only
  split
  · exact h.endRepair
  · split
    · exact h.endRepair.dropSpire
    · split
      · exact h.endRepair
      · split
        next e => exact (h.switchUnit.of_pair e).endRepair.dropSpire
        next e => exact (h.switchUnit.of_pair e).setUnit.endRepair

theorem Formed.execUnitReplacement {tower} (h : Formed u s) : GoesOn u (execUnitReplacement tower s) := by
  unfold Machine.execUnitReplacement
  split
  · exact .next h.repair
  · exact .next h

/-! The host's commands. -/

theorem Formed.setHres {code} (h : Formed u s) : Formed u (s.setHres code) := h.same.signal

theorem Formed.hostServe {cmd ok go} (h : Formed u s) (hg : Formed u (go s)) : GoesOn u (hostServe cmd ok go s) := by
  unfold Machine.hostServe
  split
  · exact .next h
  · split
    · exact .next h.setHres
    · exact .next hg

theorem Formed.markTag {first n tag} (h : Formed u s) : Formed u (s.markTag first n tag) := Formed.ite h.setHres h.same.setHres

theorem Formed.execMarktag (h : Formed u s) : GoesOn u (execMarktag s) := h.hostServe h.markTag

theorem Formed.packageDeviation {code start} (h : Formed u s) : Formed u (s.packageDeviation code start) :=
    h.foldl fun _ _ h => Formed.ite h h.taskRecord

theorem Formed.endFreeze {code start} (h : Formed u s) : Formed u (s.endFreeze code start) := h.packageDeviation.same

theorem Formed.dropTlb {asid va n} (h : Formed u s) : Formed u (s.dropTlb asid va n) :=
  h.setCores rfl (·.map fun _ => rfl) rfl

theorem Formed.execInval (h : Formed u s) : GoesOn u (execInval s) := by
  unfold Machine.execInval
  dsimp only
  split
  · split
    · exact .next h
    · exact .next h.endFreeze.same.setHres
  · exact h.hostServe (Formed.ite h.dropTlb.same h.dropTlb.setHres)

theorem Formed.register {va asid} (h : Formed u s) : Formed u (s.register va asid) := by
  unfold State.register
  dsimp only
  split
  · exact h.setHres
  · split
    · exact h.setHres
    · split
      · exact h.setHres
      · exact h.same.setHres

theorem Formed.execRegobj (h : Formed u s) : GoesOn u (execRegobj s) := h.hostServe h.register

theorem Formed.execUnreg (h : Formed u s) : GoesOn u (execUnreg s) := h.hostServe (Formed.ite h.setHres h.same.setHres)

theorem Formed.execSetdesc (h : Formed u s) : GoesOn u (execSetdesc s) := h.hostServe (Formed.ite h.setHres h.same.setHres)

theorem Formed.execSettimer (h : Formed u s) : GoesOn u (execSettimer s) := by
  unfold Machine.execSettimer
  refine h.hostServe ?_
  dsimp only
  split
  · exact h.setHres
  · exact (h.mapCores fun x => by split <;> rfl).modLaunch.setHres

theorem Formed.execResumehost (h : Formed u s) : GoesOn u (execResumehost s) := h.hostServe h.same.setHres

theorem Formed.execDombubble (h : Formed u s) : GoesOn u (execDombubble s) := h.hostServe h.same.setHres

/-! The host's accesses. -/

theorem Formed.complete {status bs} (h : Formed u s) : Formed u (s.complete status bs) := h.same

theorem Formed.violation {off} (h : Formed u s) : Formed u (s.violation off) := h.same.signal

theorem Formed.migrationRecord {off write asid} (h : Formed u s) : Formed u (s.migrationRecord off write asid) := by
  unfold State.migrationRecord
  dsimp only
  split
  · split
    · exact h
    · exact (Formed.ite h h.landBytes).same.signal
  · split
    · exact h
    · exact (Formed.ite h h.landBytes).same.signal

theorem Formed.hostReadAt {off n} (h : Formed u s) : Formed u (s.hostReadAt off n) := by
  unfold State.hostReadAt
  dsimp only
  split
  · exact Formed.ite h.complete h.complete
  · split
    · exact h.complete
    · split
      · exact h.complete
      · split
        · exact h.violation.complete
        · split
          · exact h.complete.migrationRecord
          · exact h.complete

theorem Formed.execHostRead {off n} (h : Formed u s) : GoesOn u (execHostRead off n s) := .next h.hostReadAt

theorem Formed.hostRing {v} (h : Formed u s) : Formed u (s.hostRing v) := by
  unfold State.hostRing
  dsimp only
  split
  · exact h.same
  · exact Formed.ite h.same.same.setHres h.same.same.same.setHres

theorem Formed.setCap {t c} (h : Formed u s) : Formed u (s.setCap t c) := h.same

theorem Formed.packageWrite {off v} (h : Formed u s) : Formed u (s.packageWrite off v) := by
  unfold State.packageWrite
  dsimp only
  split
  · exact h.hostRing
  · exact h.same
  · exact h.same
  · exact Formed.ite h h.same
  · exact Formed.ite h.same (Formed.ite h.setCap h)

theorem Formed.lanternWrite {t off v} (h : Formed u s) : Formed u (s.lanternWrite t off v) := h.modLantern

theorem Formed.registerWrite {off v} (h : Formed u s) : Formed u (s.registerWrite off v) := by
  unfold State.registerWrite
  dsimp only
  split
  · exact h.packageWrite
  · exact Formed.ite h.lanternWrite (Formed.ite h.mailStore h)

theorem Formed.hostLand {off bs} (h : Formed u s) : Formed u (s.hostLand off bs) := h.landBytes

theorem Formed.execHostWrite {off bs relaxed} (h : Formed u s) : GoesOn u (execHostWrite off bs relaxed s) := by
  unfold Machine.execHostWrite
  dsimp only
  split
  · exact .next (Formed.ite h.registerWrite h)
  · split
    · exact .next h
    · split
      · exact .next h.violation
      · split
        · split
          · exact .next h.migrationRecord
          · exact .next h.migrationRecord.same
        · split
          · exact .next h.hostLand
          · exact .next h.hostLand.same

theorem Formed.execHostAtomic {op off width v cmp} (h : Formed u s) : GoesOn u (execHostAtomic op off width v cmp s) := by
  unfold Machine.execHostAtomic
  dsimp only
  split
  · exact .next h.complete
  · split
    · exact .next h.complete
    · split
      · exact .next h.violation.complete
      · split
        · exact .next h.complete
        · exact .next (Formed.complete ⟨h.hostLand.mem, h.atomicAt.keys⟩)

/-! The debugger. -/

theorem Formed.tookCmd {t} (h : Formed u s) : Formed u (s.tookCmd t) := h.modLantern

theorem Formed.setDstat {corr code} (h : Formed u s) : Formed u (s.setDstat corr code) := h.same

theorem Formed.setCode {t code} (h : Formed u s) : Formed u (s.setCode t code) := h.setDstat

theorem Formed.debugServe {t cmd ok go} (h : Formed u s) (hg : ∀ l, Formed u (go (s.tookCmd t) l)) :
    GoesOn u (debugServe t cmd ok go s) := by
  unfold Machine.debugServe
  split
  · exact .next h
  · split
    · exact .next h
    · split
      · exact .next (.ite (hg _) h.tookCmd.setCode)
      · exact .next h.tookCmd.setCode

theorem Formed.execStop {t} (h : Formed u s) : GoesOn u (execStop t s) := h.debugServe fun _ => h.tookCmd.freeze.endSteps.setCode

theorem Formed.debugThaw {l} (h : Formed u s) : Formed u (s.debugThaw l) := h.endCauses.modLaunch

theorem Formed.execRun {t} (h : Formed u s) : GoesOn u (execRun t s) := h.debugServe fun _ => h.tookCmd.debugThaw.endSteps.setCode

theorem Formed.execStep {t} (h : Formed u s) : GoesOn u (execStep t s) :=
  h.debugServe fun _ => (h.tookCmd.mapCores fun x => by split <;> rfl).modLaunch.debugThaw.setCode

theorem Formed.execSnap {t} (h : Formed u s) : GoesOn u (execSnap t s) := by
  unfold Machine.execSnap
  refine h.debugServe fun l => ?_
  split
  next e => exact (h.tookCmd.writeSave.of_pair e).setCode
  next e => exact (h.tookCmd.writeSave.of_pair e).abandonSave

theorem Formed.execStepEnd {l} (h : Formed u s) : GoesOn u (execStepEnd l s) := .next (Formed.ite h.freeze.modLaunch h)

/-! Temperature, power and the package's reset. -/

theorem Formed.bubbleFor {n} (h : Formed u s) : Formed u (s.bubbleFor n) := by
  unfold State.bubbleFor
  dsimp only
  split
  · exact h.same
  · exact h.same

theorem Formed.execThermalBubble (h : Formed u s) : GoesOn u (execThermalBubble s) := by
  unfold Machine.execThermalBubble
  dsimp only
  split
  · exact .next h
  · exact .next (Formed.ite h.same h.same.bubbleFor)

theorem Formed.execBubbleEnd (h : Formed u s) : GoesOn u (execBubbleEnd s) := by
  unfold Machine.execBubbleEnd
  dsimp only
  split
  · exact .next h
  · exact .next (Formed.ite h h.endFreeze.same)

theorem Formed.execTelemetryUpdate {rails} (h : Formed u s) : GoesOn u (execTelemetryUpdate rails s) := by
  unfold Machine.execTelemetryUpdate
  dsimp only
  split
  · exact .next h
  · exact .next (Formed.ite h.same.signal h.same)

theorem Formed.execPowerCapUpdate {t watts margin} (h : Formed u s) : GoesOn u (execPowerCapUpdate t watts margin s) := by
  unfold Machine.execPowerCapUpdate
  dsimp only
  split
  · exact .next h
  · exact .next h.setCap.same

theorem Formed.execHbmScrub {line e} (h : Formed u s) : GoesOn u (execHbmScrub line e s) := by
  unfold Machine.execHbmScrub
  dsimp only
  split
  · exact .next h
  · split
    · exact .next h
    · exact .next h.same
    · exact .next h.same

theorem Formed.resetPackage : Formed u s.resetPackage :=
  ⟨fun _ => Memory.wf_nil, fun _ => ⟨.nil, .nil⟩⟩

theorem Formed.execPackageReset : GoesOn u (execPackageReset s) := .next Formed.resetPackage

theorem Formed.execPowerOff : GoesOn u (execPowerOff s) := .next Formed.resetPackage.same

theorem Formed.execRegisterWrite {off v} (h : Formed u s) : GoesOn u (execRegisterWrite off v s) := .next (Formed.ite h.registerWrite h)

theorem Formed.physWrite {a bs} (h : Formed u s) : Formed u (s.physWrite a bs) := by
  unfold State.physWrite
  dsimp only
  split
  · exact h
  · split
    · exact h.mailStore
    · split
      · exact h.land
      · exact h

theorem Formed.enrolKey {slot key} (h : Formed u s) : Formed u (s.enrolKey slot key) := Formed.ite h h.same

theorem Formed.execBelfryIssuedAccess {belfry' queue' op} (h : Formed u s) : GoesOn u (execBelfryIssuedAccess belfry' queue' op s) := by
  unfold Machine.execBelfryIssuedAccess
  dsimp only
  split
  · exact .next h.physWrite
  · exact .next (Formed.ite h h.landBytes)
  · exact .next (Formed.ite h h.atomicAt)
  · exact .next h.modCore
  · exact .next h
  · exact .next h.enrolKey
  · exact .next h.same

theorem Formed.execMalformedPacket {q} (h : Formed u s) : GoesOn u (execMalformedPacket q s) := by
  unfold Machine.execMalformedPacket
  split
  · exact .next h
  · exact .next h.popPacket.setQueueWord

theorem Formed.execStackAboveMaximumTemperature {stack'} (h : Formed u s) : GoesOn u (execStackAboveMaximumTemperature stack' s) :=
    .next h.same.bubbleFor

/-! The wall cycle. -/

theorem Formed.dropInput {e} (h : Formed u s) : Formed u (s.dropInput e) := by
  unfold State.dropInput
  split
  · exact h.same
  · split
    · exact h.same
    · exact h

theorem Formed.poisonWord {flat} (h : Formed u s) : Formed u (s.poisonWord flat) := by
  unfold State.poisonWord
  dsimp only
  split
  · exact h.same
  · split
    · exact h
    · exact Formed.ite (Formed.ite h h.setSpire) h.same

theorem Formed.memoryUpset {a} (h : Formed u s) : Formed u (s.memoryUpset a) := by
  unfold State.memoryUpset
  dsimp only
  split
  · exact h
  · exact h.dropSpire
  · exact h.poisonWord
  · exact h.same

theorem Formed.takeUpsets (h : Formed u s) : Formed u s.takeUpsets := Formed.ite (h.same.foldl fun _ _ h => h.memoryUpset) h

theorem Formed.arrive (h : Formed u s) : Formed u s.arrive := h.same

theorem Formed.collided {a cause} (h : Formed u s) : Formed u (s.collided a cause) := by
  unfold State.collided
  dsimp only
  split
  · exact h.abortArrival
  · split
    · split
      · exact h
      · exact h.setCmd.engineFault
    · split
      · exact h
      · exact h.setCore

theorem Formed.portClashes {k} (h : Formed u s) : Formed u (s.portClashes k) := Formed.ite h h.setCore

theorem Formed.collide (h : Formed u s) : Formed u s.collide :=
    (h.arrive.foldl fun _ _ h => h.collided).same.foldl fun _ _ h => Formed.ite h.portClashes h

theorem Formed.collideLate (h : Formed u s) : Formed u s.collideLate := by
  unfold State.collideLate
  dsimp only
  split
  · exact h
  · exact (h.foldl fun _ _ h => h.collided).foldl fun _ _ h => h.withdraw

theorem Formed.tick (h : Formed u s) : Formed u s.tick :=
  (h.setCores (t := { s with cores := s.cores.map fun x => (x.1, s.tickCore x.1 x.2) }) rfl (·.map fun _ => rfl) rfl).setLaunches rfl rfl
    (·.map fun _ => rfl)

theorem Formed.applyFormats (h : Formed u s) : Formed u s.applyFormats := by
  unfold State.applyFormats
  dsimp only
  refine h.foldl fun s f h => ?_
  split
  · split
    · exact h
    · exact h.raiseClasses.same
  · exact h

theorem Formed.applyCondemned (h : Formed u s) : Formed u s.applyCondemned := h.foldl fun _ _ h => h.setSpire.raiseClasses

theorem Formed.bringUp (h : Formed u s) : Formed u s.bringUp := by
  unfold State.bringUp
  dsimp only
  split
  · exact h
  · exact (Formed.ite h.applyCondemned.applyFormats h).same

theorem Formed.endCycle (h : Formed u s) : Formed u s.endCycle := Formed.ite h.bringUp.tick h.same

theorem Formed.stopRecords {k} (h : Formed u s) : Formed u (s.stopRecords k) := h.record.sampleRecord.foldl fun _ _ h => h.record

theorem Formed.settle {l} (h : Formed u s) : Formed u (s.settle l) := (h.foldl fun _ _ h => h.stopRecords).modLaunch.setDstat

theorem Formed.settleAll (h : Formed u s) : Formed u s.settleAll := h.foldl fun _ _ h => Formed.ite h.settle h

theorem Formed.advance (h : Formed u s) : Formed u s.advance := by
  unfold State.advance
  dsimp only
  split
  · exact h.takeUpsets.same
  · exact h.collide.same
  · exact h.same
  · exact h.same
  · exact h.same
  · exact h.same
  · split
    · exact h.same
    · exact h.collideLate.same
  · exact h.settleAll.endCycle
end

/-- The meaning of a syllable: its core is put back or its trap taken, and a syllable of the loop sequencer reports a failing unit. -/
theorem exec_syllable {i : Instr} (hi : i.slots ≠ []) (s : State) :
    ∃ g, exec i s = s.syllable g ∨ exec i s = viaLoop s (s.syllable g) := by
  cases i with
  | zloop | ploop | lbrk =>
    simp only [exec, execZloop, execPloop, execLbrk]
    exact ⟨_, .inr rfl⟩
  | nop | brZ | brNz | brLz | brGez | brP | brAny | brAll | brNone | jmp | call | jmpi | calli | ret | waitt | waitg | syncb | trap
    | tret | halt | rdsys | wrsys | fenceq | brk | rngseed | add | sub | and | or | xor | shl | shr | sra | slt | sltn | min | max | minn
    | maxn | addW | subW | mul | mulh | mulhn | div | divn | rem | remn | mulW | divW | divnW | remW | remnW | clz | ctz | popc | sel
    | lea | addi | andi | ori | xori | slti | shli | shri | srai | movi | movhi | ext | ins | wrag | wrmp | wreng | qgo | rdsched
    | rdgtime | ldB | ldH | ldW | ldD | stB | stH | stW | stD | vld | vst | vldx | vstx | spldScalar | spstScalar | spldVector
    | spstVector | amoAdd | amoAnd | amoOr | amoXor | amoMin | amoMax | amoSwap | amoCas | bind | acq | rel | vadd | vsub | vand | vor
    | vxor | vshl | vshr | vsra | vmin | vmax | vabs | vmul | vmulh | vmadd | vfadd | vfsub | vfmul | vfmin | vfmax | vfabs | vfneg
    | vfma | vfms | vfnma | vfrcp | vfrsq | vfexp2 | vflog2 | vcmp | vfcmp | vfclass | vsel | vperm | vslide | vrot | vbcast | vext
    | vins | vredadd | vredmin | vredmax | vfredadd | pand | por | pxor | pnot | pset | pclr | pcnt | pfirst | vsig | vsigset | vsiglt
    | sigmin | vzmask | vsigCv | vsigsetCv | vsigltCv | sigminCv | vzmaskCv | vcvt | vpack | vunpack | vcbdec | vscale | mma | mmaBin
    | mzero | mrd | mwr | mld | mcall | cpy | cpyg | cpys | cpyf | ovl | gamoAdd | gamoAnd | gamoOr | gamoXor | gamoMin | gamoMax
    | gamoSwap | gamoCas | gamoAcqAdd | gamoAcqAnd | gamoAcqOr | gamoAcqXor | gamoAcqMin | gamoAcqMax | gamoAcqSwap | gamoAcqCas
    | gamoRelAdd | gamoRelAnd | gamoRelOr | gamoRelXor | gamoRelMin | gamoRelMax | gamoRelSwap | gamoRelCas | fsend | frecv | frecvAddF32
    | frecvAddBf16 | frecvMaxF32 | lnch | cwait | illop =>
    simp only [exec,
      condBranch, callTo, startWait, alu2, divide, alu1, paramWrite, loadScalar, storeScalar, amo, vint, vec2, vec1, vec3, vfp2, vfmaForm,
      vapprox, cmp2, reduce, pred2, sigForm, sigsetForm, sigltForm, lanePred, sigminForm, zmaskForm, mmaCmd, copyCmd, gatherCmd, gamo,
      frecv, execNop, execBrZ, execBrNz, execBrLz, execBrGez, execBrP, execBrAny, execBrAll, execBrNone, execJmp, execCall, execJmpi,
      execCalli, execRet, execWaitt, execWaitg, execSyncb, execTrap, execTret, execHalt, execRdsys,
      execWrsys, execFenceq, execBrk, execRngseed, execAdd, execSub, execAnd, execOr, execXor, execShl, execShr, execSra, execSlt,
      execSltn, execMin, execMax, execMinn, execMaxn, execAddW, execSubW, execMul, execMulh, execMulhn, execDiv, execDivn, execRem,
      execRemn, execMulW, execDivW, execDivnW, execRemW, execRemnW, execClz, execCtz, execPopc, execSel, execLea, execAddi, execAndi,
      execOri, execXori, execSlti, execShli, execShri, execSrai, execMovi, execMovhi, execExt, execIns, execWrag, execWrmp, execWreng,
      execQgo, execRdsched, execRdgtime, execLdB, execLdH, execLdW, execLdD, execStB, execStH, execStW, execStD, execVld, execVst,
      execVldx, execVstx, execSpldScalar, execSpstScalar, execSpldVector, execSpstVector, execAmoAdd, execAmoAnd, execAmoOr, execAmoXor,
      execAmoMin, execAmoMax, execAmoSwap, execAmoCas, execBind, execAcq, execRel, execVadd, execVsub, execVand, execVor, execVxor,
      execVshl, execVshr, execVsra, execVmin, execVmax, execVabs, execVmul, execVmulh, execVmadd, execVfadd, execVfsub, execVfmul,
      execVfmin, execVfmax, execVfabs, execVfneg, execVfma, execVfms, execVfnma, execVfrcp, execVfrsq, execVfexp2, execVflog2, execVcmp,
      execVfcmp, execVfclass, execVsel, execVperm, execVslide, execVrot, execVbcast, execVext, execVins, execVredadd, execVredmin,
      execVredmax, execVfredadd, execPand, execPor, execPxor, execPnot, execPset, execPclr, execPcnt, execPfirst, execVsig, execVsigset,
      execVsiglt, execSigmin, execVzmask, execVsigCv, execVsigsetCv, execVsigltCv, execSigminCv, execVzmaskCv, execVcvt, execVpack,
      execVunpack, execVcbdec, execVscale, execMma, execMmaBin, execMzero, execMrd, execMwr, execMld, execMcall, execCpy, execCpyg,
      execCpys, execCpyf, execOvl, execGamoAdd, execGamoAnd, execGamoOr, execGamoXor, execGamoMin, execGamoMax, execGamoSwap, execGamoCas,
      execGamoAcqAdd, execGamoAcqAnd, execGamoAcqOr, execGamoAcqXor, execGamoAcqMin, execGamoAcqMax, execGamoAcqSwap, execGamoAcqCas,
      execGamoRelAdd, execGamoRelAnd, execGamoRelOr, execGamoRelXor, execGamoRelMin, execGamoRelMax, execGamoRelSwap, execGamoRelCas,
      execFsend, execFrecv, execFrecvAddF32, execFrecvAddBf16, execFrecvMaxF32, execLnch, execCwait, execIllop]
    exact ⟨_, .inl rfl⟩
  | _ => exact absurd rfl hi

/-- An event's meaning is that of the instruction of its name. -/
theorem Event.exec_eq {e : Event} {i : Instr} (h : e.Is i) (s : State) : e.exec s = Machine.exec i s := by
  cases e <;> (cases h; rfl)

theorem Event.exists_is (e : Event) : ∃ i, e.Is i := by
  cases e <;> exact ⟨_, rfl⟩

/-- A syllable's trap keeps the tables' forms, and so does the core that it puts back. -/
theorem Formed.syllable {u s : State} {g} (h : Formed u s) : GoesOn u (s.syllable g) := by
  unfold State.syllable
  split
  · exact .next h
  · dsimp only
    split
    · exact .next h.trapAtIssue
    · exact .next h.setCore

/-- Every instruction goes on and keeps the tables' forms. -/
theorem Formed.exec {u s : State} {i} (h : Formed u s) : GoesOn u (exec i s) := by
  by_cases hi : i.slots = []
  · cases i with
    | waittExpiry => exact h.execWaittExpiry
    | waitgExpiry => exact h.execWaitgExpiry
    | barrierRelease => exact h.execBarrierRelease
    | cycleBoundary => exact h.execCycleBoundary
    | resultLanding => exact h.execResultLanding
    | storeLanding => exact h.execStoreLanding
    | loadSample => exact h.execLoadSample
    | freezeStaggerStop => exact h.execFreezeStaggerStop
    | thaw => exact h.execThaw
    | handlerStart => exact h.execHandlerStart
    | tretComplete => exact h.execTretComplete
    | cwaitEnd => exact h.execCwaitEnd
    | killFreeze => exact h.execKillFreeze
    | dumpWrite => exact h.execDumpWrite
    | timerInterrupt => exact h.execTimerInterrupt
    | belfryInterruptRequest => exact h.execBelfryInterruptRequest
    | debugInterruptRequest => exact h.execDebugInterruptRequest
    | queueGeneratorStart => exact h.execQueueGeneratorStart
    | generatorSample => exact h.execGeneratorSample
    | generatorDelivery => exact h.execGeneratorDelivery
    | generatorTake => exact h.execGeneratorTake
    | generatorLanding => exact h.execGeneratorLanding
    | copyStart => exact h.execCopyStart
    | pageWalkComplete => exact h.execPageWalkComplete
    | chunkSample => exact h.execChunkSample
    | chunkLanding => exact h.execChunkLanding
    | gatherIndexSample => exact h.execGatherIndexSample
    | gatherElementSample => exact h.execGatherElementSample
    | gatherElementLanding => exact h.execGatherElementLanding
    | overlayLanding => exact h.execOverlayLanding
    | handlerChannelLanding => exact h.execHandlerChannelLanding
    | matrixCommandStart => exact h.execMatrixCommandStart
    | mcallStart => exact h.execMcallStart
    | passSample => exact h.execPassSample
    | passLanding => exact h.execPassLanding
    | mzeroBlockLanding => exact h.execMzeroBlockLanding
    | mrdStepSample => exact h.execMrdStepSample
    | mrdStepLanding => exact h.execMrdStepLanding
    | mwrStepSample => exact h.execMwrStepSample
    | mwrStepLanding => exact h.execMwrStepLanding
    | mldSample => exact h.execMldSample
    | mldLanding => exact h.execMldLanding
    | amoApply => exact h.execAmoApply
    | gamoStart => exact h.execGamoStart
    | gamoApply => exact h.execGamoApply
    | gamoOldValueLanding => exact h.execGamoOldValueLanding
    | relIncrement => exact h.execRelIncrement
    | acqSample => exact h.execAcqSample
    | lnchStart => exact h.execLnchStart
    | lnchArrival => exact h.execLnchArrival
    | flitSample => exact h.execFlitSample
    | streamFlitSample => exact h.execStreamFlitSample
    | streamPacketReceive => exact h.execStreamPacketReceive
    | flitReceive => exact h.execFlitReceive
    | skewFlitArrival => exact h.execSkewFlitArrival
    | skewBudgetExpiry => exact h.execSkewBudgetExpiry
    | skewThaw => exact h.execSkewThaw
    | frameSend => exact h.execFrameSend
    | frameReceive => exact h.execFrameReceive
    | retryRequest => exact h.execRetryRequest
    | flitArrivalTimeout => exact h.execFlitArrivalTimeout
    | portRetrain => exact h.execPortRetrain
    | portTrained => exact h.execPortTrained
    | barrierArrivalMessage => exact h.execBarrierArrivalMessage
    | freezeMessage => exact h.execFreezeMessage
    | ptpEventMessage => exact h.execPtpEventMessage
    | syncInterval => exact h.execSyncInterval
    | lossOfMaster => exact h.execLossOfMaster
    | linkHealthTick => exact h.execLinkHealthTick
    | submit => exact h.execSubmit
    | kill => exact h.execKill
    | preempt => exact h.execPreempt
    | queueEvaluation => exact h.execQueueEvaluation
    | priorityAging => exact h.execPriorityAging
    | startTick => exact h.execStartTick
    | preemptionFreeze => exact h.execPreemptionFreeze
    | contextSave => exact h.execContextSave
    | launchComplete => exact h.execLaunchComplete
    | query => exact h.execQuery
    | readtt => exact h.execReadtt
    | readunit => exact h.execReadunit
    | condemn => exact h.execCondemn
    | selftest => exact h.execSelftest
    | setthr => exact h.execSetthr
    | install => exact h.execInstall
    | setresv => exact h.execSetresv
    | unitReplacement => exact h.execUnitReplacement
    | marktag => exact h.execMarktag
    | inval => exact h.execInval
    | regobj => exact h.execRegobj
    | unreg => exact h.execUnreg
    | setdesc => exact h.execSetdesc
    | settimer => exact h.execSettimer
    | resumehost => exact h.execResumehost
    | dombubble => exact h.execDombubble
    | hostRead => exact h.execHostRead
    | hostWrite => exact h.execHostWrite
    | hostAtomic => exact h.execHostAtomic
    | stop => exact h.execStop
    | run => exact h.execRun
    | step => exact h.execStep
    | snap => exact h.execSnap
    | stepEnd => exact h.execStepEnd
    | thermalBubble => exact h.execThermalBubble
    | bubbleEnd => exact h.execBubbleEnd
    | telemetryUpdate => exact h.execTelemetryUpdate
    | powerCapUpdate => exact h.execPowerCapUpdate
    | hbmScrub => exact h.execHbmScrub
    | packageReset => exact Formed.execPackageReset
    | powerOff => exact Formed.execPowerOff
    | registerWrite => exact h.execRegisterWrite
    | belfryIssuedAccess b q => exact h.execBelfryIssuedAccess (belfry' := b) (queue' := q)
    | malformedPacket => exact h.execMalformedPacket
    | submissionDigestExchange => exact h.execSubmissionDigestExchange
    | stackAboveMaximumTemperature k => exact h.execStackAboveMaximumTemperature (stack' := k)
    | _ => exact absurd hi (List.cons_ne_nil _ _)
  · obtain ⟨g, e | e⟩ := exec_syllable hi s
    · exact e ▸ h.syllable
    · exact e ▸ h.syllable.viaLoop

theorem Formed.execEvent {u s : State} {e : Event} (h : Formed u s) : GoesOn u (e.exec s) := by
  obtain ⟨i, hi⟩ := e.exists_is
  exact Event.exec_eq hi s ▸ h.exec

/-- Every step goes on and keeps the tables' forms. -/
theorem step_goesOn (s : State) : GoesOn s (step s) := by
  have h : Formed s s := .refl
  unfold step
  split
  · exact h.exec.issued
  · exact (Formed.exec (i := .illop _) h).issued
  · exact h.execEvent
  · exact h.dropInput.execEvent
  · exact .next h.advance

theorem step_formed {s t : State} (h : step s = .next t) : Formed s t := by
  obtain ⟨v, e, hv⟩ := step_goesOn s
  cases h.symm.trans e
  exact hv

/-- Settles O8: memory is only written, filtered or emptied, and the core and launch tables are changed by sets at a key, by maps of their
values and by dropping entries. -/
theorem tablesStayCanonical : Obligations.TablesStayCanonical :=
  ⟨fun _ _ hs ht => (step_formed ht).mem hs, fun _ _ hs ht => (step_formed ht).keys hs⟩

theorem step_next (s : State) : ∃ t, step s = .next t := by
  obtain ⟨t, ht, -⟩ := step_goesOn s
  exact ⟨t, ht⟩

/-- Settles O7: no meaning ends in a fault or a refusal, and a run of any length follows by induction. -/
theorem stepsNeverStop : Obligations.StepsNeverStop := by
  refine ⟨step_next, fun n => ?_⟩
  induction n with
  | zero => exact fun _ => trivial
  | succ n ih =>
    intro s
    obtain ⟨t, ht⟩ := step_next s
    exact ⟨t, ht, ih t⟩

end Sys2Proof.Machine
end

section
namespace Sys2Proof.Machine

/-! The step at a cursor and for an event. -/

/-- The syllable at the pc, in the statement's own words: a pc is a bundle number below 4,096. -/
theorem State.fetch_pc (s : State) (k slot : Nat) (pc : BitVec 12) :
    s.fetch k pc.toNat slot = BitVec.ofNat 32 (s.mem.value (ispBase k + pc.toNat * 32 + 4 * slot) 4) := by
  rw [State.fetch, Nat.mod_eq_of_lt pc.isLt]

theorem State.due_issue {s : State} {q : Cursor} (hs : s.stage = .issue) (hq : s.cur = some q) : s.due = some (s.slotWork q) := by
  rw [State.due, hs, hq]
  rfl

/-- What runs at a slot: `nop` where its stage is off, what its word decodes to, or the word as an illegal syllable. -/
theorem State.slotWork_masked {s : State} {q : Cursor} (hm : (s.core q.core).masked q.slot = true) : s.slotWork q = .syllable .nop :=
  if_pos hm

theorem State.slotWork_some {s : State} {q : Cursor} {i : Instr} (hm : (s.core q.core).masked q.slot = false)
    (hi : decodeSlot q.slot (s.fetch q.core (s.core q.core).f.pc.toNat q.slot) = some i) : s.slotWork q = .syllable i := by
  simp only [State.slotWork, hm, Bool.false_eq_true, if_false, hi]

theorem State.slotWork_none {s : State} {q : Cursor} (hm : (s.core q.core).masked q.slot = false)
    (hi : decodeSlot q.slot (s.fetch q.core (s.core q.core).f.pc.toNat q.slot) = none) :
    s.slotWork q = .bad (s.fetch q.core (s.core q.core).f.pc.toNat q.slot) := by
  simp only [State.slotWork, hm, Bool.false_eq_true, if_false, hi]

theorem step_syllable {s : State} {i : Instr} (h : s.due = some (.syllable i)) : step s = issued (exec i s) := by
  rw [step, h]

theorem step_bad {s : State} {w : BitVec 32} (h : s.due = some (.bad w)) : step s = issued (exec (.illop w) s) := by
  rw [step, h]
  rfl

theorem step_event {s : State} {e : Event} (h : s.due = some (.event e)) : step s = e.exec s := by
  rw [step, h]

theorem step_input {s : State} {e : Event} (h : s.due = some (.input e)) : step s = e.exec (s.dropInput e) := by
  rw [step, h]

theorem step_idle {s : State} (h : s.due = none) : step s = .next s.advance := by
  rw [step, h]

theorem State.nextSlot_of_none {t : State} (h : t.cur = none) : t.nextSlot = t := by
  rw [State.nextSlot, h]

theorem State.nextSlot_of_some {t : State} {q : Cursor} (h : t.cur = some q) :
    t.nextSlot = if q.slot < 7 then { t with cur := some ⟨q.core, q.slot + 1⟩ } else t.finishBundle q.core := by
  rw [State.nextSlot, h]

/-- Settles O3: at a cursor the work due is that of its slot, and an event's meaning is that of the instruction of its name. -/
theorem stepsRunTheDecodedInstruction : Obligations.StepsRunTheDecodedInstruction := by
  intro s
  refine ⟨fun q hs hq => ?_, fun t ht => ?_, fun t q ht => ?_, fun e i h hi => ?_, fun e i h hi => ?_, Event.exists_is, step_idle⟩
  · have hd := State.due_issue hs hq
    simp only [← State.fetch_pc]
    exact ⟨fun hm => step_syllable (State.slotWork_masked hm ▸ hd), fun hm i hi => step_syllable (State.slotWork_some hm hi ▸ hd),
      fun hm hi => step_bad (State.slotWork_none hm hi ▸ hd)⟩
  · rw [issued, State.nextSlot_of_none ht]
  · rw [issued, State.nextSlot_of_some ht]
  · rw [step_event h, Event.exec_eq hi]
  · rw [step_input h, Event.exec_eq hi]

/-! A committed syllable of the loop sequencer. -/

/-- A core at `lbrk s0` whose loop sequencer is a replacement and reports: bit 7 of XINJ forces the report (R190, R251, R364). -/
def reportingLoop : State :=
  let s := { State.reset with stage := .issue, cur := some ⟨0, 0⟩ }
  (s.setSpire 0 { s.spire 0 with switched := [loopId 0] }).setCore 0 { s.core 0 with x := { (s.core 0).x with xinj := 0x80 } }

/-- The syllable commits, and behind it a report is due. -/
theorem lbrk_reportingLoop :
    (match exec (.lbrk 0) reportingLoop with
      | .next t => decide (t.cur = some ⟨0, 0⟩ ∧ (t.core 0).p.dues.length = 1)
      | _ => false) = true ∧ (reportingLoop.core 0).p.dues = [] := by decide +kernel

/-- Refutes O6: where a replacement carries the loop sequencer and its self-check fails, a loop syllable that commits leaves the report
as a due fault of its core. -/
theorem not_committedSyllablesKeepTheRest : ¬ Obligations.CommittedSyllablesKeepTheRest := by
  intro h
  obtain ⟨hrun, hold⟩ := lbrk_reportingLoop
  split at hrun
  next t ht =>
    obtain ⟨hcur, hdue⟩ := of_decide_eq_true hrun
    obtain ⟨-, -, -, -, -, -, hkept, -⟩ := h reportingLoop t ⟨0, 0⟩ (.lbrk 0) (by decide) rfl ht hcur
    rw [hkept, hold] at hdue
    exact absurd hdue (by decide)
  next => exact absurd hrun Bool.false_ne_true

end Sys2Proof.Machine
end

section
namespace Sys2Proof.Machine

/-! Reads of system registers. -/

theorem sysReadOk_open {n tl : Nat} (h : n < 3 ∨ 4 ≤ n ∧ n < 0x10 ∨ 0x1E ≤ n) : sysReadOk n tl = true := by
  rw [sysReadOk, if_neg (by omega), if_neg (by omega)]

theorem sysReadOk_bank1 {n tl : Nat} (h : n = 3 ∨ 0x10 ≤ n ∧ n ≤ 0x15) : sysReadOk n tl = decide (1 ≤ tl) := by
  rw [sysReadOk, if_pos h]

theorem sysReadOk_bank2 {n tl : Nat} (h : 0x18 ≤ n ∧ n ≤ 0x1D) : sysReadOk n tl = (tl == 2) := by
  rw [sysReadOk, if_neg (by omega), if_pos h]

theorem Core.sysRead_level (c : Core) (g w : Word) {k : Nat} (hk : k < 4) :
    c.sysRead g w (0x0C + k) = BitVec.ofNat 64 (c.l.levels.getD k LoopLevel.zero).word ∧
      c.sysRead g w (0x20 + k) = (c.l.levels.getD k LoopLevel.zero).lpc := by
  match k, hk with
  | 0, _ | 1, _ | 2, _ | 3, _ => exact ⟨rfl, rfl⟩

/-- A permitted read lands what the register holds. -/
theorem execRdsys_lands {s : State} {q : Cursor} (h : s.Ready q 4) (d : BitVec 5) {n : Nat} (hn : n < 256)
    (hok : sysReadOk n (s.core q.core).tl = true) :
    execRdsys d (BitVec.ofNat 8 n) s =
      .next (s.scalarResult q 4 d ((s.core q.core).sysRead s.gtime (ttdig (s.spire (q.core / 2)).tt) n)) := by
  refine State.syllable_scalar h (v := fun x => x.c.sysRead x.s.gtime (ttdig (x.s.spire (x.k / 2)).tt) n) ?_
  have hn : (BitVec.ofNat 8 n).toNat = n := Nat.mod_eq_of_lt hn
  simp only [hn]
  exact if_neg (by simp only [State.ctx, hok]; decide)

theorem execRdsys_prot {s : State} {q : Cursor} (h : s.cur = some q) (d : BitVec 5) {n : Nat} (hn : n < 256)
    (hok : sysReadOk n (s.core q.core).tl = false) : execRdsys d (BitVec.ofNat 8 n) s = .next (s.trapped q 12 9 0) := by
  have hn : (BitVec.ofNat 8 n).toNat = n := Nat.mod_eq_of_lt hn
  refine State.syllable_trap h (if_pos ?_)
  simp only [hn, State.ctx, hok]
  rfl

/-- The reads: R50's table of levels decides between what the register holds and PROT. -/
theorem systemRegisterReads : Claims.SystemRegisterReads := by
  intro s q d h
  have free n (hn : n < 256) (ho : n < 3 ∨ 4 ≤ n ∧ n < 0x10 ∨ 0x1E ≤ n) := execRdsys_lands h d hn (sysReadOk_open ho)
  have one (htl : 1 ≤ (s.core q.core).tl) n (hn : n < 256) (ho : n = 3 ∨ 0x10 ≤ n ∧ n ≤ 0x15) :=
    execRdsys_lands h d hn ((sysReadOk_bank1 ho).trans (decide_eq_true htl))
  have two (htl : (s.core q.core).tl = 2) n (hn : n < 256) (ho : 0x18 ≤ n ∧ n ≤ 0x1D) :=
    execRdsys_lands h d hn ((sysReadOk_bank2 ho).trans (beq_iff_eq.mpr htl))
  have prot1 (htl : (s.core q.core).tl = 0) n (hn : n < 256) (ho : n = 3 ∨ 0x10 ≤ n ∧ n ≤ 0x15) :=
    execRdsys_prot h.cur d hn ((sysReadOk_bank1 ho).trans (decide_eq_false (by omega)))
  have prot2 (htl : (s.core q.core).tl ≠ 2) n (hn : n < 256) (ho : 0x18 ≤ n ∧ n ≤ 0x1D) :=
    execRdsys_prot h.cur d hn ((sysReadOk_bank2 ho).trans (beq_false_of_ne htl))
  refine ⟨free 0 (by decide) (by decide), free 1 (by decide) (by decide), free 2 (by decide) (by decide), free 4 (by decide) (by decide),
    free 5 (by decide) (by decide), free 6 (by decide) (by decide), free 7 (by decide) (by decide), free 8 (by decide) (by decide),
    free 9 (by decide) (by decide), fun k hk => ?_, fun htl => ?_, fun htl => ?_, fun htl => ?_, fun htl k hk => ?_⟩
  · obtain ⟨hlps, hlpc⟩ := (s.core q.core).sysRead_level s.gtime (ttdig (s.spire (q.core / 2)).tt) hk
    exact ⟨hlps ▸ free (0x0C + k) (by omega) (by omega), hlpc ▸ free (0x20 + k) (by omega) (by omega)⟩
  · have r := one htl
    exact ⟨r 3 (by decide) (by decide), r 0x10 (by decide) (by decide), r 0x11 (by decide) (by decide), r 0x12 (by decide) (by decide),
      r 0x13 (by decide) (by decide), r 0x14 (by decide) (by decide), r 0x15 (by decide) (by decide)⟩
  · have r := two htl
    exact ⟨r 0x18 (by decide) (by decide), r 0x19 (by decide) (by decide), r 0x1A (by decide) (by decide),
      r 0x1B (by decide) (by decide), r 0x1C (by decide) (by decide), r 0x1D (by decide) (by decide)⟩
  · exact ⟨prot1 htl 3 (by decide) (by decide), fun k hk => prot1 htl (0x10 + k) (by omega) (by omega)⟩
  · exact prot2 htl (0x18 + k) (by omega) (by omega)

/-! Writes of system registers. -/

/-- The value that a `wrsys` may not write: a rounding mode of 4 to 7, a loop level of KIND 3 (R52). -/
def badSys (n : Nat) (v : Word) : Prop := n = 0 ∧ 4 ≤ field v 21 3 ∨ 0x0C ≤ n ∧ n ≤ 0x0F ∧ field v 62 2 = 3

theorem sysWriteOk_open {n tl : Nat} (h : n ∈ [0, 1, 2, 5, 8]) : sysWriteOk n tl = true := if_pos h

theorem sysWriteOk_xinj (tl : Nat) : sysWriteOk 9 tl = false := rfl

theorem sysWriteOk_bank2 {n tl : Nat} (h : 0x18 ≤ n ∧ n ≤ 0x1D) : sysWriteOk n tl = (tl == 2) := by
  have h9 : n ≠ 9 := by omega
  have hopen : n ∉ [0, 1, 2, 5, 8] := by simp only [List.mem_cons, List.not_mem_nil, or_false, not_or]; omega
  rw [sysWriteOk, if_neg hopen, if_neg h9, if_pos h]

theorem sysWriteOk_handler {n tl : Nat} (hopen : n ∉ [0, 1, 2, 5, 8]) (h9 : n ≠ 9) (h2 : ¬(0x18 ≤ n ∧ n ≤ 0x1D)) :
    sysWriteOk n tl = decide (1 ≤ tl) := by
  rw [sysWriteOk, if_neg hopen, if_neg h9, if_neg h2]

section
variable {s : State} {q : Cursor} {a : BitVec 5} {n : BitVec 8}

theorem execWrsys_illop (h : s.cur = some q) (hv : badSys n.toNat ((s.ctx q).sc 0 a)) :
    execWrsys a n s = .next (s.trapped q 1 0 ((s.ctx q).syll.setWidth 64)) :=
  State.syllable_trap h (if_pos hv)

theorem execWrsys_prot (h : s.cur = some q) (hv : ¬badSys n.toNat ((s.ctx q).sc 0 a))
    (hok : sysWriteOk n.toNat (s.core q.core).tl = false) : execWrsys a n s = .next (s.trapped q 12 9 0) :=
  State.syllable_trap h ((if_neg hv).trans (if_pos (by simp only [State.ctx, hok]; rfl)))

theorem execWrsys_lands (h : s.Ready q 5) (hv : ¬badSys n.toNat ((s.ctx q).sc 0 a))
    (hok : sysWriteOk n.toNat (s.core q.core).tl = true) :
    execWrsys a n s = .next (s.plainResult q 5 (.sys n.toNat ((s.ctx q).sc 0 a)) (s.tt q.core 5).lat (s.tt q.core 5).lat) := by
  have hissue := State.issue_entry h (.sys n.toNat ((s.ctx q).sc 0 a)) (s.tt q.core 5).lat (s.tt q.core 5).lat []
  rw [Ctx.popped_nil] at hissue
  exact State.syllable_ok h.cur ((if_neg hv).trans ((if_neg (by simp only [State.ctx, hok]; decide)).trans hissue))

/-- A register that a handler may write and a task may not. -/
theorem execWrsys_handler (h : s.Ready q 5) (hv : ¬badSys n.toNat ((s.ctx q).sc 0 a)) (hopen : n.toNat ∉ [0, 1, 2, 5, 8])
    (h9 : n.toNat ≠ 9) (h2 : ¬(0x18 ≤ n.toNat ∧ n.toNat ≤ 0x1D)) :
    if (s.core q.core).tl = 0 then execWrsys a n s = .next (s.trapped q 12 9 0)
    else execWrsys a n s = .next (s.plainResult q 5 (.sys n.toNat ((s.ctx q).sc 0 a)) (s.tt q.core 5).lat (s.tt q.core 5).lat) := by
  have hok := sysWriteOk_handler (tl := (s.core q.core).tl) hopen h9 h2
  split
  next htl => exact execWrsys_prot h.cur hv (hok.trans (decide_eq_false (by omega)))
  next htl => exact execWrsys_lands h hv (hok.trans (decide_eq_true (by omega)))

end

/-- The writes: the value is checked first, then the trap level. -/
theorem systemRegisterWrites : Claims.SystemRegisterWrites := by
  intro s q a n h
  have hfrm (v : Word) : field v 21 3 = v.toNat / 2 ^ 21 % 8 := rfl
  have hkind (v : Word) : field v 62 2 = v.toNat / 2 ^ 62 := Nat.mod_eq_of_lt (Nat.div_lt_of_lt_mul v.isLt)
  refine ⟨fun hk => ?_, fun hk => ?_, fun hk => ?_, fun hk => ?_, fun hk => ?_, fun hk => ?_⟩
  · have hbad : badSys n.toNat ((s.ctx q).sc 0 a) ↔ 4 ≤ ((s.ctx q).sc 0 a).toNat / 2 ^ 21 % 8 := by rw [badSys, hfrm]; omega
    split
    next hv => exact execWrsys_illop h.cur (hbad.mpr hv)
    next hv => exact execWrsys_lands h (mt hbad.mp hv) (sysWriteOk_open (by simp [hk]))
  · have hbad : badSys n.toNat ((s.ctx q).sc 0 a) ↔ ((s.ctx q).sc 0 a).toNat / 2 ^ 62 = 3 := by rw [badSys, hkind]; omega
    split
    next hv => exact execWrsys_illop h.cur (hbad.mpr hv)
    next hv =>
      have hopen : n.toNat ∉ [0, 1, 2, 5, 8] := by simp only [List.mem_cons, List.not_mem_nil, or_false, not_or]; omega
      exact execWrsys_handler h (mt hbad.mp hv) hopen (by omega) (by omega)
  · have hrange : ∀ k ∈ [1, 2, 5, 8], k ≠ 0 ∧ k < 0x0C ∧ k ∈ [0, 1, 2, 5, 8] := by decide
    obtain ⟨h0, hlt, hopen⟩ := hrange _ hk
    exact execWrsys_lands h (by rw [badSys]; omega) (sysWriteOk_open hopen)
  · exact execWrsys_prot h.cur (by rw [badSys]; omega) (hk ▸ sysWriteOk_xinj _)
  · have hrange : ∀ k ∈ [3, 4, 6, 7, 0x10, 0x11, 0x12, 0x13, 0x14, 0x15, 0x20, 0x21, 0x22, 0x23],
        k ∉ [0, 1, 2, 5, 8] ∧ k ≠ 0 ∧ k ≠ 9 ∧ ¬(0x18 ≤ k ∧ k ≤ 0x1D) ∧ ¬(0x0C ≤ k ∧ k ≤ 0x0F) := by decide
    obtain ⟨hopen, h0, h9, h2, hlps⟩ := hrange _ hk
    exact execWrsys_handler h (by rw [badSys]; omega) hopen h9 h2
  · have hrange : ∀ k ∈ [0x18, 0x19, 0x1A, 0x1B, 0x1C, 0x1D], 0x18 ≤ k ∧ k ≤ 0x1D := by decide
    obtain ⟨hlo, hhi⟩ := hrange _ hk
    have hv : ¬badSys n.toNat ((s.ctx q).sc 0 a) := by rw [badSys]; omega
    have hok := sysWriteOk_bank2 (tl := (s.core q.core).tl) ⟨hlo, hhi⟩
    split
    next htl => exact execWrsys_lands h hv (hok.trans (beq_iff_eq.mpr htl))
    next htl => exact execWrsys_prot h.cur hv (hok.trans (beq_false_of_ne htl))

/-! The fields that a landed write sets. -/

/-- A field taken over from another word. -/
theorem getLsbD_setField_field (w v : Word) (lo n : Nat) {j : Nat} (hj : j < 64) :
    (setField w lo n (field v lo n)).getLsbD j = if lo ≤ j ∧ j < lo + n then v.getLsbD j else w.getLsbD j := by
  rw [getLsbD_setField _ _ _ _ hj]
  split
  next h =>
    rw [testBit_field, Nat.add_sub_cancel' h.1, decide_eq_true (by omega), Bool.true_and]
  · rfl

/-- A word under a mask has the bits that the mask lists. -/
theorem getLsbD_and_mask {m : Word} {on : Nat → Prop} [DecidablePred on] (hm : ∀ j < 64, m.getLsbD j = decide (on j)) (v : Word) :
    ∀ j < 64, (on j → (v &&& m).getLsbD j = v.getLsbD j) ∧ (¬on j → (v &&& m).getLsbD j = (0 : Word).getLsbD j) := by
  intro j hj
  rw [BitVec.getLsbD_and, hm j hj]
  exact ⟨fun h => by rw [decide_eq_true h, Bool.and_true], fun h => by rw [decide_eq_false h, Bool.and_false]; simp⟩

theorem LoopLevel.word_ofWord (l : LoopLevel) (v : Word) : (l.ofWord v).word = v.toNat / 2 ^ 31 * 2 ^ 31 := by
  have hv := v.isLt
  simp only [LoopLevel.word, LoopLevel.ofWord, field, BitVec.toNat_ofNat]
  omega

theorem Core.setLevel_same {c : Core} {k : Nat} (hk : k < c.l.levels.length) (l d : LoopLevel) :
    (c.setLevel k l).l.levels.getD k d = l := by
  simp [Core.setLevel, Core.modL, List.getD, hk]

theorem Core.setLevel_other (c : Core) {k j : Nat} (hj : j ≠ k) (l d : LoopLevel) :
    (c.setLevel k l).l.levels.getD j d = c.l.levels.getD j d := by
  simp [Core.setLevel, Core.modL, List.getD, Ne.symm hj]

theorem Core.sysWrite_level (c : Core) (v : Word) {k : Nat} (hk : k < 4) :
    c.sysWrite (0x0C + k) v = c.setLevel k ((c.l.levels.getD k LoopLevel.zero).ofWord v) ∧
      c.sysWrite (0x20 + k) v = c.setLevel k { (c.l.levels.getD k LoopLevel.zero) with lpc := v } := by
  match k, hk with
  | 0, _ | 1, _ | 2, _ | 3, _ => exact ⟨rfl, rfl⟩

/-- SSTAT behind a write: FRM, STE and STHR are those of the value (R52). -/
def statWritten (w v : Word) : Word := setField (setField (setField w 21 3 (field v 21 3)) 26 1 (field v 26 1)) 27 5 (field v 27 5)

theorem getLsbD_statWritten (w v : Word) {j : Nat} (hj : j < 64) :
    (statWritten w v).getLsbD j = if (21 ≤ j ∧ j ≤ 23) ∨ j = 26 ∨ (27 ≤ j ∧ j ≤ 31) then v.getLsbD j else w.getLsbD j := by
  simp only [statWritten, getLsbD_setField_field _ _ _ _ hj]
  grind

theorem Core.sysWrite_sstat (c : Core) (v : Word) :
    c.sysWrite 0 v = c.modX fun x => { x with sstat := statWritten x.sstat v } := rfl

/-- What a write of register `n` leaves a core `c` to be, whatever the register. -/
structure Core.SysKeeps (c : Core) (n : Nat) (d : Core) : Prop where
  r : d.r = c.r
  f : d.f = c.f
  e : d.e = c.e
  p : d.p = c.p
  sstat : n ≠ 0 → d.x.sstat = c.x.sstat
  xvec : n ≠ 3 → d.x.xvec = c.x.xvec
  ovp : n ≠ 4 → d.x.ovp = c.x.ovp
  schc : d.x.schc = c.x.schc
  splb : d.x.splb = c.x.splb
  xinj : d.x.xinj = c.x.xinj

theorem Core.SysKeeps.ite {c a b : Core} {n : Nat} {p : Prop} [Decidable p] (ha : c.SysKeeps n a) (hb : c.SysKeeps n b) :
    c.SysKeeps n (if p then a else b) := by
  split
  · exact ha
  · exact hb

/-- For any change `w` of SSTAT: with the written fields in its place the kernel would evaluate them to compare the cores. -/
theorem Core.sysKeeps_sstat (c : Core) (w : Word → Word) : c.SysKeeps 0 (c.modX fun x => { x with sstat := w x.sstat }) :=
  ⟨rfl, rfl, rfl, rfl, fun h => absurd rfl h, fun _ => rfl, fun _ => rfl, rfl, rfl, rfl⟩

theorem Core.sysKeeps_sysWrite (c : Core) (n : Nat) (v : Word) : c.SysKeeps n (c.sysWrite n v) := by
  by_cases h0 : n = 0
  · rw [h0, Core.sysWrite_sstat]
    exact c.sysKeeps_sstat (statWritten · v)
  · unfold Core.sysWrite
    split
    case h_1 => exact absurd rfl h0
    case h_2 => exact ⟨rfl, rfl, rfl, rfl, fun _ => rfl, fun h => absurd rfl h, fun _ => rfl, rfl, rfl, rfl⟩
    case h_3 => exact ⟨rfl, rfl, rfl, rfl, fun _ => rfl, fun _ => rfl, fun h => absurd rfl h, rfl, rfl, rfl⟩
    case h_6 => refine .ite ?_ (.ite ?_ (.ite ?_ (.ite ?_ ?_))) <;> exact ⟨rfl, rfl, rfl, rfl, fun _ => rfl, fun _ => rfl, fun _ => rfl, rfl, rfl, rfl⟩
    all_goals exact ⟨rfl, rfl, rfl, rfl, fun _ => rfl, fun _ => rfl, fun _ => rfl, rfl, rfl, rfl⟩

/-- The fields: each register's write is a masked one, and a level's a new level in its place. -/
theorem systemRegisterFields : Claims.SystemRegisterFields := by
  intro c v
  refine ⟨fun j hj => ?_, getLsbD_and_mask (by decide) v, getLsbD_and_mask (by decide) v, rfl, rfl, ?_, fun k hk hlen => ?_, rfl, rfl,
    rfl, rfl, rfl, rfl, rfl, rfl, rfl, rfl, rfl, rfl, fun n => ?_⟩
  · have hbit := getLsbD_statWritten c.x.sstat v hj
    exact ⟨fun h => hbit.trans (if_pos h), fun h => hbit.trans (if_neg h)⟩
  · simp [Core.sysWrite]
  · obtain ⟨hlps, hlpc⟩ := c.sysWrite_level v hk
    dsimp only
    rw [hlps, hlpc, Core.setLevel_same hlen, Core.setLevel_same hlen]
    exact ⟨fun j hj => ⟨c.setLevel_other hj _ _, c.setLevel_other hj _ _⟩, LoopLevel.word_ofWord _ _, rfl, rfl, rfl⟩
  · obtain ⟨hr, hf, he, hp, hsstat, hxvec, hovp, hschc, hsplb, hxinj⟩ := c.sysKeeps_sysWrite n v
    exact ⟨hr, hf, he, hp, hsstat, hxvec, hovp, hschc, hsplb, hxinj⟩

/-- Settles O15: the reads and the writes follow the tables of the trap levels, and a landed write sets the fields of its register's map. -/
theorem systemRegisters : Obligations.SystemRegisters := ⟨systemRegisterReads, systemRegisterWrites, systemRegisterFields⟩

end Sys2Proof.Machine
end

section
/-! Vector integer groups and reductions (06_vector.md R155 to R157, R167). -/

namespace Sys2Proof.Machine

/-! Element operations. -/

theorem typeWidth_of_intType {t w : Nat} (h : (t, w) ∈ [(8, 8), (9, 16), (10, 32), (12, 8), (13, 16), (14, 32)]) : typeWidth t = w := by
  simp only [List.mem_cons, Prod.mk.injEq, List.not_mem_nil, or_false] at h
  rcases h with ⟨rfl, rfl⟩ | ⟨rfl, rfl⟩ | ⟨rfl, rfl⟩ | ⟨rfl, rfl⟩ | ⟨rfl, rfl⟩ | ⟨rfl, rfl⟩ <;> rfl

theorem intElem_eq (t v : Nat) : intElem t v = if t < 12 then sElem v (typeWidth t) else (v : Int) := by
  simp [intElem, isSigned]

/-- Both readings of an element are its value modulo 2^w. -/
theorem intElem_emod (t v : Nat) : intElem t v % (2 ^ typeWidth t : Nat) = (v : Int) % (2 ^ typeWidth t : Nat) := by
  rw [intElem_eq]
  split
  · unfold sElem
    split
    · rfl
    · exact Int.sub_emod_right _ _
  · rfl

theorem fdiv_two_pow (x : Int) (n : Nat) : Int.fdiv x (2 ^ n : Nat) = x / 2 ^ n := by
  rw [Int.fdiv_eq_ediv_of_nonneg _ (Int.natCast_nonneg _)]
  exact congrArg (x / ·) (Int.natCast_pow 2 n)

theorem mapEls1_natAbs_elems (w : Nat) (x : LaneW) :
    (mapEls1 w (fun e => ((sElem e.1 w).natAbs % 2 ^ w, 24)) x).elems w fun e => (sElem (elemOf x.w w e) w).natAbs := by
  have h := laneOfEls_elems w fun e => ((sElem (elemOf x.w w e) w).natAbs : Int)
  simpa only [mapEls1, ← Int.natCast_emod, Int.toNat_natCast] using h

/-! The integer group and the multiplies. -/

section
variable {s : State} {q : Cursor} {d a b : BitVec 5} {p : BitVec 3} {t : BitVec 4} {w : Nat} {u v : Vec}

/-- A syllable of the integer group lands the elements of its operation. -/
theorem State.vint_lands {i : Instr} {g : Nat → Nat → Nat → Int} {g' : Nat → Nat → Int} (h : s.Ready q 12) (hw : typeWidth t.toNat = w)
    (he : exec i s = vint d a b p t g s) (hd : (s.ctx q).vd d = .ok ()) (ha : (s.ctx q).ve 0 a = .ok u) (hb : (s.ctx q).ve 1 b = .ok v)
    (hg : ∀ x y, g w x y % (2 ^ w : Nat) = g' x y % (2 ^ w : Nat)) :
    s.VectorLands q 12 i d ((s.ctx q).pr 0 p.toNat) false none [a, b]
      fun l r => r.elems w fun e => g' (elemOf (u.at l).w w e) (elemOf (v.at l).w w e) := by
  subst hw
  exact State.vec2_lands h he hd ha hb fun l _ =>
    LaneW.elems_congr (intEls2_elems (typeWidth t.toNat) (g (typeWidth t.toNat)) (u.at l) (v.at l)) fun e _ => hg _ _

end

theorem vectorIntegerResults : Claims.VectorIntegerResults := by
  intro s q d a b p t w u v h ht hd ha hb m iv lands
  have hw := typeWidth_of_intType ht
  have hiv : ∀ x, intElem t.toNat x = iv x := fun x => by rw [intElem_eq, hw]
  have hmod : ∀ x : Nat, (x : Int) % (2 ^ w : Nat) = iv x % (2 ^ w : Nat) := fun x => by rw [← hiv, ← hw, intElem_emod]
  have hlands : ∀ (i : Instr) (g : Nat → Nat → Nat → Int) (g' : Nat → Nat → Int), exec i s = vint d a b p t g s →
      (∀ x y, g w x y % (2 ^ w : Nat) = g' x y % (2 ^ w : Nat)) → lands i g' :=
    fun i g g' he hg => State.vint_lands h hw he hd ha hb hg
  refine ⟨?_, ?_, ?_, ?_, ?_, ?_, ?_, ?_, ?_, ?_, ?_⟩
  · exact hlands _ _ _ (exec_vadd ..) fun x y => rfl
  · exact hlands _ _ _ (exec_vsub ..) fun x y => rfl
  · exact hlands _ _ _ (exec_vand ..) fun x y => rfl
  · exact hlands _ _ _ (exec_vor ..) fun x y => rfl
  · exact hlands _ _ _ (exec_vxor ..) fun x y => rfl
  · exact hlands _ _ _ (exec_vshl ..) fun x y => by push_cast; rfl
  · exact hlands _ _ _ (exec_vshr ..) fun x y => rfl
  · exact hlands _ _ _ (exec_vsra ..) fun x y => by rw [fdiv_two_pow]
  · refine hlands _ _ (fun x y => min (iv x) (iv y)) (exec_vmin ..) fun x y => ?_
    rw [hiv, hiv, Int.min_def]
    split <;> exact hmod _
  · refine hlands _ _ (fun x y => max (iv x) (iv y)) (exec_vmax ..) fun x y => ?_
    rw [hiv, hiv, Int.max_def]
    split <;> exact hmod _
  · refine State.vec1_lands h (exec_vabs ..) hd ha fun l _ => ?_
    rw [hw]
    exact mapEls1_natAbs_elems w (u.at l)

theorem dotLane_eq_sum (w : Nat) (x y : LaneW) :
    dotLane w x y = ((List.range (32 / w)).map fun e => sElem (elemOf x.w w e) w * sElem (elemOf y.w w e) w).sum := by
  rw [dotLane, List.sum_eq_foldl, List.foldl_map]

theorem vmadd_width {k : BitVec 3} {w : Nat} (h : (k.toNat, w) ∈ [(4, 8), (5, 16), (6, 32)]) :
    (if k = 4 then 8 else if k = 5 then 16 else 32) = w := by
  simp only [List.mem_cons, Prod.mk.injEq, List.not_mem_nil, or_false] at h
  rcases h with ⟨hk, rfl⟩ | ⟨hk, rfl⟩ | ⟨hk, rfl⟩ <;> simp [← BitVec.toNat_inj, hk]

theorem vectorMultiplyResults : Claims.VectorMultiplyResults := by
  intro s q d a b c p k t w w' u v z h ht hk hd ha hb m iv
  have hw := typeWidth_of_intType ht
  have hiv : ∀ x, intElem t.toNat x = iv x := fun x => by rw [intElem_eq, hw]
  refine ⟨?_, ?_, fun hc => ?_⟩
  · refine State.vec2_lands h (exec_vmul ..) hd ha hb fun l _ => ?_
    rw [hw]
    exact LaneW.elems_congr (intEls2_elems w (fun x y => (x * y : Nat)) (u.at l) (v.at l)) fun e _ => by rw [Int.natCast_mul]
  · refine State.vec2_lands h (exec_vmulh ..) hd ha hb fun l _ => ?_
    rw [hw]
    exact LaneW.elems_congr (intEls2_elems w (fun x y => Int.fdiv (intElem t.toNat x * intElem t.toNat y) (2 ^ w : Nat)) (u.at l)
      (v.at l)) fun e _ => by simp only [fdiv_two_pow, hiv]
  · refine State.vec3_lands h (exec_vmadd ..) hd ha hb hc fun l _ => ⟨rfl, ?_⟩
    simp only [vmadd_width hk, dotLane_eq_sum]

/-! Reductions. -/

theorem activeVals_eq (u : Vec) (m : BitVec 64) (rd : Lane → Int) :
    activeVals u m rd = ((List.range 64).filter m.getLsbD).map fun l => rd (u.at l).w := by
  rw [← List.filterMap_eq_map, List.filterMap_filter]
  rfl

/-- The least of a list and a bound. -/
theorem foldl_min_least (l : List Int) (n : Int) :
    (∀ x ∈ l, l.foldl min n ≤ x) ∧ (l.foldl min n = n ∨ l.foldl min n ∈ l) ∧ l.foldl min n ≤ n := by
  induction l generalizing n with
  | nil => simp
  | cons y l ih =>
    obtain ⟨hle, hmem, hn⟩ := ih (min n y)
    rw [List.foldl_cons, List.forall_mem_cons, List.mem_cons]
    refine ⟨⟨by omega, hle⟩, ?_, by omega⟩
    rcases hmem with hmem | hmem
    · omega
    · exact .inr (.inr hmem)

/-- The greatest of a list and a bound. -/
theorem foldl_max_greatest (l : List Int) (n : Int) :
    (∀ x ∈ l, x ≤ l.foldl max n) ∧ (l.foldl max n = n ∨ l.foldl max n ∈ l) ∧ n ≤ l.foldl max n := by
  induction l generalizing n with
  | nil => simp
  | cons y l ih =>
    obtain ⟨hle, hmem, hn⟩ := ih (max n y)
    rw [List.foldl_cons, List.forall_mem_cons, List.mem_cons]
    refine ⟨⟨by omega, hle⟩, ?_, by omega⟩
    rcases hmem with hmem | hmem
    · omega
    · exact .inr (.inr hmem)

/-- What a reduction lands: one word in every active lane, and nothing where no lane is active (R167). -/
theorem State.reduce_lands {s : State} {q : Cursor} {d a : BitVec 5} {p : BitVec 3} {chk : Bool} {sh : Option Nat} {i : Instr}
    {g : Ctx → Vec → BitVec 64 → LaneW} {u : Vec} {r : LaneW} (h : s.Ready q 17) (he : exec i s = reduce d a p chk sh g s)
    (hd : (s.ctx q).vd d = .ok ()) (ha : (s.ctx q).ve 0 a = .ok u) (hr : g (s.ctx q) u ((s.ctx q).pr 0 p.toNat) = r) :
    s.VectorLands q 17 i (if (s.ctx q).pr 0 p.toNat = 0 then 0 else d) ((s.ctx q).pr 0 p.toNat) chk sh [a] fun _ x => x = r :=
  State.lands_of h he (by simp only [hd, ha]) fun _ _ => hr

theorem reductionResults : Claims.ReductionResults := by
  intro s q d a p t u h ht hd ha m val on lo hi lands
  have hvals : activeVals u m (lane32 t) = on.map val := by
    rw [activeVals_eq]
    exact List.map_congr_left fun l _ => by simp only [lane32, val]
  have hrange : intRange (t == 10) 32 = (lo, hi) := by rcases ht with rfl | rfl <;> decide
  refine ⟨?_, ?_, ?_, State.reduce_lands h (exec_vfredadd ..) hd ha rfl⟩
  · refine ⟨_, rfl, State.reduce_lands h (exec_vredadd ..) hd ha ?_⟩
    rw [hvals, List.sum_eq_foldl]
  · obtain ⟨hle, hmem, hhi⟩ := foldl_min_least (on.map val) hi
    refine ⟨(on.map val).foldl min hi, ⟨?_, ?_, hhi⟩, State.reduce_lands h (exec_vredmin ..) hd ha ?_⟩
    · exact fun l hl => hle _ (List.mem_map_of_mem hl)
    · exact hmem.imp_right fun hm => by obtain ⟨l, hl, he⟩ := List.mem_map.mp hm; exact ⟨l, hl, he.symm⟩
    · rw [hvals, hrange]
  · obtain ⟨hle, hmem, hlo⟩ := foldl_max_greatest (on.map val) lo
    refine ⟨(on.map val).foldl max lo, ⟨?_, ?_, hlo⟩, State.reduce_lands h (exec_vredmax ..) hd ha ?_⟩
    · exact fun l hl => hle _ (List.mem_map_of_mem hl)
    · exact hmem.imp_right fun hm => by obtain ⟨l, hl, he⟩ := List.mem_map.mp hm; exact ⟨l, hl, he.symm⟩
    · rw [hvals, hrange]

/-- Settles O27: the integer group, the multiplies and the reductions lane by lane. -/
theorem vectorIntegers : Obligations.VectorIntegers := ⟨vectorIntegerResults, vectorMultiplyResults, reductionResults⟩

end Sys2Proof.Machine
end

section
/-! Vector floating-point groups and approximations (06_vector.md R158 to R160). -/

namespace Sys2Proof.Machine

theorem fmtOfType_of_floatType {t : Nat} {f : Fmt} (h : (t, f) ∈ [(0, fp32), (1, bf16), (2, fp16)]) :
    fmtOfType t = f ∧ typeWidth t = f.width := by
  simp only [List.mem_cons, Prod.mk.injEq, List.not_mem_nil, or_false] at h
  rcases h with ⟨rfl, rfl⟩ | ⟨rfl, rfl⟩ | ⟨rfl, rfl⟩ <;> exact ⟨rfl, rfl⟩

section
variable {s : State} {q : Cursor} {d a b c : BitVec 5} {p : BitVec 3} {t : BitVec 4} {t3 : BitVec 3} {f : Fmt} {u v z : Vec} {i : Instr}

/-- A two-operand form of the FP group lands the elements of its operation. -/
theorem State.vfp2_lands {chk : Bool} {g : Fmt → Rm → El → El → El} (h : s.Ready q 14) (hf : fmtOfType t.toNat = f)
    (hw : typeWidth t.toNat = f.width) (he : exec i s = vfp2 d a b p t chk g s) (hd : (s.ctx q).vd d = .ok ())
    (ha : (s.ctx q).ve 0 a = .ok u) (hb : (s.ctx q).ve 1 b = .ok v) :
    s.VectorLands q 14 i d ((s.ctx q).pr 0 p.toNat) chk (some t.toNat) [a, b] fun l r =>
      r.fpElems f.width fun e => g f (s.core q.core).frm (elemOf (u.at l).w f.width e, (u.at l).tag) (elemOf (v.at l).w f.width e, (v.at l).tag) := by
  refine State.vec2_lands h he hd ha hb fun l _ => ?_
  rw [hf, hw]
  exact laneOfEls_fpElems _ _

/-- A sign form of the FP group lands its elements. -/
theorem State.signForm_lands {flip : Bool} (h : s.Ready q 14) (hf : fmtOfType t.toNat = f) (hw : typeWidth t.toNat = f.width)
    (he : exec i s = vec1 14 d a p false (some t.toNat) (fun _ u => mapEls1 (typeWidth t.toNat) ((fmtOfType t.toNat).signEl flip) u) s)
    (hd : (s.ctx q).vd d = .ok ()) (ha : (s.ctx q).ve 0 a = .ok u) :
    s.VectorLands q 14 i d ((s.ctx q).pr 0 p.toNat) false (some t.toNat) [a] fun l r =>
      r.fpElems f.width fun e => f.signEl flip (elemOf (u.at l).w f.width e, (u.at l).tag) := by
  refine State.vec1_lands h he hd ha fun l _ => ?_
  rw [hf, hw]
  exact laneOfEls_fpElems _ _

/-- An FMA form lands its elements: the product negated, the addend negated. -/
theorem State.vfmaForm_lands {negP negC : Bool} (h : s.Ready q 14) (hf : fmtOfType t3.toNat = f) (hw : typeWidth t3.toNat = f.width)
    (he : exec i s = vfmaForm negP negC d a b c p t3 s) (hd : (s.ctx q).vd d = .ok ()) (ha : (s.ctx q).ve 0 a = .ok u)
    (hb : (s.ctx q).ve 1 b = .ok v) (hc : (s.ctx q).ve 2 c = .ok z) :
    s.VectorLands q 14 i d ((s.ctx q).pr 0 p.toNat) true (some t3.toNat) [a, b, c] fun l r =>
      r.fpElems f.width fun e =>
        let y := f.tv (elemOf (z.at l).w f.width e) (z.at l).tag
        f.fmaEl (s.core q.core).frm (f.tv (elemOf (u.at l).w f.width e) (u.at l).tag) (f.tv (elemOf (v.at l).w f.width e) (v.at l).tag)
          (if negC then y.neg else y) negP := by
  refine State.vec3_lands h he hd ha hb hc fun l _ => ?_
  rw [hf, hw]
  exact laneOfEls_fpElems _ _

/-- An approximation lands its rounded function value in each FP32 lane. -/
theorem State.vapprox_lands {fn : Val → Val} (h : s.Ready q 18) (he : exec i s = vapprox fn d a p s) (hd : (s.ctx q).vd d = .ok ())
    (ha : (s.ctx q).ve 0 a = .ok u) :
    s.VectorLands q 18 i d ((s.ctx q).pr 0 p.toNat) true (some 0) [a] fun l r =>
      r.fpElems 32 fun _ => approxEl fn (s.core q.core).frm ((u.at l).w.toNat, (u.at l).tag) := by
  refine State.vec1_lands h he hd ha fun l _ => ?_
  have hword : elemOf (u.at l).w 32 0 = (u.at l).w.toNat := by
    rw [elemOf, Nat.mul_zero, Nat.pow_zero, Nat.div_one, Nat.mod_eq_of_lt (u.at l).w.isLt]
  rw [← hword]
  exact laneOfEls_fpElems 32 fun _ => approxEl fn (s.core q.core).frm (elemOf (u.at l).w 32 0, (u.at l).tag)

end

theorem vectorFloatResults : Claims.VectorFloatResults := by
  intro s q d a b c p t t3 f u v z h ht ht3 hd ha hb m rm w el tv two one
  obtain ⟨hf, hw⟩ := fmtOfType_of_floatType ht
  have hf3 : fmtOfType t3.toNat = f := by rw [ht3, hf]
  have hw3 : typeWidth t3.toNat = w := by rw [ht3, hw]
  refine ⟨?_, ?_, ?_, ?_, ?_, ?_, ?_, ?_⟩
  · exact State.vfp2_lands h hf hw (exec_vfadd ..) hd ha hb
  · exact State.vfp2_lands h hf hw (exec_vfsub ..) hd ha hb
  · exact State.vfp2_lands h hf hw (exec_vfmul ..) hd ha hb
  · exact State.vfp2_lands h hf hw (exec_vfmin ..) hd ha hb
  · exact State.vfp2_lands h hf hw (exec_vfmax ..) hd ha hb
  · exact State.signForm_lands h hf hw (exec_vfabs ..) hd ha
  · exact State.signForm_lands h hf hw (exec_vfneg ..) hd ha
  · intro hc three
    simp only [three, ← ht3]
    exact ⟨State.vfmaForm_lands (negP := false) (negC := false) h hf3 hw3 (exec_vfma ..) hd ha hb hc,
      State.vfmaForm_lands (negP := false) (negC := true) h hf3 hw3 (exec_vfms ..) hd ha hb hc,
      State.vfmaForm_lands (negP := true) (negC := false) h hf3 hw3 (exec_vfnma ..) hd ha hb hc⟩

theorem approximationResults : Claims.ApproximationResults := by
  intro s q d a p u h hd ha rm lands
  exact ⟨State.vapprox_lands h (exec_vfrcp ..) hd ha, State.vapprox_lands h (exec_vfrsq ..) hd ha,
    State.vapprox_lands h (exec_vfexp2 ..) hd ha, State.vapprox_lands h (exec_vflog2 ..) hd ha⟩

/-- Settles O28: the FP group, the FMA forms and the approximations lane by lane. -/
theorem vectorFloats : Obligations.VectorFloats := ⟨vectorFloatResults, approximationResults⟩

end Sys2Proof.Machine
end

section
/-! Conversions and codebook weights (06_vector.md R170, R171, R174; 03_numbers.md R61). -/

namespace Sys2Proof.Machine

/-! Conversions. -/

/-- A word of `n` elements of width `w`, where they fit. -/
theorem laneOfEls_packs {w n : Nat} (g : Nat → El) (h : w * n ≤ 32) : (laneOfEls w ((List.range n).map g)).packs w n g := by
  have hl : w * ((List.range n).map g).length ≤ 32 := by simpa using h
  refine ⟨fun e he => ⟨?_, ?_⟩, ?_, foldl_min_le _ _, ?_⟩
  · rw [elemOf_laneOfEls hl, getD_map_range _ _ _ _ he]
  · exact foldl_min_le_mem _ _ _ (List.mem_map.mpr ⟨e, List.mem_range.mpr he, rfl⟩)
  · have hp := packElems_lt w (((List.range n).map g).map Prod.fst)
    simp only [List.length_map, List.length_range] at hp
    exact Nat.lt_of_le_of_lt (Nat.mod_le _ _) hp
  · rcases foldl_min_cases ((List.range n).map g) 24 with h | ⟨e, he, h⟩
    · exact .inl h
    · obtain ⟨i, hi, rfl⟩ := List.mem_map.mp he
      exact .inr ⟨i, List.mem_range.mp hi, h⟩

theorem typeWidth_of_fp {t : Nat} (h : t ≤ 5) : typeWidth t = (fmtOfType t).width := by
  match t, h with
  | 0, _ | 1, _ | 2, _ | 3, _ | 4, _ | 5, _ => rfl

/-- A syllable that issues a conversion under a mask lands it. -/
theorem State.conversion_lands {s : State} {q : Cursor} (h : s.Ready q 19) {i : Instr} {g : Ctx → Except Trap Core} {d : BitVec 5}
    {p : BitVec 3} {r : BitVec 4} {chk : Bool} {pops : List (BitVec 5)} {v : Nat → LaneW} {ok : Nat → LaneW → Prop}
    (he : exec i s = s.syllable g) (hg : g (s.ctx q) = (s.ctx q).conv d p r chk pops v) (hok : ∀ l < 64, ok l (v l)) :
    s.ConversionLands q i d ((s.ctx q).pr 0 p.toNat) r chk pops ok := by
  refine ⟨maskLanes ((s.ctx q).pr 0 p.toNat) v, ?_, maskLanes_length _ v, fun l hl => ?_⟩
  · rw [he]
    refine State.syllable_ok h.cur (hg.trans ?_)
    rw [Ctx.conv, State.vector_ready h]
    exact congrArg Except.ok (ite_not ..).symm
  · rw [maskLanes_getD _ v hl]
    split
    · exact ⟨v l, rfl, hok l hl⟩
    · rfl

/-- The mode of an element as the syllable takes it (R67, R91). -/
theorem State.convRm_ctx (s : State) (q : Cursor) (r : BitVec 4) (l e : Nat) :
    (s.ctx q).convRm r l e = (s.core q.core).convMode r l e := rfl

/-- What `vcvt` lands: the elements of each lane, converted one by one (R170). -/
theorem execVcvt_lands {s : State} {q : Cursor} (h : s.Ready q 19) {d a : BitVec 5} {sr t r : BitVec 4} {p : BitVec 3} {u : Vec}
    (hd : (s.ctx q).vd d = .ok ()) (ha : (s.ctx q).ve 0 a = .ok u) {ws wd : Nat} {chk : Bool} (hs : typeWidth sr.toNat = ws)
    (ht : typeWidth t.toNat = wd) (hc : decide (t.toNat < 8) = chk) (hle : wd ≤ ws) {g : Rm → Nat → Nat → El}
    (hg : ∀ rm x tag, cvtEl sr.toNat t.toNat rm (x, tag) = g rm x tag) :
    s.ConversionLands q (.vcvt d a sr p t r) d ((s.ctx q).pr 0 p.toNat) r chk [a]
      fun l x => x.packs wd (32 / ws) fun e => g ((s.core q.core).convMode r l e) (elemOf (u.at l).w ws e) (u.at l).tag := by
  subst hs ht hc
  refine State.conversion_lands h (exec_vcvt ..) (by simp only [hd, ha]; rfl) fun l _ => ?_
  have hfit : typeWidth t.toNat * (32 / typeWidth sr.toNat) ≤ 32 :=
    Nat.le_trans (Nat.mul_le_mul_right _ hle) (Nat.mul_div_le 32 _)
  simpa only [hg, State.convRm_ctx] using laneOfEls_packs (fun e => cvtEl sr.toNat t.toNat ((s.core q.core).convMode r l e)
    (elemOf (u.at l).w (typeWidth sr.toNat) e, (u.at l).tag)) hfit

theorem cvtEl_fp_fp {src dst : Nat} (hs : src ≤ 5) (hd : dst ≤ 5) (rm : Rm) (a : El) :
    cvtEl src dst rm a = convEl (fmtOfType src) (fmtOfType dst) rm a := by
  rw [cvtEl, if_pos (by omega), if_pos (by omega)]

theorem cvtEl_fp_int {src dst : Nat} (hs : src ≤ 5) (hd : 8 ≤ dst) (rm : Rm) (a : El) :
    cvtEl src dst rm a =
      ((((fmtOfType src).read a.1).toInt rm (decide (dst < 12)) (typeWidth dst) % (2 ^ typeWidth dst : Nat)).toNat, 24) := by
  rw [cvtEl, if_pos (by omega), if_neg (by omega)]
  rfl

theorem cvtEl_int_fp {src dst : Nat} (hs : 8 ≤ src) (rm : Rm) (a : El) :
    cvtEl src dst rm a = intToFpEl (fmtOfType dst) rm (if src < 12 then sElem a.1 (typeWidth src) else (a.1 : Int)) := by
  rw [cvtEl, if_neg (by omega), intElem, isSigned]
  simp only [decide_eq_true_eq]

theorem intType_range {t w : Nat} (h : (t, w) ∈ [(8, 8), (9, 16), (10, 32), (12, 8), (13, 16), (14, 32)]) : 8 ≤ t := by
  simp only [List.mem_cons, Prod.mk.injEq, List.not_mem_nil, or_false] at h
  omega

theorem conversionResults : Claims.ConversionResults := by
  intro s q d a sr t r p u h hd ha m mode lands
  refine ⟨?_, ?_, ?_⟩
  · intro hs ht _ f k hle _
    exact execVcvt_lands h hd ha (typeWidth_of_fp hs) (typeWidth_of_fp ht) (decide_eq_true (by omega)) hle
      fun rm x tag => cvtEl_fp_fp hs ht rm (x, tag)
  · intro wd hs ht f hle _
    have h8 := intType_range ht
    have hw := typeWidth_of_intType ht
    exact execVcvt_lands h hd ha (typeWidth_of_fp hs) hw (decide_eq_false (by omega)) hle
      fun rm x tag => by rw [cvtEl_fp_int hs h8, hw]
  · intro ws ht hs k hle _
    have h8 := intType_range hs
    have hw := typeWidth_of_intType hs
    exact execVcvt_lands h hd ha hw (typeWidth_of_fp ht) (decide_eq_true (by omega)) hle
      fun rm x tag => by rw [cvtEl_int_fp h8, hw]

/-! Codebook weights. -/

/-- A sum of bits counts the ones. -/
theorem foldl_add_bits (g : Nat → Nat) (hg : ∀ i, g i < 2) (l : List Nat) (n : Nat) :
    l.foldl (fun n i => n + g i) n = n + (l.filter fun i => g i == 1).length := by
  induction l generalizing n with
  | nil => rfl
  | cons i l ih =>
    have hi := hg i
    rw [List.foldl_cons, ih, List.filter_cons]
    split
    · next h =>
      rw [List.length_cons, eq_of_beq h]
      omega
    · next h =>
      have h0 : g i = 0 := by
        have := mt beq_of_eq h
        omega
      rw [h0, Nat.add_zero]

/-- The sign bits of an index are its bits 1 to 7. -/
theorem signBits_div (index : Nat) {i : Nat} (hi : i < 7) : index / 2 % 128 / 2 ^ i % 2 = index / 2 ^ (i + 1) % 2 := by
  match i, hi with
  | 0, _ | 1, _ | 2, _ | 3, _ | 4, _ | 5, _ | 6, _ => omega

/-- A weight in terms of its index and entry: bit 0 is the coset bit, and bits 1 to 7 are the signs (R61). -/
theorem lq2Weight_eq (index entry k : Nat) :
    lq2Weight index entry k =
      if 2 * (entry / 2 ^ (4 * k) % 16) + index % 2 = 0 then .zero false
      else .fin (decide (if k < 7 then index / 2 ^ (k + 1) % 2 = 1
        else ((List.range 7).filter fun i => index / 2 ^ (i + 1) % 2 == 1).length % 2 = 1))
          (2 * (entry / 2 ^ (4 * k) % 16) + index % 2) (-2) := by
  have hones : (List.range 7).foldl (fun n i => n + index / 2 % 128 / 2 ^ i % 2) 0 =
      ((List.range 7).filter fun i => index / 2 ^ (i + 1) % 2 == 1).length := by
    rw [foldl_add_bits _ fun i => Nat.mod_lt _ (by decide), Nat.zero_add]
    exact congrArg List.length (List.filter_congr fun i hi => by rw [signBits_div index (List.mem_range.mp hi)])
  simp only [lq2Weight, hones, Nat.pow_mul]
  refine ite_congr rfl (fun _ => rfl) fun _ => ?_
  congr 1
  by_cases hk : k < 7
  · simp [hk, signBits_div index hk, Bool.beq_eq_decide_eq]
  · simp [hk, Bool.beq_eq_decide_eq]

theorem elemOf_packElems {w : Nat} {ns : List Nat} (h : w * ns.length ≤ 32) (e : Nat) :
    elemOf (BitVec.ofNat 32 (packElems w ns)) w e = ns.getD e 0 % 2 ^ w := by
  have hl : packElems w ns < 2 ^ 32 := Nat.lt_of_lt_of_le (packElems_lt w ns) (Nat.pow_le_pow_right (by decide) h)
  rw [elemOf, BitVec.toNat_ofNat, Nat.mod_eq_of_lt hl, packElems_elem]

/-- Index `g / 8` of a vector of packed indices. -/
theorem denseEl_index (u : Vec) (g : Nat) :
    (denseEl u 16 (g / 8)).1 = (u.at (g / 16)).w.toNat / 2 ^ (16 * (g / 8 % 2)) % 2 ^ 16 := by
  simp only [denseEl, elemOf, Nat.div_div_eq_div_mul]

/-- The codebook entry of a 16-bit index. -/
theorem State.codebook_eq (s : State) (spire : Nat) {index : Nat} (h : index < 2 ^ 16) :
    s.codebook spire index = s.mem.value (codebookBase spire + 4 * (index / 256)) 4 := by
  rw [State.codebook, Nat.mod_eq_of_lt (by omega)]

theorem codebookDecodeResults : Claims.CodebookDecodeResults := by
  intro s q d a t e p u h hd ha ht f k index entry ones neg num weight
  refine State.lands_of h (exec_vcbdec ..) (by simp only [hd, ha]; rfl) fun l _ => ⟨rfl, fun j hj => ?_⟩
  have hfit : f.width * k ≤ 32 := Nat.mul_div_le 32 f.width
  have hweight : ∀ g, lq2Weight (denseEl u 16 (g / 8)).1 (s.codebook (q.core / 2) (denseEl u 16 (g / 8)).1) (g % 8) = weight g := by
    intro g
    have hi : (denseEl u 16 (g / 8)).1 = index g := denseEl_index u g
    rw [hi, State.codebook_eq s _ (Nat.mod_lt _ (by decide)), lq2Weight_eq]
  rw [elemOf_packElems (by simpa using hfit), getD_map_range _ _ _ _ hj]
  exact congrArg (fun v => (f.round .rne v).bits % 2 ^ f.width) (hweight _)

/-! Exact weights. -/

/-- A value that the grid of its precision and the subnormal grid hold rounds alike in every mode: no mode sees a remainder. -/
theorem Fmt.roundFin_exact {f : Fmt} {prec mx m : Nat} {neg : Bool} {e : Int} (hgrid : expOf m e - prec + 1 ≤ e) (hmin : f.qmin ≤ e)
    (habove : f.above mx (m * 2 ^ (e - (expOf m e - prec + 1)).toNat) (expOf m e - prec + 1) = f.above mx m e) (rm : Rm) :
    f.roundFin prec mx rm neg m e =
      let q := max f.qmin (expOf m e - prec + 1)
      if f.above mx m e then f.overflow rm neg mx else ⟨f.sign neg + f.magBits (m * 2 ^ (e - q).toNat) q, false⟩ := by
  have hexact : ∀ q, q ≤ e → roundAt rm neg m e q = m * 2 ^ (e - q).toNat := fun q h => by rw [roundAt, if_pos h]
  have hq : (if expOf m e - prec + 1 < f.qmin then f.qmin else expOf m e - prec + 1) = max f.qmin (expOf m e - prec + 1) := by
    split <;> omega
  have hmax : max f.qmin (expOf m e - prec + 1) ≤ e := by omega
  cases rm <;> simp only [Fmt.roundFin, hq, hexact _ hgrid, habove, hexact _ hmax]

/-- The numerators of the weights meet the premises of `Fmt.roundFin_exact` in each format, and what it gives reads back. -/
theorem weights_read_back : ∀ f ∈ [fp32, fp16, bf16], ∀ m < 32, m ≠ 0 → ∀ neg,
    expOf m (-2) - f.p + 1 ≤ -2 ∧ f.qmin ≤ -2 ∧ f.above f.maxBits m (-2) = false ∧
      f.above f.maxBits (m * 2 ^ (-2 - (expOf m (-2) - f.p + 1)).toNat) (expOf m (-2) - f.p + 1) = false ∧
      (let q := max f.qmin (expOf m (-2) - f.p + 1)
       Val.cmp (f.read (f.sign neg + f.magBits (m * 2 ^ (-2 - q).toNat) q)) (.fin neg m (-2)) = 0) := by
  decide +kernel

theorem weightsAreExact : Claims.WeightsAreExact := by
  intro index entry k f rm _ hf
  rw [lq2Weight_eq]
  split
  · rw [Fmt.round]
    revert f
    decide
  · next hm =>
    obtain ⟨hgrid, hmin, habove, hshifted, hread⟩ := weights_read_back f hf _ (by omega) hm
      (decide (if k < 7 then index / 2 ^ (k + 1) % 2 = 1
        else ((List.range 7).filter fun i => index / 2 ^ (i + 1) % 2 == 1).length % 2 = 1))
    rw [Fmt.round, Fmt.roundFin_exact hgrid hmin (hshifted.trans habove.symm) rm, habove]
    exact hread

/-- Settles O31: `vcvt` element by element, the weights of `vcbdec`, and their exactness. -/
theorem conversions : Obligations.Conversions := ⟨conversionResults, codebookDecodeResults, weightsAreExact⟩

end Sys2Proof.Machine
end

section
/-! What matrix commands land (09_matrix.md R238): the tags of an accumulator memory beyond the flat region of accumulator memories. -/

namespace Sys2Proof.Machine

/-! A core of physical spire 2^21, whose accumulator memory would begin where the instruction scratchpads do. -/

/-- An `mwr` of 32 × 32 BF16 elements that has landed no step. -/
def farRun : MxRun :=
  { op := 5, m := 32, n := 32, acc := 0, a := .none, b := .none, col := 0, row16 := 0, bop := 0, chk := false, za := false, typ := 1,
    scale := 0, k := 0, u := 32, per := 1, fa := 0, ba := 0, fb := 0, bb := 0, cup := false }

/-- The sample of its first step: zeros. -/
def farGot : Got := ⟨0, 0, 0, 0, List.replicate 64 0, [], [], [], (0, 0)⟩

/-- Its command. -/
def farCmd : Cmd :=
  { uid := 0, kind := .mx ⟨5, 32, 32, 0, 16, (0, 0), 0, (0, 0), false, false, 0, 1, 0⟩, queue := 2, bundle := 0, slot := 6, syll := 0,
    issue := 0, start := 1, land := 1, started := true, sPos := 0, lPos := 0, flights := [], pages := [], regs := [], runs := [farRun],
    got := [farGot] }

/-- Core 2^22 runs the task of launch 1, which places its logical spire 0 on physical spire 2^21, and holds the command. -/
def farState : State :=
  let s := State.reset.withTask
  { s with cores := [(2 ^ 22, (s.core 0).modE fun e => { e with cmds := [farCmd] })],
           launches := [(1, { s.launch 1 with place := [(0, 2 ^ 21)] })] }

theorem farState_runs : farState.Runs (2 ^ 22) 0 farCmd farRun := ⟨rfl, rfl, rfl⟩

/-- The window address of an accumulator byte of logical spire 0, which the launch places alone (R194, R195). -/
theorem Launch.window_acc {l : Launch} {ps off : Nat} (hp : l.place = [(0, ps)]) (ho : off < 2 ^ 20) :
    l.window (windowOf 0 (2 ^ 26 + off)) 1 = some ⟨accBase ps + off, 1, ps, 0, 0, 0, off⟩ := by
  have haddr : windowOf 0 (2 ^ 26 + off) = 2 ^ 26 + off := by simp [windowOf]
  have htower : (2 ^ 26 + off) / 2 ^ 37 = 0 := by omega
  have hcup : (2 ^ 26 + off) / 2 ^ 34 % 8 = 0 := by omega
  have hsp : (2 ^ 26 + off) / 2 ^ 30 % 16 = 0 := by omega
  have hunit : (2 ^ 26 + off) / 2 ^ 26 % 16 = 1 := by omega
  have hoff : (2 ^ 26 + off) % 2 ^ 26 = off := by omega
  have hsize : ¬unitSize 1 < off + 1 := by show ¬(2 ^ 20 < off + 1); omega
  have hphys : l.physOf (0 * 128 + 0 * 16 + 0) = some ps := by rw [Launch.physOf, hp]; rfl
  rw [haddr, Launch.window]
  simp only [htower, hcup, hsp, hunit, hoff, hphys]
  simp [hsize, unitBase]

theorem farState_clear : farState.ArrayClear (2 ^ 22) farRun where
  window := fun off ho => ⟨_, Launch.window_acc (l := farState.launchOf (2 ^ 22)) rfl ho, rfl⟩
  poison := rfl
  plain := by decide +kernel
  sound := rfl
  tiles := by decide
  rows := .inr (.inl rfl)
  cols := by decide

/-- The step lands a word with tag 24: only flat addresses from 2^41 to 2^42 hold the tags of accumulator memories. -/
theorem mwrStepLanding_farState :
    (match exec (.mwrStepLanding (2 ^ 22) 0) farState with
      | .next t => decide (t.tagAt (accBase (2 ^ 22 / 2) + farRun.accOff 0 0) = 24)
      | _ => false) = true := by decide +kernel

/-- The element of that word is a zero with BF16's tag 8 (R238). -/
theorem mwrElement_farGot : mwrElement farRun.typ (elemBits (leValue farGot.data) (mrdWidth farRun.typ) 0) (farGot.tags.getD 0 24)
    (farRun.fa == 12) = (0, 8) := by decide +kernel

/-- Refutes O48: no premise bounds the core by the 1,024 of the package. The accumulator memory of physical spire 2^21 begins at the flat
address 2^42, behind the region whose words hold tags, so an `mwr` step of its core 2^22 lands a BF16 zero with tag 24 and not 8. -/
theorem not_matrixLandings : ¬ Obligations.MatrixLandings := by
  rintro ⟨-, -, -, htransfers⟩
  have hquiet : farState.Quiet (2 ^ 22) := rfl
  obtain ⟨-, hmwr, -⟩ := htransfers farState (2 ^ 22) 0 farCmd farRun farGot farState_runs (by decide +kernel) hquiet farState_clear
  obtain ⟨t, ht, -, -, -, hholds⟩ := hmwr rfl ⟨rfl, by decide⟩
  obtain ⟨-, htag⟩ := hholds 0 (by decide)
  rw [mwrElement_farGot] at htag
  have hrun := mwrStepLanding_farState
  rw [ht] at hrun
  exact absurd ((of_decide_eq_true hrun).symm.trans htag) (by decide)

end Sys2Proof.Machine
end

section
/-! Scalar results (05_scalar_control.md R113 to R117). -/

namespace Sys2Proof.Machine

/-! What the shared forms land. -/

section
variable {s : State} {q : Cursor} {cls : Nat} {d a b : BitVec 5} {v : Word} {i : Instr}

theorem alu2_lands {g : Word → Word → Word} (h : s.Ready q cls) (he : exec i s = alu2 cls d a b g s)
    (hv : g ((s.ctx q).sc 0 a) ((s.ctx q).sc 1 b) = v) : exec i s = .next (s.scalarResult q cls d v) :=
  he.trans (hv ▸ State.syllable_scalar h (v := fun x => g (x.sc 0 a) (x.sc 1 b)) rfl)

theorem alu1_lands {g : Word → Word} (h : s.Ready q 0) (he : exec i s = alu1 d a g s) (hv : g ((s.ctx q).sc 0 a) = v) :
    exec i s = .next (s.scalarResult q 0 d v) :=
  he.trans (hv ▸ State.syllable_scalar h (v := fun x => g (x.sc 0 a)) rfl)

variable {low : Word → Word} {g : Word → Word → Word}

theorem divide_lands (h : s.Ready q cls) (hy : low ((s.ctx q).sc 1 b) ≠ 0) (he : exec i s = divide cls d a b low g s)
    (hv : g ((s.ctx q).sc 0 a) ((s.ctx q).sc 1 b) = v) : exec i s = .next (s.scalarResult q cls d v) :=
  he.trans (hv ▸ State.syllable_scalar h (v := fun x => g (x.sc 0 a) (x.sc 1 b)) (if_neg hy))

/-- INTDIV0 is raised at issue, before the unit is asked for (R114). -/
theorem divide_traps (h : s.cur = some q) (hy : low ((s.ctx q).sc 1 b) = 0) (he : exec i s = divide cls d a b low g s) :
    exec i s = .next (s.trapAtIssue q.core q.slot ⟨4, 0, 0, 0, false⟩) :=
  he.trans (State.syllable_trap h (if_pos hy))

end

/-! The operations of the table as integers. -/

section
variable {w : Nat} (x y : BitVec w)

theorem ofInt_sub (i j : Int) : BitVec.ofInt w (i - j) = BitVec.ofInt w i - BitVec.ofInt w j := by
  rw [Int.sub_eq_add_neg, BitVec.ofInt_add, BitVec.ofInt_neg, BitVec.sub_eq_add_neg]

theorem sub_eq_ofInt : x - y = BitVec.ofInt w (x.toInt - y.toInt) := by
  rw [ofInt_sub, BitVec.ofInt_toInt, BitVec.ofInt_toInt]

theorem mul_eq_ofInt : x * y = BitVec.ofInt w (x.toInt * y.toInt) := by
  rw [BitVec.ofInt_mul, BitVec.ofInt_toInt, BitVec.ofInt_toInt]

theorem eq_ofNat {n : Nat} (h : x.toNat = n) : x = BitVec.ofNat w n := by
  rw [← h, BitVec.ofNat_toNat, BitVec.setWidth_eq]

theorem shiftLeft_eq_ofNat (n : Nat) : x <<< n = BitVec.ofNat w (x.toNat * 2 ^ n) :=
  BitVec.eq_of_toNat_eq (by rw [BitVec.toNat_shiftLeft, BitVec.toNat_ofNat, Nat.shiftLeft_eq])

theorem ushiftRight_eq_ofNat (n : Nat) : x >>> n = BitVec.ofNat w (x.toNat / 2 ^ n) :=
  eq_ofNat _ (by rw [BitVec.toNat_ushiftRight, Nat.shiftRight_eq_div_pow])

theorem sshiftRight_eq_ofInt (n : Nat) : x.sshiftRight n = BitVec.ofInt w (x.toInt / ((2 ^ n : Nat) : Int)) := by
  rw [BitVec.sshiftRight, Int.shiftRight_eq_div_pow]

/-- The quotient of the most negative value by −1 wraps to that value (R114). -/
theorem sdiv_eq_ofInt : x.sdiv y = BitVec.ofInt w (x.toInt.tdiv y.toInt) :=
  BitVec.eq_of_toInt_eq (by rw [BitVec.toInt_sdiv, BitVec.toInt_ofInt])

theorem srem_eq_ofInt : x.srem y = BitVec.ofInt w (x.toInt.tmod y.toInt) := by
  rw [← BitVec.toInt_srem, BitVec.ofInt_toInt]

theorem smin_eq_ofInt : (if x.slt y then x else y) = BitVec.ofInt w (min x.toInt y.toInt) := by
  rw [BitVec.slt_eq_decide]
  by_cases h : x.toInt < y.toInt
  · rw [if_pos (decide_eq_true h), Int.min_eq_left (Int.le_of_lt h), BitVec.ofInt_toInt]
  · rw [if_neg (mt of_decide_eq_true h), Int.min_eq_right (Int.not_lt.mp h), BitVec.ofInt_toInt]

theorem smax_eq_ofInt : (if x.slt y then y else x) = BitVec.ofInt w (max x.toInt y.toInt) := by
  rw [BitVec.slt_eq_decide]
  by_cases h : x.toInt < y.toInt
  · rw [if_pos (decide_eq_true h), Int.max_eq_right (Int.le_of_lt h), BitVec.ofInt_toInt]
  · rw [if_neg (mt of_decide_eq_true h), Int.max_eq_left (Int.not_lt.mp h), BitVec.ofInt_toInt]

theorem umin_toNat : (if x.ult y then x else y).toNat = min x.toNat y.toNat := by
  rw [BitVec.ult_eq_decide]
  by_cases h : x.toNat < y.toNat
  · rw [if_pos (decide_eq_true h), Nat.min_eq_left (Nat.le_of_lt h)]
  · rw [if_neg (mt of_decide_eq_true h), Nat.min_eq_right (Nat.not_lt.mp h)]

theorem umax_toNat : (if x.ult y then y else x).toNat = max x.toNat y.toNat := by
  rw [BitVec.ult_eq_decide]
  by_cases h : x.toNat < y.toNat
  · rw [if_pos (decide_eq_true h), Nat.max_eq_right (Nat.le_of_lt h)]
  · rw [if_neg (mt of_decide_eq_true h), Nat.max_eq_left (Nat.not_lt.mp h)]

end

theorem boolWord_decide (p : Prop) [Decidable p] : boolWord (decide p) = if p then 1 else 0 := by
  simp only [boolWord, decide_eq_true_eq]

/-! The low 32 bits. -/

section
variable (x y : Word)

theorem lo32_eq_ofNat : lo32 x = BitVec.ofNat 32 x.toNat := (BitVec.ofNat_toNat 32 x).symm

theorem zlo_eq_zero : zlo x = 0 ↔ lo32 x = 0 := by
  rw [← BitVec.toNat_inj, ← BitVec.toNat_inj, zlo, BitVec.toNat_setWidth_of_le (by decide)]
  rfl

theorem lo32_eq_zero : lo32 x = 0 ↔ x.toNat % 2 ^ 32 = 0 := by
  rw [← BitVec.toNat_inj, lo32, BitVec.toNat_setWidth]
  rfl

theorem lo32_add : lo32 x + lo32 y = BitVec.ofNat 32 (x.toNat + y.toNat) := by
  rw [lo32_eq_ofNat, lo32_eq_ofNat, BitVec.ofNat_add]

theorem lo32_mul : lo32 x * lo32 y = BitVec.ofNat 32 (x.toNat * y.toNat) := by
  rw [lo32_eq_ofNat, lo32_eq_ofNat, BitVec.ofNat_mul]

theorem lo32_sub : lo32 x - lo32 y = BitVec.ofInt 32 ((x.toNat : Int) - y.toNat) := by
  rw [lo32_eq_ofNat, lo32_eq_ofNat, ofInt_sub, BitVec.ofInt_natCast, BitVec.ofInt_natCast]

end

/-! The groups. -/

theorem integerGroupResults : Claims.IntegerGroupResults := by
  intro s q d a b h x y lands
  refine ⟨?_, ?_, ?_, ?_, ?_, ?_, ?_, ?_, ?_, ?_, ?_, ?_, ?_, ?_, ?_, ?_⟩
  · exact alu2_lands h (exec_add ..) (BitVec.add_def x y)
  · exact alu2_lands h (exec_sub ..) (sub_eq_ofInt x y)
  · exact alu2_lands h (exec_and ..) (eq_ofNat _ (BitVec.toNat_and x y))
  · exact alu2_lands h (exec_or ..) (eq_ofNat _ (BitVec.toNat_or x y))
  · exact alu2_lands h (exec_xor ..) (eq_ofNat _ (BitVec.toNat_xor x y))
  · exact alu2_lands h (exec_shl ..) (shiftLeft_eq_ofNat x _)
  · exact alu2_lands h (exec_shr ..) (ushiftRight_eq_ofNat x _)
  · exact alu2_lands h (exec_sra ..) (sshiftRight_eq_ofInt x _)
  · exact alu2_lands h (exec_slt ..) (boolWord_decide _)
  · exact alu2_lands h (exec_sltn ..) (boolWord_decide _)
  · exact alu2_lands h (exec_min ..) (smin_eq_ofInt x y)
  · exact alu2_lands h (exec_max ..) (smax_eq_ofInt x y)
  · exact alu2_lands h (exec_minn ..) (eq_ofNat _ (umin_toNat x y))
  · exact alu2_lands h (exec_maxn ..) (eq_ofNat _ (umax_toNat x y))
  · exact alu2_lands h (exec_addW ..) (congrArg sx32 (lo32_add x y))
  · exact alu2_lands h (exec_subW ..) (congrArg sx32 (lo32_sub x y))

theorem multiplyResults : Claims.MultiplyResults := by
  intro s q d a b h x y lands
  refine ⟨?_, ?_, ?_, ?_⟩
  · exact alu2_lands h (exec_mul ..) (mul_eq_ofInt x y)
  · exact alu2_lands h (exec_mulh ..) rfl
  · exact alu2_lands h (exec_mulhn ..) rfl
  · exact alu2_lands h (exec_mulW ..) (congrArg sx32 (lo32_mul x y))

theorem divideResults : Claims.DivideResults := by
  intro s q d a b x y x32 y32 lands
  have hx : lo32 x = x32 := lo32_eq_ofNat x
  have hy : lo32 y = y32 := lo32_eq_ofNat y
  refine ⟨fun h hy0 => ⟨?_, ?_, ?_, ?_⟩, fun h hy0 => ?_⟩
  · exact divide_lands h hy0 (exec_div ..) (sdiv_eq_ofInt x y)
  · exact divide_lands h hy0 (exec_divn ..) (eq_ofNat _ BitVec.toNat_udiv)
  · exact divide_lands h hy0 (exec_rem ..) (srem_eq_ofInt x y)
  · exact divide_lands h hy0 (exec_remn ..) (eq_ofNat _ BitVec.toNat_umod)
  · have hlow : zlo y ≠ 0 := mt (zlo_eq_zero y).mp (hy ▸ hy0)
    refine ⟨?_, ?_, ?_, ?_⟩
    · exact divide_lands h hlow (exec_divW ..) (by rw [hx, hy, sx32, BitVec.signExtend, sdiv_eq_ofInt])
    · exact divide_lands h hlow (exec_divnW ..) (eq_ofNat _ (by rw [hx, hy, BitVec.toNat_setWidth_of_le (by decide), BitVec.toNat_udiv]))
    · exact divide_lands h hlow (exec_remW ..) (by rw [hx, hy, sx32, BitVec.signExtend, BitVec.toInt_srem])
    · exact divide_lands h hlow (exec_remnW ..) (eq_ofNat _ (by rw [hx, hy, BitVec.toNat_setWidth_of_le (by decide), BitVec.toNat_umod]))

theorem zeroDivisorTraps : Claims.ZeroDivisorTraps := by
  intro s q d a b h y trapped
  refine ⟨fun hy => ⟨?_, ?_, ?_, ?_⟩, fun hy => ?_⟩
  · exact divide_traps h hy (exec_div ..)
  · exact divide_traps h hy (exec_divn ..)
  · exact divide_traps h hy (exec_rem ..)
  · exact divide_traps h hy (exec_remn ..)
  · have hlow : zlo y = 0 := (zlo_eq_zero y).mpr ((lo32_eq_zero y).mpr hy)
    refine ⟨?_, ?_, ?_, ?_⟩
    · exact divide_traps h hlow (exec_divW ..)
    · exact divide_traps h hlow (exec_divnW ..)
    · exact divide_traps h hlow (exec_remW ..)
    · exact divide_traps h hlow (exec_remnW ..)

/-- Settles O10: each operation of the model is the table's integer taken modulo 2^64, and a divide's zero divisor is met before its unit. -/
theorem integerArithmetic : Obligations.IntegerArithmetic :=
  ⟨integerGroupResults, multiplyResults, divideResults, zeroDivisorTraps⟩

/-! Bit counts and immediates. -/

theorem bitCountResults : Claims.BitCountResults := by
  intro s q d a h x
  refine ⟨?_, ?_, ?_⟩
  · obtain ⟨hle, hzeros, hone⟩ := clzFrom_spec x 64
    exact ⟨clzFrom x 64, hle, alu1_lands h (exec_clz ..) rfl, hzeros, hone⟩
  · obtain ⟨hle, hzeros, hone⟩ := ctzFrom_spec x 64 0
    simp only [Nat.zero_add] at hzeros hone
    exact ⟨ctzFrom x 64 0, hle, alu1_lands h (exec_ctz ..) rfl, hzeros, hone⟩
  · exact alu1_lands h (exec_popc ..) (congrArg (BitVec.ofNat 64) (popFrom_eq x 64))

theorem sImm_eq_ofInt (i : BitVec 16) : sImm i = BitVec.ofInt 64 i.toInt := rfl

theorem zImm_eq_ofNat (i : BitVec 16) : zImm i = BitVec.ofNat 64 i.toNat := (BitVec.ofNat_toNat 64 i).symm

theorem sImm_toInt (i : BitVec 16) : (sImm i).toInt = i.toInt := BitVec.toInt_signExtend_of_le (by decide)

theorem immediateResults : Claims.ImmediateResults := by
  intro s q d a i n k h x lands
  refine ⟨?_, ?_, ?_, ?_, ?_, ?_, ?_, ?_, ?_, ?_⟩
  · exact alu1_lands h (exec_addi ..) (by rw [sImm_eq_ofInt, BitVec.ofInt_add, BitVec.ofInt_toInt])
  · exact alu1_lands h (exec_andi ..) (congrArg (x &&& ·) (sImm_eq_ofInt i))
  · exact alu1_lands h (exec_ori ..) (congrArg (x ||| ·) (zImm_eq_ofNat i))
  · exact alu1_lands h (exec_xori ..) (congrArg (x ^^^ ·) (zImm_eq_ofNat i))
  · exact alu1_lands h (exec_slti ..) (by rw [BitVec.slt_eq_decide, boolWord_decide, sImm_toInt])
  · exact alu1_lands h (exec_shli ..) (shiftLeft_eq_ofNat x _)
  · exact alu1_lands h (exec_shri ..) (ushiftRight_eq_ofNat x _)
  · exact alu1_lands h (exec_srai ..) (sshiftRight_eq_ofInt x _)
  · exact (exec_movi ..).trans (State.syllable_scalar h (v := fun _ => sImm i) rfl)
  · exact ⟨_, alu1_lands h (exec_movhi ..) rfl, fun j hj => getLsbD_setField _ _ _ _ hj⟩

/-- Settles O11: the counts by their recursion over the bits, the immediates as the integers that R87 extends. -/
theorem bitCountsAndImmediates : Obligations.BitCountsAndImmediates := ⟨bitCountResults, immediateResults⟩

/-! Decoding in the slots of scalar instructions. -/

/-- SB has the cells of SA below its own opcodes (R94). -/
theorem decodeSb_eq_decodeSa {w : BitVec 32} (h : bits w 26 6 < 32) : decodeSb w = decodeSa w := by
  unfold decodeSb
  split
  case h_7 => rfl
  all_goals omega

/-- A cell of SA holds one instruction: a word of its opcode decodes to it where its other bits and its operands are legal. -/
theorem decodeSlot_of_cell {k : Nat} (hk : k ∈ [1, 2]) {w : BitVec 32} {op : Nat} (hop : bits w 26 6 = op) (hpos : 0 < op) (hlt : op < 32)
    {p legal : Prop} [Decidable p] [Decidable legal] {i : Instr} (hcell : decodeSa w = if p then some i else none)
    (hlegal : p ∧ i.wellFormed = true ↔ legal) : decodeSlot k w = if legal then some i else none := by
  have hw : w.toNat ≠ 0 := Laws.RoundTrip.ne_zero hop (Nat.ne_of_gt hpos)
  have hmap : decodeMap k w = decodeSa w := by
    simp only [List.mem_cons, List.not_mem_nil, or_false] at hk
    rcases hk with rfl | rfl
    · exact if_neg hw
    · exact (if_neg hw).trans (decodeSb_eq_decodeSa (hop ▸ hlt))
  rw [decodeSlot, hmap, hcell]
  by_cases hp : p
  · simp only [hp, if_true, true_and, ← hlegal]
  · simp only [hp, if_false, false_and, ← hlegal]

theorem decodeSa_sel {w : BitVec 32} (hop : bits w 26 6 = 4) :
    decodeSa w = if bits w 0 6 = 0 then some (.sel (fld w 21 5) (fld w 16 5) (fld w 11 5) (fld w 6 5)) else none := by
  simp only [decodeSa, hop]

theorem decodeSa_lea {w : BitVec 32} (hop : bits w 26 6 = 5) :
    decodeSa w = if bits w 2 9 = 0 then some (.lea (fld w 21 5) (fld w 16 5) (fld w 11 5) (fld w 0 2)) else none := by
  simp only [decodeSa, hop]

theorem decodeSa_ext {w : BitVec 32} (hop : bits w 26 6 = 0x12) :
    decodeSa w = if bits w 12 4 = 0 then some (.ext (fld w 21 5) (fld w 16 5) (fld w 6 6) (fld w 0 6)) else none := by
  simp only [decodeSa, hop]

theorem decodeSa_ins {w : BitVec 32} (hop : bits w 26 6 = 0x13) :
    decodeSa w = if bits w 12 4 = 0 then some (.ins (fld w 21 5) (fld w 16 5) (fld w 6 6) (fld w 0 6)) else none := by
  simp only [decodeSa, hop]

/-! Selects, addresses and bit fields. -/

theorem execSel_lands {s : State} {q : Cursor} (h : s.Ready q 0) (d a b c : BitVec 5) :
    exec (.sel d a b c) s =
      .next (s.scalarResult q 0 d (if (s.ctx q).sc 2 c ≠ 0 then (s.ctx q).sc 0 a else (s.ctx q).sc 1 b)) :=
  (exec_sel ..).trans (State.syllable_scalar h (v := fun x => if x.sc 2 c ≠ 0 then x.sc 0 a else x.sc 1 b) rfl)

/-- Settles O12: the condition chooses the operand, a shifted sum is one of naturals, and the two cells of SA hold one instruction each. -/
theorem selectAndAddressResults : Obligations.SelectAndAddressResults := by
  refine ⟨fun s q d a b c n h => ?_, fun w k hk => ?_⟩
  · have hsel := execSel_lands h d a b c
    refine ⟨fun hz => ?_, fun hz => ?_, ?_⟩
    · rw [hsel, if_pos hz]
    · rw [hsel, if_neg fun hn => hn hz]
    · exact alu2_lands h (exec_lea ..) (by rw [shiftLeft_eq_ofNat, BitVec.ofNat_add, BitVec.ofNat_toNat, BitVec.setWidth_eq])
  · refine ⟨fun hop => ?_, fun hop => ?_⟩
    · exact decodeSlot_of_cell hk hop (by decide) (by decide) (decodeSa_sel hop) (and_iff_left rfl)
    · exact decodeSlot_of_cell hk hop (by decide) (by decide) (decodeSa_lea hop) (and_iff_left rfl)

/-- A field fits where its last bit is at most bit 63 (R117). -/
theorem fieldOk_fld (w : BitVec 32) : fieldOk (fld w 6 6) (fld w 0 6) = true ↔ bits w 0 6 + (bits w 6 6 + 1) ≤ 64 := by
  simp only [fieldOk, fld, bits, BitVec.toNat_ofNat, Nat.add_assoc, decide_eq_true_eq]

/-- Settles O13: a field's bits are those of the source from its place, and the cells' word is legal where its field fits. -/
theorem bitFieldResults : Obligations.BitFieldResults := by
  refine ⟨fun s q d a l p h _ => ⟨?_, ?_⟩, fun w k hk => ?_⟩
  · exact alu1_lands h (exec_ext ..) rfl
  · exact ⟨_, alu2_lands h (exec_ins ..) rfl, fun j hj => getLsbD_setField _ _ _ _ hj⟩
  · refine ⟨fun hop => ?_, fun hop => ?_⟩
    · exact decodeSlot_of_cell hk hop (by decide) (by decide) (decodeSa_ext hop) (and_congr_right fun _ => fieldOk_fld w)
    · exact decodeSlot_of_cell hk hop (by decide) (by decide) (decodeSa_ins hop) (and_congr_right fun _ => fieldOk_fld w)

end Sys2Proof.Machine
end

section
/-! Parameter writes and counter reads (05_scalar_control.md R118, R120, R136, R142). -/

namespace Sys2Proof.Machine

/-- A syllable that issues another result and reads no port. -/
theorem State.syllable_plain {s : State} {q : Cursor} {cls : Nat} (h : s.Ready q cls) {g : Ctx → Except Trap Core} {k : EKind}
    {lat samp : Nat} (hg : g (s.ctx q) = (s.ctx q).issue cls ((s.ctx q).entry k lat samp) []) :
    s.syllable g = .next (s.plainResult q cls k lat samp) := by
  rw [State.syllable_ok h.cur (hg.trans (State.issue_entry h k lat samp [])), Ctx.popped_nil]
  rfl

theorem paramWrite_lands {s : State} {q : Cursor} (h : s.Ready q 5) (a : BitVec 5) (kind : Word → EKind) :
    paramWrite a kind s = .next (s.plainResult q 5 (kind ((s.ctx q).sc 0 a)) (s.tt q.core 5).lat (s.tt q.core 5).lat) :=
  State.syllable_plain h rfl

/-- A binding that R142 lets into a table: it takes none of its 16 places, or one is free or its own. -/
theorem binding_fits {t : List Binding} {e : Binding} (h : e.len = 0 ∨ t.length < 16 ∨ ∃ x ∈ t, x.obj = e.obj) :
    ¬(e.len ≠ 0 ∧ 16 ≤ t.length ∧ !(t.any fun x => x.obj == e.obj)) := by
  rintro ⟨hlen, hfull, hother⟩
  rcases h with h0 | hroom | ⟨x, hx, hobj⟩
  · exact hlen h0
  · omega
  · have hheld : (t.any fun x => x.obj == e.obj) = true := List.any_eq_true.mpr ⟨x, hx, beq_iff_eq.mpr hobj⟩
    simp [hheld] at hother

theorem parameterWritesComplete : Claims.ParameterWritesComplete := by
  intro s q d a b sel n x lands e
  refine ⟨fun h => ⟨?_, ?_, ?_, fun hobj hfits => ?_, fun hobj => ?_⟩, fun h => ?_⟩
  · exact (exec_wrag ..).trans (paramWrite_lands h a _)
  · exact (exec_wrmp ..).trans (paramWrite_lands h a _)
  · exact (exec_wreng ..).trans (paramWrite_lands h a _)
  · exact (exec_bind ..).trans (State.syllable_plain h ((if_neg fun hn => hn hobj).trans (if_neg (binding_fits hfits))))
  · exact (exec_bind ..).trans (State.syllable_trap h.cur (if_pos hobj))
  · exact (exec_rngseed ..).trans (State.syllable_plain h rfl)

theorem counterReads : Claims.CounterReads := by
  intro s q d h
  refine ⟨?_, ?_⟩
  · exact (exec_rdsched ..).trans (State.syllable_scalar h (v := fun x => x.c.x.schc) rfl)
  · exact (exec_rdgtime ..).trans (State.syllable_scalar h (v := fun x => x.s.gtime) rfl)

/-- Settles O14: each write's entry is issued as it stands; a bind of length 0, or with a place in the table, passes R142's check. -/
theorem parametersAndCounters : Obligations.ParametersAndCounters := ⟨parameterWritesComplete, counterReads⟩

end Sys2Proof.Machine
end

section
/-! Launches from a task (05_scalar_control.md R144): a refused launch whose parent's increment meets a landing (R285, R304). -/

namespace Sys2Proof.Machine

/-! Launch 1 runs on core 0 in an address space that maps virtual page 0 to frame 16; bytes 8 to 15 of the page are a digest region. -/

/-- Page tables in frames 1 to 5: page 0 is readable, writable and of the device. -/
def launcherTables : Memory :=
  [(4096, 0x8000000000002000), (2 * 4096, 0x8000000000003000), (3 * 4096, 0x8000000000004000), (4 * 4096, 0x8000000000005000),
    (5 * 4096, 0xF000000000010000)].foldl (fun (m : Memory) x => m.write x.1 (leBytes x.2 8)) []

/-- A `lnch` with its record read, whose CORR is that of launch 1; its parent object is at virtual address 8. -/
def corrInUse : Cmd :=
  { uid := 0, kind := .lnch 0x200 8, queue := 5, bundle := 0, slot := 6, syll := 0, issue := 0, start := 0, land := 0, started := true,
    sPos := 0, lPos := 0, flights := [⟨0, List.replicate 8 0 ++ leBytes 1 4, [], 0, 0, 0, 0, []⟩], pages := [], regs := [] }

/-- A fill of 64 bytes from virtual address 0 on, whose one chunk has landed. -/
def parentFill : Cmd :=
  { corrInUse with
    uid := 1, kind := .copy ⟨false, true, false, false, 28, 900, 64, 0, 0⟩ ⟨0, 0, 64, 1, 1, 0, 0, 0, 0, some 7, 0, 0, 1, 1⟩, queue := 0,
    sPos := 64, lPos := 64, flights := [] }

/-- The landing of that chunk in this wall cycle, over zeros. -/
def fillLanding : Seen :=
  { acc := ⟨0, true, 1, false, true, 16 * 4096, 64, none, false, akDst, 0, 0⟩, lvl := 0, bundle := 0, slot := 6, issue := 0,
    cmd := some parentFill, old := List.replicate 64 0, tags := [], poison := [], gran := [] }

/-- What the landing counts in the digest of launch 1. -/
def fillContrib : Contrib := ⟨0, false, 0, 6, 8, leBytes 7 8⟩

/-- Both commands in the cycle of the fill's landing and the launch's arrival. -/
def launcher : State :=
  let s := State.reset.withTask.modCore 0 fun c => c.modE fun e => { e with cmds := [corrInUse, parentFill] }
  { s.modLaunch 1 fun l => { l with
      asid := 1, asroot := 1, record := List.replicate 0xE0 0 ++ leBytes 8 8 ++ leBytes 8 8, contrib := [fillContrib] } with
    mem := launcherTables, seen := [fillLanding] }

theorem launcher_holds : launcher.Holds 0 0 corrInUse := ⟨rfl, rfl, by decide, by decide +kernel⟩

theorem launcher_corrInUse : (launcher.byCorr 1).isSome = true := by decide +kernel

/-- The increment withdraws the chunk that it meets, with what that has counted. -/
theorem lnchArrival_launcher :
    (match exec (.lnchArrival 0 0) launcher with
      | .next t => decide ((t.launch 1).contrib = [])
      | _ => false) = true := by decide +kernel

/-- Refutes O38: no premise keeps the cycle's landings off the parent object. A launch refused for its CORR increments its parent all the
same; a copy chunk that lands there in that cycle is withdrawn (R285), and the digest of its launch loses what the chunk had counted. -/
theorem not_taskLaunches : ¬ Obligations.TaskLaunches := by
  rintro ⟨-, harrive⟩
  have hquiet : launcher.Quiet 0 := rfl
  obtain ⟨-, -, -, hlanding⟩ := harrive launcher 0 0 corrInUse 0x200 8 launcher_holds rfl hquiet
  obtain ⟨-, hrefused⟩ := hlanding _ rfl rfl rfl
  obtain ⟨t, ht, -, -, hlaunches⟩ := hrefused launcher_corrInUse
  have hrun := lnchArrival_launcher
  rw [ht] at hrun
  have hkept : (t.launch 1).contrib = [fillContrib] := congrArg (fun ls => (alGet Launch.zero ls 1).contrib) hlaunches
  exact absurd (hkept.symm.trans (of_decide_eq_true hrun)) (by decide)

end Sys2Proof.Machine
end

section
/-! Vector loads and stores, and the indexed forms (06_vector.md R152 to R154). -/

namespace Sys2Proof.Machine

/-- The address of an access: the immediate is extended as a signed integer (R87). -/
theorem add_sImm (x : Word) (i : BitVec 16) : x + sImm i = BitVec.ofInt 64 (x.toInt + i.toInt) := by
  rw [sImm_eq_ofInt, BitVec.ofInt_add, BitVec.ofInt_toInt]

/-- A syllable that issues an entry, popping its ports. -/
theorem State.syllable_entry {s : State} {q : Cursor} {cls : Nat} (h : s.Ready q cls) {g : Ctx → Except Trap Core} {k : EKind}
    {lat samp : Nat} {pops : List (BitVec 5)} (hg : g (s.ctx q) = (s.ctx q).issue cls ((s.ctx q).entry k lat samp) pops) :
    s.syllable g = .next (s.queued q cls (s.pending q cls k lat samp) ((s.ctx q).popped pops)) :=
  State.syllable_ok h.cur (hg.trans (State.issue_entry h k lat samp pops))

theorem vectorLoadsAndStores : Claims.VectorLoadsAndStores := by
  intro s q d a i w c addr cls t h
  have haddr : (s.ctx q).sc 0 a + sImm i = addr := add_sImm ..
  refine ⟨fun hd hw => ?_, fun v hv hw => ?_⟩
  · have hcheck : (s.ctx q).s.plainCheck (s.ctx q).k akLoad addr 256 = .ok w := hw
    exact (exec_vld ..).trans (State.syllable_plain h (by simp only [hd, haddr, hcheck]; rfl))
  · have hcheck : (s.ctx q).s.plainCheck (s.ctx q).k akStore addr 256 = .ok w := hw
    exact (exec_vst ..).trans (State.syllable_entry h (by simp only [hv, haddr, hcheck]; rfl))

/-! The indexed forms. -/

section
variable {x : Ctx} {store : Bool} {base : Word} {offs : Vec} {m : BitVec 64}

/-- R153's conditions on the address of a lane: an aligned word of the own tile scratchpad, under a store of a TL0 task outside the trap
frames. -/
def Ctx.LaneReaches (x : Ctx) (store : Bool) (a : Word) : Prop :=
  a.toNat < 2 ^ 40 ∧ a.toNat % 4 = 0 ∧ ∃ w, (x.s.launchOf x.k).window a.toNat 1 = some w ∧ w.unit = 0 ∧
    w.own x.c.f.task.lsp = true ∧ (store = true → x.c.tl = 0 → x.c.inFrames w.off 4 = false)

/-- A lane of reachable address fails no check, where under a store no other active lane of its group names its word. -/
theorem Ctx.idxFail_none {l : Nat} (hreach : x.LaneReaches store (idxAddr base offs l))
    (hapart : store = true → ∀ l', l' ≠ l → l' / 4 = l / 4 → laneOn m l' = true →
      (idxAddr base offs l').toNat / 4 ≠ (idxAddr base offs l).toNat / 4) : x.idxFail store base offs m l = none := by
  obtain ⟨hlow, halign, w, hw, hunit, hown, hframe⟩ := hreach
  simp only [Ctx.idxFail, if_neg (Nat.not_le.mpr hlow), hw, hunit, hown, halign]
  cases store with
  | false => simp
  | true =>
    have hgroup : ∀ j < 4, l / 4 * 4 + j ≠ l → laneOn m (l / 4 * 4 + j) = true →
        (idxAddr base offs (l / 4 * 4 + j)).toNat / 4 ≠ (idxAddr base offs l).toNat / 4 :=
      fun j hj hne => hapart rfl _ hne (by omega)
    have hfree : ¬(x.c.tl = 0 ∧ x.c.inFrames w.off 4 = true) :=
      fun ⟨htask, hin⟩ => Bool.false_ne_true ((hframe rfl htask).symm.trans hin)
    simpa [hfree] using hgroup

/-- The check passes where no active lane fails. -/
theorem Ctx.idxCheck_none (h : ∀ l < 64, laneOn m l = true → x.idxFail store base offs m l = none) :
    x.idxCheck store base offs m = none := by
  rw [Ctx.idxCheck, List.findSome?_eq_none_iff]
  intro l hl
  split
  · next hon => exact h l (List.mem_range.mp hl) hon
  · rfl

end

theorem field_low (w : Word) (n : Nat) : field w 0 n = w.toNat % 2 ^ n := by
  rw [field, Nat.pow_zero, Nat.div_one]

theorem indexedAccesses : Claims.IndexedAccesses := by
  intro s q d a b p o h c base m addr reach apart t
  refine ⟨fun hd ho hreach => ?_, fun v hv ho hreach hapart => ?_⟩
  · have hpass : (s.ctx q).idxCheck false ((s.ctx q).sc 0 a) o ((s.ctx q).pr 0 p.toNat) = none :=
      Ctx.idxCheck_none fun l hl hon => Ctx.idxFail_none (hreach l hl hon) nofun
    exact (exec_vldx ..).trans (State.syllable_entry h (by simp only [hd, ho, hpass, field_low]; rfl))
  · have hpass : (s.ctx q).idxCheck true ((s.ctx q).sc 0 a) o ((s.ctx q).pr 0 p.toNat) = none :=
      Ctx.idxCheck_none fun l hl hon => Ctx.idxFail_none (hreach l hl hon) fun _ l' hne hgroup hon' =>
        hapart l' (by omega) l hl hne hgroup hon' hon
    exact (exec_vstx ..).trans (State.syllable_entry h (by simp only [hv, ho, hpass, field_low]; rfl))

/-- Settles O23: a lane whose address meets the premises fails none of R153's checks, and an access that passes its checks issues
its entry. -/
theorem vectorAccesses : Obligations.VectorAccesses := ⟨vectorLoadsAndStores, indexedAccesses⟩

end Sys2Proof.Machine
end

section
/-! Packing, unpacking and scaling (06_vector.md R172, R173, R175). -/

namespace Sys2Proof.Machine

/-- The integer types of dense elements are integer types narrower than a lane. -/
theorem intType_of_denseInt {t w : Nat} (h : (t, w) ∈ [(8, 8), (9, 16), (12, 8), (13, 16)]) :
    (t, w) ∈ [(8, 8), (9, 16), (10, 32), (12, 8), (13, 16), (14, 32)] :=
  (by decide : [(8, 8), (9, 16), (12, 8), (13, 16)] ⊆ [(8, 8), (9, 16), (10, 32), (12, 8), (13, 16), (14, 32)]) h

theorem le_of_denseFp {t : Nat} (h : t ∈ [1, 2, 3, 4, 5]) : t ≤ 5 := by
  simp only [List.mem_cons, List.not_mem_nil, or_false] at h
  omega

/-- Saturation to a range that is not empty is its nearest value. -/
theorem saturate_eq {lo hi : Int} (h : lo ≤ hi) (n : Int) : (if n < lo then lo else if hi < n then hi else n) = max lo (min n hi) := by
  omega

theorem satInt_eq (t : Nat) (n : Int) :
    satInt t n = max (if t < 12 then -2 ^ (typeWidth t - 1) else 0)
      (min n (if t < 12 then 2 ^ (typeWidth t - 1) - 1 else 2 ^ typeWidth t - 1)) := by
  have hhalf : (0 : Int) < 2 ^ (typeWidth t - 1) := Int.pow_pos (by decide)
  have hfull : (0 : Int) < 2 ^ typeWidth t := Int.pow_pos (by decide)
  by_cases ht : t < 12
  · simp only [satInt, intRange, isSigned, ht, decide_true, if_true, Int.natCast_pow, Int.cast_ofNat_Int]
    exact saturate_eq (by omega) n
  · simp only [satInt, intRange, isSigned, ht, decide_false, Bool.false_eq_true, if_false, Int.natCast_pow, Int.cast_ofNat_Int]
    exact saturate_eq (by omega) n

theorem e8m0_eq (e : Nat) : e8m0 e = if e = 255 then .nan else .fin false 1 ((e : Int) - 127) := by
  simp [e8m0]

/-- Settles O32: each lane's word is the dense elements of its conversions; integers saturate to the nearest value of their type, and an
E8M0 code is the scale of its exponent. -/
theorem packAndScaleResults : Obligations.PackAndScaleResults := by
  intro s q d a b t r e p u v h hd ha m mode f lane dense
  refine ⟨fun hb => ⟨fun ht => ?_, fun w ht => ?_, fun _ => ?_⟩, fun ht => ?_, fun w ht => ?_⟩
  · have h5 := le_of_denseFp ht
    have h8 : t.toNat < 8 := by omega
    refine State.conversion_lands h (exec_vpack ..)
      (by simp only [hd, ha, hb, typeWidth_of_fp h5, h8, decide_true, if_true]; rfl) fun l _ => ?_
    by_cases hl : 128 ≤ l * (32 / f.width)
    · simp only [f, if_pos hl]
    · simp only [f, if_neg hl]
      exact laneOfEls_fpElems _ _
  · have h8 := Nat.not_lt.mpr (intType_range (intType_of_denseInt ht))
    have hw := typeWidth_of_intType (intType_of_denseInt ht)
    refine State.conversion_lands h (exec_vpack ..)
      (by simp only [hd, ha, hb, hw, h8, decide_false, if_false]; rfl) fun l _ => ?_
    by_cases hl : 128 ≤ l * (32 / w)
    · simp only [if_pos hl]
    · simp only [if_neg hl, satInt_eq, hw]
      exact laneOfEls_elems _ _
  · refine State.conversion_lands h (exec_vscale ..) (by simp only [hd, ha, hb]; rfl) fun l _ => ?_
    simp only [e8m0_eq]
    rfl
  · have h5 := le_of_denseFp ht
    have h8 : t.toNat < 8 := by omega
    exact State.conversion_lands h (exec_vunpack ..)
      (by simp only [hd, ha, typeWidth_of_fp h5, h8, decide_true, if_true]; rfl) fun l _ => rfl
  · have h8 := Nat.not_lt.mpr (intType_range (intType_of_denseInt ht))
    have hw := typeWidth_of_intType (intType_of_denseInt ht)
    exact State.conversion_lands h (exec_vunpack ..)
      (by simp only [hd, ha, hw, h8, decide_false, if_false, intElem_eq]; rfl) fun l _ => rfl

end Sys2Proof.Machine
end

section
/-! Matrix commands at their start and the samples of their array cycles (09_matrix.md R224 to R245). -/

namespace Sys2Proof.Machine

/-! A lantern that records nothing. -/

section
variable {s : State} {k : Nat}

theorem State.Quiet.lctl_en (h : s.Quiet k) : field (s.lantern (towerOf k)).lctl 0 1 = 0 := by
  rw [field, Nat.pow_zero, Nat.div_one]
  exact h

theorem State.Quiet.taskRecord (h : s.Quiet k) (kind sub bundle low value : Nat) : s.taskRecord k kind sub bundle low value = s := by
  rw [State.taskRecord, State.record, State.recordAt, if_pos h.lctl_en, ite_self]

theorem State.Quiet.engineRecord (h : s.Quiet k) (sub slot queue ch bundle : Nat) (syll : BitVec 32) :
    s.engineRecord k sub slot queue ch bundle syll = s := by
  rw [State.engineRecord, h.taskRecord, ite_self]

theorem State.Quiet.transitCheck (h : s.Quiet k) (sub slot bundle : Nat) (glob : Bool) (xs : List (Nat × Nat)) (self : Option Nat) :
    s.transitCheck k sub slot bundle glob xs self = s :=
  if_neg fun hen => absurd (h.lctl_en.symm.trans hen.1) (by decide)

theorem State.Quiet.mxTransit (h : s.Quiet k) (m : Cmd) (xs : List (Nat × Nat)) : s.mxTransit k m xs = s := by
  induction xs with
  | nil => rfl
  | cons x xs ih =>
    rw [State.mxTransit, List.foldl_cons, h.transitCheck]
    exact ih

end

/-! Updates of a core's commands and due events. -/

theorem Core.uid_of_cmd {c : Core} {uid : Nat} {m : Cmd} (h : c.cmd uid = some m) : m.uid = uid :=
  beq_iff_eq.mp (List.find?_some (p := fun x : Cmd => x.uid == uid) h)

/-- A command replaced under its uid is found there. -/
theorem Core.cmd_setCmd {c : Core} {uid : Nat} {m m' : Cmd} (h : c.cmd uid = some m) (hu : m'.uid = uid) :
    (c.setCmd m').cmd uid = some m' := by
  have hkey : ((fun x : Cmd => x.uid == uid) ∘ fun x => if x.uid == m'.uid then m' else x) = fun x => x.uid == uid := by
    funext x
    by_cases hx : x.uid = uid <;> simp [hx, hu]
  rw [Core.cmd, Core.setCmd, Core.modE_e, List.find?_map, hkey, show c.e.cmds.find? (·.uid == uid) = some m from h, Option.map_some,
    Core.uid_of_cmd h, hu, if_pos (beq_self_eq_true uid)]

/-- A new core with the registers, system registers and loops of the old one leaves all that `State.KeepsAll` names. -/
theorem State.keepsAll_setCore {s : State} {k : Nat} {c : Core} (hr : c.r = (s.core k).r) (hx : c.x = (s.core k).x)
    (hl : c.l = (s.core k).l) : s.KeepsAll (s.setCore k c) := by
  refine ⟨fun j => ?_, rfl⟩
  rw [State.core_setCore]
  split
  · subst j
    exact ⟨hr, hx, hl⟩
  · exact ⟨rfl, rfl, rfl⟩

theorem State.keepsAll_engineFault (s : State) (k : Nat) (m : Cmd) (f : Trap) (eng : Bool) : s.KeepsAll (s.engineFault k m f eng) :=
  State.keepsAll_setCore rfl rfl rfl

/-- The first fault of a command falls due. -/
theorem State.Holds.engineFault_due {s : State} {k uid : Nat} {m : Cmd} (h : s.Holds k uid m) (f : Trap) (eng : Bool) :
    (s.engineFault k m f eng).FaultDue k m f := by
  have hfirst : ((s.core k).p.dues.any fun d => d.cmd == some (m.uid, m.queue, m.syll)) = false := by
    simpa only [List.any_eq_false, beq_iff_eq] using h.sound
  rw [State.FaultDue, State.engineFault, State.core_modCore_same, Core.modP_p]
  dsimp only
  rw [hfirst, if_neg Bool.false_ne_true]
  exact ⟨_, List.mem_append_right _ (List.mem_singleton_self _), rfl, rfl, rfl, rfl, rfl, rfl, rfl, rfl, rfl, rfl⟩

/-! Starts (R227, R233, R244). -/

section
variable {s : State} {k uid : Nat} {m : Cmd} {a : MxArgs}

theorem execMatrixCommandStart_eq (hc : (s.core k).cmd uid = some m) (hk : m.kind = .mx a) (hs : m.started = false) :
    exec (.matrixCommandStart k uid) s = .next (s.mxStart k m a) := by
  simp only [exec_matrixCommandStart, execMatrixCommandStart, hc, hk, hs, Bool.false_eq_true, if_false]

theorem execMcallStart_eq (hc : (s.core k).cmd uid = some m) (hk : m.kind = .mx a) (hs : m.started = false) :
    exec (.mcallStart k uid) s = .next (s.mxStart k m a) := by
  simp only [exec_mcallStart, execMcallStart, hc, hk, hs, Bool.false_eq_true, if_false]

theorem State.mxStart_error {f : Trap} (hp : s.mxPlan k m.syll a = .error f) : s.mxStart k m a = s.engineFault k m f true := by
  rw [State.mxStart, hp]

theorem mxTotal_cons (r : MxRun) (rs : List MxRun) (lead lead' : Nat) : mxTotal (r :: rs) lead = mxTotal (r :: rs) lead' := by
  simp only [mxTotal, List.getLast?_cons, Option.map_some, Option.getD_some]

/-- A plan with a run makes its command a started one and its end the array's release. -/
theorem State.mxStart_ok {r : MxRun} {rs : List MxRun} (hq : s.Quiet k) (hp : s.mxPlan k m.syll a = .ok (r :: rs)) :
    ∃ land lastLand, s.mxStart k m a =
      s.setCore k (((s.core k).setCmd { m with started := true, runs := r :: rs, land := land }).modE fun e =>
        { e with mxRelease := m.tau (s.core k) (mxTotal (r :: rs) 0 - 1) + 1, lastLand := lastLand }) := by
  have hquiet : ∀ c, (s.setCore k c).Quiet k := fun _ => hq
  rw [State.mxStart, hp]
  dsimp only
  rw [if_neg (List.cons_ne_nil r rs), (hquiet _).engineRecord, mxTotal_cons r rs _ 0]
  exact ⟨_, _, rfl⟩

/-- Outside AMODE 2 array cycles are the core's cycles (R193). -/
theorem Core.tau_of_owned {c : Core} (h : c.amode ≠ 2) (start schc n : Nat) : c.tau start schc n = start + n := if_neg h

/-- Both start events do the same: they start the command, or make its fault due. -/
theorem State.Holds.mxStarts (h : s.Holds k uid m) (hq : s.Quiet k) :
    (∀ r rs, s.mxPlan k m.syll a = .ok (r :: rs) → ∃ m', s.KeepsAll (s.mxStart k m a) ∧
      ((s.mxStart k m a).core k).cmd uid = some m' ∧ m'.started = true ∧ m'.runs = r :: rs ∧
      ((s.core k).amode ≠ 2 → 0 < mxTotal (r :: rs) 0 → ((s.mxStart k m a).core k).e.mxRelease = m.start + mxTotal (r :: rs) 0)) ∧
    ∀ f, s.mxPlan k m.syll a = .error f → s.KeepsAll (s.mxStart k m a) ∧ (s.mxStart k m a).FaultDue k m f := by
  constructor
  · intro r rs hp
    have huid := Core.uid_of_cmd h.cmd
    obtain ⟨land, lastLand, hstart⟩ := State.mxStart_ok hq hp
    rw [hstart, State.core_setCore_same]
    refine ⟨{ m with started := true, runs := r :: rs, land := land }, State.keepsAll_setCore rfl rfl rfl,
      Core.cmd_setCmd h.cmd huid, rfl, rfl, fun hmode hpos => ?_⟩
    have htau := Core.tau_of_owned hmode m.start ((m.regs.getD 0 0).toNat + 1) (mxTotal (r :: rs) 0 - 1)
    show m.tau (s.core k) (mxTotal (r :: rs) 0 - 1) + 1 = _
    rw [Cmd.tau, htau]
    omega
  · intro f hp
    rw [State.mxStart_error hp]
    exact ⟨s.keepsAll_engineFault k m f true, h.engineFault_due f true⟩

end

theorem matrixCommandsStart : Claims.MatrixCommandsStart := by
  intro s k uid m a h hk hs hq starts
  have hstarts : ∀ i, exec i s = .next (s.mxStart k m a) → starts i := by
    intro i hi
    obtain ⟨hok, herr⟩ := h.mxStarts (a := a) hq
    refine ⟨fun r rs hp => ?_, fun f hp => ⟨_, hi, herr f hp⟩⟩
    obtain ⟨m', hm'⟩ := hok r rs hp
    exact ⟨_, m', hi, hm'⟩
  exact ⟨hstarts _ (execMatrixCommandStart_eq h.cmd hk hs), hstarts _ (execMcallStart_eq h.cmd hk hs)⟩

/-! What a sample reads. -/

section
variable {s : State} {k : Nat}

theorem State.mxRead_window {a n : Nat} {w : Win} (h : (s.launchOf k).window a 1 = some w) : (s.mxRead k a n).1 = s.bytes w.flat n := by
  rw [State.mxRead, h]

/-- A row of a descriptor is the bytes at its address (R226). -/
theorem State.mxRow_desc {x : MxSrc} {w0 w1 : Word} {fmt blk g n : Nat} {w : Win} (hx : x = .desc w0 w1)
    (h : (s.launchOf k).window (rowAddr w0 w1 g) 1 = some w) : (s.mxRow k x fmt blk g n).1 = s.bytes w.flat n := by
  rw [hx, State.mxRow, apply_ite Prod.fst, ite_self]
  exact State.mxRead_window h

/-- A row of an operand buffer is what the buffer holds of it (R224). -/
theorem State.mxRow_ob {x : MxSrc} {b fmt blk g n : Nat} (hx : x = .ob b) :
    (s.mxRow k x fmt blk g n).1 = ((s.obuf k b).rows.getD g []).take n := by
  rw [hx, State.mxRow, apply_ite Prod.fst, ite_self]

/-- An array cycle samples each row of its slot (R230). -/
theorem State.mem_passRows {j q c per side : Nat} {x : MxSrc} {fmt blk first cnt bytes i : Nat} (hi : i < cnt)
    (hslot : mxSlot x.rot i per = c) {data : List Byte} (hdata : (s.mxRow k x fmt blk (first + i) bytes).1 = data) :
    ∃ g ∈ s.passRows k j q c per side x fmt blk first cnt bytes,
      g.run = j ∧ g.q = q ∧ g.side = side ∧ g.idx = i ∧ g.data = data :=
  ⟨_, List.mem_map.mpr ⟨i, List.mem_filter.mpr ⟨List.mem_range.mpr hi, beq_iff_eq.mpr hslot⟩, rfl⟩, rfl, rfl, rfl, rfl, hdata⟩

theorem vecBytes_accWords (f : Nat → Nat) (n : Nat) :
    vecBytes ((List.range n).map fun i => s.accWord k (f i)) =
      (List.range n).flatMap fun i => leBytes (leValue (s.bytes (accBase (k / 2) + f i) 4) % 2 ^ 32) 4 := by
  simp only [vecBytes, List.flatMap_map, State.accWord, BitVec.toNat_ofNat]

theorem tags_accWords (f : Nat → Nat) (n : Nat) :
    (((List.range n).map fun i => s.accWord k (f i)).map fun w => w.tag) =
      (List.range n).map fun i => min 24 (s.tagAt (accBase (k / 2) + f i)) := by
  simp only [List.map_map, Function.comp_def, State.accWord, clampTag, Nat.min_comm]

end

/-! Array cycles of a command of one run. -/

/-- The command behind a sampling cycle of its one run. -/
def Cmd.sampled (m : Cmd) (r : MxRun) (gs : List Got) : Cmd := { m with runs := [{ r with s := r.s + 1 }], got := m.got ++ gs }

theorem Cmd.sampled_spec (m : Cmd) (r : MxRun) (gs : List Got) :
    (m.sampled r gs).runs = [{ r with s := r.s + 1 }] ∧ (∀ g ∈ m.got, g ∈ (m.sampled r gs).got) ∧
      m.sampled r gs = { m with runs := (m.sampled r gs).runs, got := (m.sampled r gs).got } :=
  ⟨rfl, fun _ hg => List.mem_append_left _ hg, rfl⟩

theorem Cmd.mem_sampled {m : Cmd} {r : MxRun} {gs : List Got} {g : Got} (h : g ∈ gs) : g ∈ (m.sampled r gs).got :=
  List.mem_append_right _ h

theorem firstRun_singleton {m : Cmd} {r : MxRun} {p : MxRun → Bool} {t : MxRun → Option Nat} {n : Nat} (hr : m.runs = [r])
    (hp : p r = true) (ht : t r = some n) : firstRun m p t = some (0, r) := by
  simp [firstRun, hr, hp, ht]

section
variable {s : State} {k uid : Nat} {m : Cmd} {r : MxRun}

theorem State.mxSampleAt_pass (hop : r.op = 1 ∨ r.op = 2) (hs : r.s < r.u) (hl : r.s / r.per < r.lim) :
    s.mxSampleAt k m r = some (m.tau (s.core k) (r.k + r.s)) := by
  rcases hop with hop | hop <;> simp only [State.mxSampleAt, hop, hs, hl, and_self, if_true]

theorem State.mxSampleAt_step (hop : r.op = 4 ∨ r.op = 5) (hs : r.s * r.per < r.u) (hl : r.s < r.lim) :
    s.mxSampleAt k m r = some (m.tau (s.core k) (r.k + r.s * r.per)) := by
  rcases hop with hop | hop <;> simp only [State.mxSampleAt, hop, hs, hl, and_self, if_true]

theorem State.mxSampleAt_mld (hop : r.op = 6) (hs : r.s < r.u) (hl : 0 < r.lim) :
    s.mxSampleAt k m r = some (m.tau (s.core k) (r.k + r.s) + (s.tt k r.cls).aux) := by
  simp only [State.mxSampleAt, hop, hs, hl, and_self, if_true]

theorem Cmd.setRun_singleton (hr : m.runs = [r]) (r' : MxRun) : m.setRun 0 r' = { m with runs := [r'] } := by
  rw [Cmd.setRun, hr, List.set_cons_zero]

/-- The rows of A and of B that a pass samples in its next array cycle. -/
def State.passGot (s : State) (k : Nat) (r : MxRun) : List Got :=
  let q := r.s / r.per
  let c := r.s % r.per
  let (mb, nb) := r.blockOf q
  s.passRows k 0 q c r.per 0 r.a r.fa r.ba (32 * mb) (r.rowsIn mb) 128 ++
    s.passRows k 0 q c r.per 1 r.b r.fb r.bb (32 * nb) (r.colsIn nb) r.rowB

theorem execPassSample_eq (h : s.Runs k uid m r) (hq : s.Quiet k) (hop : r.op = 1 ∨ r.op = 2) (hs : r.s < r.u)
    (hl : r.s / r.per < r.lim) : exec (.passSample k uid) s = .next (s.setCmd k (m.sampled r (s.passGot k r))) := by
  have hrun : firstRun m (fun r => 1 ≤ r.op && r.op ≤ 2) (s.mxSampleAt k m) = some (0, r) :=
    firstRun_singleton h.runs (by rcases hop with hop | hop <;> simp [hop]) (State.mxSampleAt_pass hop hs hl)
  simp only [exec_passSample, execPassSample, h.cmd, hrun, hq.mxTransit, Cmd.setRun_singleton h.runs, List.append_assoc]
  rfl

/-- An `mrd` step samples its words and their tags, whatever poison they carry (R236). -/
theorem execMrdStepSample_eq (h : s.Runs k uid m r) (hq : s.Quiet k) (hop : r.op = 4) (hs : r.s * r.per < r.u) (hl : r.s < r.lim) :
    let ws := (List.range (r.colsIn (r.stepOf r.s).2)).map fun i =>
      s.accWord k (r.accOff (r.stepOf r.s).1 (32 * (r.stepOf r.s).2 + i))
    ∃ poison, exec (.mrdStepSample k uid) s =
      .next (s.setCmd k (m.sampled r [⟨0, r.s, 0, 0, vecBytes ws, [], [], ws.map fun w => w.tag, poison⟩])) := by
  have hrun : firstRun m (fun r => r.op == 4) (s.mxSampleAt k m) = some (0, r) :=
    firstRun_singleton h.runs (by simp [hop]) (State.mxSampleAt_step (.inl hop) hs hl)
  simp only [exec_mrdStepSample, execMrdStepSample, h.cmd, hrun, hq.mxTransit, Cmd.setRun_singleton h.runs]
  exact ⟨_, rfl⟩

/-- An `mwr` step samples its row segment (R238). -/
theorem execMwrStepSample_eq {w0 w1 : Word} (h : s.Runs k uid m r) (hq : s.Quiet k) (hop : r.op = 5) (hs : r.s * r.per < r.u)
    (hl : r.s < r.lim) (ha : r.a = .desc w0 w1) :
    ∃ tags poison, exec (.mwrStepSample k uid) s =
      .next (s.setCmd k (m.sampled r [⟨0, r.s, 0, 0,
        (s.mxRead k (rowAddr w0 w1 (r.stepOf r.s).1 + 32 * (r.stepOf r.s).2 * mrdWidth r.typ / 8)
          (r.colsIn (r.stepOf r.s).2 * mrdWidth r.typ / 8)).1, [], [], tags, poison⟩])) := by
  have hrun : firstRun m (fun r => r.op == 5) (s.mxSampleAt k m) = some (0, r) :=
    firstRun_singleton h.runs (by simp [hop]) (State.mxSampleAt_step (.inr hop) hs hl)
  simp only [exec_mwrStepSample, execMwrStepSample, h.cmd, hrun, hq.mxTransit, Cmd.setRun_singleton h.runs, ha]
  rw [← ha]
  exact ⟨_, _, rfl⟩

/-- Source row `g` as an `mld` samples it: 128 bytes and, of a scaled source, 16 scales, but no codebook entries (R239). -/
def State.mldRow (s : State) (k : Nat) (r : MxRun) (g : Nat) : Got :=
  let x := s.mxRow k r.a (if r.fa = 8 then 7 else r.fa) r.ba g 128
  ⟨0, 0, 0, g, x.1, x.2.1, [], [], x.2.2.2⟩

theorem execMldSample_eq (h : s.Runs k uid m r) (hq : s.Quiet k) (hop : r.op = 6) (hs : r.s < r.u) (hl : 0 < r.lim) :
    exec (.mldSample k uid) s = .next (s.setCmd k (m.sampled r ((List.range 4).map fun i => s.mldRow k r (4 * r.s + i)))) := by
  have hrun : firstRun m (fun r => r.op == 6) (s.mxSampleAt k m) = some (0, r) :=
    firstRun_singleton h.runs (by simp [hop]) (State.mxSampleAt_mld hop hs hl)
  simp only [exec_mldSample, execMldSample, h.cmd, hrun, hq.mxTransit, Cmd.setRun_singleton h.runs]
  rfl

end

theorem arraySamples : Claims.ArraySamples := by
  intro s k uid m r h hs hq hl more row nb
  refine ⟨?_, fun hop hu => ?_, fun hop hu w0 w1 w ha hw => ?_, fun hop w0 w1 ha => ?_⟩
  · intro hop q
    rw [if_pos (by omega)] at hl
    refine ⟨_, execPassSample_eq h hq hop hs hl, Cmd.sampled_spec m r _, fun i hi hslot w0 w1 w ha _ hw => ?_,
      fun i hi hslot b ha _ => ?_, fun i hi hslot w0 w1 w hb hf hw => ?_⟩
    · exact (State.mem_passRows hi hslot (State.mxRow_desc ha hw)).imp fun g hg => ⟨Cmd.mem_sampled (List.mem_append_left _ hg.1), hg.2⟩
    · exact (State.mem_passRows hi hslot (State.mxRow_ob ha)).imp fun g hg => ⟨Cmd.mem_sampled (List.mem_append_left _ hg.1), hg.2⟩
    · have hbytes : r.rowB = 128 := if_neg hf
      exact (State.mem_passRows hi hslot (hbytes ▸ State.mxRow_desc hb hw)).imp
        fun g hg => ⟨Cmd.mem_sampled (List.mem_append_right _ hg.1), hg.2⟩
  · rw [if_neg (by omega), if_neg (by omega)] at hl
    obtain ⟨poison, hexec⟩ := execMrdStepSample_eq h hq hop hu hl
    exact ⟨_, _, hexec, Cmd.sampled_spec m r _, Cmd.mem_sampled (List.mem_singleton_self _), rfl, rfl,
      vecBytes_accWords (fun i => r.accOff row (32 * nb + i)) _, tags_accWords (fun i => r.accOff row (32 * nb + i)) _⟩
  · rw [if_neg (by omega), if_neg (by omega)] at hl
    obtain ⟨tags, poison, hexec⟩ := execMwrStepSample_eq h hq hop hu hl ha
    exact ⟨_, _, hexec, Cmd.sampled_spec m r _, Cmd.mem_sampled (List.mem_singleton_self _), rfl, rfl, State.mxRead_window hw⟩
  · rw [if_neg (by omega), if_pos hop] at hl
    refine ⟨_, execMldSample_eq h hq hop hs hl, Cmd.sampled_spec m r _, fun i hi w hw _ => ?_⟩
    exact ⟨s.mldRow k r (4 * r.s + i), Cmd.mem_sampled (List.mem_map.mpr ⟨i, List.mem_range.mpr hi, rfl⟩), rfl, rfl,
      State.mxRow_desc ha hw⟩

/-- Settles O47: both start events take the plan's runs or its fault, and each kind of array cycle appends its samples to the command's. -/
theorem matrixStartsAndSamples : Obligations.MatrixStartsAndSamples := ⟨matrixCommandsStart, arraySamples⟩

end Sys2Proof.Machine
end

section
/-! The belfries: mailbox commands, the accesses of belfry queues and condemned units (10_cupola.md R252 to R258, 12_consistency.md R294). -/

namespace Sys2Proof.Machine

/-! What stands as it was, and what a write leaves. -/

section
variable {s t : State}

/-- Registers, system registers and loops live in the core table. -/
theorem State.keepsRegisters_of_cores (h : t.cores = s.cores) : s.KeepsRegisters t := fun j => by
  rw [State.core, h]
  exact ⟨rfl, rfl, rfl⟩

theorem State.writes_of_mem {a : Nat} {bs : List Byte} (h : t.mem = s.mem.write a bs) : s.Writes t a bs := fun b => by
  rw [h]
  split
  next hb =>
    obtain ⟨i, rfl⟩ := Nat.exists_eq_add_of_le hb.1
    rw [Nat.add_sub_cancel_left]
    exact Memory.get_write_same _ _ _ (by omega)
  next hb => exact Memory.get_write_other _ _ _ (by omega)

theorem leBytes_mod (v n : Nat) : leBytes (v % 256 ^ n) n = leBytes v n := by
  induction n generalizing v with
  | zero => rfl
  | succ n ih =>
    have hlow : BitVec.ofNat 8 (v % 256 ^ (n + 1)) = BitVec.ofNat 8 v := by
      rw [← BitVec.toNat_inj, BitVec.toNat_ofNat, BitVec.toNat_ofNat]
      exact Nat.mod_mod_of_dvd v (Nat.dvd_mul_left 256 (256 ^ n))
    have hhigh : v % 256 ^ (n + 1) / 256 = v / 256 % 256 ^ n := by
      rw [Nat.pow_succ, Nat.mul_comm, Nat.mod_mul_right_div_self]
    rw [leBytes, leBytes, hlow, hhigh, ih]

end

/-! The end of a mailbox command (R254). -/

section
variable (s : State) (box code : Nat)

theorem State.mailEnd_replied (hcode : code < 2 ^ 32) : (s.mailEnd box code).Replied box code := by
  refine ⟨?_, fun x hx => of_decide_eq_true (List.mem_filter.mp hx).2⟩
  rw [State.boxWord, State.mailEnd, State.setSt, State.setBoxWord, Memory.value_write_same, BitVec.toNat_ofNat, BitVec.toNat_ofNat]
  omega

/-- ST lies below the reply words. -/
theorem State.mailEnd_read_reply (n : Nat) :
    (s.mailEnd box code).mem.read (mailboxBase box + 0x100) n = s.mem.read (mailboxBase box + 0x100) n :=
  Memory.read_write_other _ _ _ (.inr (by rw [leBytes_length]; omega))

end

section
variable {s u : State} {i : Instr} {box code : Nat}

/-- A meaning that ends a command behind an update that keeps the cores. -/
theorem State.answers (he : exec i s = .next (u.mailEnd box code)) (hu : u.cores = s.cores) (hcode : code < 2 ^ 32) :
    ∃ t, exec i s = .next t ∧ s.KeepsRegisters t ∧ t.Replied box code :=
  ⟨_, he, State.keepsRegisters_of_cores hu, u.mailEnd_replied box code hcode⟩

/-- A meaning that writes reply bytes and ends its command. -/
theorem State.replies {bs : List Byte}
    (he : exec i s = .next ({ s with mem := s.mem.write (mailboxBase box + 0x100) bs }.mailEnd box 2)) :
    ∃ t, exec i s = .next t ∧ s.KeepsRegisters t ∧ t.Replied box 2 ∧ t.mem.read (mailboxBase box + 0x100) bs.length = bs :=
  ⟨_, he, State.keepsRegisters_of_cores rfl, State.mailEnd_replied _ _ _ (by decide),
    (State.mailEnd_read_reply _ _ _ _).trans (Memory.read_write_same _ _ _)⟩

end

/-! Served commands (R255). -/

section
variable {s : State} {i : Instr} {box cmd : Nat} {m : MailCmd} {host : Bool} {ok : MailCmd → Bool} {go : State → MailCmd → State}

theorem State.Serves.mailServe_eq (h : s.Serves box cmd m) : mailServe box cmd host ok go s =
    if 512 ≤ box ∧ cmd ≠ 3 then .next (s.mailEnd box 6)
    else if host && m.task then .next (s.mailEnd box 7)
    else if !ok m then .next (s.mailEnd box 6)
    else .next (go s m) := by
  rw [mailServe, h.mail]
  exact if_neg (not_or.mpr ⟨Decidable.not_not.mpr h.cmd, Nat.not_lt.mpr h.due⟩)

/-- On the mailboxes of the I/O dies only READUNIT passes. -/
theorem State.Serves.onIoDie (h : s.Serves box cmd m) (hi : exec i s = mailServe box cmd host ok go s) (hbox : 512 ≤ box)
    (hcmd : cmd ≠ 3) : exec i s = .next (s.mailEnd box 6) := by
  rw [hi, h.mailServe_eq, if_pos ⟨hbox, hcmd⟩]

theorem State.Serves.fromTask (h : s.Serves box cmd m) (hi : exec i s = mailServe box cmd true ok go s) (hbox : box < 512)
    (htask : m.task = true) : exec i s = .next (s.mailEnd box 7) := by
  rw [hi, h.mailServe_eq, if_neg (by omega), if_pos (by rw [htask]; rfl)]

theorem State.Serves.refused (h : s.Serves box cmd m) (hi : exec i s = mailServe box cmd host ok go s) (hbox : box < 512 ∨ cmd = 3)
    (hhost : (host && m.task) = false) (hok : ok m = false) : exec i s = .next (s.mailEnd box 6) := by
  rw [hi, h.mailServe_eq, if_neg (by omega), hhost, if_neg Bool.false_ne_true, hok, if_pos (by rfl)]

theorem State.Serves.carriedOut (h : s.Serves box cmd m) (hi : exec i s = mailServe box cmd host ok go s) (hbox : box < 512 ∨ cmd = 3)
    (hhost : (host && m.task) = false) (hok : ok m = true) : exec i s = .next (go s m) := by
  rw [hi, h.mailServe_eq, if_neg (by omega), hhost, if_neg Bool.false_ne_true, hok, if_neg (by decide)]

end

/-! Commands that read and set (R252, R255, R257, R363). -/

/-- The words of a READUNIT reply of a spire's mailbox (R255, R363). -/
theorem readunit_bytes (u : UnitRec) (p : Prop) [Decidable p] (ecc : Nat → Nat) :
    ([u.divc, u.injc] ++ (List.range 16).map (fun i => ((u.times.drop (u.times.length - 16)).getD i 0).toNat) ++
        if p then (List.range 4).map ecc else []).flatMap (leBytes · 8) =
      leBytes u.divc 8 ++ leBytes u.injc 8 ++
        ((List.range 16).flatMap fun i => leBytes ((u.times.drop (u.times.length - 16)).getD i 0).toNat 8) ++
        if p then (List.range 4).flatMap fun i => leBytes (ecc i) 8 else [] := by
  rw [List.flatMap_append, List.flatMap_append, List.flatMap_map, apply_ite (List.flatMap _), List.flatMap_map]
  simp only [List.flatMap_cons, List.flatMap_nil, List.append_nil]

section
variable {s : State} {box : Nat} {m : MailCmd}

theorem State.Serves.query (h : s.Serves box 1 m) (hbox : box < 512) (harg : m.arg 0 < 8) :
    exec (.query box) s = .next ({ s with
      mem := s.mem.write (mailboxBase box + 0x100) (s.allocMap (box / 128 * 8 + m.arg 0)).image }.mailEnd box 2) :=
  h.carriedOut (exec_query ..) (.inl hbox) rfl (decide_eq_true harg)

theorem State.Serves.readtt (h : s.Serves box 2 m) (hbox : box < 512) (hr : ruidIn box (m.ruid 0) = true) :
    exec (.readtt box) s = .next ({ s with
      mem := s.mem.write (mailboxBase box + 0x100) (ttImage (s.spire (ruidSpire (m.ruid 0))).tt) }.mailEnd box 2) :=
  h.carriedOut (exec_readtt ..) (.inl hbox) rfl hr

theorem State.Serves.readunit (h : s.Serves box 3 m) (hbox : box < 512) (hr : ruidIn box (m.ruid 0) = true) :
    let u := s.unit (m.ruid 0)
    exec (.readunit box) s = .next ({ s with
      mem := s.mem.write (mailboxBase box + 0x100) (leBytes u.divc 8 ++ leBytes u.injc 8 ++
        ((List.range 16).flatMap fun i => leBytes ((u.times.drop (u.times.length - 16)).getD i 0).toNat 8) ++
        if ruidType (m.ruid 0) = 7 then
          (List.range 4).flatMap fun i => leBytes (alGet 0 s.bel.ecc (16 + 4 * ruidSpire (m.ruid 0) + i)) 8 else []) }.mailEnd box 2) := by
  have hspire : ¬ 512 ≤ box := Nat.not_le.mpr hbox
  dsimp only
  rw [← readunit_bytes, h.carriedOut (exec_readunit ..) (.inr rfl) rfl ((if_neg hspire).trans hr), if_neg hspire]
  rfl

theorem State.Serves.readunit_ioDie (h : s.Serves box 3 m) (hbox : 512 ≤ box) (harg : m.arg 0 < 12) :
    exec (.readunit box) s = .next ({ s with
      mem := s.mem.write (mailboxBase box + 0x100) (leBytes (alGet 0 s.bel.ecc (m.arg 0)) 8) }.mailEnd box 2) := by
  rw [h.carriedOut (exec_readunit ..) (.inr rfl) rfl ((if_pos hbox).trans (decide_eq_true harg)), if_pos hbox]
  rfl

end

theorem mailboxCommands : Claims.MailboxCommands := by
  intro s box m done replies
  have hdone : ∀ {i code}, exec i s = .next (s.mailEnd box code) → code < 2 ^ 32 → done i code := fun he => State.answers he rfl
  refine ⟨fun h => ⟨?_, ?_, ?_⟩, fun h hbox => ⟨?_, ?_⟩, fun h => ⟨?_, ?_, ?_⟩, fun h hbox => ⟨?_, ?_, ?_⟩, fun h hbox htask => ⟨?_, ?_⟩⟩
  · exact fun hbox harg => State.replies (h.query hbox harg)
  · intro harg
    rcases Nat.lt_or_ge box 512 with hbox | hbox
    · exact hdone (h.refused (exec_query ..) (.inl hbox) rfl (decide_eq_false (Nat.not_lt.mpr harg))) (by decide)
    · exact hdone (h.onIoDie (exec_query ..) hbox (by decide)) (by decide)
  · exact fun hbox => hdone (h.onIoDie (exec_query ..) hbox (by decide)) (by decide)
  · exact fun hr => State.replies (h.readtt hbox hr)
  · exact fun hr => hdone (h.refused (exec_readtt ..) (.inl hbox) rfl hr) (by decide)
  · exact fun hbox hr => State.replies (h.readunit hbox hr)
  · exact fun hbox harg => State.replies (h.readunit_ioDie hbox harg)
  · exact fun hbox harg => hdone (h.refused (exec_readunit ..) (.inr rfl) rfl
      ((if_pos hbox).trans (decide_eq_false (Nat.not_lt.mpr harg)))) (by decide)
  · intro htask htype hlow hhigh
    refine ⟨_, h.carriedOut (exec_setthr ..) (.inl hbox) htask ?_, State.mailEnd_replied _ _ _ (by decide),
      State.keepsRegisters_of_cores rfl, alGet_alSet_same (0, 0) s.bel.thr ..⟩
    simp only [htype, hlow, hhigh, decide_true, Bool.and_self]
  · intro htask hbad
    refine hdone (h.refused (exec_setthr ..) (.inl hbox) htask ?_) (by decide)
    simp only [Bool.and_eq_false_iff, decide_eq_false_iff_not]
    omega
  · exact fun htask => hdone (h.fromTask (exec_setthr ..) hbox htask) (by decide)
  · intro hcup hresv
    refine ⟨_, h.carriedOut (exec_setresv ..) (.inl hbox) htask ?_, State.mailEnd_replied _ _ _ (by decide),
      State.keepsRegisters_of_cores rfl, alGet_alSet_same AllocMap.zero s.bel.maps ..⟩
    simp only [hcup, hresv, decide_true, Bool.and_self]
  · intro hbad
    refine hdone (h.refused (exec_setresv ..) (.inl hbox) htask ?_) (by decide)
    simp only [Bool.and_eq_false_iff, decide_eq_false_iff_not]
    omega

/-! Accesses of a belfry's queue (R294, R336). -/

theorem State.landBytes_mem (s : State) (flat : Nat) (bs : List Byte) (tags : List Nat) (keep : Bool) (p : Nat) :
    (s.landBytes flat bs tags keep p).mem = s.mem.write flat bs := by
  rw [State.landBytes, State.landPoison_mem]

/-- The memory behind an atomic addition to 8 bytes (R281): the sum wraps as its bytes do. -/
theorem State.atomicAt_add_mem (s : State) (a : Nat) (v cmp : Word) :
    (s.atomicAt a .add true v cmp).1.mem = s.mem.write a (leBytes (leValue (s.bytes a 8) + v.toNat) 8) := by
  have hsum : (BitVec.ofNat 64 (leValue (s.bytes a 8)) + v).toNat = (leValue (s.bytes a 8) + v.toNat) % 256 ^ 8 := by
    rw [BitVec.toNat_add, BitVec.toNat_ofNat, Nat.mod_add_mod, show 2 ^ 64 = 256 ^ 8 from rfl]
  calc (s.atomicAt a .add true v cmp).1.mem
      = s.mem.write a (leBytes (BitVec.ofNat 64 (leValue (s.bytes a 8)) + v).toNat 8) := s.landBytes_mem _ _ [] false 0
    _ = _ := by rw [hsum, leBytes_mod]

theorem State.atomicAt_cores (s : State) (a : Nat) (op : AtomicOp) (w64 : Bool) (v cmp : Word) :
    (s.atomicAt a op w64 v cmp).1.cores = s.cores := s.landBytes_cores _ _ [] false 0

theorem belfriesAccess : Claims.BelfriesAccess := by
  intro s b q
  refine ⟨fun a bs hfit => ?_, fun a v hfit => ?_, fun k mask => rfl, fun n => rfl, fun slot key hslot hlen => ?_⟩
  · refine ⟨_, rfl, ?_⟩
    rw [if_neg (Nat.not_lt.mpr hfit)]
    exact ⟨State.writes_of_mem (s.landBytes_mem ..), State.keepsRegisters_of_cores (s.landBytes_cores ..)⟩
  · refine ⟨_, rfl, ?_⟩
    rw [if_neg (Nat.not_lt.mpr hfit)]
    exact ⟨State.keepsRegisters_of_cores (s.atomicAt_cores ..), State.writes_of_mem (s.atomicAt_add_mem ..)⟩
  · refine ⟨_, rfl, ?_⟩
    rw [State.enrolKey, if_neg (by omega)]
    exact ⟨⟨State.keepsRegisters_of_cores rfl, rfl⟩, alGet_alSet_same .., fun n hn => alGet_alSet_other _ _ _ hn⟩

/-- Settles O55: a served command is refused by the checks in their order or has its effect, and the reply words lie above ST. -/
theorem mailboxesAndBelfryAccesses : Obligations.MailboxesAndBelfryAccesses := ⟨mailboxCommands, belfriesAccess⟩

/-! Condemned units (R253, R255). -/

/-- A condemnation that takes the place of a waiting repair without a mailbox leaves the unit's record as it was. -/
theorem State.condemnUnit_waiting {s : State} {r : Nat} (box : Option Nat)
    (h : (s.bel.repairs.any fun x => x.ruid == r && x.box.isNone) = true) : (s.condemnUnit r box).unit r = s.unit r := by
  rw [State.condemnUnit, if_pos h]
  rfl

/-- A CONDEMN of unit 0 from mailbox 0. -/
def condemnZero : MailCmd := ⟨4, [], 0, false⟩

/-- A package in which unit 0 waits for its replacement, and its record does not say that it is condemned. -/
def unmarkedRepair : State := { State.reset with bel := { Belfries.zero with mail := [(0, condemnZero)], repairs := [⟨0, none⟩] } }

theorem unmarkedRepair_serves : unmarkedRepair.Serves 0 4 condemnZero := ⟨rfl, rfl, Nat.le_refl 0⟩

/-- Refutes O56: no premise says that the record of a unit up for replacement is marked. Where the unit's repair waits without a mailbox,
CONDEMN puts the mailbox into it and writes back the belfries' old table of units, in which the mark is missing. -/
theorem not_unitsAndImages : ¬ Obligations.UnitsAndImages := by
  intro h
  obtain ⟨hreplaced, -⟩ := h
  obtain ⟨hcondemn, -⟩ := hreplaced unmarkedRepair
  have hunit : ruidIn 0 (condemnZero.ruid 0) = true := by decide
  obtain ⟨t, ht, -, hmark, -⟩ := (hcondemn 0 condemnZero unmarkedRepair_serves (by decide) rfl hunit).1 rfl
  have hexec := unmarkedRepair_serves.carriedOut (exec_condemn ..) (.inl (by decide)) rfl hunit
  rw [hexec, Host.Outcome.next.injEq] at ht
  subst ht
  rw [if_neg (by decide), State.condemnUnit_waiting] at hmark
  case h => decide
  exact absurd hmark (by decide)

end Sys2Proof.Machine
end

section
/-! Fabric commands at issue, circuit sends and stream transfers (17_fabric.md R367 to R379). -/

namespace Sys2Proof.Machine

/-! Issue (R375 to R379). -/

theorem Core.fenced_eq_false {c : Core} {n start : Nat} (h : c.unfenced n start) : c.e.fenced n start = false := by
  simp only [Engines.fenced, List.any_eq_false, Bool.and_eq_true, decide_eq_true_eq, not_and, Nat.not_lt]
  exact h

theorem Launch.circuit_of_ftt {x : Launch} {f : Ftt} {c : Circuit} {i : Nat} (hx : x.ftt = some f) (hc : f.circuits[i]? = some c) :
    x.circuit i = some (f, c) := by
  rw [Launch.circuit, hx]
  dsimp only
  rw [hc, Option.map_some]

/-- The state behind a syllable that hands a fabric command to its core's engines: its first frame kept, its queue and the fabric's last
landing moved to its own. -/
def State.fabQueued (s : State) (q : Cursor) (args : FabArgs) (start n0 land key : Nat) : State :=
  s.commanded q { s.command q (.fab args) 4 start land with regs := [BitVec.ofNat 64 n0] } fun e =>
    { e with fabLast := alSet e.fabLast key land, lastLand := e.lastLand.set 4 (max (e.last 4) land) }

section
variable {s : State} {q : Cursor} {l : BitVec 11} {i : Instr} (hq : s.cur = some q) (htl : (s.core q.core).tl = 0)
include hq htl

/-- A fabric syllable at TL0 whose own checks give a first frame, a landing and a queue, behind the last command of that queue and no
fence, is queued (R137, R377 to R379). -/
theorem State.fab_queued {args : FabArgs} {g : Launch → Nat → Except Trap (Nat × Nat × Nat)} {n0 land key : Nat}
    {f : Ctx → Except Trap Core} (hi : exec i s = s.syllable f) (hf : f (s.ctx q) = (s.ctx q).fabIssue l.toNat args g)
    (hg : g (s.launchOf q.core) ((s.core q.core).clk + l.toNat) = .ok (n0, land, key))
    (hlast : alGet 0 (s.core q.core).e.fabLast key ≤ (s.core q.core).clk + l.toNat)
    (hfence : (s.core q.core).unfenced 4 ((s.core q.core).clk + l.toNat)) :
    exec i s = .next (s.fabQueued q args ((s.core q.core).clk + l.toNat) n0 land key) := by
  have hlevel : ¬ 1 ≤ (s.core q.core).tl := by omega
  have hfree : ¬ ((s.core q.core).clk + l.toNat < alGet 0 (s.core q.core).e.fabLast key ∨
      (s.core q.core).e.fenced 4 ((s.core q.core).clk + l.toNat) = true) := by
    rw [Core.fenced_eq_false hfence]
    exact not_or.mpr ⟨Nat.not_lt.mpr hlast, Bool.false_ne_true⟩
  rw [hi]
  refine State.syllable_ok hq (hf.trans ((if_neg hlevel).trans ?_))
  dsimp only [State.ctx]
  rw [hg]
  exact if_neg hfree

/-- A receive of a circuit of the task, with flits to take and a skew budget in range, is queued behind its frames (R379). -/
theorem frecv_queued {op : Nat} {a b : BitVec 5} {f : Ftt} {c : Circuit} (hi : exec i s = frecv op a b l s)
    (hftt : (s.launchOf q.core).ftt = some f) (hc : f.circuits[((s.core q.core).engReg 0x19).toNat % 2 ^ 12]? = some c)
    (hflits : 1 ≤ field ((s.core q.core).engReg 0x19) 32 16 ∧ field ((s.core q.core).engReg 0x19) 32 16 ≤ 16384)
    (hskw : ((s.core q.core).engReg 0x1B).toNat % 2 ^ 12 ≤ 2048) (hpkg : c.dpkg = f.self) (htask : c.dtask = (s.core q.core).taskNo)
    (hlast : alGet 0 (s.core q.core).e.fabLast (recvKey (((s.core q.core).engReg 0x19).toNat % 2 ^ 12)) ≤ (s.core q.core).clk + l.toNat)
    (hfence : (s.core q.core).unfenced 4 ((s.core q.core).clk + l.toNat)) :
    let start := (s.core q.core).clk + l.toNat
    let n0 := c.next f (cdiv (start - f.hopmax) 8)
    exec i s = .next (s.fabQueued q ⟨true, op, (s.ctx q).sc 0 a, if op = 0 then 0 else (s.ctx q).sc 1 b, (s.core q.core).engReg 0x19, 0,
      (s.core q.core).engReg 0x1B⟩ start n0 (8 * c.flitFrame f n0 (field ((s.core q.core).engReg 0x19) 32 16 - 1) + f.hopmax + 4)
      (recvKey (((s.core q.core).engReg 0x19).toNat % 2 ^ 12))) := by
  refine State.fab_queued hq htl hi (if_neg ?_) ?_ hlast hfence
  · rw [field_low]
    exact not_or.mpr ⟨Nat.one_le_iff_ne_zero.mp hflits.1, not_or.mpr ⟨Nat.not_lt.mpr hflits.2, Nat.not_lt.mpr hskw⟩⟩
  · rw [← field_low] at hc ⊢
    dsimp only [State.ctx]
    rw [Launch.circuit_of_ftt hftt hc]
    exact if_neg (not_or.mpr ⟨not_not.mpr hpkg, not_not.mpr htask⟩)

end

/-- Settles O37: each form's checks pass and give the landing, and behind its queue's last command and no fence it is queued. -/
theorem fabricCommandsIssue : Obligations.FabricCommandsIssue := by
  intro s q a b l f hq k x fsnd fslt frcv fskw start task queued htl hftt
  refine ⟨?_, ?_, ?_⟩
  · intro c hc hstrm hrel hb nfl hpos hmax hpkg htask hslot hgrant hlast hfence
    have hsend : field ((s.ctx q).c.engReg 0x18) 63 1 = 0 := (congrArg (· % 2 ^ 1) hstrm).trans (Nat.zero_mod _)
    have hdata : field ((s.ctx q).c.engReg 0x18) 62 1 = 0 := hrel
    have hflits : 1 ≤ field ((s.ctx q).c.engReg 0x18) 32 16 ∧ field ((s.ctx q).c.engReg 0x18) 32 16 ≤ 16384 := ⟨hpos, hmax⟩
    rw [← field_low] at hc hlast ⊢
    have hcirc : (s.launchOf q.core).circuit (field ((s.ctx q).c.engReg 0x1A) 0 12) = some (f, c) := Launch.circuit_of_ftt hftt hc
    refine State.fab_queued hq htl (exec_fsend ..) (if_neg ?_) ?_ hlast hfence
    · simp [hsend, hdata, hb]
      omega
    · dsimp only
      rw [hsend, if_neg (by decide), hcirc]
      exact if_neg (not_or.mpr ⟨not_not.mpr hpkg, not_or.mpr ⟨not_not.mpr htask,
        not_or.mpr ⟨not_not.mpr hslot, ne_true_of_eq_false (congrArg not hgrant)⟩⟩⟩)
  · intro nfl rel str hstrm hdata hrel hstr hlast hfence
    have hstream : field ((s.ctx q).c.engReg 0x18) 63 1 = 1 := congrArg (· % 2 ^ 1) hstrm
    refine State.fab_queued hq htl (exec_fsend ..) (if_neg ?_) ?_ hlast hfence
    · by_cases hr : rel = 1
      · simp [hstream, show field ((s.ctx q).c.engReg 0x18) 62 1 = 1 from hr, show field ((s.ctx q).c.engReg 0x18) 32 16 = 0 from hrel hr]
      · have hflits : 1 ≤ field ((s.ctx q).c.engReg 0x18) 32 16 ∧ field ((s.ctx q).c.engReg 0x18) 32 16 ≤ 16384 := hdata (by omega)
        simp [hstream, show field ((s.ctx q).c.engReg 0x18) 62 1 ≠ 1 from hr]
        omega
    · dsimp only
      rw [hstream, if_pos (by decide), hftt]
      refine (if_neg (Nat.not_le.mpr hstr)).trans ?_
      simp only [beq_iff_eq]
      rfl
  · intro c hc nfl n0 hpos hmax hskw hpkg htask takes
    exact ⟨frecv_queued hq htl (exec_frecv ..) hftt hc ⟨hpos, hmax⟩ hskw hpkg htask,
      frecv_queued hq htl (exec_frecvAddF32 ..) hftt hc ⟨hpos, hmax⟩ hskw hpkg htask,
      frecv_queued hq htl (exec_frecvAddBf16 ..) hftt hc ⟨hpos, hmax⟩ hskw hpkg htask,
      frecv_queued hq htl (exec_frecvMaxF32 ..) hftt hc ⟨hpos, hmax⟩ hskw hpkg htask⟩

end Sys2Proof.Machine
end

section
/-! Circuit sends and stream transfers (17_fabric.md R377, R378). -/

namespace Sys2Proof.Machine

/-! What stands as it was. -/

section
variable {s t u : State}

theorem State.KeepsRegisters.trans (h : s.KeepsRegisters t) (h' : t.KeepsRegisters u) : s.KeepsRegisters u := fun j => by
  obtain ⟨hr, hx, hl⟩ := h j
  obtain ⟨hr', hx', hl'⟩ := h' j
  exact ⟨hr'.trans hr, hx'.trans hx, hl'.trans hl⟩

theorem State.KeepsAll.trans (h : s.KeepsAll t) (h' : t.KeepsAll u) : s.KeepsAll u := ⟨h.1.trans h'.1, h'.2.trans h.2⟩

theorem State.keepsAll_of_cores (hc : t.cores = s.cores) (hm : t.mem = s.mem) : s.KeepsAll t := ⟨State.keepsRegisters_of_cores hc, hm⟩

theorem State.keepsAll_setCmd (s : State) (k : Nat) (m : Cmd) : s.KeepsAll (s.setCmd k m) := State.keepsAll_setCore rfl rfl rfl

theorem State.setCmd_port (s : State) (k : Nat) (m : Cmd) (p : Nat) : (s.setCmd k m).port p = s.port p := rfl

theorem State.cmd_modPort_setCmd {k uid p : Nat} {m m' : Cmd} {g : Port → Port} (h : (s.core k).cmd uid = some m) (hu : m'.uid = m.uid) :
    (((s.modPort p g).setCmd k m').core k).cmd uid = some m' := by
  rw [State.setCmd, State.core_modCore_same]
  exact Core.cmd_setCmd h (hu.trans (Core.uid_of_cmd h))

theorem State.keepsAll_modPort (s : State) (p : Nat) (g : Port → Port) : s.KeepsAll (s.modPort p g) := State.keepsAll_of_cores rfl rfl

end

/-! The start and the end of a command (R345, R377). -/

section
variable {s : State} {k uid : Nat} {m : Cmd} {f : FabArgs}

theorem State.Quiet.fabStart_ok (hq : s.Quiet k) (h : s.fabCheck k f = none) :
    s.fabStart k m f = s.setCmd k { m with started := true, pages := [] } := by
  have hq' : (s.setCmd k { m with started := true, pages := [] }).Quiet k := hq
  rw [State.fabStart, h]
  exact hq'.engineRecord ..

theorem State.fabStart_fault {e : Trap} (h : s.fabCheck k f = some e) : s.fabStart k m f = s.engineFault k m e true := by
  rw [State.fabStart, h]
  rfl

theorem State.Quiet.endCmd (hq : s.Quiet k) : s.endCmd k m = s.modCore k (·.endCmd m.uid) := by
  rw [State.endCmd, hq.engineRecord]

/-- A fault falls due for a command that has none. -/
theorem State.engineFault_due_of_first (e : Trap) (eng : Bool)
    (hfirst : ((s.core k).p.dues.any fun d => d.cmd == some (m.uid, m.queue, m.syll)) = false) :
    (s.engineFault k m e eng).FaultDue k m e := by
  rw [State.FaultDue, State.engineFault, State.core_modCore_same, Core.modP_p]
  dsimp only
  rw [hfirst, if_neg Bool.false_ne_true]
  exact ⟨_, List.mem_append_right _ (List.mem_singleton_self _), rfl, rfl, rfl, rfl, rfl, rfl, rfl, rfl, rfl, rfl⟩

theorem Core.cmd_endCmd (c : Core) (uid : Nat) : (c.endCmd uid).cmd uid = none := by
  simp [Core.cmd, Core.endCmd]

end

/-! Circuit sends (R367, R370, R377). -/

section
variable {s : State} {k uid : Nat} {m : Cmd} {f : FabArgs}

/-- A field of one bit is set where its bit is. -/
theorem field_bit (w : Word) (lo : Nat) : (field w lo 1 == 1) = w.getLsbD lo := by
  rw [BitVec.getLsbD, Nat.testBit_eq_decide_div_mod_eq]
  rfl

theorem FabArgs.stream_eq (hr : f.recv = false) : f.stream = f.desc.getLsbD 63 := by
  rw [FabArgs.stream, hr, field_bit, Bool.not_false, Bool.true_and]

theorem State.flitAt_window {a : Nat} {w : Win} (h : (s.launchOf k).window a 1 = some w) :
    s.flitAt k a = ⟨(s.chipFmt w.flat).1, (s.chipFmt w.flat).2, 1, s.bytes w.flat 64⟩ := by
  rw [State.flitAt, h]

/-- A flit of a send as it enters its port. -/
def State.sendFlit (s : State) (k : Nat) (m : Cmd) (f : FabArgs) (ft : Ftt) (c : Circuit) : TxFlit :=
  ⟨(s.core k).f.task.launch, c.flitFrame ft m.frame0 m.sPos, c.flitPos m.sPos, s.flitAt k (f.sa.toNat + 64 * m.sPos)⟩

theorem execFlitSample_start (hc : (s.core k).cmd uid = some m) (hk : m.kind = .fab f) (hr : f.recv = false) (hs : f.stream = false)
    (hm : m.started = false) : exec (.flitSample k uid) s = .next (s.fabStart k m f) := by
  rw [exec_flitSample, execFlitSample, hc]
  simp only [hk, hr, hs, hm, Bool.or_self, Bool.false_eq_true, if_false, Bool.not_false, if_true]

theorem execFlitSample_end (hc : (s.core k).cmd uid = some m) (hk : m.kind = .fab f) (hr : f.recv = false) (hs : f.stream = false)
    (hm : m.started = true) (hn : f.nfl ≤ m.sPos) : exec (.flitSample k uid) s = .next (s.endCmd k m) := by
  rw [exec_flitSample, execFlitSample, hc]
  simp only [hk, hr, hs, hm, hn, Bool.or_self, Bool.false_eq_true, if_false, Bool.not_true, if_true]

theorem execFlitSample_sample (hc : (s.core k).cmd uid = some m) (hk : m.kind = .fab f) (hr : f.recv = false) (hs : f.stream = false)
    (hm : m.started = true) (hn : m.sPos < f.nfl) (hi : (s.core k).inj 6 = false) {ft : Ftt} {c : Circuit}
    (hcirc : (s.launchOf k).circuit (field f.slt 0 12) = some (ft, c)) :
    exec (.flitSample k uid) s = .next ((s.modPort c.sport fun p => { p with tx := p.tx ++ [s.sendFlit k m f ft c] }).setCmd k
      { m with sPos := m.sPos + 1 }) := by
  rw [exec_flitSample, execFlitSample, hc]
  simp only [hk, hr, hs, hm, Nat.not_le.mpr hn, hcirc, hi, Bool.or_self, Bool.false_eq_true, if_false, Bool.not_true, Bool.or_false]
  rfl

end

theorem circuitSends : Claims.CircuitSends := by
  intro s k uid m f h hk hr hd hq
  have hs : f.stream = false := (FabArgs.stream_eq hr).trans hd
  refine ⟨fun hm hok => ?_, fun hm e hbad => ?_, fun hm hn hi ft c w hcirc hw => ?_, fun hm hn => ?_⟩
  · rw [execFlitSample_start h.cmd hk hr hs hm, hq.fabStart_ok hok]
  · refine ⟨_, execFlitSample_start h.cmd hk hr hs hm, ?_⟩
    rw [State.fabStart_fault hbad]
    exact ⟨s.keepsAll_engineFault .., h.engineFault_due ..⟩
  · rw [← field_low] at hcirc
    have hflit : (s.sendFlit k m f ft c).flit = ⟨(s.chipFmt w.flat).1, (s.chipFmt w.flat).2, 1, s.bytes w.flat 64⟩ := State.flitAt_window hw
    refine ⟨_, s.sendFlit k m f ft c, execFlitSample_sample h.cmd hk hr hs hm hn hi hcirc,
      (s.keepsAll_modPort ..).trans (State.keepsAll_setCmd ..), State.cmd_modPort_setCmd h.cmd rfl, ?_, ?_, rfl, rfl,
      rfl, congrArg Flit.data hflit, hflit ▸ rfl⟩
    · rw [State.setCmd_port, State.port_modPort_same]
    · exact fun p hp => (State.setCmd_port ..).trans (State.port_modPort_other s _ hp)
  · refine ⟨_, execFlitSample_end h.cmd hk hr hs hm hn, ?_⟩
    rw [hq.endCmd, State.core_modCore_same, ← Core.uid_of_cmd h.cmd]
    exact ⟨State.keepsAll_setCore rfl rfl rfl, Core.cmd_endCmd ..⟩

/-! Stream transfers at their source (R378). -/

section
variable {s : State} {k uid : Nat} {m : Cmd} {f : FabArgs}

theorem execStreamFlitSample_misaligned (hc : (s.core k).cmd uid = some m) (hk : m.kind = .fab f) (hr : f.recv = false)
    (hs : f.stream = true) (hm : m.started = false) (hn : f.nfl ≠ 0) (ha : f.sb.toNat % 64 ≠ 0) :
    exec (.streamFlitSample k uid) s = .next (s.engineFault k m (engTrap 14 akDst f.sb.toNat) true) := by
  rw [exec_streamFlitSample, execStreamFlitSample, hc]
  simp only [hk, hr, hs, hm, if_pos (And.intro hn ha), Bool.not_true, Bool.or_self, Bool.false_eq_true, if_false, Bool.not_false, if_true]

/-- The bridge port of a stream transfer. -/
def State.bridgePort (s : State) (k : Nat) (f : FabArgs) : Nat :=
  (((s.launchOf k).ftt.map fun t => t.streams.getD (field f.slt 12 6) default).map StreamDef.port).getD 0

/-- The item that a stream transfer samples next. -/
def State.streamItem (s : State) (k : Nat) (m : Cmd) (f : FabArgs) : StreamItem :=
  ⟨(s.core k).f.task.launch, field f.slt 12 6, f.sb.toNat + 64 * m.sPos, f.nfl == 0,
    if f.nfl == 0 then [] else (s.flitAt k (f.sa.toNat + 64 * m.sPos)).data⟩

theorem execStreamFlitSample_full (hc : (s.core k).cmd uid = some m) (hk : m.kind = .fab f) (hr : f.recv = false)
    (hs : f.stream = true) (hm : m.started = true) (hn : m.sPos < max 1 f.nfl) (hfull : 1024 ≤ (s.port (s.bridgePort k f)).stream.length) :
    exec (.streamFlitSample k uid) s = .next ((s.setCmd k { m with cut := true }).engineFault k m (trapSlip 2) false) := by
  rw [State.bridgePort] at hfull
  rw [exec_streamFlitSample, execStreamFlitSample, hc]
  simp only [hk, hr, hs, hm, Nat.not_le.mpr hn, hfull, Bool.not_true, Bool.or_self, Bool.false_eq_true, if_false, if_true]

theorem execStreamFlitSample_sample (hc : (s.core k).cmd uid = some m) (hk : m.kind = .fab f) (hr : f.recv = false)
    (hs : f.stream = true) (hm : m.started = true) (hn : m.sPos < max 1 f.nfl) (hroom : (s.port (s.bridgePort k f)).stream.length < 1024) :
    exec (.streamFlitSample k uid) s =
      .next ((s.modPort (s.bridgePort k f) fun p => { p with stream := p.stream ++ [s.streamItem k m f] }).setCmd k
        { m with sPos := m.sPos + 1 }) := by
  rw [State.bridgePort] at hroom
  rw [exec_streamFlitSample, execStreamFlitSample, hc]
  simp only [hk, hr, hs, hm, Nat.not_le.mpr hn, Nat.not_le.mpr hroom, Bool.not_true, Bool.or_self, Bool.false_eq_true, if_false]
  rfl

theorem Core.setCmd_dues (c : Core) (m : Cmd) : (c.setCmd m).p.dues = c.p.dues := rfl

/-- A command cut short holds no due fault of its own. -/
theorem State.Holds.cut_due (h : s.Holds k uid m) (e : Trap) :
    ((s.setCmd k { m with cut := true }).engineFault k m e false).FaultDue k m e := by
  have hfirst : (((s.setCmd k { m with cut := true }).core k).p.dues.any fun d => d.cmd == some (m.uid, m.queue, m.syll)) = false := by
    rw [State.setCmd, State.core_modCore_same, Core.setCmd_dues]
    simpa only [List.any_eq_false, beq_iff_eq] using h.sound
  exact State.engineFault_due_of_first e false hfirst

end

/-! Walks (R261, R265). -/

section
variable {s : State}

theorem State.walkFrom_modPort (p : Nat) (g : Port → Port) (asid va level frame : Nat) :
    (s.modPort p g).walkFrom asid va level frame = s.walkFrom asid va level frame := by
  induction level generalizing frame with
  | zero => rfl
  | succ level ih =>
    rw [State.walkFrom, State.walkFrom, ih]
    rfl

theorem State.walk_modPort (p : Nat) (g : Port → Port) (asid root va : Nat) : (s.modPort p g).walk asid root va = s.walk asid root va := by
  rw [State.walk, State.walkFrom_modPort, State.walk]

theorem leafOk_bound {p : Word} {frames : Nat} (h : leafOk p frames = true) : pteFrame p + frames ≤ frameCount := by
  simp only [leafOk, Bool.and_eq_true, decide_eq_true_eq] at h
  exact h.1.2

/-- A translation whose page lies in device frame space, however large the page is. -/
def TlbEntry.InFrames (e : TlbEntry) (va : Nat) : Prop := pteFrame e.pte + (va - e.va) / 4096 < frameCount

/-- A page of `n` frames on a boundary of its own size holds the frame of its address. -/
theorem TlbEntry.inFrames_of_leafOk {asid va n : Nat} {p : Word} (hn : 0 < n) (h : leafOk p n = true) :
    TlbEntry.InFrames ⟨asid, va / (4096 * n) * (4096 * n), 4096 * n, p⟩ va := by
  have hoff : va - va / (4096 * n) * (4096 * n) = va % (4096 * n) := by
    rw [Nat.mul_comm, ← Nat.mod_eq_sub_mul_div]
  have hpage : va % (4096 * n) / 4096 < n := Nat.div_lt_of_lt_mul (Nat.mod_lt _ (by omega))
  have hbound := leafOk_bound h
  rw [TlbEntry.InFrames, hoff]
  dsimp only
  omega

theorem State.walkFrom_inFrames {asid va level frame : Nat} {e : TlbEntry} (h : s.walkFrom asid va level frame = .ok e) : e.InFrames va := by
  induction level generalizing frame with
  | zero => cases h
  | succ level ih =>
    rw [State.walkFrom] at h
    dsimp only at h
    split at h
    · cases h
    split at h
    · cases h
    split at h
    · cases h
    split at h
    · split at h
      · cases h
      split at h
      · split at h
        · cases h
        split at h
        · next hgroup =>
          cases h
          exact TlbEntry.inFrames_of_leafOk (n := 16) (by decide) (Bool.and_eq_true_iff.mp hgroup).2
        · cases h
      split at h
      · next hleaf =>
        cases h
        exact TlbEntry.inFrames_of_leafOk (n := 1) (by decide) hleaf
      · cases h
    split at h
    · split at h
      · cases h
      · next hlarge =>
        cases h
        obtain ⟨n, hn⟩ : ∃ n, 2 ^ (12 + 9 * level) = 4096 * n := ⟨2 ^ (9 * level), Nat.pow_add ..⟩
        have hpos : 0 < 4096 * n := hn ▸ Nat.two_pow_pos _
        rw [hn, Nat.mul_div_cancel_left n (by decide)] at hlarge
        rw [hn]
        exact TlbEntry.inFrames_of_leafOk (by omega) (by simpa using fun hok => hlarge (.inr (.inr hok)))
    split at h
    · cases h
    · exact ih h

/-- The flat address of a virtual one in its page. -/
def TlbEntry.flat (e : TlbEntry) (va : Nat) : Nat := pteFrame (e.leaf va) * 4096 + va % 4096

/-- A walked page lies in HBM, below the other flat ranges. -/
theorem State.walk_flat_lt {asid root va : Nat} {e : TlbEntry} (h : s.walk asid root va = .ok e) : e.flat va < 2 ^ 47 := by
  have hin : e.InFrames va := by
    rw [State.walk] at h
    split at h
    · cases h
    · exact State.walkFrom_inFrames h
  have hframe : pteFrame (e.leaf va) ≤ pteFrame e.pte + (va - e.va) / 4096 := by
    rw [TlbEntry.leaf, pteFrame, field_setField_same _ (by decide)]
    exact Nat.mod_le ..
  rw [TlbEntry.InFrames, show frameCount = 201326592 from rfl] at hin
  rw [TlbEntry.flat]
  omega

end

/-! Packets at their destination (R302, R378). -/

section
variable {s : State} {pkt : StreamPacket}

theorem State.linkRecord_cores (s : State) (sub port lane low value : Nat) : (s.linkRecord sub port lane low value).cores = s.cores := by
  rw [State.linkRecord]
  split <;> simp

theorem State.linkRecord_ports (s : State) (sub port lane low value : Nat) : (s.linkRecord sub port lane low value).ports = s.ports := by
  rw [State.linkRecord]
  split <;> simp

/-- The package behind the first packet of another launch, which ends what broke its stream. -/
def State.unbroken (s : State) (pkt : StreamPacket) : State :=
  if pkt.seq = 0 then s.modPort pkt.port fun p => { p with broken := p.broken.filter (· ≠ (pkt.stream, pkt.asid)) } else s

theorem State.unbroken_cores : (s.unbroken pkt).cores = s.cores := by
  rw [State.unbroken]
  split <;> rfl

theorem State.unbroken_mem : (s.unbroken pkt).mem = s.mem := by
  rw [State.unbroken]
  split <;> rfl

theorem State.unbroken_seq : (s.unbroken pkt).seq = s.seq := by
  rw [State.unbroken]
  split <;> rfl

theorem State.unbroken_walk (asid root va : Nat) : (s.unbroken pkt).walk asid root va = s.walk asid root va := by
  rw [State.unbroken]
  split
  · exact State.walk_modPort ..
  · rfl

theorem State.unbroken_broken (h : (s.port pkt.port).broken.contains (pkt.stream, pkt.asid) = false) :
    ((s.unbroken pkt).port pkt.port).broken.contains (pkt.stream, pkt.asid) = false := by
  rw [State.unbroken]
  split
  · simp
  · exact h

/-- The stream of a packet breaks at an address. -/
def State.breakStream (s : State) (pkt : StreamPacket) (va : Nat) : State :=
  (s.modPort pkt.port fun p => { p with broken := p.broken ++ [(pkt.stream, pkt.asid)] }).linkRecord 5 pkt.port 0 pkt.stream va

theorem State.breakStream_cores (va : Nat) : (s.breakStream pkt va).cores = s.cores := State.linkRecord_cores ..

theorem State.breakStream_broken (va : Nat) : (pkt.stream, pkt.asid) ∈ ((s.breakStream pkt va).port pkt.port).broken := by
  rw [State.breakStream, State.port, State.linkRecord_ports]
  show _ ∈ ((s.modPort pkt.port _).port pkt.port).broken
  rw [State.port_modPort_same]
  exact List.mem_append_right _ (List.mem_singleton_self _)

variable (hopen : (s.port pkt.port).broken.contains (pkt.stream, pkt.asid) = false)
include hopen

theorem execStreamPacketReceive_flit {e : TlbEntry} {d : List Byte} (hw : s.walk pkt.asid (alGet 0 s.seq.roots pkt.asid) pkt.va = .ok e)
    (hrel : pkt.release = false) (hflits : pkt.flits = [d]) (hW : pteW (e.leaf pkt.va) = true) (hown : pteOwn (e.leaf pkt.va) = true) :
    exec (.streamPacketReceive pkt) s = .next ((s.unbroken pkt).landBytes (e.flat pkt.va) d [] false 0) := by
  rw [exec_streamPacketReceive, execStreamPacketReceive, ← State.unbroken]
  simp only [State.unbroken_broken hopen, State.unbroken_seq, hrel, hflits, State.landStream, State.unbroken_walk, hw, hW, hown,
    Bool.false_eq_true, if_false, Bool.not_true, Bool.or_self, Bool.not_false, if_true]
  rfl

theorem execStreamPacketReceive_bad {e : TlbEntry} {d : List Byte} (hw : s.walk pkt.asid (alGet 0 s.seq.roots pkt.asid) pkt.va = .ok e)
    (hrel : pkt.release = false) (hflits : pkt.flits = [d]) (hW : pteW (e.leaf pkt.va) = false) :
    exec (.streamPacketReceive pkt) s = .next ((s.unbroken pkt).breakStream pkt pkt.va) := by
  rw [exec_streamPacketReceive, execStreamPacketReceive, ← State.unbroken]
  simp only [State.unbroken_broken hopen, State.unbroken_seq, hrel, hflits, State.landStream, State.unbroken_walk, hw, hW,
    Bool.false_eq_true, if_false, Bool.not_false, Bool.true_or, if_true]
  rfl

theorem execStreamPacketReceive_release {e : TlbEntry} (hw : s.walk pkt.asid (alGet 0 s.seq.roots pkt.asid) pkt.va = .ok e)
    (hrel : pkt.release = true) (hW : pteW (e.leaf pkt.va) = true)
    (hown : (pteOwn (e.leaf pkt.va) || pteCtl (e.leaf pkt.va)) = true) :
    exec (.streamPacketReceive pkt) s = .next ((s.unbroken pkt).atomicAt (e.flat pkt.va) .add true 1 0).1 := by
  rw [exec_streamPacketReceive, execStreamPacketReceive, ← State.unbroken]
  simp only [State.unbroken_broken hopen, State.unbroken_seq, hrel, State.landStream, State.unbroken_walk, hw, hW, hown,
    Bool.false_eq_true, if_false, Bool.not_true, Bool.and_self, if_true]
  rfl

theorem execStreamPacketReceive_noPage {n : Nat} (hw : s.walk pkt.asid (alGet 0 s.seq.roots pkt.asid) pkt.va = .error n)
    (hrel : pkt.release = true) : exec (.streamPacketReceive pkt) s = .next ((s.unbroken pkt).breakStream pkt pkt.va) := by
  rw [exec_streamPacketReceive, execStreamPacketReceive, ← State.unbroken]
  simp only [State.unbroken_broken hopen, State.unbroken_seq, hrel, State.landStream, State.unbroken_walk, hw,
    Bool.false_eq_true, if_false, Bool.not_true, if_true]
  rfl

end

theorem streamTransfers : Claims.StreamTransfers := by
  refine fun s => ⟨?_, fun pkt hopen => ⟨fun e d hw => ⟨fun hrel hflits hW hown => ?_, fun hrel hflits hW => ?_,
    fun hrel hW hown => ?_⟩, fun n hrel hw => ?_⟩⟩
  · intro k uid m f h hk hr hd
    have hs : f.stream = true := (FabArgs.stream_eq hr).trans hd
    refine ⟨fun hm hn ha => ?_, fun hm hn hfull => ?_, fun hm hn hroom => ?_⟩
    · exact ⟨_, execStreamFlitSample_misaligned h.cmd hk hr hs hm hn ha, s.keepsAll_engineFault .., h.engineFault_due ..⟩
    · exact ⟨_, execStreamFlitSample_full h.cmd hk hr hs hm hn hfull, (s.keepsAll_setCmd ..).trans (State.keepsAll_engineFault ..), h.cut_due _⟩
    · refine ⟨_, s.streamItem k m f, execStreamFlitSample_sample h.cmd hk hr hs hm hn hroom,
        (s.keepsAll_modPort ..).trans (State.keepsAll_setCmd ..), State.cmd_modPort_setCmd h.cmd rfl, ?_, rfl, rfl, rfl,
        fun w hpos hw => ?_⟩
      · rw [State.setCmd_port]
        show ((s.modPort (s.bridgePort k f) _).port (s.bridgePort k f)).stream = _
        rw [State.port_modPort_same]
        rfl
      · rw [State.streamItem, if_neg (by simpa using hpos), State.flitAt_window hw]
  · exact ⟨_, execStreamPacketReceive_flit hopen hw hrel hflits hW hown,
      State.writes_of_mem ((State.landBytes_mem ..).trans (congrArg (Memory.write · _ _) State.unbroken_mem)),
      State.keepsRegisters_of_cores ((State.landBytes_cores ..).trans State.unbroken_cores)⟩
  · exact ⟨_, execStreamPacketReceive_bad hopen hw hrel hflits hW,
      State.keepsRegisters_of_cores ((State.breakStream_cores _).trans State.unbroken_cores), State.breakStream_broken _⟩
  · refine ⟨_, execStreamPacketReceive_release hopen hw hrel hW (by simpa using hown), State.writes_of_mem ?_,
      State.keepsRegisters_of_cores ((State.atomicAt_cores ..).trans State.unbroken_cores)⟩
    have hword : (s.unbroken pkt).bytes (e.flat pkt.va) 8 = s.mem.read (e.flat pkt.va) 8 := by
      rw [State.bytes, if_pos (State.walk_flat_lt hw), State.unbroken_mem]
    rw [State.atomicAt_add_mem, hword, State.unbroken_mem]
    rfl
  · exact ⟨_, execStreamPacketReceive_noPage hopen hw hrel,
      State.keepsRegisters_of_cores ((State.breakStream_cores _).trans State.unbroken_cores), State.breakStream_broken _⟩

/-- Settles O49: a send and a stream sample one item after another; at the destination a packet lands, or breaks its stream. -/
theorem fabricSends : Obligations.FabricSends := ⟨circuitSends, streamTransfers⟩

end Sys2Proof.Machine
end

section
/-! Writes that only memory sees. -/

namespace Sys2Proof.Machine

/-- Only memory differs, with its tags and its poison. -/
def State.OnlyMemory (s t : State) : Prop := t = { s with mem := t.mem, tags := t.tags, poison := t.poison }

section
variable {s t u : State}

theorem State.OnlyMemory.trans (h : s.OnlyMemory t) (h' : t.OnlyMemory u) : s.OnlyMemory u := by
  rw [State.OnlyMemory] at h h' ⊢
  rw [h'] at ⊢
  rw [h]

theorem State.OnlyMemory.cores (h : s.OnlyMemory t) : t.cores = s.cores := h ▸ rfl
theorem State.OnlyMemory.launches (h : s.OnlyMemory t) : t.launches = s.launches := h ▸ rfl
theorem State.OnlyMemory.ports (h : s.OnlyMemory t) : t.ports = s.ports := h ▸ rfl
theorem State.OnlyMemory.host (h : s.OnlyMemory t) : t.host = s.host := h ▸ rfl

theorem State.onlyMemory_landPoison (s : State) (flat n sub : Nat) : s.OnlyMemory (s.landPoison flat n sub) := by
  rw [State.landPoison]
  dsimp only
  split
  · rfl
  · split <;> rfl

theorem State.onlyMemory_landBytes (s : State) (flat : Nat) (bs : List Byte) (tags : List Nat) (keep : Bool) (p : Nat) :
    s.OnlyMemory (s.landBytes flat bs tags keep p) := (s.onlyMemory_landPoison ..).trans rfl

theorem State.onlyMemory_landPages (s : State) (va : Nat) (bs : List Byte) (ps : List (Nat × Word)) :
    s.OnlyMemory (s.landPages va bs ps) := by
  induction ps generalizing s va bs with
  | nil => rfl
  | cons x ps ih => exact (s.onlyMemory_landBytes ..).trans (ih ..)

theorem State.onlyMemory_writeAt (s : State) (sp : Space) (p : Word → Bool) (va : Nat) (bs : List Byte) :
    s.OnlyMemory (s.writeAt sp p va bs).1 := by
  rw [State.writeAt]
  split
  · rfl
  · exact s.onlyMemory_landPages ..

theorem State.onlyMemory_of_writeAt {sp : Space} {p : Word → Bool} {va : Nat} {bs : List Byte} {b : Bool}
    (h : s.writeAt sp p va bs = (t, b)) : s.OnlyMemory t := by
  have hall := s.onlyMemory_writeAt sp p va bs
  rwa [h] at hall

theorem State.onlyMemory_writeSave (s : State) (l : Nat) : s.OnlyMemory (s.writeSave l false).1 := by
  have hzero := s.onlyMemory_writeAt (s.launch l).space savePage ((s.launch l).saveVa + 8) (List.replicate 8 0)
  rw [State.writeSave]
  split
  · exact hzero
  · split <;> next hw => exact hzero.trans (State.onlyMemory_of_writeAt hw)

end

end Sys2Proof.Machine
end

section
/-! The debugger's commands (15_lantern.md R349 to R351). -/

namespace Sys2Proof.Machine

/-! Flow changes of all cores of a launch. -/

section
variable {s : State} (g : Nat × Core → Nat × Core)

/-- A core of a package whose cores are mapped under their keys. -/
theorem State.core_mapCores (hkey : ∀ x, (g x).1 = x.1) (k : Nat) :
    ({ s with cores := s.cores.map g } : State).core k = if (s.cores.any fun x => x.1 == k) then (g (k, s.core k)).2 else s.core k := by
  have hfind : (s.cores.map g).find? (fun x => x.1 == k) = (s.cores.find? fun x => x.1 == k).map g := by
    rw [List.find?_map]
    congr 2
    funext x
    exact congrArg (· == k) (hkey x)
  rw [State.core, State.core, alGet, alGet, hfind, ← List.isSome_find?]
  cases hx : s.cores.find? fun x => x.1 == k with
  | none => rfl
  | some x =>
    have hk : x.1 = k := beq_iff_eq.mp (List.find?_some (p := fun x : Nat × Core => x.1 == k) hx)
    subst hk
    rfl

theorem State.keepsAll_mapCores (hkey : ∀ x, (g x).1 = x.1) (hr : ∀ x, (g x).2.r = x.2.r) (hx : ∀ x, (g x).2.x = x.2.x)
    (hl : ∀ x, (g x).2.l = x.2.l) : s.KeepsAll { s with cores := s.cores.map g } := by
  refine ⟨fun k => ?_, rfl⟩
  rw [State.core_mapCores g hkey]
  split
  · exact ⟨hr _, hx _, hl _⟩
  · exact ⟨rfl, rfl, rfl⟩

end

/-! Freezes and thaws (R24). -/

section
variable {s : State} {l : Nat}

theorem State.keepsAll_freeze (s : State) (l : Nat) (z : Cause) : s.KeepsAll (s.freeze l z) := by
  refine ⟨fun k => ?_, s.freeze_mem l z⟩
  rw [State.freeze_core]
  split <;> exact ⟨rfl, rfl, rfl⟩

theorem State.keepsAll_endSteps (s : State) (l : Nat) : s.KeepsAll (s.endSteps l) := by
  refine State.keepsAll_mapCores _ (fun x => ?_) (fun x => ?_) (fun x => ?_) (fun x => ?_) <;> split <;> rfl

theorem State.endSteps_launch (s : State) (l : Nat) : (s.endSteps l).launch l = { s.launch l with steps := none } :=
  State.launch_modLaunch_same ..

theorem State.debugThaw_cores (s : State) (l : Nat) : (s.debugThaw l).cores = s.cores := s.endCauses_cores l Cause.debugs

theorem State.keepsAll_debugThaw (s : State) (l : Nat) : s.KeepsAll (s.debugThaw l) :=
  State.keepsAll_of_cores (s.debugThaw_cores l) (s.endCauses_mem l Cause.debugs)

theorem State.debugThaw_lanterns (s : State) (l : Nat) : (s.debugThaw l).lanterns = s.lanterns := s.endCauses_lanterns l Cause.debugs

/-- What is left of a launch's freeze when the debugger's causes end. -/
theorem State.debugThaw_launch (s : State) (l : Nat) : (s.debugThaw l).launch l =
    let left := (s.launch l).causes.filter fun z => !z.debugs
    { s.launch l with causes := left, dbg := (s.launch l).dbg && left.any Cause.stops } := by
  rw [State.debugThaw, State.launch_modLaunch_same, State.endCauses_launch, if_pos rfl]

theorem State.debugThaw_causes {z : Cause} (hz : z.debugs = true) : z ∉ ((s.debugThaw l).launch l).causes := by
  rw [State.debugThaw_launch]
  simp [hz]

/-- No debugger's stop is left where no other package holds one. -/
theorem State.debugThaw_dbg (h : ∀ n, Cause.remote n 8 ∉ (s.launch l).causes) : ((s.debugThaw l).launch l).dbg = false := by
  rw [State.debugThaw_launch]
  refine Bool.and_eq_false_imp.mpr fun _ => List.any_eq_false.mpr fun z hz => ?_
  obtain ⟨hmem, hkeep⟩ := List.mem_filter.mp hz
  cases z with
  | remote n code =>
    rw [Cause.stops, beq_iff_eq]
    rintro rfl
    exact h n hmem
  | debug => cases hkeep
  | stop => cases hkeep
  | _ => exact Bool.false_ne_true

end

/-! A lantern's command (R343, R351). -/

section
variable {s u : State} {t cmd l : Nat}

theorem State.tookCmd_lanterns_length : (s.tookCmd t).lanterns.length = s.lanterns.length := List.length_set

theorem State.DebugServes.tookCmd_attached (h : s.DebugServes t cmd l) : ((s.tookCmd t).lantern t).datt.getLsbD 63 = true := by
  rw [State.lantern, State.tookCmd, State.modLantern, List.getD_eq_getElem?_getD, List.getElem?_set_self h.tower]
  exact h.attached

/-- The code of a command stands in its own lantern. -/
theorem State.DebugServes.setCode_dstat (h : s.DebugServes t cmd l) (hu : u.lanterns = (s.tookCmd t).lanterns) (code : Nat) :
    ((u.setCode t code).lantern t).dstat = code := by
  have ht : t < u.lanterns.length := by rw [hu, State.tookCmd_lanterns_length]; exact h.tower
  have ha : (u.lantern t).datt.getLsbD 63 = true := by rw [State.lantern, hu]; exact h.tookCmd_attached
  have hbit : field (u.lantern t).datt 63 1 = 1 := beq_iff_eq.mp ((field_bit ..).trans ha)
  have hget : u.lantern t = u.lanterns[t] := (List.getElem_eq_getD _).symm
  rw [State.lantern, State.setCode, State.setDstat, List.getD_eq_getElem?_getD, List.getElem?_map, List.getElem?_eq_getElem ht, ← hget,
    Option.map_some, Option.getD_some, if_pos ⟨hbit, rfl⟩]

theorem State.keepsAll_setCode (s : State) (t code : Nat) : s.KeepsAll (s.setCode t code) := State.keepsAll_of_cores rfl rfl

theorem State.keepsAll_tookCmd (s : State) (t : Nat) : s.KeepsAll (s.tookCmd t) := State.keepsAll_of_cores rfl rfl

variable {ok : Launch → Bool} {go : State → Nat → State}

theorem State.DebugServes.serves (h : s.DebugServes t cmd l) :
    debugServe t cmd ok go s = .next (if ok (s.launch l) then go (s.tookCmd t) l else (s.tookCmd t).setCode t 4) := by
  have hcmd : field (s.lantern t).dcmd 0 16 = cmd := (field_low ..).trans h.cmd
  have htarget : s.byCorr (field (s.lantern t).datt 0 32) = some l := by rw [field_low]; exact h.target
  rw [debugServe, State.debugCmd, if_pos h.todo, htarget]
  dsimp only
  rw [if_neg (not_not.mpr hcmd)]

theorem State.DebugServes.carriedOut {i : Instr} (h : s.DebugServes t cmd l) (hi : exec i s = debugServe t cmd ok go s)
    (hok : ok (s.launch l) = true) : exec i s = .next (go (s.tookCmd t) l) := by
  rw [hi, h.serves, if_pos hok]

/-- A command that its launch's state does not allow leaves code 4 and nothing else. -/
theorem State.DebugServes.refused {i : Instr} (h : s.DebugServes t cmd l) (hi : exec i s = debugServe t cmd ok go s)
    (hok : ok (s.launch l) = false) :
    ∃ u, exec i s = .next u ∧ s.KeepsAll u ∧ u.launches = s.launches ∧ (u.lantern t).dstat = 4 := by
  refine ⟨_, hi.trans h.serves, ?_⟩
  rw [hok, if_neg Bool.false_ne_true]
  exact ⟨(s.keepsAll_tookCmd t).trans (State.keepsAll_setCode ..), rfl, h.setCode_dstat rfl 4⟩

end

/-- Every core of a launch is to stop behind `n` more of its own cycles. -/
def State.stepCores (s : State) (l n : Nat) : State :=
  { s with cores := s.cores.map fun (x : Nat × Core) =>
    if x.2.f.task.launch = l then (x.1, x.2.modF fun f => { f with stepTo := some (x.2.clk + n) }) else x }

section
variable {s : State} {l : Nat}

theorem State.keepsAll_stepCores (s : State) (l n : Nat) : s.KeepsAll (s.stepCores l n) := by
  refine State.keepsAll_mapCores _ (fun x => ?_) (fun x => ?_) (fun x => ?_) (fun x => ?_) <;> split <;> rfl

theorem State.stepCores_stepTo {k : Nat} (n : Nat) (hk : ∃ x ∈ s.cores, x.1 = k) (hl : (s.core k).f.task.launch = l) :
    ((s.stepCores l n).core k).f.stepTo = some ((s.core k).clk + n) := by
  rw [State.stepCores, State.core_mapCores _ (fun x => by split <;> rfl), if_pos (by simpa using hk), if_pos hl]
  rfl

/-- The launch goes on for `n` cycles. -/
def State.stepped (s : State) (l n : Nat) : State := ((s.stepCores l n).modLaunch l fun x => { x with steps := some n }).debugThaw l

theorem State.keepsAll_stepped (s : State) (l n : Nat) : s.KeepsAll (s.stepped l n) :=
  (s.keepsAll_stepCores l n).trans <| (State.keepsAll_of_cores rfl rfl).trans (State.keepsAll_debugThaw ..)

theorem State.stepped_steps (s : State) (l n : Nat) : ((s.stepped l n).launch l).steps = some n := by
  rw [State.stepped, State.debugThaw_launch, State.launch_modLaunch_same]

theorem State.stepped_stepTo {k : Nat} (n : Nat) (hk : ∃ x ∈ s.cores, x.1 = k) (hl : (s.core k).f.task.launch = l) :
    ((s.stepped l n).core k).f.stepTo = some ((s.core k).clk + n) := by
  rw [State.stepped, State.core, State.debugThaw_cores]
  exact State.stepCores_stepTo n hk hl

theorem execStep_eq (t : Nat) (s : State) : exec (.step t) s =
    debugServe t 3 Launch.isStopped (fun s l => (s.stepped l (max 1 (field (s.lantern t).dcmd 32 16))).setCode t 3) s := rfl

theorem State.DebugServes.tookCmd_dcmd {t cmd : Nat} (h : s.DebugServes t cmd l) :
    ((s.tookCmd t).lantern t).dcmd = (s.lantern t).dcmd := by
  rw [State.lantern, State.tookCmd, State.modLantern, List.getD_eq_getElem?_getD, List.getElem?_set_self h.tower]
  rfl

/-- An abandoned save freezes its launch for a kill. -/
theorem State.abandonSave_causes (s : State) (l : Nat) : Cause.kill ∈ ((s.abandonSave l).launch l).causes := by
  rw [State.abandonSave, State.toPeers_launch, State.launch_modLaunch_same]
  exact List.mem_append_right _ (List.mem_singleton_self _)

end

/-- Settles O59: each command is carried out on the launch's state behind it, or leaves code 4. -/
theorem debuggerCommands : Obligations.DebuggerCommands := by
  intro s t l
  refine ⟨fun h => ⟨fun hok => ?_, fun hok => h.refused (exec_stop ..) hok⟩, fun h => ⟨fun hok => ?_, fun hok => h.refused (exec_run ..) hok⟩,
    fun h _ => ⟨fun hok => ?_, fun hok => h.refused (exec_step ..) hok⟩,
    fun h => ⟨fun hok hva => ⟨fun u hu => ?_, fun u hu _ => ?_⟩, fun hok => h.refused (exec_snap ..) (by rw [hok]; rfl)⟩, fun hover => ?_⟩
  · refine ⟨_, h.carriedOut (exec_stop ..) hok, ?_, ?_, h.setCode_dstat (State.freeze_lanterns ..) 3⟩
    · exact (s.keepsAll_tookCmd t).trans <| (State.keepsAll_freeze ..).trans <| (State.keepsAll_endSteps ..).trans (State.keepsAll_setCode ..)
    · show (((((s.tookCmd t).freeze l .stop).endSteps l).launch l).causes) = _
      rw [State.endSteps_launch, State.freeze_launch, if_pos rfl]
      rfl
  · have hlaunch : ((((s.tookCmd t).debugThaw l).endSteps l).setCode t 1).launch l =
        { ((s.tookCmd t).debugThaw l).launch l with steps := none } := State.endSteps_launch ..
    refine ⟨_, h.carriedOut (exec_run ..) hok, ?_, ?_, ?_, fun hfar => ?_, h.setCode_dstat (State.debugThaw_lanterns ..) 1⟩
    · exact (s.keepsAll_tookCmd t).trans <| (State.keepsAll_debugThaw ..).trans <| (State.keepsAll_endSteps ..).trans
        (State.keepsAll_setCode ..)
    all_goals rw [hlaunch]
    · exact State.debugThaw_causes rfl
    · exact State.debugThaw_causes rfl
    · exact State.debugThaw_dbg (s := s.tookCmd t) hfar
  · intro n
    have hexec : exec (.step t) s = .next (((s.tookCmd t).stepped l n).setCode t 3) :=
      (h.carriedOut (execStep_eq ..) hok).trans (by rw [h.tookCmd_dcmd]; rfl)
    refine ⟨_, hexec, ?_, State.debugThaw_causes rfl, State.debugThaw_causes rfl, State.stepped_steps ..,
      fun k hk hl => State.stepped_stepTo (s := s.tookCmd t) n hk hl⟩
    exact (s.keepsAll_tookCmd t).trans <| (State.keepsAll_stepped ..).trans (State.keepsAll_setCode ..)
  · have hmem := (s.tookCmd t).onlyMemory_writeSave l
    rw [hu] at hmem
    refine ⟨u.setCode t 2, ?_, rfl, State.keepsRegisters_of_cores hmem.cores, hmem.launches⟩
    rw [h.carriedOut (exec_snap ..) (by simp [hok, hva]), hu]
  · refine ⟨u.abandonSave l, ?_, State.abandonSave_causes ..⟩
    rw [h.carriedOut (exec_snap ..) (by simp [hok, hva]), hu]
  · refine ⟨_, (exec_stepEnd ..).trans (congrArg Host.Outcome.next (if_pos hover)), s.keepsAll_freeze l .debug, ?_, ?_⟩
    · rw [State.launch_modLaunch_same]
      exact (State.freeze_launch ..).trans (if_pos rfl)
    · rw [State.launch_modLaunch_same]

end Sys2Proof.Machine
end

section
/-! Runs of keys, and lists of pairs. -/

namespace Sys2Proof.Machine

section
variable {α : Type} {d : α} {a b l : List (Nat × α)} {i : Nat}

theorem alGet_append_right (h : ∀ x ∈ a, x.1 ≠ i) : alGet d (a ++ b) i = alGet d b i := by
  have hnone : a.find? (fun x => x.1 == i) = none := List.find?_eq_none.mpr fun x hx => by simpa using h x hx
  rw [alGet, alGet, List.find?_append, hnone, Option.none_or]

theorem alGet_append_left (h : ∀ x ∈ b, x.1 ≠ i) : alGet d (a ++ b) i = alGet d a i := by
  have hnone : b.find? (fun x => x.1 == i) = none := List.find?_eq_none.mpr fun x hx => by simpa using h x hx
  rw [alGet, alGet, List.find?_append, hnone, Option.or_none]

/-- A filter by key keeps what it passes. -/
theorem alGet_filter {p : Nat → Bool} (h : p i = true) : alGet d (l.filter fun x => p x.1) i = alGet d l i := by
  have hkey : (fun x : Nat × α => decide (p x.1 = true ∧ (x.1 == i) = true)) = fun x => x.1 == i := by
    funext x
    by_cases hx : x.1 = i <;> simp [hx, h]
  rw [alGet, alGet, List.find?_filter, hkey]

/-- What the default and every listed value keep, the value at a key keeps. -/
theorem alGet_of_forall {P : α → Prop} (hd : P d) (hl : ∀ x ∈ l, P x.2) : P (alGet d l i) := by
  rw [alGet]
  split
  · next hx => exact hl _ (List.mem_of_find?_eq_some hx)
  · exact hd

variable [BEq α]

theorem key_of_mem_alWrite_cells {vs : List α} {k : Nat} {x : Nat × α} (h : x ∈ alWrite.cells d k vs) : k ≤ x.1 ∧ x.1 < k + vs.length := by
  induction vs generalizing k with
  | nil => cases h
  | cons v vs ih =>
    rw [alWrite.cells] at h
    rw [List.length_cons]
    split at h
    · have := ih h
      omega
    · rcases List.mem_cons.mp h with rfl | h
      · dsimp only
        omega
      · have := ih h
        omega

theorem alGet_alWrite_cells [LawfulBEq α] (vs : List α) (k i : Nat) : alGet d (alWrite.cells d k vs) (k + i) = vs.getD i d := by
  induction vs generalizing k i with
  | nil => rfl
  | cons v vs ih =>
    have hrest : ∀ j, alGet d (alWrite.cells d (k + 1) vs) (k + (j + 1)) = vs.getD j d := fun j => by
      rw [← ih (k + 1) j, show k + (j + 1) = k + 1 + j by omega]
    have hmiss : alGet d (alWrite.cells d (k + 1) vs) k = d := by
      rw [← List.append_nil (alWrite.cells d (k + 1) vs), alGet_append_right fun x hx => ?_]
      · rfl
      · have := (key_of_mem_alWrite_cells hx).1
        omega
    rw [alWrite.cells]
    split
    · next hv =>
      cases i with
      | zero => exact hmiss.trans (eq_of_beq hv).symm
      | succ j => exact hrest j
    · cases i with
      | zero => simp [alGet]
      | succ j =>
        rw [← List.singleton_append, alGet_append_right (by simp)]
        exact hrest j

/-- A run of keys reads as it was written, every other key as before. -/
theorem alGet_alWrite [LawfulBEq α] (vs : List α) (k i : Nat) :
    alGet d (alWrite d l k vs) i = if k ≤ i ∧ i < k + vs.length then vs.getD (i - k) d else alGet d l i := by
  have hlow : ∀ x ∈ l.filter (fun x => x.1 < k), x.1 < k := fun x hx => by simpa using (List.mem_filter.mp hx).2
  have hhigh : ∀ x ∈ l.filter (fun x => k + vs.length ≤ x.1), k + vs.length ≤ x.1 := fun x hx => by
    simpa using (List.mem_filter.mp hx).2
  have hrun : ∀ x ∈ alWrite.cells d k vs, k ≤ x.1 ∧ x.1 < k + vs.length := fun x => key_of_mem_alWrite_cells
  rw [alWrite]
  split
  · next hi =>
    obtain ⟨j, rfl⟩ := Nat.exists_eq_add_of_le hi.1
    rw [alGet_append_left, alGet_append_right, alGet_alWrite_cells, Nat.add_sub_cancel_left]
    · intro x hx
      have := hlow x hx
      omega
    · intro x hx
      have := hhigh x hx
      omega
  · next hi =>
    rcases Nat.lt_or_ge i k with hk | hk
    · rw [List.append_assoc, alGet_append_left, alGet_filter (p := fun n => n < k) (by simpa using hk)]
      intro x hx
      rcases List.mem_append.mp hx with hx | hx
      · have := hrun x hx
        omega
      · have := hhigh x hx
        omega
    · rw [alGet_append_right, alGet_filter (p := fun n => k + vs.length ≤ n) (by simp; omega)]
      intro x hx
      rcases List.mem_append.mp hx with hx | hx
      · have := hlow x hx
        omega
      · have := hrun x hx
        omega

end

/-- The first of each of a list's pairs. -/
theorem getElem?_flatMap_pair {α β : Type} (g h : α → β) (l : List α) (i : Nat) :
    (l.flatMap fun a => [g a, h a])[2 * i]? = l[i]?.map g := by
  induction l generalizing i with
  | nil => rfl
  | cons a l ih =>
    cases i with
    | zero => rfl
    | succ i => exact ih i

end Sys2Proof.Machine
end

section
/-! Power, memory health and reset (11_tower_memory.md R271, R286, 16_package.md R360 to R365). -/

namespace Sys2Proof.Machine

/-! Bubbles (R361). -/

section
variable {s : State}

theorem State.bubbleFor_none (h : s.host.bubble = none) (n : Nat) : s.bubbleFor n =
    { s with pkgFreeze := s.pkgFreeze ++ [bubbleCode], host := { s.host with bubble := some (s.wall, s.wall + n) } } := by
  rw [State.bubbleFor, h]

theorem State.dutyNow_own (h : s.host.joined = false) : s.dutyNow = s.host.caps.foldl (fun n c => max n c.duty) 0 := by
  rw [State.dutyNow, h, if_neg Bool.false_ne_true]

/-- The package in the present period of its own. -/
def State.nextPeriod (s : State) : State := { s with free := s.free + 1, host := { s.host with period := s.wall / 2 ^ 20 } }

theorem execThermalBubble_due (hdue : s.bubbleDue = true) (hjoined : s.host.joined = false) :
    let d := s.host.caps.foldl (fun n c => max n c.duty) 0
    exec .thermalBubble s = .next (if d = 0 then s.nextPeriod else s.nextPeriod.bubbleFor (d * 2 ^ 16)) := by
  intro d
  rw [exec_thermalBubble, execThermalBubble, hdue, if_neg (by decide), s.dutyNow_own hjoined, hjoined]
  rfl

theorem execStackAboveMaximumTemperature_none (h : s.host.bubble = none) (n : Nat) :
    exec (.stackAboveMaximumTemperature n) s = .next { s with
      free := s.free + 1, pkgFreeze := s.pkgFreeze ++ [bubbleCode],
      host := { s.host with bubble := some (s.wall, s.wall + (1 + Config.coolCycles s.free)) } } :=
  congrArg Host.Outcome.next (State.bubbleFor_none (s := { s with free := s.free + 1 }) h _)

theorem State.packageDeviation_cores (s : State) (code start : Nat) : (s.packageDeviation code start).cores = s.cores := by
  refine foldl_keeps _ State.cores (fun s x => ?_) s.cores s
  dsimp only
  split
  · rfl
  · exact State.taskRecord_cores ..

theorem State.endFreeze_cores (s : State) (code start : Nat) : (s.endFreeze code start).cores = s.cores := s.packageDeviation_cores ..

theorem State.endFreeze_pkgFreeze (s : State) (code start : Nat) : code ∉ (s.endFreeze code start).pkgFreeze := by
  rw [State.endFreeze]
  simp

theorem execBubbleEnd_of_some {a b : Nat} (h : s.host.bubble = some (a, b)) :
    exec .bubbleEnd s =
      .next (if s.wall < b then s else { s.endFreeze bubbleCode a with host := { s.host with bubble := none } }) := by
  rw [exec_bubbleEnd, execBubbleEnd, h]

end

/-! Duty and telemetry (R360, R361). -/

section
variable {s : State} {c : Cap} {watts : Nat} {margin : Int}

theorem Cap.step_over (h : min 1000 c.capw < watts ∨ margin < c.minm) : (c.step watts margin).duty = min 15 (c.duty + 1) := if_pos h

theorem Cap.step_under (hw : watts + 50 < min 1000 c.capw) (hm : (c.minm : Int) + 128 ≤ margin) :
    (c.step watts margin).duty = c.duty - 1 := by
  have hnot : ¬ (min 1000 c.capw < watts ∨ margin < c.minm) := by omega
  exact (if_neg hnot).trans (if_pos ⟨hw, hm⟩)

theorem State.cap_setCap {t : Nat} (ht : t < s.host.caps.length) (c : Cap) : (s.setCap t c).cap t = c := by
  rw [State.cap, State.setCap, List.getD_eq_getElem?_getD, List.getElem?_set_self ht]
  rfl

theorem State.cap_free (s : State) (n t : Nat) : ({ s with free := n } : State).cap t = s.cap t := rfl

/-- The first word of a rail's record: its voltage, its current and its temperature (R360). -/
def railWord (rails : List RailSample) (i : Nat) : Word :=
  let r := rails.getD i default
  BitVec.ofNat 64 (r.millivolt % 2 ^ 16 * 2 ^ 48 + r.milliamp % 2 ^ 32 * 2 ^ 16 + r.temp % 2 ^ 16)

/-- The telemetry page of a millisecond. -/
def telemetryPage (rails : List RailSample) (g : Word) : List Word := ((List.range 32).flatMap fun i => [railWord rails i, 0]) ++ [g]

theorem telemetryPage_rail (rails : List RailSample) (g : Word) {i : Nat} (hi : i < 32) :
    (telemetryPage rails g).getD (2 * i) 0 = railWord rails i := by
  have hpair : ((List.range 32).flatMap fun i => [railWord rails i, 0])[2 * i]? = some (railWord rails i) := by
    rw [getElem?_flatMap_pair (railWord rails) (fun _ => 0), List.getElem?_range hi, Option.map_some]
  rw [telemetryPage, List.getD_eq_getElem?_getD, List.getElem?_append_left (List.getElem?_eq_some_iff.mp hpair).1, hpair,
    Option.getD_some]

theorem telemetryPage_gtime (rails : List RailSample) (g : Word) : (telemetryPage rails g).getD 64 0 = g := rfl

theorem execTelemetryUpdate_due (rails : List RailSample) (h : s.msDue = true) :
    let t := { s with free := s.free + 1, host := { s.host with
      ms := s.msNow, telemetry := telemetryPage rails (BitVec.ofNat 64 (s.msNow * (65536 * 10 ^ 6))) } }
    exec (.telemetryUpdate rails) s = .next (if Config.alarm rails then t.signal 3 else t) := by
  rw [exec_telemetryUpdate, execTelemetryUpdate, h, if_neg (by decide)]
  rfl

theorem execPowerCapUpdate_due {tw : Nat} (h : s.capDue tw = true) :
    exec (.powerCapUpdate tw watts margin) s =
      .next { s.setCap tw { (s.cap tw).step watts margin with ms := s.msNow } with free := s.free + 1 } := by
  rw [exec_powerCapUpdate, execPowerCapUpdate, h, if_neg (by decide)]

end

theorem powerIsCapped : Claims.PowerIsCapped := by
  intro s
  refine ⟨fun hdue hjoined hnone => ?_, fun n hnone => ?_, fun a b hsome hover => ?_, fun a b hsome hrun => ?_,
    fun tw watts margin hdue ht => ?_, fun rails _ hdue => ?_⟩
  · intro d
    by_cases hd : d = 0
    · refine ⟨_, (execThermalBubble_due hdue hjoined).trans (congrArg Host.Outcome.next (if_pos hd)), State.keepsAll_of_cores rfl rfl, rfl,
        fun hd' => absurd hd hd', fun _ => rfl⟩
    · refine ⟨_, (execThermalBubble_due hdue hjoined).trans (congrArg Host.Outcome.next (if_neg hd)), ?_⟩
      rw [State.bubbleFor_none (s := s.nextPeriod) hnone]
      exact ⟨State.keepsAll_of_cores rfl rfl, rfl, fun _ => ⟨rfl, rfl⟩, fun hd' => absurd hd' hd⟩
  · exact ⟨_, _, execStackAboveMaximumTemperature_none hnone n, State.keepsAll_of_cores rfl rfl,
      List.mem_append_right _ (List.mem_singleton_self _), rfl, by omega⟩
  · refine ⟨_, execBubbleEnd_of_some hsome, ?_⟩
    rw [if_neg (Nat.not_lt.mpr hover)]
    exact ⟨State.keepsRegisters_of_cores (State.endFreeze_cores ..), rfl, State.endFreeze_pkgFreeze s bubbleCode a⟩
  · rw [execBubbleEnd_of_some hsome, if_pos hrun]
  · refine ⟨_, execPowerCapUpdate_due hdue, State.keepsAll_of_cores rfl rfl, ?_⟩
    rw [State.cap_free, State.cap_setCap ht]
    exact ⟨rfl, rfl, fun hover => Cap.step_over hover, fun hw hm => Cap.step_under hw hm⟩
  · refine ⟨_, execTelemetryUpdate_due rails hdue, ?_⟩
    split <;> exact ⟨State.keepsAll_of_cores rfl rfl, fun i hi => telemetryPage_rail _ _ hi, telemetryPage_gtime ..⟩

/-! Memory health (R286, R363). -/

section
variable {s : State} {line : Nat} (hin : 64 * line < hbmSize)
include hin

theorem execHbmScrub_clean : exec (.hbmScrub line .clean) s = .next s := if_neg (Nat.not_le.mpr hin)

theorem execHbmScrub_single : exec (.hbmScrub line .single) s =
    let k := Config.stackOf (line / 64) % 12
    .next { s with bel := { s.bel with ecc := alSet s.bel.ecc k (alGet 0 s.bel.ecc k + 1) } } := if_neg (Nat.not_le.mpr hin)

theorem execHbmScrub_uncorrectable : exec (.hbmScrub line .uncorrectable) s =
    .next { s with poison := alWrite 0 s.poison (16 * line) (List.replicate 16 4) } := if_neg (Nat.not_le.mpr hin)

end

theorem scrubsPoison : Claims.ScrubsPoison := by
  intro s line hin
  refine ⟨execHbmScrub_clean hin, ⟨_, Config.stackOf (line / 64) % 12, execHbmScrub_single hin, State.keepsAll_of_cores rfl rfl,
    Nat.mod_lt _ (by decide), ?_⟩, ⟨_, execHbmScrub_uncorrectable hin, State.keepsAll_of_cores rfl rfl, fun i => ?_⟩⟩
  · exact alGet_alSet_same 0 s.bel.ecc (Config.stackOf (line / 64) % 12) _
  · rw [alGet_alWrite, List.length_replicate]
    split
    · exact List.getD_replicate _ (by omega)
    · rfl

/-! Reset (R365). -/

section
variable {s : State}

/-- A spire of a reset package is at its reset value, but that it may be dropped. -/
theorem State.resetPackage_spire (n : Nat) : (s.resetPackage.spire n).tt = tt0 ∧ (s.resetPackage.spire n).switched = [] := by
  refine alGet_of_forall (P := fun x : Spire => x.tt = tt0 ∧ x.switched = []) ⟨rfl, rfl⟩ fun x hx => ?_
  obtain ⟨y, -, hy⟩ := List.mem_filterMap.mp hx
  split at hy
  · cases hy
    exact ⟨rfl, rfl⟩
  · cases hy

theorem State.linkUp_unpowered (h : s.host.powered = false) : s.linkUp = false := by
  rw [State.linkUp, h, Bool.false_and]

theorem execRegisterWrite_unpowered (h : s.host.powered = false) (off : Nat) (v : Word) : exec (.registerWrite off v) s = .next s := by
  rw [exec_registerWrite, execRegisterWrite, State.linkUp_unpowered h, Bool.false_and, Bool.false_and, if_neg Bool.false_ne_true]

end

theorem resetsClear : Claims.ResetsClear := fun _ =>
  ⟨⟨_, rfl, ⟨rfl, rfl, rfl, rfl, rfl, rfl, rfl, rfl, rfl, rfl, rfl, rfl, rfl, rfl, State.resetPackage_spire⟩, rfl⟩,
    ⟨_, rfl, ⟨rfl, rfl, rfl, rfl, rfl, rfl, rfl, rfl, rfl, rfl, rfl, rfl, rfl, rfl, State.resetPackage_spire⟩, rfl⟩,
    fun off v h => execRegisterWrite_unpowered h off v⟩

/-- Settles O60: a freeze by a package's duty, a line's errors and a reset leave what the spec names. -/
theorem powerHealthAndReset : Obligations.PowerHealthAndReset := ⟨powerIsCapped, scrubsPoison, resetsClear⟩

end Sys2Proof.Machine
end

section
/-! SUBMIT packets (13_launch.md R311): a refused launch whose parent's increment meets a landing (R285, R304). -/

namespace Sys2Proof.Machine

/-- A SUBMIT packet: its KIND, a CORR that launch 1 has, the address of its record and that of its parent object. -/
def submitPacket : List Byte := leBytes 1 4 ++ leBytes 1 4 ++ leBytes (112 * 4096) 8 ++ leBytes 8 8 ++ List.replicate 232 0

/-- The launcher's package with a descriptor page in frame 100, over the packet in frame 101; the packet's record, in frame 112, names the
root and the ASID of launch 1. -/
def submitter : State :=
  { launcher with
    host := { HostIf.zero with stage := 5 }, seq := { Seq.zero with desc := some 100 },
    mem := [(queueWord 100 0 0, leBytes (101 * 4096) 8), (queueWord 100 0 1, leBytes (2 ^ 20 + 16) 8), (queueWord 100 0 2, leBytes 1 8),
      (101 * 4096, submitPacket), (112 * 4096 + 0x78, leBytes 4096 8 ++ leBytes 1 2)].foldl (fun m x => m.write x.1 x.2) launcherTables }

theorem packetOf_submitter : submitter.packetOf 0 1 = some submitPacket := by decide +kernel

theorem submitter_corrInUse : (submitter.byCorr (leValue ((submitPacket.drop 4).take 4))).isSome = true := by decide +kernel

/-- The increment withdraws the chunk of launch 1 that it meets, with what that has counted. -/
theorem submit_submitter :
    (match exec (.submit 0) submitter with
      | .next t => decide ((t.launch 1).contrib = [])
      | _ => false) = true := by decide +kernel

/-- Refutes O53: no premise keeps the cycle's landings off the parent object. A launch refused for its CORR increments its parent all the
same; a copy chunk that lands there in that cycle is withdrawn (R285), and the digest of its launch loses what the chunk had counted. -/
theorem not_submissions : ¬ Obligations.Submissions := by
  rintro ⟨hpackets, -⟩
  obtain ⟨hsubmit, -⟩ := hpackets submitter 0 submitPacket
  obtain ⟨-, hrefused⟩ := hsubmit packetOf_submitter
  obtain ⟨t, ht, -, hlaunches⟩ := hrefused submitter_corrInUse
  have hrun := submit_submitter
  rw [ht] at hrun
  have hkept : (t.launch 1).contrib = [fillContrib] := congrArg (fun ls => (alGet Launch.zero ls 1).contrib) hlaunches
  exact absurd (hkept.symm.trans (of_decide_eq_true hrun)) (by decide)

end Sys2Proof.Machine
end

section
/-! What freezes, messages and records leave of launches and ports (01_tile_task.md R24, 17_fabric.md R374, R386). -/

namespace Sys2Proof.Machine

section
variable {s t : State} {l p : Nat}

theorem State.keepsAll_of_core (hc : t.core = s.core) (hm : t.mem = s.mem) : s.KeepsAll t := ⟨fun j => by rw [hc]; exact ⟨rfl, rfl, rfl⟩, hm⟩

/-- What of a port does not depend on its messages, a message to the peers keeps. -/
theorem State.toPeers_port {α : Type} {g : Port → α} (hg : ∀ x ms, g { x with msgs := ms } = g x) (s : State) (l : Nat) (m : PartMessage) :
    g ((s.toPeers l m).port p) = g (s.port p) := by
  rw [State.toPeers]
  split
  · rfl
  · refine foldl_keeps _ (fun s => g (s.port p)) (fun s x => ?_) _ s
    rw [State.port_modPort]
    split
    · subst p
      exact hg ..
    · rfl

/-- A freeze of a launch changes its causes and its freeze's times, and of its ports only the messages. -/
theorem State.freeze_launch_field {α : Type} {g : Launch → α}
    (hg : ∀ x cs a b c d, g { x with causes := cs, fstart := a, gsave := b, fcause := c, fjoined := d } = g x) (s : State) (l : Nat) (z : Cause)
    (j : Nat) : g ((s.freeze l z).launch j) = g (s.launch j) := by
  have hset : ∀ (u : State) (h : Launch → Launch), (∀ j, u.launch j = s.launch j) → (∀ x, g (h x) = g x) →
      g ((u.modLaunch l h).launch j) = g (s.launch j) := by
    intro u h hu hh
    rw [State.launch_modLaunch, hu, hu]
    split
    · subst j
      exact hh _
    · rfl
  rw [State.freeze]
  cases z.core <;> split
  · exact (congrArg g (State.toPeers_launch ..)).trans (hset _ _ (fun _ => rfl) fun x => hg ..)
  · exact hset _ _ (fun _ => rfl) fun x => hg ..
  · exact (congrArg g (State.toPeers_launch ..)).trans (hset _ _ (fun _ => rfl) fun x => hg ..)
  · exact hset _ _ (fun _ => rfl) fun x => hg ..

theorem State.freeze_port {α : Type} {g : Port → α} (hg : ∀ x ms, g { x with msgs := ms } = g x) (s : State) (l : Nat) (z : Cause) :
    g ((s.freeze l z).port p) = g (s.port p) := by
  rw [State.freeze]
  cases z.core <;> split
  · exact State.toPeers_port hg ..
  · rfl
  · exact State.toPeers_port hg ..
  · rfl

theorem State.linkRecord_launches (s : State) (sub port lane low value : Nat) :
    (s.linkRecord sub port lane low value).launches = s.launches := by
  rw [State.linkRecord]
  split <;> simp

end

end Sys2Proof.Machine
end

section
/-! Frames (17_fabric.md R366 to R368, R370, R381). -/

namespace Sys2Proof.Machine

/-! Lists of flits. -/

section
variable {tx : List TxFlit}

theorem getElem?_frameFlits (tx : List TxFlit) (kind : Nat) {i : Nat} (hi : i < 6) : (frameFlits tx kind)[i]? =
    some (match tx.find? fun x => x.pos == i with | some x => { x.flit with kind := kind } | none => ⟨0, 0, 0, List.replicate 64 0⟩) := by
  rw [frameFlits, List.getElem?_map, List.getElem?_range hi]
  rfl

/-- Of flits at distinct positions, each is found at its own. -/
theorem find?_pos (hnodup : (tx.map (·.pos)).Nodup) {x : TxFlit} (hx : x ∈ tx) : (tx.find? fun y => y.pos == x.pos) = some x := by
  induction tx with
  | nil => cases hx
  | cons y ys ih =>
    rw [List.map_cons, List.nodup_cons] at hnodup
    obtain ⟨hfirst, hrest⟩ := hnodup
    rcases List.mem_cons.mp hx with rfl | hmem
    · simp
    · have hne : y.pos ≠ x.pos := fun h => hfirst (List.mem_map.mpr ⟨x, hmem, h.symm⟩)
      rw [List.find?_cons_of_neg (by simpa using hne)]
      exact ih hrest hmem

theorem mem_insertFlit (x : QFlit) (q : List QFlit) : x ∈ insertFlit x q := by
  induction q with
  | nil => exact List.mem_singleton_self x
  | cons y q ih =>
    rw [insertFlit]
    split
    · exact List.mem_cons_self
    · exact List.mem_cons_of_mem _ ih

theorem length_insertFlit (x : QFlit) (q : List QFlit) : (insertFlit x q).length = q.length + 1 := by
  induction q with
  | nil => rfl
  | cons y q ih =>
    rw [insertFlit]
    split
    · rfl
    · rw [List.length_cons, ih, List.length_cons]

theorem foldl_of_id {α β : Type} {f : β → α → β} {l : List α} (h : ∀ a ∈ l, ∀ b, f b a = b) (b : β) : l.foldl f b = b := by
  induction l with
  | nil => rfl
  | cons a l ih =>
    rw [List.foldl_cons, h a List.mem_cons_self]
    exact ih fun x hx => h x (List.mem_cons_of_mem a hx)

/-- A fold that only one element of its list moves. -/
theorem foldl_single {α β : Type} {f : β → α → β} {l : List α} {i : Nat} (hi : i < l.length)
    (hid : ∀ j (hj : j < l.length), j ≠ i → ∀ b, f b l[j] = b) (b : β) : l.foldl f b = f b l[i] := by
  induction l generalizing i b with
  | nil => cases hi
  | cons a l ih =>
    rw [List.foldl_cons]
    cases i with
    | zero =>
      refine foldl_of_id (fun x hx b => ?_) _
      obtain ⟨j, hj, rfl⟩ := List.getElem_of_mem hx
      exact hid (j + 1) (Nat.succ_lt_succ hj) (Nat.succ_ne_zero j) b
    | succ i =>
      rw [show f b a = b from hid 0 (Nat.succ_pos _) (Nat.succ_ne_zero i).symm b]
      exact ih (Nat.lt_of_succ_lt_succ hi) (fun j hj hne => hid (j + 1) (Nat.succ_lt_succ hj) fun h => hne (Nat.succ.inj h)) b

end

/-! A frame's send (R366, R367). -/

section
variable {s : State} {p n : Nat}

/-- A fragment of the message channel takes only what waits for the channel. -/
theorem Port.fragment_rest (x : Port) (corr : Nat) :
    ∃ fs rs ms, (x.fragment corr).2 = { x with frags := fs, retries := rs, msgs := ms } := by
  rw [Port.fragment]
  split <;> exact ⟨_, _, _, rfl⟩

/-- The port with the frame's fragment taken. -/
def State.fragmented (s : State) (p : Nat) : List Byte × Port :=
  ({ s.port p with sentAt := s.wall } : Port).fragment (s.launch ((s.portLaunch p).getD 0)).corr

/-- The port behind the frame `o` that has sent all its flits. -/
def Port.allSent (x : Port) (o : Frame) : Port :=
  let y := { x with tx := [], sent := keepSent (x.sent ++ x.tx), out := some o }
  if x.forced then { y with forced := false, crcRetries := x.crcRetries + 1, resend := x.resend ++ x.tx } else y

theorem execFrameSend_ready (hstream : (s.port p).stream = []) (hrun : (s.launch ((s.portLaunch p).getD 0)).causes = [])
    (hn : n ≤ (s.launch ((s.portLaunch p).getD 0)).lclk / 8) (htx : (s.port p).tx ≠ []) (hall : ∀ x ∈ (s.port p).tx, x.frame = n) :
    exec (.frameSend p) s = .next (s.setPort p
      ((s.fragmented p).2.allSent (sealFrame p n (frameFlits (s.port p).tx 1) (s.fragmented p).1))) := by
  obtain ⟨t, ts, hhead⟩ := List.exists_cons_of_ne_nil htx
  have ht : t.frame = n := hall t (hhead ▸ List.mem_cons_self)
  have hnow : (s.port p).tx.filter (fun t => t.frame == n) = (s.port p).tx := List.filter_eq_self.mpr fun x hx => beq_iff_eq.mpr (hall x hx)
  have hlater : (s.port p).tx.filter (fun t => t.frame ≠ n) = [] := List.filter_eq_nil_iff.mpr fun x hx => by simpa using hall x hx
  have hfirst : (s.port p).tx.head? = some t := congrArg List.head? hhead
  obtain ⟨fs, rs, ms, hrest⟩ := Port.fragment_rest { s.port p with sentAt := s.wall } (s.launch ((s.portLaunch p).getD 0)).corr
  rw [exec_frameSend, execFrameSend, if_neg (not_not.mpr hstream)]
  simp only [hfirst, hrun, ht, List.isEmpty_nil, hn, decide_true, Bool.and_self, if_true, hrest, Option.map_some, Option.getD_some, hnow, hlater,
    State.fragmented, Port.allSent]

theorem frameFlits_of_mem {tx : List TxFlit} (hnodup : (tx.map (·.pos)).Nodup) {x : TxFlit} (hx : x ∈ tx) (hpos : x.pos < 6) (kind : Nat)
    (d : Flit) : (frameFlits tx kind).getD x.pos d = { x.flit with kind := kind } := by
  rw [List.getD_eq_getElem?_getD, getElem?_frameFlits _ _ hpos, find?_pos hnodup hx, Option.getD_some]

theorem frameFlits_of_not_mem {tx : List TxFlit} {i : Nat} (hi : i < 6) (hfree : ∀ x ∈ tx, x.pos ≠ i) (kind : Nat) (d : Flit) :
    ((frameFlits tx kind).getD i d).kind = 0 := by
  have hnone : (tx.find? fun x => x.pos == i) = none := List.find?_eq_none.mpr fun x hx => by simpa using hfree x hx
  rw [List.getD_eq_getElem?_getD, getElem?_frameFlits _ _ hi, hnone, Option.getD_some]

theorem Port.allSent_tx (x : Port) (o : Frame) : (x.allSent o).tx = [] := by
  rw [Port.allSent]
  split <;> rfl

theorem Port.allSent_out (x : Port) (o : Frame) : (x.allSent o).out = some o := by
  rw [Port.allSent]
  split <;> rfl

theorem Port.allSent_forced {x : Port} (h : x.forced = true) (o : Frame) :
    (x.allSent o).crcRetries = x.crcRetries + 1 ∧ (x.allSent o).resend = x.resend ++ x.tx := by
  rw [Port.allSent, if_pos h]
  exact ⟨rfl, rfl⟩

/-- What the fragment leaves alone. -/
theorem State.fragmented_port (s : State) (p : Nat) : (s.fragmented p).2.forced = (s.port p).forced ∧
    (s.fragmented p).2.crcRetries = (s.port p).crcRetries ∧ (s.fragmented p).2.tx = (s.port p).tx := by
  obtain ⟨fs, rs, ms, hrest⟩ := Port.fragment_rest { s.port p with sentAt := s.wall } (s.launch ((s.portLaunch p).getD 0)).corr
  rw [State.fragmented, hrest]
  exact ⟨rfl, rfl, rfl⟩

end

/-! A frame's arrival (R368, R370, R381). -/

section
variable {s : State} {p l n i ci : Nat} {f : Ftt} {x : Flit}

theorem State.enqueueFlit_room (hf : (s.launch l).ftt = some f) (hci : f.recvCircuit p n i = some ci)
    (hroom : (alGet [] (s.launch l).rq ci).length < ((f.circuits[ci]?).map Circuit.rqd).getD 0) :
    s.enqueueFlit p l n i x =
      s.modLaunch l fun y => { y with rq := alSet y.rq ci (insertFlit ⟨n, i, x⟩ (alGet [] (s.launch l).rq ci)) } := by
  rw [State.enqueueFlit, hf]
  dsimp only
  rw [hci]
  exact if_neg (Nat.not_le.mpr hroom)

theorem State.enqueueFlit_full (hf : (s.launch l).ftt = some f) (hci : f.recvCircuit p n i = some ci)
    (hfull : ((f.circuits[ci]?).map Circuit.rqd).getD 0 ≤ (alGet [] (s.launch l).rq ci).length) :
    s.enqueueFlit p l n i x = s.modPort p fun y => { y with crcRetries := y.crcRetries + 1 } := by
  rw [State.enqueueFlit, hf]
  dsimp only
  rw [hci]
  exact if_pos hfull

/-! The end of a slack exhaustion, and its beginning, change no core, no memory, no queue and no count. -/

theorem State.thawSlack_cores (s : State) (p : Nat) : (s.thawSlack p).cores = s.cores := by
  refine foldl_keeps _ State.cores (fun s x => ?_) _ _
  split
  · exact State.toPeers_cores ..
  · rfl

theorem State.thawSlack_mem (s : State) (p : Nat) : (s.thawSlack p).mem = s.mem := by
  refine foldl_keeps _ State.mem (fun s x => ?_) _ _
  split
  · exact State.toPeers_mem ..
  · rfl

/-- What of a launch does not depend on its causes stays when a slack exhaustion ends. -/
theorem State.thawSlack_launch {α : Type} {g : Launch → α} (hg : ∀ x cs, g { x with causes := cs } = g x) (s : State) (p j : Nat) :
    g ((s.thawSlack p).launch j) = g (s.launch j) := by
  refine foldl_keeps _ (fun s => g (s.launch j)) (fun s x => ?_) _ _
  split
  · rw [State.toPeers_launch, State.launch_modLaunch]
    split
    · subst j
      exact hg ..
    · rfl
  · rfl

theorem State.thawSlack_port {α : Type} {g : Port → α} (hm : ∀ x ms, g { x with msgs := ms } = g x)
    (he : ∀ x e, g { x with exhausted := e } = g x) (s : State) (p j : Nat) : g ((s.thawSlack p).port j) = g (s.port j) := by
  refine (foldl_keeps _ (fun s => g (s.port j)) (fun s x => ?_) _ _).trans ?_
  · split
    · exact State.toPeers_port hm ..
    · rfl
  · rw [State.port_modPort]
    split
    · subst j
      exact he ..
    · rfl

theorem State.endSlack_cases (s : State) (p : Nat) : s.endSlack p = s ∨ s.endSlack p = s.thawSlack p := by
  rw [State.endSlack]
  split
  · exact .inl rfl
  · exact .inr rfl

theorem State.keepsAll_endSlack (s : State) (p : Nat) : s.KeepsAll (s.endSlack p) := by
  rcases s.endSlack_cases p with h | h <;> rw [h]
  · exact State.keepsAll_of_cores rfl rfl
  · exact State.keepsAll_of_cores (s.thawSlack_cores p) (s.thawSlack_mem p)

theorem State.endSlack_rq (s : State) (p j : Nat) : ((s.endSlack p).launch j).rq = (s.launch j).rq := by
  rcases s.endSlack_cases p with h | h <;> rw [h]
  exact State.thawSlack_launch (g := Launch.rq) (fun _ _ => rfl) ..

theorem State.endSlack_crcRetries (s : State) (p j : Nat) : ((s.endSlack p).port j).crcRetries = (s.port j).crcRetries := by
  rcases s.endSlack_cases p with h | h <;> rw [h]
  exact State.thawSlack_port (g := Port.crcRetries) (fun _ _ => rfl) (fun _ _ => rfl) ..

/-- What does not change with a freeze of any launch for a slack exhaustion stays when it begins. -/
theorem State.exhaust_keeps {α : Type} {g : State → α} (hport : g (s.modPort p fun x => { x with exhausted := some s.gtime }) = g s)
    (hfreeze : ∀ (s : State) l m, g ((s.freeze l (.slack p)).toPeers l m) = g s) : g (s.exhaust p) = g s := by
  rw [State.exhaust]
  split
  · rfl
  · refine (foldl_keeps _ g (fun s x => ?_) _ _).trans hport
    split
    · exact hfreeze ..
    · rfl

theorem State.keepsAll_exhaust (s : State) (p : Nat) : s.KeepsAll (s.exhaust p) := by
  refine State.keepsAll_of_core (State.exhaust_keeps (g := State.core) rfl fun s l m => ?_)
    (State.exhaust_keeps (g := State.mem) rfl fun s l m => ?_)
  · funext j
    rw [State.toPeers_core, State.freeze_core]
    rfl
  · rw [State.toPeers_mem, State.freeze_mem]

theorem State.exhaust_rq (s : State) (p j : Nat) : ((s.exhaust p).launch j).rq = (s.launch j).rq := by
  refine State.exhaust_keeps (g := fun s => (s.launch j).rq) rfl fun s l m => ?_
  rw [State.toPeers_launch]
  exact State.freeze_launch_field (g := Launch.rq) (fun _ _ _ _ _ _ => rfl) ..

theorem State.exhaust_port {α : Type} {g : Port → α} (hm : ∀ x ms, g { x with msgs := ms } = g x)
    (he : ∀ x e, g { x with exhausted := e } = g x) (s : State) (p j : Nat) : g ((s.exhaust p).port j) = g (s.port j) := by
  refine State.exhaust_keeps (g := fun s => g (s.port j)) ?_ fun s l m => ?_
  · rw [State.port_modPort]
    split
    · subst j
      exact he ..
    · rfl
  · exact (State.toPeers_port hm ..).trans (State.freeze_port hm ..)

/-- A frame with one launch flit enqueues that one. -/
theorem execFrameReceive_single {fr : Frame} (hl : s.portLaunch fr.port = some l) (hi : i < 6) (hok : fr.crcOk = true)
    (hlen : fr.flits.length = 6) (hother : ∀ j < 6, j ≠ i → (fr.flits.getD j ⟨0, 0, 1, []⟩).kind = 0)
    (hx : fr.flits.getD i ⟨0, 0, 0, []⟩ = x) (hkind : x.kind = 1) :
    exec (.frameReceive fr) s =
      .next ((s.enqueueFlit fr.port l (frameOfNum ((s.launch l).lclk / 8) fr.fnum) i x).endSlack fr.port) := by
  have hzip : ∀ j (hj : j < ((List.range 6).zip fr.flits).length), ∃ h : j < fr.flits.length,
      ((List.range 6).zip fr.flits)[j] = (j, fr.flits[j]) := by
    intro j hj
    rw [List.length_zip, List.length_range] at hj
    exact ⟨by omega, by rw [List.getElem_zip, List.getElem_range]⟩
  have hsize : i < ((List.range 6).zip fr.flits).length := by rw [List.length_zip, List.length_range]; omega
  rw [exec_frameReceive, execFrameReceive, hl]
  dsimp only
  rw [hok, if_neg (by decide), foldl_single hsize fun j hj hne t => ?_]
  · obtain ⟨h, hget⟩ := hzip i hsize
    rw [List.getD_eq_getElem _ _ h] at hx
    rw [hget, hx]
    dsimp only
    rw [if_pos hkind]
  · obtain ⟨h, hget⟩ := hzip j hj
    have hzero := hother j (by omega) hne
    rw [List.getD_eq_getElem _ _ h] at hzero
    rw [hget]
    dsimp only
    rw [hzero, if_neg (by decide), if_neg (by decide)]

/-- A frame with a bad CRC is asked for again; its port may exhaust its slack. -/
theorem execFrameReceive_bad {fr : Frame} (hl : s.portLaunch fr.port = some l) (hok : fr.crcOk = false) :
    ∃ (held : Port → List (Nat × Nat)) (lost : Bool), let t := s.modPort fr.port fun y =>
        { y with crcRetries := y.crcRetries + 1, retries := y.retries ++ [fr.fnum], waiting := y.waiting ++ held y }
      exec (.frameReceive fr) s = .next (if lost then t.exhaust fr.port else t) := by
  rw [exec_frameReceive, execFrameReceive, hl]
  dsimp only
  rw [hok, Bool.not_false, if_pos rfl]
  exact ⟨_, _, rfl⟩

end

theorem framesCross : Claims.FramesCross := by
  intro s p
  refine ⟨?_, fun fr l f ci i hl hf hi => ?_, fun fnum => ?_⟩
  · intro n l hstream hrun hn htx hall hnodup
    obtain ⟨hforced, hretries, hflits⟩ := s.fragmented_port p
    refine ⟨_, sealFrame p n (frameFlits (s.port p).tx 1) (s.fragmented p).1,
      execFrameSend_ready hstream hrun hn htx fun x hx => (hall x hx).1, State.keepsAll_of_cores rfl rfl, ?_, ?_, rfl, rfl, rfl, rfl,
      fun x hx => frameFlits_of_mem hnodup hx (hall x hx).2 .., fun i hi hfree => frameFlits_of_not_mem hi hfree .., fun hf => ?_⟩
    · rw [State.port_setPort_same, Port.allSent_tx]
    · rw [State.port_setPort_same, Port.allSent_out]
    · obtain ⟨hcount, hresend⟩ := Port.allSent_forced (hforced.trans hf)
        (sealFrame p n (frameFlits (s.port p).tx 1) (s.fragmented p).1)
      rw [State.port_setPort_same, hcount, hresend, hretries, hflits]
      exact ⟨rfl, fun x hx => List.mem_append_right _ hx⟩
  · intro n q
    refine ⟨fun hok hlen hother x hx hkind hci => ⟨fun hroom => ?_, fun hfull => ?_⟩, fun hok => ?_⟩
    · have hexec := execFrameReceive_single hl hi hok hlen hother hx hkind
      rw [State.enqueueFlit_room hf hci hroom] at hexec
      refine ⟨_, hexec, (State.keepsAll_of_cores rfl rfl).trans (State.keepsAll_endSlack ..), ?_, ?_⟩
      all_goals rw [State.endSlack_rq, State.launch_modLaunch_same, alGet_alSet_same]
      · exact mem_insertFlit ..
      · exact length_insertFlit ..
    · have hexec := execFrameReceive_single hl hi hok hlen hother hx hkind
      rw [State.enqueueFlit_full hf hci hfull] at hexec
      refine ⟨_, hexec, (State.keepsAll_modPort ..).trans (State.keepsAll_endSlack ..), ?_, ?_⟩
      · rw [State.endSlack_rq]
        rfl
      · rw [State.endSlack_crcRetries, State.port_modPort_same]
    · obtain ⟨held, lost, hexec⟩ := execFrameReceive_bad hl hok
      refine ⟨_, hexec, ?_⟩
      cases lost with
      | false =>
        rw [if_neg Bool.false_ne_true]
        refine ⟨State.keepsAll_modPort .., rfl, ?_, ?_⟩ <;> rw [State.port_modPort_same]
        exact List.mem_append_right _ (List.mem_singleton_self _)
      | true =>
        rw [if_pos rfl]
        refine ⟨(State.keepsAll_modPort ..).trans (State.keepsAll_exhaust ..), ?_, ?_, ?_⟩
        · rw [State.exhaust_rq]
          rfl
        · rw [State.exhaust_port (g := Port.crcRetries) (fun _ _ => rfl) (fun _ _ => rfl), State.port_modPort_same]
        · rw [State.exhaust_port (g := Port.retries) (fun _ _ => rfl) (fun _ _ => rfl), State.port_modPort_same]
          exact List.mem_append_right _ (List.mem_singleton_self _)
  · refine ⟨_, exec_retryRequest .., State.keepsAll_modPort .., ?_, fun x hx hframe => ?_⟩
    · rw [State.port_modPort_same]
    · rw [State.port_modPort_same]
      by_cases hthere : x ∈ (s.port p).resend
      · exact List.mem_append_left _ hthere
      · refine List.mem_append_right _ (List.mem_filter.mpr ⟨List.mem_append_left _ (List.mem_filter.mpr ⟨hx, ?_⟩), ?_⟩)
        · exact beq_iff_eq.mpr hframe
        · simpa using hthere

end Sys2Proof.Machine
end

section
/-! The end of a launch (13_launch.md R144, R304, R329). -/

namespace Sys2Proof.Machine

/-- Ports stay, and of each launch all but what its digest counts. -/
structure State.KeepsLives (s t : State) : Prop where
  launches : ∀ j, ∃ cs, t.launch j = { s.launch j with contrib := cs }
  ports : t.ports = s.ports

section
variable {s t u : State}

theorem State.keepsLives_of_launches (hl : t.launches = s.launches) (hp : t.ports = s.ports) : s.KeepsLives t :=
  ⟨fun j => ⟨(s.launch j).contrib, by rw [State.launch, hl]; rfl⟩, hp⟩

theorem State.KeepsLives.refl (s : State) : s.KeepsLives s := State.keepsLives_of_launches rfl rfl

theorem State.KeepsLives.trans (h : s.KeepsLives t) (h' : t.KeepsLives u) : s.KeepsLives u := by
  refine ⟨fun j => ?_, h'.ports.trans h.ports⟩
  obtain ⟨cs, hcs⟩ := h.launches j
  obtain ⟨ds, hds⟩ := h'.launches j
  exact ⟨ds, by rw [hds, hcs]⟩

theorem State.OnlyMemory.keepsLives (h : s.OnlyMemory t) : s.KeepsLives t := State.keepsLives_of_launches h.launches h.ports

theorem State.keepsLives_foldl {α : Type} {f : State → α → State} (h : ∀ (s : State) x, s.KeepsLives (f s x)) (l : List α) (s : State) :
    s.KeepsLives (l.foldl f s) := by
  induction l generalizing s with
  | nil => exact .refl s
  | cons x l ih => exact (h s x).trans (ih _)

theorem State.keepsLives_undigest (s : State) (k slot cycle : Nat) (glob : Bool) (a n : Nat) :
    s.KeepsLives (s.undigest k slot cycle glob a n) := by
  refine ⟨fun j => ?_, rfl⟩
  rw [State.undigest, State.launch_modLaunch]
  split
  · subst j
    exact ⟨_, rfl⟩
  · exact ⟨_, rfl⟩

theorem State.keepsLives_restoreSeen (s : State) (x : Seen) : s.KeepsLives (s.restoreSeen x) := by
  rw [State.restoreSeen]
  split <;> exact State.keepsLives_of_launches rfl rfl

theorem State.keepsLives_withdraw (s : State) (x : Seen) (cause : Nat) : s.KeepsLives (s.withdraw x cause) := by
  rw [State.withdraw]
  dsimp only
  have hback : s.KeepsLives (if x.acc.land then s.restoreSeen x else s) := by
    split
    · exact s.keepsLives_restoreSeen x
    · exact .refl s
  generalize (if x.acc.land then s.restoreSeen x else s) = t at hback ⊢
  refine hback.trans ?_
  split
  · exact State.keepsLives_of_launches rfl rfl
  · have hcount : t.KeepsLives (if x.acc.land then t.undigest x.acc.core x.slot (t.core x.acc.core).clk (decide (x.acc.flat < 2 ^ 40))
        x.acc.addr x.acc.n else t) := by
      split
      · exact t.keepsLives_undigest ..
      · exact .refl t
    generalize (if x.acc.land then t.undigest x.acc.core x.slot (t.core x.acc.core).clk (decide (x.acc.flat < 2 ^ 40))
        x.acc.addr x.acc.n else t) = u at hcount ⊢
    refine hcount.trans ?_
    split
    · split <;> exact State.keepsLives_of_launches rfl rfl
    · exact State.keepsLives_of_launches rfl rfl

theorem State.onlyMemory_atomicAt (s : State) (flat : Nat) (op : AtomicOp) (w64 : Bool) (v cmp : Word) :
    s.OnlyMemory (s.atomicAt flat op w64 v cmp).1 := (s.onlyMemory_landBytes flat _ [] false 0).trans rfl

theorem State.keepsLives_increment (s : State) (flat : Nat) : s.KeepsLives (s.increment flat) := by
  rw [State.increment]
  split
  · exact (s.onlyMemory_atomicAt ..).keepsLives
  · refine State.KeepsLives.trans ?_ (State.keepsLives_foldl (fun s x => s.keepsLives_withdraw x 10) _ _)
    exact State.keepsLives_of_launches rfl rfl

theorem State.keepsLives_incrementParent (s : State) (l : Launch) : s.KeepsLives (s.incrementParent l) := by
  rw [State.incrementParent]
  split
  · exact .refl s
  · split
    · split
      · exact s.keepsLives_increment _
      · exact .refl s
    · exact .refl s

theorem State.keepsLives_putStatus (s : State) (l : Launch) (digest : Word) : s.KeepsLives (s.putStatus l digest) := by
  rw [State.putStatus]
  split
  · exact .refl s
  · exact (s.onlyMemory_writeAt ..).keepsLives

theorem State.needEval_launches (s : State) : s.needEval.launches = s.launches := by
  rw [State.needEval]
  split <;> rfl

theorem State.needEval_ports (s : State) : s.needEval.ports = s.ports := by
  rw [State.needEval]
  split <;> rfl

theorem State.needEval_evalDue (s : State) : s.needEval.seq.evalDue = true := by
  rw [State.needEval]
  split
  · assumption
  · rfl

/-- A launch as its end leaves it. -/
def State.endedLaunch (s : State) (l st reason : Nat) : Launch :=
  { s.launch l with phase := .ended, status := st, reason := reason, gend := s.gtime, causes := [], pre := .none, steps := none, dbg := false,
                    thawAt := none, thaws := [], saved := none }

/-- The package with a launch's status, cores and ports as its end leaves them, before the launch's record and its parent's increment. -/
def State.retired (s : State) (l st reason : Nat) : State :=
  let t := { s.setLaunch l (s.endedLaunch l st reason) with cores := freeCores l s.cores }
  let t := if st = 8 then { t with ports := t.ports.map fun p =>
      (p.1, { p.2 with tx := p.2.tx.filter (·.launch ≠ l), resend := p.2.resend.filter (·.launch ≠ l) }) } else t
  { t with seq := { t.seq with reserved := t.seq.reserved.filter fun r => r.1 != l, dumps := t.seq.dumps.filter fun d => d.launch != l } }

theorem State.keepsLives_endLaunch (s : State) (l st reason : Nat) (digest : Word) :
    (s.retired l st reason).KeepsLives (s.endLaunch l st reason digest) :=
  (State.keepsLives_putStatus ..).trans <| (State.keepsLives_incrementParent ..).trans <|
    (State.keepsLives_of_launches (State.launchEvent_launches ..) (State.launchEvent_ports ..)).trans
      (State.keepsLives_of_launches (State.needEval_launches _) (State.needEval_ports _))

theorem State.retired_launch (s : State) (l st reason j : Nat) :
    (s.retired l st reason).launch j = if j = l then s.endedLaunch l st reason else s.launch j := by
  have hset : (s.retired l st reason).launches = (s.setLaunch l (s.endedLaunch l st reason)).launches := by
    rw [State.retired]
    split <;> rfl
  rw [State.launch, hset]
  exact alGet_alSet ..

/-- Values mapped under their keys. -/
theorem alGet_mapVal {α β : Type} (d : α) (h : α → β) (l : List (Nat × α)) (k : Nat) :
    alGet (h d) (l.map fun x => (x.1, h x.2)) k = h (alGet d l k) := by
  have hfind : (l.map fun x => (x.1, h x.2)).find? (fun x => x.1 == k) = (l.find? fun x => x.1 == k).map fun x => (x.1, h x.2) :=
    List.find?_map ..
  rw [alGet, alGet, hfind]
  cases l.find? fun x => x.1 == k <;> rfl

/-- A listed value stands at its key where each key is listed once. -/
theorem Rising.alGet_of_mem {α : Type} {d : α} {l : List (Nat × α)} (h : Rising l) {x : Nat × α} (hx : x ∈ l) : alGet d l x.1 = x.2 := by
  induction l with
  | nil => cases hx
  | cons y l ih =>
    obtain ⟨hfirst, hrest⟩ := List.pairwise_cons.mp h
    rcases List.mem_cons.mp hx with rfl | hmem
    · simp [alGet]
    · have hne : y.1 ≠ x.1 := (hfirst x hmem).ne
      rw [← List.singleton_append, alGet_append_right (by simpa using hne)]
      exact ih hrest hmem

/-- The end of a launch leaves it as ended, and of the others all but their digests. -/
theorem State.endLaunch_launch (s : State) (l st reason : Nat) (digest : Word) (j : Nat) :
    ∃ cs, (s.endLaunch l st reason digest).launch j = { (if j = l then s.endedLaunch l st reason else s.launch j) with contrib := cs } := by
  obtain ⟨cs, hcs⟩ := (s.keepsLives_endLaunch l st reason digest).launches j
  exact ⟨cs, by rw [hcs, State.retired_launch]⟩

/-- Of a port, the end of a launch withdraws only flits. -/
theorem State.endLaunch_port (s : State) (l st reason : Nat) (digest : Word) (p : Nat) :
    ∃ keep, (s.endLaunch l st reason digest).port p =
      { s.port p with tx := (s.port p).tx.filter keep, resend := (s.port p).resend.filter keep } := by
  have hid : ∀ x : Port, x = { x with tx := x.tx.filter fun _ => true, resend := x.resend.filter fun _ => true } := fun x => by simp
  rw [State.port, (s.keepsLives_endLaunch l st reason digest).ports, State.retired]
  split
  · exact ⟨fun t => t.launch ≠ l, alGet_mapVal Port.zero
      (fun x : Port => { x with tx := x.tx.filter (·.launch ≠ l), resend := x.resend.filter (·.launch ≠ l) }) s.ports p⟩
  · exact ⟨_, hid _⟩

end

end Sys2Proof.Machine
end

section
/-! Ports that recover (17_fabric.md R368, R386). -/

namespace Sys2Proof.Machine

section
variable {s : State} {p l : Nat}

/-! A late flit (R368). -/

theorem State.exhausted_of_lateFlit (h : s.lateFlit p = true) : (s.port p).exhausted = none := by
  rw [State.lateFlit] at h
  split at h
  · cases h
  · split at h
    · cases h
    · exact Option.isNone_iff_eq_none.mp (Bool.and_eq_true_iff.mp h).1

theorem execFlitArrivalTimeout_late (h : s.lateFlit p = true) : exec (.flitArrivalTimeout p) s = .next (s.exhaust p) :=
  congrArg Host.Outcome.next (if_pos h)

/-- A launch's part in a port's slack exhaustion. -/
def State.slackFreeze (p : Nat) (s : State) (x : Nat × Launch) : State :=
  if x.2.phase = .running ∧ x.2.ftt.isSome then (s.freeze x.1 (.slack p)).toPeers x.1 (.freeze x.2.lclk (x.2.lclk + x.2.stagger) 4) else s

theorem State.exhaust_eq (h : (s.port p).exhausted = none) :
    s.exhaust p = s.launches.foldl (State.slackFreeze p) (s.modPort p fun x => { x with exhausted := some s.gtime }) := by
  rw [State.exhaust, h]
  rfl

theorem State.exhaust_exhausted (h : (s.port p).exhausted = none) : ((s.exhaust p).port p).exhausted = some s.gtime := by
  rw [State.exhaust_eq h]
  refine (foldl_keeps _ (fun s => (s.port p).exhausted) (fun s x => ?_) _ _).trans (by rw [State.port_modPort_same])
  rw [State.slackFreeze]
  split
  · exact (State.toPeers_port (g := Port.exhausted) (fun _ _ => rfl) ..).trans (State.freeze_port (fun _ _ => rfl) ..)
  · rfl

theorem State.slackFreeze_launch (s : State) (x : Nat × Launch) (j : Nat) :
    ((s.slackFreeze p x).launch j).causes = if j = x.1 ∧ x.2.phase = .running ∧ x.2.ftt.isSome then (s.launch j).causes ++ [.slack p]
      else (s.launch j).causes := by
  rw [State.slackFreeze]
  by_cases hruns : x.2.phase = .running ∧ x.2.ftt.isSome = true
  · rw [if_pos hruns, State.toPeers_launch, State.freeze_launch]
    by_cases hj : j = x.1 <;> simp [hj, hruns]
  · rw [if_neg hruns, if_neg fun h => hruns h.2]

theorem State.slackFreeze_foldl {j : Nat} (ls : List (Nat × Launch)) (h : Cause.slack p ∈ (s.launch j).causes) :
    Cause.slack p ∈ ((ls.foldl (State.slackFreeze p) s).launch j).causes := by
  induction ls generalizing s with
  | nil => exact h
  | cons x ls ih =>
    refine ih ?_
    rw [State.slackFreeze_launch]
    split
    · exact List.mem_append_left _ h
    · exact h

/-- Every running launch of the domain is frozen. -/
theorem State.exhaust_causes (h : (s.port p).exhausted = none) {x : Nat × Launch} (hx : x ∈ s.launches)
    (hruns : x.2.phase = .running ∧ x.2.ftt.isSome = true) : Cause.slack p ∈ ((s.exhaust p).launch x.1).causes := by
  obtain ⟨before, behind, hsplit⟩ := List.append_of_mem hx
  rw [State.exhaust_eq h, hsplit, List.foldl_append, List.foldl_cons]
  refine State.slackFreeze_foldl behind ?_
  rw [State.slackFreeze_launch, if_pos ⟨rfl, hruns⟩]
  exact List.mem_append_right _ (List.mem_singleton_self _)

/-! A port that retrains (R368, R386). -/

/-- The freeze of a kill, once begun, holds the launch. -/
theorem State.beginKill_causes {i : KillInfo} (h : (s.launch l).kill = some i) : Cause.kill ∈ ((s.beginKill l).launch l).causes := by
  rw [State.beginKill, h]
  dsimp only
  split
  · next hthere => simpa using hthere
  · rw [State.toPeers_launch, State.freeze_launch, if_pos rfl]
    exact List.mem_append_right _ (List.mem_singleton_self _)

theorem State.beginKill_launch {j : Nat} (h : j ≠ l) (s : State) : ((s.beginKill l).launch j).causes = (s.launch j).causes := by
  rw [State.beginKill]
  split
  · rfl
  · split
    · rfl
    · rw [State.toPeers_launch, State.freeze_launch, if_neg h]

theorem State.beginKill_field {α : Type} {g : Launch → α}
    (hg : ∀ x cs a b c d, g { x with causes := cs, fstart := a, gsave := b, fcause := c, fjoined := d } = g x) (s : State) (l j : Nat) :
    g ((s.beginKill l).launch j) = g (s.launch j) := by
  rw [State.beginKill]
  split
  · rfl
  · split
    · rfl
    · rw [State.toPeers_launch]
      exact State.freeze_launch_field hg ..

theorem State.beginKill_port {α : Type} {g : Port → α} (hm : ∀ x ms, g { x with msgs := ms } = g x) (s : State) (l p : Nat) :
    g ((s.beginKill l).port p) = g (s.port p) := by
  rw [State.beginKill]
  split
  · rfl
  · split
    · rfl
    · exact (State.toPeers_port hm ..).trans (State.freeze_port hm ..)

/-- A launch that runs, frozen for its kill where it has one. -/
def Launch.KillSound (x : Launch) : Prop := x.phase = .running ∧ (x.kill ≠ none → Cause.kill ∈ x.causes)

/-- A launch that runs and is being killed. -/
def Launch.Dying (x : Launch) : Prop := x.phase = .running ∧ x.kill ≠ none ∧ Cause.kill ∈ x.causes

theorem Launch.Dying.sound {x : Launch} (h : x.Dying) : x.KillSound := ⟨h.1, fun _ => h.2.2⟩

/-- A running launch's kill. -/
theorem State.killLaunch_self {reason : Nat} (h : (s.launch l).KillSound) : ((s.killLaunch l reason).launch l).Dying := by
  obtain ⟨hrun, hfrozen⟩ := h
  rw [State.killLaunch, hrun]
  dsimp only
  split
  · next hkill =>
    have hsome : (s.launch l).kill ≠ none := Option.isSome_iff_ne_none.mp hkill
    exact ⟨hrun, hsome, hfrozen hsome⟩
  · refine ⟨?_, ?_, State.beginKill_causes (by rw [State.launch_modLaunch_same])⟩
    · rw [State.beginKill_field (g := Launch.phase) (fun _ _ _ _ _ _ => rfl), State.launch_modLaunch_same]
      exact hrun
    · rw [State.beginKill_field (g := Launch.kill) (fun _ _ _ _ _ _ => rfl), State.launch_modLaunch_same]
      exact Option.some_ne_none _

/-- The kill of another launch. -/
theorem State.killLaunch_other {j : Nat} (hj : j ≠ l) (s : State) (reason : Nat) :
    ((s.killLaunch l reason).launch j).phase = (s.launch j).phase ∧ ((s.killLaunch l reason).launch j).kill = (s.launch j).kill ∧
      ((s.killLaunch l reason).launch j).causes = (s.launch j).causes := by
  rw [State.killLaunch]
  split
  · exact ⟨rfl, rfl, rfl⟩
  · split
    · exact ⟨rfl, rfl, rfl⟩
    · rw [State.beginKill_field (g := Launch.phase) (fun _ _ _ _ _ _ => rfl), State.beginKill_field (g := Launch.kill) (fun _ _ _ _ _ _ => rfl),
        State.beginKill_launch hj, State.launch_modLaunch_other _ _ hj]
      exact ⟨rfl, rfl, rfl⟩
  · obtain ⟨cs, hcs⟩ := s.endLaunch_launch l 8 reason 0 j
    rw [State.toPeers_launch, hcs, if_neg hj]
    exact ⟨rfl, rfl, rfl⟩

theorem State.killLaunch_sound {j : Nat} (h : (s.launch j).KillSound) (reason : Nat) : ((s.killLaunch l reason).launch j).KillSound := by
  by_cases hj : j = l
  · subst j
    exact (State.killLaunch_self h).sound
  · obtain ⟨hphase, hkill, hcauses⟩ := s.killLaunch_other hj reason
    rw [Launch.KillSound, hphase, hkill, hcauses]
    exact h

theorem State.killLaunch_dying {j : Nat} (h : (s.launch j).Dying) (reason : Nat) : ((s.killLaunch l reason).launch j).Dying := by
  by_cases hj : j = l
  · subst j
    exact State.killLaunch_self h.sound
  · obtain ⟨hphase, hkill, hcauses⟩ := s.killLaunch_other hj reason
    rw [Launch.Dying, hphase, hkill, hcauses]
    exact h

/-- Every launch of a list is killed. -/
def State.killAll (s : State) (ls : List Nat) (reason : Nat) : State := ls.foldl (fun s l => s.killLaunch l reason) s

theorem State.killAll_dying {j : Nat} (h : (s.launch j).Dying) (ls : List Nat) (reason : Nat) :
    ((s.killAll ls reason).launch j).Dying := by
  induction ls generalizing s with
  | nil => exact h
  | cons l ls ih => exact ih (State.killLaunch_dying h reason)

theorem State.killAll_mem {j : Nat} {ls : List Nat} (h : (s.launch j).KillSound) (hj : j ∈ ls) (reason : Nat) :
    ((s.killAll ls reason).launch j).Dying := by
  induction ls generalizing s with
  | nil => cases hj
  | cons l ls ih =>
    rcases List.mem_cons.mp hj with rfl | hj
    · exact State.killAll_dying (State.killLaunch_self h) ls reason
    · exact ih (State.killLaunch_sound h reason) hj

/-- A port that is not trained and has nothing to send. -/
def Port.Idle (x : Port) : Prop := x.trained = false ∧ x.tx = []

theorem State.killLaunch_idle (h : (s.port p).Idle) (reason : Nat) : ((s.killLaunch l reason).port p).Idle := by
  rw [State.killLaunch]
  split
  · exact h
  · split
    · exact h
    · rw [State.beginKill_port (g := Port.Idle) (fun _ _ => rfl)]
      exact h
  · obtain ⟨keep, hkeep⟩ := s.endLaunch_port l 8 reason 0 p
    obtain ⟨htrained, htx⟩ := h
    rw [State.toPeers_port (g := Port.Idle) (fun _ _ => rfl), hkeep]
    exact ⟨htrained, by rw [htx]; rfl⟩

theorem State.killAll_idle (h : (s.port p).Idle) (ls : List Nat) (reason : Nat) : ((s.killAll ls reason).port p).Idle := by
  induction ls generalizing s with
  | nil => exact h
  | cons l ls ih => exact ih (State.killLaunch_idle h reason)

/-- A listed launch stands under its own number. -/
theorem State.launch_of_mem (h : s.keysOk) {x : Nat × Launch} (hx : x ∈ s.launches) : s.launch x.1 = x.2 :=
  Rising.alGet_of_mem h.2 hx

/-- The package whose port goes back to training, its launches not yet killed. -/
def State.retraining (s : State) (p : Nat) : State :=
  ((s.linkRecord 3 p 0 0 0).thawSlack p).modPort p fun x => { Port.zero with breach := x.breach }

theorem State.retraining_idle (s : State) (p : Nat) : ((s.retraining p).port p).Idle := by
  rw [State.retraining, State.port_modPort_same]
  exact ⟨rfl, rfl⟩

theorem State.retraining_launch {α : Type} {g : Launch → α} (hg : ∀ x cs, g { x with causes := cs } = g x) (s : State) (p j : Nat) :
    g ((s.retraining p).launch j) = g (s.launch j) := by
  rw [State.retraining, State.launch_modPort, State.thawSlack_launch hg, State.launch, State.linkRecord_launches]
  rfl

/-- The launches that hold a port. -/
def State.portHolders (s : State) (p : Nat) : List Nat :=
  (s.launches.filter fun x => (x.2.holds || x.2.phase == .saved) &&
    (match x.2.ftt with | some f => f.ports.contains p | none => false)).map Prod.fst

theorem execPortRetrain_due (h : s.retrainDue p = true) : exec (.portRetrain p) s = .next ((s.retraining p).killAll (s.portHolders p) 9) := by
  rw [exec_portRetrain, execPortRetrain, h, if_neg (by decide)]
  rfl

end

theorem portsRecover : Claims.PortsRecover := by
  intro s p
  refine ⟨fun hlate _ => ?_, ?_, fun hdue hkeys => ?_⟩
  · refine ⟨_, execFlitArrivalTimeout_late hlate, s.keepsAll_exhaust p, State.exhaust_exhausted (State.exhausted_of_lateFlit hlate),
      fun x hx hrun hftt => State.exhaust_causes (State.exhausted_of_lateFlit hlate) hx ⟨hrun, hftt⟩⟩
  · refine ⟨_, exec_portTrained .., State.keepsRegisters_of_cores (State.linkRecord_cores ..), ?_⟩
    rw [State.port, State.linkRecord_ports]
    change ((s.modPort p _).port p).trained = true ∧ ((s.modPort p _).port p).crcRetries = 0 ∧ ((s.modPort p _).port p).broken = _
    rw [State.port_modPort_same]
    exact ⟨rfl, rfl, rfl⟩
  · refine ⟨_, execPortRetrain_due hdue, ?_⟩
    obtain ⟨htrained, htx⟩ := State.killAll_idle (s.retraining_idle p) (s.portHolders p) 9
    refine ⟨htrained, htx, fun x hx hrun hkill ⟨f, hf, hport⟩ => ?_⟩
    have hheld : x.1 ∈ s.portHolders p := by
      refine List.mem_map.mpr ⟨x, List.mem_filter.mpr ⟨hx, ?_⟩, rfl⟩
      have hholds : x.2.holds = true := by rw [Launch.holds, hrun]; rfl
      rw [hholds, hf, Bool.true_or, Bool.true_and]
      exact hport
    have hsound : ((s.retraining p).launch x.1).KillSound := by
      have hlaunch := State.launch_of_mem hkeys hx
      refine ⟨?_, fun hne => absurd ?_ hne⟩
      · rw [State.retraining_launch (g := Launch.phase) (fun _ _ => rfl), hlaunch, hrun]
      · rw [State.retraining_launch (g := Launch.kill) (fun _ _ => rfl), hlaunch, hkill]
    obtain ⟨-, -, hcause⟩ := State.killAll_mem hsound hheld 9
    exact hcause

/-- Settles O51: a frame carries its launch frame's flits to their queues, and what a port loses freezes, or kills, the launches on it. -/
theorem fabricPorts : Obligations.FabricPorts := ⟨framesCross, portsRecover⟩

end Sys2Proof.Machine
end

section
/-! Parts of a launch in other packages, and global time (13_launch.md R320, 17_fabric.md R373, R374, R382 to R387). -/

namespace Sys2Proof.Machine

/-! Messages (R373, R374, R382). -/

section
variable {s : State} {corr l : Nat}

theorem execBarrierArrivalMessage_byCorr (h : s.byCorr corr = some l) (req schc : Nat) :
    exec (.barrierArrivalMessage corr req schc) s = .next (s.setLaunch l { s.launch l with arrs := (s.launch l).arrs ++ [(req, schc)] }) := by
  rw [exec_barrierArrivalMessage, execBarrierArrivalMessage, h]
  rfl

theorem execFreezeMessage_freeze (h : s.byCorr corr = some l) (hrun : (s.launch l).phase = .running) (slot stop code : Nat) :
    exec (.freezeMessage corr (.freeze slot stop code)) s = .next ((s.freeze l (.remote stop code)).modLaunch l fun x =>
      { x with lclk := if (s.launch l).causes == [] then slot else x.lclk }) := by
  simp only [exec_freezeMessage, execFreezeMessage, h]
  exact if_neg (not_not.mpr hrun)

end

theorem partMessagesArrive : Claims.PartMessagesArrive := by
  intro s corr l h
  refine ⟨execBarrierArrivalMessage_byCorr h, fun req schc => ⟨?_, ?_⟩, fun slot stop code hrun => ?_, fun g => ?_⟩
  · simp only [exec_freezeMessage, execFreezeMessage, h, exec_barrierArrivalMessage]
  · simp only [exec_freezeMessage, execFreezeMessage, h]
    rfl
  · refine ⟨_, execFreezeMessage_freeze h hrun slot stop code, (s.keepsAll_freeze ..).trans (State.keepsAll_of_cores rfl rfl), ?_, ?_⟩
    · rw [State.launch_modLaunch_same]
      exact (State.freeze_launch ..).trans (if_pos rfl)
    · rw [State.launch_modLaunch_same]
      dsimp only
      rw [State.freeze_launch_field (g := Launch.lclk) fun _ _ _ _ _ _ => rfl]
      simp only [beq_iff_eq]
  · simp only [exec_freezeMessage, execFreezeMessage, h]
    rfl

/-! Digests of another part (R320, R374). -/

section
variable {s : State} {corr l : Nat} {p : PartDigest}

theorem execSubmissionDigestExchange_byCorr (h : s.byCorr corr = some l) :
    exec (.submissionDigestExchange corr p) s = .next (s.takePart l p) := by
  rw [exec_submissionDigestExchange, execSubmissionDigestExchange, h]

/-- A launch is refused at admission. -/
theorem State.refuse_launch (s : State) (l reason : Nat) :
    ((s.refuse l reason).launch l).phase = .ended ∧ ((s.refuse l reason).launch l).status = 6 ∧
      ((s.refuse l reason).launch l).reason = reason := by
  rw [State.refuse]
  obtain ⟨cs, hcs⟩ := State.endLaunch_launch (s.modLaunch l fun x => { x with xcause := _ }) l 6 reason 0 l
  rw [hcs, if_pos rfl]
  exact ⟨rfl, rfl, rfl⟩

theorem State.needEval_cores (s : State) : s.needEval.cores = s.cores := by
  rw [State.needEval]
  split <;> rfl

theorem State.needEval_mem (s : State) : s.needEval.mem = s.mem := by
  rw [State.needEval]
  split <;> rfl

variable (hphase : (s.launch l).phase = .queued ∨ (s.launch l).phase = .admitted)
include hphase

theorem State.takePart_waiting : s.takePart l p = if s.partDiffers l p then s.refuse l 4 else if p.needsRetime then s.refuse l 6
    else (s.modLaunch l fun x => { x with parts := x.parts.filter (·.package ≠ p.package) ++ [p] }).needEval := by
  rw [State.takePart]
  refine if_neg ?_
  rintro ⟨hq, ha⟩
  exact hphase.elim hq ha

end

theorem digestsAreExchanged : Claims.DigestsAreExchanged := by
  intro s corr p
  refine ⟨fun l hcorr hphase => ⟨fun htable hdig => ⟨fun hretime => ?_, fun hretime => ?_⟩, fun hdiff => ?_⟩, fun hnone => ?_⟩
  · have hsame : s.partDiffers l p = false := by simp [State.partDiffers, htable, hdig]
    refine ⟨_, execSubmissionDigestExchange_byCorr hcorr, ?_⟩
    rw [State.takePart_waiting hphase, hsame, hretime, if_neg Bool.false_ne_true, if_neg Bool.false_ne_true]
    refine ⟨State.keepsAll_of_cores (State.needEval_cores _) (State.needEval_mem _), ?_, ?_, State.needEval_evalDue _⟩
    all_goals rw [State.launch, State.needEval_launches]
    all_goals rw [← State.launch, State.launch_modLaunch_same]
    exact List.mem_append_right _ (List.mem_singleton_self p)
  · have hsame : s.partDiffers l p = false := by simp [State.partDiffers, htable, hdig]
    refine ⟨_, execSubmissionDigestExchange_byCorr hcorr, ?_⟩
    rw [State.takePart_waiting hphase, hsame, hretime, if_neg Bool.false_ne_true, if_pos rfl]
    exact State.refuse_launch ..
  · have hdiffers : s.partDiffers l p = true := by simpa [State.partDiffers] using hdiff
    refine ⟨_, execSubmissionDigestExchange_byCorr hcorr, ?_⟩
    rw [State.takePart_waiting hphase, hdiffers, if_pos rfl]
    exact State.refuse_launch ..
  · rw [exec_submissionDigestExchange, execSubmissionDigestExchange, hnone]

/-! Global time (R383 to R385). -/

section
variable {s : State} {m : PtpMessage}

theorem execPtpEventMessage_best (hdom : m.domain = field s.host.ptpcfg 44 4) (hnone : s.host.master = none)
    (hbest : better (rankOf m) s.ownRank = true) :
    exec (.ptpEventMessage m) s = .next { s with host := { s.host with master := some m, gm := false, ofs := satOfs m.offset } } := by
  rw [exec_ptpEventMessage, execPtpEventMessage, if_neg (not_not.mpr hdom), hnone, hbest]
  rfl

theorem execPtpEventMessage_other (hdom : m.domain ≠ field s.host.ptpcfg 44 4) : exec (.ptpEventMessage m) s = .next s := if_pos hdom

end

/-! Link health (R386). -/

section
variable {s : State}

/-- A record changes nothing but memory, a lantern and the interrupts. -/
theorem State.recordAt_keeps {α : Type} {g : State → α} (hlantern : ∀ (s : State) t f, g (s.modLantern t f) = g s)
    (hplace : ∀ (s : State) t bs, g (s.place t bs) = g s) (s : State) (gt : Word) (t corr req info value : Nat) :
    g (s.recordAt gt t corr req info value) = g s := by
  rw [State.recordAt]
  split
  · rfl
  · split
    · exact hlantern ..
    · dsimp only
      split
      · exact hplace ..
      · split
        · exact (hlantern ..).trans ((hlantern ..).trans (hplace ..))
        · exact (hplace ..).trans ((hlantern ..).trans (hplace ..))

theorem State.place_sec (s : State) (t : Nat) (bs : List Byte) : (s.place t bs).host.sec = s.host.sec := by
  have hmem : ∀ flat, (s.landBytes flat bs [] false 0).host.sec = s.host.sec := fun flat =>
    congrArg HostIf.sec (s.onlyMemory_landBytes flat bs [] false 0).host
  rw [State.place]
  split <;> exact hmem _

theorem State.linkRecord_sec (s : State) (sub port lane low value : Nat) : (s.linkRecord sub port lane low value).host.sec = s.host.sec := by
  rw [State.linkRecord]
  split
  · exact State.recordAt_keeps (g := fun s => s.host.sec) (fun _ _ _ => rfl) State.place_sec ..
  · rfl

theorem State.linkRecord_gtime (s : State) (sub port lane low value : Nat) : (s.linkRecord sub port lane low value).gtime = s.gtime := by
  rw [State.linkRecord]
  split
  · rw [State.gtime, State.record_gtime9]
    rfl
  · rfl

theorem State.linkRecord_port (s : State) (sub port lane low value j : Nat) : (s.linkRecord sub port lane low value).port j = s.port j := by
  rw [State.port, State.linkRecord_ports]
  rfl

theorem State.linkRecord_off (h : s.kindOn 0 5 = false) (sub port lane low value : Nat) : s.linkRecord sub port lane low value = s := by
  rw [State.linkRecord, h]
  rfl

/-- The hour of GTIME, counted from 1. -/
def State.hour (s : State) : Nat := s.gtime.toNat / 65536 / (3600 * 10 ^ 9) + 1

theorem State.linkRecord_hour (s : State) (sub port lane low value : Nat) : (s.linkRecord sub port lane low value).hour = s.hour := by
  rw [State.hour, State.linkRecord_gtime]
  rfl

/-- What a lane's measurement leaves: its record, and where it is the hour's first breach, a second one. -/
def State.laneStep (s : State) (h : LaneHealth) : State :=
  let low := min h.eyeWidth 255 * 2 ^ 28 + min h.eyeHeight 255 * 2 ^ 20 + min h.corrected (2 ^ 20 - 1)
  let value := h.uncorrectable % 2 ^ 32 * 2 ^ 32 + (s.port h.port).crcRetries % 2 ^ 32
  let s := s.linkRecord 1 h.port h.lane low value
  if laneBad h && alGet 0 (s.port h.port).breach h.lane ≠ s.hour then
    (s.modPort h.port fun p => { p with breach := alSet p.breach h.lane s.hour }).linkRecord 2 h.port h.lane low value
  else s

theorem execLinkHealthTick_idle (lanes : List LaneHealth) (h : s.secDue = false) : exec (.linkHealthTick lanes) s = .next s := by
  rw [exec_linkHealthTick, execLinkHealthTick, h]
  rfl

theorem execLinkHealthTick_due (lanes : List LaneHealth) (h : s.secDue = true) : exec (.linkHealthTick lanes) s =
    .next (lanes.foldl State.laneStep { s with free := s.free + 1, host := { s.host with sec := s.secNow } }) := by
  rw [exec_linkHealthTick, execLinkHealthTick, h]
  rfl

/-- What records and the ports leave alone, a lane's measurement leaves alone. -/
theorem State.laneStep_keeps {α : Type} {g : State → α} (hrecord : ∀ (s : State) a b c d e, g (s.linkRecord a b c d e) = g s)
    (hport : ∀ (s : State) p f, g (s.modPort p f) = g s) (s : State) (h : LaneHealth) : g (s.laneStep h) = g s := by
  rw [State.laneStep]
  split
  · exact (hrecord ..).trans ((hport ..).trans (hrecord ..))
  · exact hrecord ..

theorem State.laneStep_hour (s : State) (h : LaneHealth) : (s.laneStep h).hour = s.hour :=
  State.laneStep_keeps (g := State.hour) State.linkRecord_hour (fun _ _ _ => rfl) s h

/-- The breach that stands for a lane is the old one or that of this hour; of a bad lane it is that of this hour. -/
theorem State.laneStep_breach (s : State) (h : LaneHealth) (p n : Nat) : alGet 0 ((s.laneStep h).port p).breach n =
    if p = h.port ∧ n = h.lane ∧ laneBad h then s.hour else alGet 0 (s.port p).breach n := by
  rw [State.laneStep]
  simp only [State.linkRecord_port, State.linkRecord_hour]
  split
  · next hfirst =>
    obtain ⟨hbad, -⟩ := Bool.and_eq_true_iff.mp hfirst
    rw [State.linkRecord_port, State.port_modPort, State.linkRecord_port]
    by_cases hp : p = h.port
    · subst p
      rw [if_pos rfl, alGet_alSet]
      simp [hbad]
    · rw [if_neg hp, State.linkRecord_port, if_neg fun h => hp h.1]
  · next hlater =>
    rw [State.linkRecord_port]
    split
    · next hsame =>
      obtain ⟨rfl, rfl, hbad⟩ := hsame
      simpa [hbad] using hlater
    · rfl

/-- Without records of their kind, measurements change no memory. -/
theorem State.laneSteps_mem (hoff : s.kindOn 0 5 = false) (lanes : List LaneHealth) : (lanes.foldl State.laneStep s).mem = s.mem := by
  have hstep : ∀ (t : State) (h : LaneHealth), t.kindOn 0 5 = false → (t.laneStep h).kindOn 0 5 = false ∧ (t.laneStep h).mem = t.mem := by
    intro t h ht
    rw [State.laneStep, State.linkRecord_off ht]
    split
    · rw [State.linkRecord_off (s := t.modPort ..) ht]
      exact ⟨ht, rfl⟩
    · exact ⟨ht, rfl⟩
  induction lanes generalizing s with
  | nil => rfl
  | cons h lanes ih =>
    obtain ⟨hoff', hmem⟩ := hstep s h hoff
    exact (ih hoff').trans hmem

/-- A breach of this hour stands through further measurements. -/
theorem State.laneSteps_hour {p n : Nat} (lanes : List LaneHealth) (h : alGet 0 (s.port p).breach n = s.hour) :
    alGet 0 ((lanes.foldl State.laneStep s).port p).breach n = s.hour := by
  induction lanes generalizing s with
  | nil => exact h
  | cons x lanes ih =>
    rw [List.foldl_cons, ← s.laneStep_hour x]
    refine ih ?_
    rw [State.laneStep_breach, s.laneStep_hour, h, ite_self]

/-- Every lane that breaches a threshold has its breach of this hour. -/
theorem State.laneSteps_breach {lanes : List LaneHealth} {h : LaneHealth} (hmem : h ∈ lanes) (hbad : laneBad h = true) :
    alGet 0 ((lanes.foldl State.laneStep s).port h.port).breach h.lane = s.hour := by
  induction lanes generalizing s with
  | nil => cases hmem
  | cons x lanes ih =>
    rw [List.foldl_cons, ← s.laneStep_hour x]
    rcases List.mem_cons.mp hmem with rfl | hmem
    · refine State.laneSteps_hour lanes ?_
      rw [State.laneStep_breach, if_pos ⟨rfl, rfl, hbad⟩, s.laneStep_hour]
    · exact ih hmem

end

theorem globalTimeIsKept : Claims.GlobalTimeIsKept := by
  intro s
  refine ⟨fun m hdom hnone hbest => execPtpEventMessage_best hdom hnone hbest, fun m hdom => execPtpEventMessage_other hdom,
    ⟨_, exec_syncInterval .., State.keepsAll_of_cores rfl rfl, rfl, ?_, ?_⟩, rfl, fun lanes hidle => execLinkHealthTick_idle lanes hidle,
    fun lanes hdue => ?_⟩
  · exact decide_eq_true_iff
  · intro hsettled
    show (if s.host.settled = true then s.gtime9 else _) = s.gtime9
    exact if_pos hsettled
  · refine ⟨_, execLinkHealthTick_due lanes hdue, State.keepsRegisters_of_cores ?_, ?_, fun hoff => ?_, fun h hmem hbad => ?_⟩
    · exact foldl_keeps _ State.cores (State.laneStep_keeps (g := State.cores) State.linkRecord_cores fun _ _ _ => rfl) lanes _
    · exact foldl_keeps _ (fun s => s.host.sec) (State.laneStep_keeps (g := fun s => s.host.sec) State.linkRecord_sec fun _ _ _ => rfl) lanes _
    · exact State.laneSteps_mem (s := { s with free := s.free + 1, host := { s.host with sec := s.secNow } }) hoff lanes
    · exact State.laneSteps_breach (s := { s with free := s.free + 1, host := { s.host with sec := s.secNow } }) hmem hbad

/-- Settles O52: each message and measurement changes its own fields; another part's digests are kept, or end the launch as refused. -/
theorem fabricParts : Obligations.FabricParts := ⟨partMessagesArrive, globalTimeIsKept, digestsAreExchanged⟩

end Sys2Proof.Machine
end
